-- ==== Sys2Proof/Word.lean ====
section
/-!
DEFINITION. The word types of the PZ5120 (00_scope.md, "Numbers, units and bits": bit 0 is the least significant
bit) and the plain types that name an operand of a command.
-/
namespace Sys2Proof

abbrev W8 := BitVec 8
abbrev W16 := BitVec 16
abbrev W32 := BitVec 32
abbrev W64 := BitVec 64

/-- A general register number of Chavrik, g0 to g31 (R79). -/
abbrev GReg := Fin 32
/-- A float register number of Chavrik, f0 to f15 (R79). -/
abbrev FReg := Fin 16

/-- A target of activations: triads T0 to T3 are 0 to 3, and core Cc as an independent core is 16 + c (R168). -/
abbrev Target := Fin 32

/-- The sixteen branch conditions' number (R98). -/
abbrev Cond := Fin 16

/-- The part of the machine that a REGISTER access comes from: a master of R169, or nobody in particular. -/
abbrev Master := Nat

/-- One of the two references XA and XB (03, References XA and XB). -/
inductive Ref where
  | xa
  | xb
  deriving DecidableEq, Repr

/-- The other reference. -/
def Ref.other : Ref → Ref
  | .xa => .xb
  | .xb => .xa

/-- One of the two logic feeds PA and PB (R30). -/
inductive Feed where
  | pa
  | pb
  deriving DecidableEq, Repr

/-- One event on a crossing between two islands (R61): an item launched, an item removed with its credit sent back, a credit
lost, a credit duplicated. -/
inductive CrossMove where
  | launch
  | remove
  | lost
  | doubled
  | repeated
  deriving DecidableEq, Repr

/-- What a read of one word finds (R74 to R76): nothing, a correctable error, an uncorrectable error, or an uncorrectable
error in one lane's copy of tightly coupled data. Of a corrected word it says whether two bits were wrong (MRAM), and in which
device, bank and row it lies (DRAM). -/
inductive Finding where
  | clean
  | corrected (double : Bool) (device : Fin 11) (bank : Fin 16) (row : Fin 16384)
  | uncorrectable
  | laneCopy (lane : Fin 3)
  deriving DecidableEq, Repr

/-- How the copies of a transaction compare (R188, R191): all agree; one lane differs from the two others in a kind of R206 (0
address, 1 data, 2 attributes, 3 exception); or no two agree. -/
inductive Vote where
  | agree
  | odd (lane : Fin 3) (kind : Fin 4)
  | split (kind : Fin 4)
  deriving DecidableEq, Repr

/-- What an access of a core meets in the hardware, `fm` of a command being that of its fetch, `m` or `ms` that of its other
accesses in their order: how the copies of its lanes compare, a copy of the voter that disagrees with
the two others (R191), lanes whose register state diverges from then on without another transaction that shows it (R189), what
the read finds (R75), and by how many cycles the response is late (R93). Usually nothing of these. -/
structure Meet where
  vote : Vote := .agree
  voter : Option (Fin 3) := none
  upset : BitVec 3 := 0
  read : Finding := .clean
  late : W8 := 0
  deriving DecidableEq, Repr

/-- What becomes of a proof test (R198, R458): it begins, it is passed, it is failed. -/
inductive TestPhase where
  | begins
  | passed
  | failed
  deriving DecidableEq, Repr

/-- Where the collector takes an event from (R349): the queue of a group, or the records that stations have sent. -/
inductive SoeSource where
  | group (g : Fin 32)
  | station
  deriving DecidableEq, Repr

/-- A PTP general message (R338): an announce with its data set (priority1, clockClass, the accuracy and variance, priority2,
identity of the grandmaster, stepsRemoved, the PTP timescale flag), a Follow_Up with the origin of its Sync, a Delay_Resp with
the port that asked and the receipt of its request, a Pdelay_Resp_Follow_Up with the port that asked and the time at which the
answer went out, management, signaling, or any other. Times are in nanoseconds, corrections included. -/
inductive PtpGeneral where
  | announce (prio1 cls : W8) (quality : BitVec 24) (prio2 : W8) (id : W64) (steps : W16) (ptpScale : Bool)
  | followUp (origin : W64)
  | delayResp (port : BitVec 80) (receipt : W64)
  | pdelayFollowUp (port : BitVec 80) (leaves : W64)
  | management
  | signaling
  | other
  deriving DecidableEq, Repr

/-- A PTP event message (R338): a Sync with its origin, of one step or of two, the requests, with the identity of the port
that asks, and a Pdelay_Resp with that identity, and the turnaround (one step) or the receipt of the request (two steps). -/
inductive PtpEvent where
  | sync (origin : W64) (twoStep : Bool)
  | delayReq (port : BitVec 80)
  | pdelayReq (port : BitVec 80)
  | pdelayResp (port : BitVec 80) (time : W64) (twoStep : Bool)
  deriving DecidableEq, Repr

/-- A PTP interval or receipt timer (R338). -/
inductive PtpTimer where
  | sync
  | announce
  | pdelay
  | announceReceipt
  deriving DecidableEq, Repr

/-- What a relay server answers (R422): one of the four fragments of a chunk, with the chunk's index and the CRC-32 of the
whole, or a refusal with its code. -/
inductive RelayReply where
  | fragment (frag : Fin 4) (index crc : W32) (data : List W8)
  | refused (code : W8)
  deriving DecidableEq, Repr

/-- An access through the debug register of the Tuyere port (R424): halt, run on, one step, or a register read. -/
inductive DebugOp where
  | halt
  | resume
  | step
  | readG (r : GReg)
  | readF (r : FReg)
  | readPc
  | readSt
  deriving DecidableEq, Repr

/-- The results of a verification that the module keeps (R226, R358): the response bound of each source of the
task table in nanoseconds, H in nanoseconds, and for each triad the swap window in µs, the cycles that its migration needs,
and MINLVL. -/
structure Verified where
  resp : List (Nat × Nat) := []
  hold : Nat := 0
  window : List (Nat × Nat) := []
  need : List (Nat × Nat) := []
  minlvl : List (Nat × Nat) := []
  handlers : List (Nat × Nat) := []
  deriving DecidableEq, Repr

/-- A configuration message of class 3 (R378): a mirrored register write, a mirrored store into a bank, or the partner's
report of the change that it holds READY, by its CHANGE_ID, or that it holds none. -/
inductive ConfigMsg where
  | reg (a v : W32)
  | mem (a : W32) (data : List W8)
  | changeReady (id : Option W32)
  deriving DecidableEq, Repr

/-- One item of a full copy (R376): a working-store line, bytes of a bank, a register, the banks in use, the change state
with its verification results, or the channels that the configuration declares critical (R23). -/
inductive CopyItem where
  | line (l : Fin 524288) (data : List W8)
  | mem (a : W32) (data : List W8)
  | reg (a v : W32)
  | banks (triads : BitVec 4) (lists : Bool)
  | change (id : W32) (v : Verified)
  | critical (channels : List (Fin 512))
  deriving DecidableEq, Repr

end Sys2Proof
end

