-- ==== Sys2Proof/Syntax.lean ====
section
/-!
DEFINITION. The commands the module takes from outside and from its own program text: one constructor per row of
spec/opcode_table.json, in the table's order, with the row's operands. A processor instruction names the core that
runs it (`x`); an event names what it brings.
-/
namespace Sys2Proof

/-- One command. -/
inductive Instr where
  /-- REGISTER_WRITE (R3). -/
  | registerWrite (a v : W32)
  /-- MAIN_VALID_ASSERT (R31). -/
  | mainValidAssert (pulses : BitVec 48)
  /-- MAIN_VALID_DEASSERT (R32). -/
  | mainValidDeassert (pulses : W32) (paMv pbMv : W16) (lost : Fin 256)
  /-- FEED_LOST (R31). -/
  | feedLost (f : Feed)
  /-- FEED_OVERVOLTAGE (R31). -/
  | feedOvervoltage (f : Feed)
  /-- THERMAL_WARNING (R25). -/
  | thermalWarning
  /-- CLAIM_RELEASED_BY_WIRE (R34). -/
  | claimReleasedByWire
  /-- PRESENCE_LOOP_OPEN (R37). -/
  | presenceLoopOpen
  /-- POSITION_SAMPLE (R36). -/
  | positionSample (pos : BitVec 2) (peer : Bool)
  /-- LEVER_SWITCH_OPEN (R52). -/
  | leverSwitchOpen (when : W64)
  /-- CONNECTOR_FEED_DIAGNOSTIC (R44). -/
  | connectorFeedDiagnostic (c : Fin 4) (feedB : Bool) (volts : W16)
  /-- CONNECTOR_FEED_LOW (R44). -/
  | connectorFeedLow (c : Fin 4)
  /-- GROUP_SHED (R45). -/
  | groupShed (g : Fin 32) (draw : W16)
  /-- CONNECTOR_OVER_BUDGET (R46). -/
  | connectorOverBudget (c : Fin 4) (draw : W16)
  /-- REFERENCE_LOST (R58). -/
  | referenceLost (r : Ref) (ppm : W16)
  /-- REFERENCE_GOOD (R57). -/
  | referenceGood (r : Ref) (ppm : W16)
  /-- BOTH_REFERENCES_LOST (R60). -/
  | bothReferencesLost
  /-- HOLDOVER_TIMEOUT (R60). -/
  | holdoverTimeout
  /-- TIME_BASE_FAULT (R455). -/
  | timeBaseFault
  /-- CLOCK_SELECT_WRITE (R59). -/
  | clockSelectWrite (hi : Bool) (v : W32)
  /-- CREDIT_RETURN (R63). -/
  | creditReturn (a b : Fin 48) (moves : List CrossMove) (o : Nat)
  /-- NULL_CREDIT_RETURN (R63). -/
  | nullCreditReturn (a b : Fin 48) (o : Nat)
  /-- ISLAND_POWER_LOSS (R66). -/
  | islandPowerLoss (j : Fin 48)
  /-- ISLAND_POWER_UP (R65). -/
  | islandPowerUp (j : Fin 48)
  /-- SCRUB_WORD (R74). -/
  | scrubWord (a : W32) (f : Finding)
  /-- DRAM_ROW_REPLACE (R76). -/
  | dramRowReplace (device : Fin 11) (bank : Fin 16) (row : Fin 16384)
  /-- DRAM_DEVICE_REPLACE (R76). -/
  | dramDeviceReplace (device : Fin 11)
  /-- MRAM_BANK_REPLACE (R76). -/
  | mramBankReplace (bank : Fin 64)
  /-- REPLACEMENT_COPY_DONE (R76). -/
  | replacementCopyDone (pool : Fin 9) (element : W32)
  /-- MODULE_RESET_REQUEST (R429). -/
  | moduleResetRequest (v : W32)
  /-- TRIAD_RESET_REQUEST (R203). -/
  | triadResetRequest (v : W32)
  /-- ADD (R99). -/
  | add (x : Target) (fm : Meet) (d f : Bool) (rd ra rb : GReg)
  /-- SUB (R99). -/
  | sub (x : Target) (fm : Meet) (d f : Bool) (rd ra rb : GReg)
  /-- AND (R99). -/
  | and (x : Target) (fm : Meet) (d f : Bool) (rd ra rb : GReg)
  /-- OR (R99). -/
  | or (x : Target) (fm : Meet) (d f : Bool) (rd ra rb : GReg)
  /-- XOR (R99). -/
  | xor (x : Target) (fm : Meet) (d f : Bool) (rd ra rb : GReg)
  /-- ANDN (R99). -/
  | andn (x : Target) (fm : Meet) (d f : Bool) (rd ra rb : GReg)
  /-- SLL (R99). -/
  | sll (x : Target) (fm : Meet) (d f : Bool) (rd ra rb : GReg)
  /-- SRL (R99). -/
  | srl (x : Target) (fm : Meet) (d f : Bool) (rd ra rb : GReg)
  /-- SRA (R99). -/
  | sra (x : Target) (fm : Meet) (d f : Bool) (rd ra rb : GReg)
  /-- ROR (R99). -/
  | ror (x : Target) (fm : Meet) (d f : Bool) (rd ra rb : GReg)
  /-- MIN (R99). -/
  | min (x : Target) (fm : Meet) (d f : Bool) (rd ra rb : GReg)
  /-- MAX (R99). -/
  | max (x : Target) (fm : Meet) (d f : Bool) (rd ra rb : GReg)
  /-- MINU (R99). -/
  | minu (x : Target) (fm : Meet) (d f : Bool) (rd ra rb : GReg)
  /-- MAXU (R99). -/
  | maxu (x : Target) (fm : Meet) (d f : Bool) (rd ra rb : GReg)
  /-- CMP (R99). -/
  | cmp (x : Target) (fm : Meet) (d : Bool) (ra rb : GReg)
  /-- MUL (R99). -/
  | mul (x : Target) (fm : Meet) (d f : Bool) (rd ra rb : GReg)
  /-- MULH (R99). -/
  | mulh (x : Target) (fm : Meet) (d f : Bool) (rd ra rb : GReg)
  /-- MULHU (R99). -/
  | mulhu (x : Target) (fm : Meet) (d f : Bool) (rd ra rb : GReg)
  /-- DIV (R100). -/
  | div (x : Target) (fm : Meet) (d f : Bool) (rd ra rb : GReg)
  /-- DIVU (R100). -/
  | divu (x : Target) (fm : Meet) (d f : Bool) (rd ra rb : GReg)
  /-- REM (R100). -/
  | rem (x : Target) (fm : Meet) (d f : Bool) (rd ra rb : GReg)
  /-- REMU (R100). -/
  | remu (x : Target) (fm : Meet) (d f : Bool) (rd ra rb : GReg)
  /-- SEL (R99). -/
  | sel (x : Target) (fm : Meet) (k : Cond) (d : Bool) (rd ra rb : GReg)
  /-- SET (R99). -/
  | set (x : Target) (fm : Meet) (k : Cond) (d : Bool) (rd ra : GReg)
  /-- CLZ (R99). -/
  | clz (x : Target) (fm : Meet) (d : Bool) (rd ra : GReg)
  /-- CTZ (R99). -/
  | ctz (x : Target) (fm : Meet) (d : Bool) (rd ra : GReg)
  /-- POPC (R99). -/
  | popc (x : Target) (fm : Meet) (d : Bool) (rd ra : GReg)
  /-- SEXTB (R99). -/
  | sextb (x : Target) (fm : Meet) (rd ra : GReg)
  /-- SEXTH (R99). -/
  | sexth (x : Target) (fm : Meet) (rd ra : GReg)
  /-- SEXTW (R99). -/
  | sextw (x : Target) (fm : Meet) (rd ra : GReg)
  /-- ZEXTB (R99). -/
  | zextb (x : Target) (fm : Meet) (rd ra : GReg)
  /-- ZEXTH (R99). -/
  | zexth (x : Target) (fm : Meet) (rd ra : GReg)
  /-- ZEXTW (R99). -/
  | zextw (x : Target) (fm : Meet) (rd ra : GReg)
  /-- ADDI (R96). -/
  | addi (x : Target) (fm : Meet) (rd ra : GReg) (imm : W16)
  /-- ADDIW (R96). -/
  | addiw (x : Target) (fm : Meet) (rd ra : GReg) (imm : W16)
  /-- ANDI (R96). -/
  | andi (x : Target) (fm : Meet) (rd ra : GReg) (imm : W16)
  /-- ORI (R96). -/
  | ori (x : Target) (fm : Meet) (rd ra : GReg) (imm : W16)
  /-- XORI (R96). -/
  | xori (x : Target) (fm : Meet) (rd ra : GReg) (imm : W16)
  /-- LUI (R96). -/
  | lui (x : Target) (fm : Meet) (rd : GReg) (imm : W16)
  /-- SHI (R97). -/
  | shi (x : Target) (fm : Meet) (kind : Fin 4) (d f : Bool) (rd ra : GReg) (k : BitVec 6)
  /-- CMPI (R97). -/
  | cmpi (x : Target) (fm : Meet) (d : Bool) (ra : GReg) (imm : W16)
  /-- LIMM_MOV (R101). -/
  | limmMov (x : Target) (fm : Meet) (rd : GReg) (imm : W32)
  /-- LIMM_ADD (R101). -/
  | limmAdd (x : Target) (fm : Meet) (d : Bool) (rd ra : GReg) (imm : W32)
  /-- LIMM_AND (R101). -/
  | limmAnd (x : Target) (fm : Meet) (d : Bool) (rd ra : GReg) (imm : W32)
  /-- LIMM_OR (R101). -/
  | limmOr (x : Target) (fm : Meet) (d : Bool) (rd ra : GReg) (imm : W32)
  /-- LIMM_XOR (R101). -/
  | limmXor (x : Target) (fm : Meet) (d : Bool) (rd ra : GReg) (imm : W32)
  /-- LIMM_MOVU (R101). -/
  | limmMovu (x : Target) (fm : Meet) (rd : GReg) (imm : W32)
  /-- LIMM_ORH (R101). -/
  | limmOrh (x : Target) (fm : Meet) (rd ra : GReg) (imm : W32)
  /-- LIMM_CMP (R101). -/
  | limmCmp (x : Target) (fm : Meet) (d : Bool) (ra : GReg) (imm : W32)
  /-- LD (R104). -/
  | ld (x : Target) (fm : Meet) (rd ra : GReg) (size : Fin 4) (z : Bool) (off : BitVec 13) (m : Meet)
  /-- ST (R103). -/
  | st (x : Target) (fm : Meet) (rs ra : GReg) (size : Fin 4) (off : BitVec 13) (m : Meet)
  /-- LDX (R104). -/
  | ldx (x : Target) (fm : Meet) (rd ra rb : GReg) (size : Fin 4) (z sc : Bool) (m : Meet)
  /-- STX (R104). -/
  | stx (x : Target) (fm : Meet) (rs ra rb : GReg) (size : Fin 4) (sc : Bool) (m : Meet)
  /-- FLD (R104). -/
  | fld (x : Target) (fm : Meet) (fd : FReg) (ra : GReg) (d : Bool) (off : BitVec 13) (m : Meet)
  /-- FST (R104). -/
  | fst (x : Target) (fm : Meet) (fs : FReg) (ra : GReg) (d : Bool) (off : BitVec 13) (m : Meet)
  /-- ILS_LOAD (R105). -/
  | ilsLoad (x : Target) (fm : Meet) (reg : GReg) (sb : Bool) (size : Fin 4) (z : Bool) (off : BitVec 15) (m : Meet)
  /-- ILS_STORE (R105). -/
  | ilsStore (x : Target) (fm : Meet) (reg : GReg) (sb : Bool) (size : Fin 4) (off : BitVec 15) (m : Meet)
  /-- ILS_FLOAD (R105). -/
  | ilsFload (x : Target) (fm : Meet) (reg : FReg) (sb d : Bool) (off : BitVec 15) (m : Meet)
  /-- ILS_FSTORE (R105). -/
  | ilsFstore (x : Target) (fm : Meet) (reg : FReg) (sb d : Bool) (off : BitVec 15) (m : Meet)
  /-- BC (R106). -/
  | bc (x : Target) (fm : Meet) (k : Cond) (disp : BitVec 22)
  /-- BL (R106). -/
  | bl (x : Target) (fm : Meet) (disp : BitVec 26)
  /-- JALR (R107). -/
  | jalr (x : Target) (fm : Meet) (rd ra : GReg) (imm : W16)
  /-- CB (R106). -/
  | cb (x : Target) (fm : Meet) (ra rb : GReg) (k : Cond) (disp : BitVec 12)
  /-- CBZ (R106). -/
  | cbz (x : Target) (fm : Meet) (ra : GReg) (nz : Bool) (disp : BitVec 20)
  /-- DBNZ (R107). -/
  | dbnz (x : Target) (fm : Meet) (ra : GReg) (disp : BitVec 21)
  /-- FADD (R109). -/
  | fadd (x : Target) (fm : Meet) (d : Bool) (rm : Fin 8) (fd fa fb : FReg)
  /-- FSUB (R109). -/
  | fsub (x : Target) (fm : Meet) (d : Bool) (rm : Fin 8) (fd fa fb : FReg)
  /-- FMUL (R109). -/
  | fmul (x : Target) (fm : Meet) (d : Bool) (rm : Fin 8) (fd fa fb : FReg)
  /-- FDIV (R109). -/
  | fdiv (x : Target) (fm : Meet) (d : Bool) (rm : Fin 8) (fd fa fb : FReg)
  /-- FSQRT (R109). -/
  | fsqrt (x : Target) (fm : Meet) (d : Bool) (rm : Fin 8) (fd fa : FReg)
  /-- FMIN (R109). -/
  | fmin (x : Target) (fm : Meet) (d : Bool) (fd fa fb : FReg)
  /-- FMAX (R109). -/
  | fmax (x : Target) (fm : Meet) (d : Bool) (fd fa fb : FReg)
  /-- FABS (R109). -/
  | fabs (x : Target) (fm : Meet) (d : Bool) (fd fa : FReg)
  /-- FNEG (R109). -/
  | fneg (x : Target) (fm : Meet) (d : Bool) (fd fa : FReg)
  /-- FMOV (R109). -/
  | fmov (x : Target) (fm : Meet) (d : Bool) (fd fa : FReg)
  /-- FCMP (R110). -/
  | fcmp (x : Target) (fm : Meet) (d : Bool) (fa fb : FReg)
  /-- FCMPS (R110). -/
  | fcmps (x : Target) (fm : Meet) (d : Bool) (fa fb : FReg)
  /-- FCVT (R109). -/
  | fcvt (x : Target) (fm : Meet) (d : Bool) (rm : Fin 8) (fd fa : FReg)
  /-- FMADD (R111). -/
  | fmadd (x : Target) (fm : Meet) (d : Bool) (rm : Fin 8) (fd fa fb fc : FReg)
  /-- FMSUB (R111). -/
  | fmsub (x : Target) (fm : Meet) (d : Bool) (rm : Fin 8) (fd fa fb fc : FReg)
  /-- FNMADD (R111). -/
  | fnmadd (x : Target) (fm : Meet) (d : Bool) (rm : Fin 8) (fd fa fb fc : FReg)
  /-- FNMSUB (R111). -/
  | fnmsub (x : Target) (fm : Meet) (d : Bool) (rm : Fin 8) (fd fa fb fc : FReg)
  /-- FCVI_TO_INT (R112). -/
  | fcviToInt (x : Target) (fm : Meet) (rd : GReg) (fa : FReg) (rm : Fin 8) (d w u : Bool)
  /-- FCVI_TO_FLOAT (R112). -/
  | fcviToFloat (x : Target) (fm : Meet) (fd : FReg) (ra : GReg) (rm : Fin 8) (d w u : Bool)
  /-- FMV_TO_GENERAL (R113). -/
  | fmvToGeneral (x : Target) (fm : Meet) (rd : GReg) (fa : FReg) (d : Bool)
  /-- FMV_TO_FLOAT (R113). -/
  | fmvToFloat (x : Target) (fm : Meet) (fd : FReg) (ra : GReg) (d : Bool)
  /-- FLI (R114). -/
  | fli (x : Target) (fm : Meet) (fd : FReg) (d : Bool) (imm : W32)
  /-- SYSCALL (R115). -/
  | syscall (x : Target) (fm : Meet) (code : W16)
  /-- BREAK (R115). -/
  | break (x : Target) (fm : Meet) (code : W16)
  /-- MFSR (R83). -/
  | mfsr (x : Target) (fm : Meet) (rd : GReg) (sr : Fin 32)
  /-- MTSR (R84). -/
  | mtsr (x : Target) (fm : Meet) (ra : GReg) (sr : Fin 32)
  /-- RFE (R164). -/
  | rfe (x : Target) (fm : Meet)
  /-- WAIT (R386). -/
  | wait (x : Target) (fm : Meet)
  /-- CACHE_CLEAN_LINE (R115). -/
  | cacheCleanLine (x : Target) (fm : Meet) (ra : GReg) (m : Meet)
  /-- CACHE_INVALIDATE_LINE (R115). -/
  | cacheInvalidateLine (x : Target) (fm : Meet) (ra : GReg)
  /-- CACHE_CLEAN_INVALIDATE_LINE (R115). -/
  | cacheCleanInvalidateLine (x : Target) (fm : Meet) (ra : GReg) (m : Meet)
  /-- CACHE_INVALIDATE_ICACHE (R115). -/
  | cacheInvalidateIcache (x : Target) (fm : Meet) (ra : GReg)
  /-- CACHE_CLEAN_DCACHE (R115). -/
  | cacheCleanDcache (x : Target) (fm : Meet) (ra : GReg) (m : Meet)
  /-- ILLEGAL_INSTRUCTION (R88). -/
  | illegalInstruction (x : Target) (fm : Meet) (w : W32)
  /-- FBCALL (R121). -/
  | fbcall (x : Target) (fm : Meet) (ra : GReg) (n : BitVec 12) (ms : List Meet)
  /-- FBRET (R123). -/
  | fbret (x : Target) (fm : Meet)
  /-- FBCHK (R123). -/
  | fbchk (x : Target) (fm : Meet) (ra : GReg) (n : BitVec 12) (ms : List Meet)
  /-- TON (R130). -/
  | ton (x : Target) (fm : Meet) (rd rin rpt : GReg) (index : BitVec 9) (ms : List Meet)
  /-- TOF (R130). -/
  | tof (x : Target) (fm : Meet) (rd rin rpt : GReg) (index : BitVec 9) (ms : List Meet)
  /-- TP (R130). -/
  | tp (x : Target) (fm : Meet) (rd rin rpt : GReg) (index : BitVec 9) (ms : List Meet)
  /-- TNOW (R126). -/
  | tnow (x : Target) (fm : Meet) (rd : GReg)
  /-- TELAP (R126). -/
  | telap (x : Target) (fm : Meet) (rd ra : GReg)
  /-- CTU (R132). -/
  | ctu (x : Target) (fm : Meet) (rd rin rpv : GReg) (index : BitVec 9) (ms : List Meet)
  /-- CTD (R132). -/
  | ctd (x : Target) (fm : Meet) (rd rin rpv : GReg) (index : BitVec 9) (ms : List Meet)
  /-- CTUD (R132). -/
  | ctud (x : Target) (fm : Meet) (rd rin rpv : GReg) (index : BitVec 9) (ms : List Meet)
  /-- EDGE_RISING (R133). -/
  | edgeRising (x : Target) (fm : Meet) (rd rin : GReg) (index : BitVec 14) (ms : List Meet)
  /-- EDGE_FALLING (R133). -/
  | edgeFalling (x : Target) (fm : Meet) (rd rin : GReg) (index : BitVec 14) (ms : List Meet)
  /-- EDGE_BOTH (R133). -/
  | edgeBoth (x : Target) (fm : Meet) (rd rin : GReg) (index : BitVec 14) (ms : List Meet)
  /-- BMOV_COPY_STEP (R137). -/
  | bmovCopyStep (x : Target) (fm : Meet) (l : Bool) (rd ra rb : GReg) (ms : List Meet)
  /-- BMOV_FILL_STEP (R137). -/
  | bmovFillStep (x : Target) (fm : Meet) (l : Bool) (rd ra rb : GReg) (m : Meet)
  /-- MIGR_OPERATION_STEP (R140). -/
  | migrOperationStep (x : Target) (fm : Meet) (rd ra rb : GReg) (ms : List Meet)
  /-- MIGR_HEADER_STEP (R140). -/
  | migrHeaderStep (x : Target) (fm : Meet) (rd ra rb : GReg) (ms : List Meet)
  /-- MIGR_END_STEP (R140). -/
  | migrEndStep (x : Target) (fm : Meet) (rd ra rb : GReg) (ms : List Meet)
  /-- AMO_SWAP (R141). -/
  | amoSwap (x : Target) (fm : Meet) (d : Bool) (rd ra rb : GReg) (m : Meet)
  /-- AMO_ADD (R141). -/
  | amoAdd (x : Target) (fm : Meet) (d : Bool) (rd ra rb : GReg) (m : Meet)
  /-- AMO_AND (R141). -/
  | amoAnd (x : Target) (fm : Meet) (d : Bool) (rd ra rb : GReg) (m : Meet)
  /-- AMO_OR (R141). -/
  | amoOr (x : Target) (fm : Meet) (d : Bool) (rd ra rb : GReg) (m : Meet)
  /-- AMO_XOR (R141). -/
  | amoXor (x : Target) (fm : Meet) (d : Bool) (rd ra rb : GReg) (m : Meet)
  /-- AMO_MIN (R141). -/
  | amoMin (x : Target) (fm : Meet) (d : Bool) (rd ra rb : GReg) (m : Meet)
  /-- AMO_MAX (R141). -/
  | amoMax (x : Target) (fm : Meet) (d : Bool) (rd ra rb : GReg) (m : Meet)
  /-- AMO_MINU (R141). -/
  | amoMinu (x : Target) (fm : Meet) (d : Bool) (rd ra rb : GReg) (m : Meet)
  /-- AMO_MAXU (R141). -/
  | amoMaxu (x : Target) (fm : Meet) (d : Bool) (rd ra rb : GReg) (m : Meet)
  /-- AMO_CAS (R141). -/
  | amoCas (x : Target) (fm : Meet) (d : Bool) (rd ra rb : GReg) (m : Meet)
  /-- ACTIVATION_ENTRY (R156). -/
  | activationEntry (x : Target)
  /-- SWTRIG (R168). -/
  | swtrig (v : W32)
  /-- SOURCE_CONFIG_WRITE (R168). -/
  | sourceConfigWrite (n : Fin 256) (v : W32)
  /-- GUARD_DISABLE (R175). -/
  | guardDisable (m : Fin 48) (inFlight : Bool)
  /-- GUARD_DRAIN_DONE (R175). -/
  | guardDrainDone (m : Fin 48)
  /-- GUARD_ENABLE (R175). -/
  | guardEnable (m : Fin 48)
  /-- GUARD_REGION_WRITE (R175). -/
  | guardRegionWrite (m : Fin 48) (n : Fin 16) (attr : Bool) (v : W32)
  /-- GUARD_SELF_TEST (R174). -/
  | guardSelfTest (m : Fin 48) (lane : Fin 3) (pass : Bool)
  /-- DMA_START (R180). -/
  | dmaStart (c : Fin 16)
  /-- DMA_RESUME (R182). -/
  | dmaResume (c : Fin 16)
  /-- DMA_ABORT (R182). -/
  | dmaAbort (c : Fin 16)
  /-- DMA_DESCRIPTOR_READ (R179). -/
  | dmaDescriptorRead (c : Fin 16) (f : Finding)
  /-- DMA_BURST (R181). -/
  | dmaBurst (c : Fin 16) (read : Finding)
  /-- DMA_DESC_WRITE (R183). -/
  | dmaDescWrite (c : Fin 16) (v : W32)
  /-- VOTER_TIMEOUT (R190). -/
  | voterTimeout (t : Fin 4) (lane : Fin 3) (icnt : W16)
  /-- RESYNC_SPARE_CONNECTED (R192). -/
  | resyncSpareConnected (t : Fin 4)
  /-- RESYNC_COPY_DONE (R194). -/
  | resyncCopyDone (t : Fin 4) (same : Bool)
  /-- RESYNC_REJOIN (R192). -/
  | resyncRejoin (t : Fin 4) (when : W64)
  /-- SPARE_WAKE_DONE (R198). -/
  | spareWakeDone (slot : Fin 4)
  /-- TRI_SPLIT (R200). -/
  | triSplit (t : Fin 4)
  /-- SPLIT_EFFECT (R201). -/
  | splitEffect (t : Fin 4)
  /-- TRI_JOIN (R202). -/
  | triJoin (t : Fin 4)
  /-- JOIN_DONE (R202). -/
  | joinDone (t : Fin 4) (when : W64) (same1 same2 : Bool)
  /-- TRI_RESYNC (R192). -/
  | triResync (t lane : Fin 4)
  /-- TRI_RETIRE (R196). -/
  | triRetire (t lane : Fin 4)
  /-- START_INDEP (R199). -/
  | startIndep (w slot : Fin 4)
  /-- STOP_INDEP (R199). -/
  | stopIndep (w slot : Fin 4)
  /-- STOP_INDEP_EFFECT (R199). -/
  | stopIndepEffect (slot : Fin 4)
  /-- CACHE_PARTITION_WRITE (R206). -/
  | cachePartitionWrite (t : Fin 4) (dcp : Bool) (v : W32)
  /-- PARTITION_FILLED (R206). -/
  | partitionFilled (t : Fin 4) (dcp : Bool)
  /-- OUTPUT_PHASE (R209). -/
  | outputPhase (t : W64)
  /-- GRID_LATCH (R209). -/
  | gridLatch (t : W64)
  /-- LINE_TICK_FIRE (R208). -/
  | lineTickFire (t : W64)
  /-- SCAN_OVERRUN (R213). -/
  | scanOverrun (line : Fin 12) (t : W64)
  /-- FORCE_APPLY (R220). -/
  | forceApply (node : W16)
  /-- FORCE_RELEASE (R220). -/
  | forceRelease (node : W16)
  /-- FORCE_RELEASE_ALL (R220). -/
  | forceReleaseAll (node : W16)
  /-- FORCE_CMD_MALFORMED (R220). -/
  | forceCmdMalformed (v : W32)
  /-- FORCE_COMMAND_EXECUTE (R220). -/
  | forceCommandExecute (t : W64)
  /-- CHANGE_VERIFY (R226). -/
  | changeVerify
  /-- VERIFICATION_DONE (R226). -/
  | verificationDone
  /-- CHANGE_ARM (R227). -/
  | changeArm (when : W64)
  /-- CHANGE_CANCEL (R233). -/
  | changeCancel
  /-- MIGRATION_START (R228). -/
  | migrationStart (t : Fin 4)
  /-- MIGRATION_DEADLINE (R230). -/
  | migrationDeadline
  /-- CHANGE_SWAP (R231). -/
  | changeSwap
  /-- CHANGE_ARMING_RECEIVED (R227). -/
  | changeArmingReceived (id : W32) (ts : W64)
  /-- SLICE_READY (R239). -/
  | sliceReady (g : Fin 32) (j : Fin 17) (raw : Bool)
  /-- SLICE_CONFIG_WRITE (R241). -/
  | sliceConfigWrite (g : Fin 32) (j : Fin 17) (off : Fin 1024) (v : W32)
  /-- SLICE_CONFIG_CONFIRM (R241). -/
  | sliceConfigConfirm (g : Fin 32) (j : Fin 17)
  /-- DEBOUNCE_ACCEPT (R246). -/
  | debounceAccept (g : Fin 32) (j : Fin 17)
  /-- LINE_BAND_MEASURE (R244). -/
  | lineBandMeasure (g : Fin 32) (j : Fin 17) (ohms : W32) (when : W64)
  /-- LINE_BAND_REPORT (R244). -/
  | lineBandReport (g : Fin 32) (j : Fin 17) (when : W64)
  /-- OVERLOAD_TRIP (R251). -/
  | overloadTrip (g : Fin 32) (j : Fin 17) (when : W64)
  /-- THERMAL_SHUTDOWN (R251). -/
  | thermalShutdown (g : Fin 32) (j : Fin 17) (when : W64)
  /-- RETRY_ATTEMPT (R252). -/
  | retryAttempt (g : Fin 32) (j : Fin 17) (tick : W64)
  /-- RETRY_REARM (R252). -/
  | retryRearm (g : Fin 32) (j : Fin 17)
  /-- DIRECT_COMMAND (R253). -/
  | directCommand (g : Fin 32) (j : Fin 17) (ao : Bool) (v : W32)
  /-- FAULT_DETECT (R254). -/
  | faultDetect (g : Fin 32) (j : Fin 17) (b : Fin 32) (when : W64)
  /-- FAULT_CLEAR (R254). -/
  | faultClear (g : Fin 32) (j : Fin 17) (b : Fin 32) (when : W64)
  /-- BACKFEED (R255). -/
  | backfeed (g : Fin 32) (j : Fin 17)
  /-- STIM (R256). -/
  | stim (g : Fin 32) (j : Fin 17)
  /-- STIMULUS_END (R256). -/
  | stimulusEnd (g : Fin 32) (j : Fin 17) (pass : Bool)
  /-- SLICE_FAILURE (R259). -/
  | sliceFailure (g : Fin 32) (j : Fin 17)
  /-- SUBSTITUTION_COMPLETE (R260). -/
  | substitutionComplete (g : Fin 32)
  /-- SUBST (R261). -/
  | subst (g : Fin 32) (j : Fin 17)
  /-- SUBSTITUTION_OVERLAP_END (R261). -/
  | substitutionOverlapEnd (g : Fin 32)
  /-- SRESET (R264). -/
  | sreset (g : Fin 32) (j : Fin 17)
  /-- SPARE_SLICE_TEST (R262). -/
  | spareSliceTest (g : Fin 32) (phase : TestPhase)
  /-- EVT_INFO_READ (R265). -/
  | evtInfoRead (g : Fin 32)
  /-- EDGE_LO_READ (R264). -/
  | edgeLoRead (g : Fin 32) (j : Fin 17)
  /-- CONVERSION_DONE (R267). -/
  | conversionDone (g : Fin 32) (j : Fin 17) (value : W32)
  /-- REFERENCE_MONITOR_FAILURE (R268). -/
  | referenceMonitorFailure (g : Fin 32) (j : Fin 17)
  /-- GRID_RUN_START (R270). -/
  | gridRunStart (g : Fin 32) (j : Fin 17) (when : W64)
  /-- FAULT_RUN_START (R270). -/
  | faultRunStart (g : Fin 32) (j : Fin 17)
  /-- INJ_SW (R270). -/
  | injSw (g : Fin 32) (j : Fin 17)
  /-- RE_PHASE (R274). -/
  | rePhase (g : Fin 32)
  /-- ANALOG_STIMULUS (R283). -/
  | analogStimulus (g : Fin 32) (j : Fin 17) (raw : W32)
  /-- COMPLY_SET (R286). -/
  | complySet (g : Fin 32) (j : Fin 17) (measured : W32)
  /-- DEV_SET (R285). -/
  | devSet (g : Fin 32) (j : Fin 17)
  /-- AO_TRIM_APPLY (R289). -/
  | aoTrimApply (g : Fin 32) (j : Fin 17)
  /-- AO_TRIM_CLEAR (R289). -/
  | aoTrimClear (g : Fin 32) (j : Fin 17)
  /-- COUNTER_EDGE (R290). -/
  | counterEdge (g : Fin 32) (j : Fin 17) (stamp : W64) (rising : Bool) (n : W16)
  /-- HART_START (R295). -/
  | hartStart (g : Fin 32) (m : Fin 4)
  /-- HART_ABORT (R297). -/
  | hartAbort (g : Fin 32) (m : Fin 4)
  /-- HART_DONE (R295). -/
  | hartDone (g : Fin 32) (m : Fin 4) (err : Fin 3) (bytes : List W8) (retried : Fin 4) (burst : W8)
  /-- PORT_ON (R300). -/
  | portOn (k : Fin 8)
  /-- PORT_OFF (R302). -/
  | portOff (k : Fin 8)
  /-- INTEGRATION_DONE (R302). -/
  | integrationDone (k : Fin 8)
  /-- CAN_FRAME_RECEIVED (R306). -/
  | canFrameReceived (k : Fin 8) (id : Fin 2048) (form : Fin 3) (data : List W8) (stamp : W64)
  /-- CAN_FRAME_TRANSMITTED (R303). -/
  | canFrameTransmitted (k : Fin 8) (result : Fin 4) (delay : BitVec 7) (stamp : W64)
  /-- RECOVER (R304). -/
  | recover (k : Fin 8)
  /-- RECOVERY_DONE (R302). -/
  | recoveryDone (k : Fin 8)
  /-- DOMINANT_TIMEOUT (R299). -/
  | dominantTimeout (k : Fin 8)
  /-- REFERENCE_RELEASE (R308). -/
  | referenceRelease (k : Fin 9) (t : W64)
  /-- STATION_LOST (R318). -/
  | stationLost (n : Fin 4608) (t : W64)
  /-- STATION_RETURN (R319). -/
  | stationReturn (n : Fin 4608) (t : W64)
  /-- FRAME_DEADLINE_WITHDRAW (R313). -/
  | frameDeadlineWithdraw (k : Fin 9) (when : W64)
  /-- ACYCLIC_START (R321). -/
  | acyclicStart (k : Fin 8)
  /-- ACYCLIC_ABORT (R321). -/
  | acyclicAbort (k : Fin 8)
  /-- ACYCLIC_RESPONSE (R321). -/
  | acyclicResponse (k : Fin 8) (data : List W8)
  /-- ACYCLIC_TIMEOUT (R321). -/
  | acyclicTimeout (k : Fin 8) (when : W64)
  /-- QUEUE_EMPTY_REPORT (R324). -/
  | queueEmptyReport (k : Fin 8)
  /-- REF_LO_READ (R327). -/
  | refLoRead (k : Fin 8)
  /-- ANNOUNCE_SEND (R329). -/
  | announceSend
  /-- ANNOUNCE_RECEIVED (R329). -/
  | announceReceived (node : W16) (serial : BitVec 128)
  /-- RINFA_FRAME_RECEIVED (R330). -/
  | rinfaFrameReceived (p : Fin 4) (fcs : Bool) (frame : List W8) (when : W64)
  /-- RING_OPEN (R331). -/
  | ringOpen (when : W64)
  /-- PORT_LINK_CHANGE (R351). -/
  | portLinkChange (p : Fin 4) (up : Bool) (media : Fin 4)
  /-- SYNC_RECEIVED (R339). -/
  | syncReceived (p : Fin 4) (udp : Bool) (domain : W8) (m : PtpEvent) (when : W64)
  /-- SYNC_TIMEOUT (R339). -/
  | syncTimeout
  /-- INC_WRITE (R341). -/
  | incWrite (v : W32)
  /-- NS_WRAP (R341). -/
  | nsWrap
  /-- EPOCH_ADV (R341). -/
  | epochAdv
  /-- EPOCH_LATE (R343). -/
  | epochLate
  /-- TIME_SET (R344). -/
  | timeSet
  /-- TIME_STEP (R345). -/
  | timeStep
  /-- STEP_APPLY (R345). -/
  | stepApply (when : W64)
  /-- STEP_CANCEL (R345). -/
  | stepCancel
  /-- NS_READ (R342). -/
  | nsRead
  /-- NOW_LO_READ (R342). -/
  | nowLoRead
  /-- ALARM_ARM (R347). -/
  | alarmArm (a : Fin 3) (v : W32)
  /-- ALARM_FIRE (R347). -/
  | alarmFire (a : Fin 3) (when : W64)
  /-- SOE_COLLECT (R349). -/
  | soeCollect (src : SoeSource)
  /-- NET_FRAME_WRITE (R351). -/
  | netFrameWrite (v : W32)
  /-- LANE_LOCK_LOST (R353). -/
  | laneLockLost (lane : Fin 3)
  /-- LINK_LOST (R353). -/
  | linkLost
  /-- LINK_UP (R353). -/
  | linkUp (lanes : BitVec 3)
  /-- FRAME_ACK_TIMEOUT (R354). -/
  | frameAckTimeout (seq : W32) (when : W64)
  /-- LANE_RETRAIN (R354). -/
  | laneRetrain (lane : Fin 3) (ok : Bool)
  /-- HEARTBEAT_SEND (R356). -/
  | heartbeatSend (when : W64)
  /-- HEARTBEAT_RECEIVED (R356). -/
  | heartbeatReceived (role : Fin 5) (claim ready recovering trial : Bool) (fmt acc : W8) (merit : W64) (serial : BitVec 128) (ofs : W32) (when : W64)
  /-- PARTNER_SILENT (R370). -/
  | partnerSilent
  /-- RELEASE_ORDER_RECEIVED (R370). -/
  | releaseOrderReceived
  /-- RELEASE_FAIL (R370). -/
  | releaseFail
  /-- EPOCH_SEAL (R359). -/
  | epochSeal (b : W64)
  /-- SEAL_RECORD_RECEIVED (R361). -/
  | sealRecordReceived (epoch ends : W64) (lines : W32) (check : W64) (force : W32) (swap final : Bool) (change : W32)
  /-- COMMIT_ACK_RECEIVED (R362). -/
  | commitAckReceived (epoch when : W64)
  /-- SHADOW_RECORD_RECEIVED (R364). -/
  | shadowRecordReceived (t : W64) (commands : List (Fin 512 × W32))
  /-- SHADOW_LATE (R364). -/
  | shadowLate (t : W64)
  /-- COL_RELEASE_SEEN (R367). -/
  | colReleaseSeen (levels : BitVec 512) (when : W64)
  /-- CLAIM_CONFLICT (R366). -/
  | claimConflict
  /-- RESIGN (R368). -/
  | resign (fault : Bool)
  /-- TAKEOVER_RUNNING (R369). -/
  | takeoverRunning (when : W64)
  /-- YIELD (R373). -/
  | yield (when : W64)
  /-- YIELD_CANCEL (R380). -/
  | yieldCancel
  /-- YIELD_HOLD (R374). -/
  | yieldHold
  /-- YIELD_ABANDON (R374). -/
  | yieldAbandon (when : W64)
  /-- YIELD_HANDOVER (R375). -/
  | yieldHandover (levels : BitVec 512)
  /-- YIELD_OVERLAP_END (R375). -/
  | yieldOverlapEnd (when : W64)
  /-- FULL_COPY_START (R377). -/
  | fullCopyStart (b : W64)
  /-- CONFIG_MESSAGE_RECEIVED (R378). -/
  | configMessageReceived (m : ConfigMsg)
  /-- PL_WRITE (R382). -/
  | plWrite (j : Fin 8) (w : W32)
  /-- LEVEL_CHANGE_DONE (R383). -/
  | levelChangeDone (j : Fin 8)
  /-- SLEEP_PREPARE_DONE (R389). -/
  | sleepPrepareDone (j : Fin 9) (block : Fin 49) (cause : Fin 9)
  /-- SLEEP_COMMIT_DONE (R389). -/
  | sleepCommitDone (j : Fin 9) (block : Fin 49) (cause : Fin 9)
  /-- WAKE_SOURCE (R390). -/
  | wakeSource (j : Fin 9) (src : Fin 10)
  /-- WAKE_DONE (R387). -/
  | wakeDone (j : Fin 9)
  /-- BROWNOUT_ARBITRATION (R395). -/
  | brownoutArbitration (mainFirst : Bool)
  /-- BRESET (R396). -/
  | breset
  /-- RTC_SET (R397). -/
  | rtcSet
  /-- STORE (R401). -/
  | store
  /-- UNSTORE (R401). -/
  | unstore
  /-- RTC_WINDOW (R397). -/
  | rtcWindow (meas : W16) (when : W64)
  /-- COUNTER_SAVE (R396). -/
  | counterSave (pulses : W32)
  /-- PULLUP_LOST (R401). -/
  | pullupLost
  /-- PULLUP_RETURN (R401). -/
  | pullupReturn
  /-- RESTART_DELAY_EXPIRE (R401). -/
  | restartDelayExpire
  /-- CELL_LOW (R393). -/
  | cellLow (hours mv : W16) (failed : Bool)
  /-- RTC_SUB_READ (R403). -/
  | rtcSubRead (pulses : W32)
  /-- OPSEC_LO_READ (R403). -/
  | opsecLoRead (pulses : W32)
  /-- QUOTE (R411). -/
  | quote
  /-- CHUNK (R416). -/
  | chunk
  /-- FINISH (R417). -/
  | finish
  /-- INSTALL (R418). -/
  | install
  /-- DISCARD (R416). -/
  | discard
  /-- RELAY (R422). -/
  | relay
  /-- TOKEN (R408). -/
  | token
  /-- EXTEND (R410). -/
  | extend
  /-- CERT (R409). -/
  | cert
  /-- SEAL (R426). -/
  | seal (when : W64)
  /-- TRU_CMD_INVALID (R427). -/
  | truCmdInvalid (op : Fin 16)
  /-- TRUST_OPERATION_DONE (R404). -/
  | trustOperationDone (err : Option (BitVec 24))
  /-- RELAY_REQUEST_RECEIVED (R422). -/
  | relayRequestReceived (via : Option (Fin 4)) (kind : Fin 256) (serial : BitVec 128) (node : W16) (bad : Option (Fin 6 × BitVec 24))
  /-- RELAY_CHUNK_RECEIVED (R422). -/
  | relayChunkReceived (via : Option (Fin 4)) (node : W16) (reply : RelayReply)
  /-- HEALTH_CONFIRM (R419). -/
  | healthConfirm (v : W32)
  /-- TRIAL_WINDOW_EXPIRE (R420). -/
  | trialWindowExpire
  /-- CHAL_LO_READ (R427). -/
  | chalLoRead
  /-- TUYERE_INSTRUCTION (R425). -/
  | tuyereInstruction (code : W8)
  /-- TUYERE_MEMORY_ACCESS (R424). -/
  | tuyereMemoryAccess (a : W32) (data : Option W32)
  /-- SELF_TESTS_DONE (R433). -/
  | selfTestsDone (findings : BitVec 7) (cores : BitVec 16) (copies : BitVec 12)
  /-- KEEPER_START (R419). -/
  | keeperStart (bad : Option (Fin 6 × BitVec 24))
  /-- SYSTEM_IMAGE_START (R432). -/
  | systemImageStart (bad : Option (Fin 6 × BitVec 24))
  /-- RECOVERY_RETRY (R435). -/
  | recoveryRetry
  /-- TIME_ESTABLISH (R437). -/
  | timeEstablish (ptp : W64)
  /-- LISTENING_END (R439). -/
  | listeningEnd (peerRun peerChange : Bool)
  /-- ROLE_DECISION (R440). -/
  | roleDecision (peerRun peerChange : Bool)
  /-- START_WAIT_EXPIRE (R440). -/
  | startWaitExpire
  /-- CLAIM_PROBE_END (R441). -/
  | claimProbeEnd (seen loopFault : Bool) (image : List (W32 × List W8)) (crit : List (Fin 512)) (desc : W32) (levels : BitVec 512)
  /-- PROBE_BACKOFF_EXPIRE (R441). -/
  | probeBackoffExpire (peerRun peerChange : Bool)
  /-- START_REQUEST (R444). -/
  | startRequest (p : Fin 4)
  /-- RETAIN_COPY (R443). -/
  | retainCopy (lines : List (Fin 524288)) (starts ends : W64)
  /-- RECORD_WRITE (R449). -/
  | recordWrite
  /-- DROP_RECORD (R449). -/
  | dropRecord
  /-- PLACEHOLDER_FILL (R451). -/
  | placeholderFill
  /-- SW_WRITE (R449). -/
  | swWrite
  /-- CURSOR_LOAD (R453). -/
  | cursorLoad (c : Fin 2) (v : W32)
  /-- FIND (R453). -/
  | find (c : Fin 2) (byOpsec : Bool)
  /-- WINDOW_WORD15_READ (R453). -/
  | windowWord15Read (c : Fin 2)
  /-- NEXT_LO_READ (R464). -/
  | nextLoRead (low : Bool)
  /-- PROOF_TEST_RUN (R458). -/
  | proofTestRun (test : Fin 9) (elem : W16) (phase : TestPhase)
  /-- PT_EN_CLEAR (R459). -/
  | ptEnClear (v : W32)
  /-- PHASE_CURRENT_FAULT (R456). -/
  | phaseCurrentFault (phase : Fin 10)
  /-- LEDGER_REBUILD (R462). -/
  | ledgerRebuild (lostA lostB : Bool)
  /-- SPARES_FORECAST (R463). -/
  | sparesForecast
  /-- TICK_LO_READ (R235). -/
  | tickLoRead
  /-- SEALED_LO_READ (R379). -/
  | sealedLoRead (commit : Bool)
  /-- YTS_LO_READ (R380). -/
  | ytsLoRead
  /-- DIGITAL_INPUT_EDGE (R246). -/
  | digitalInputEdge (g : Fin 32) (j : Fin 17) (stamp : W64) (raw : Bool)
  /-- LEVER_SWITCH_CLOSE (R52). -/
  | leverSwitchClose
  /-- EPOCH_HOLD_BEGIN (R358). -/
  | epochHoldBegin (b : W64)
  /-- COPY_PASS_DONE (R377). -/
  | copyPassDone (epoch : W64) (kib : W16)
  /-- LINE_RECORD_RECEIVED (R361). -/
  | lineRecordReceived (line : BitVec 19) (epochLow : W32) (data : List W8)
  /-- COPY_DATA_RECEIVED (R377). -/
  | copyDataReceived (items : List CopyItem) (kib : W16)
  /-- YIELD_MESSAGE_RECEIVED (R373). -/
  | yieldMessageReceived (ty ts : W64)
  /-- CAN_ERROR_DETECTED (R302). -/
  | canErrorDetected (k : Fin 8) (big : Bool)
  /-- LOGIC_FEED_RETURN (R31). -/
  | logicFeedReturn (f : Feed)
  /-- FIELD_FEED_RETURN (R44). -/
  | fieldFeedReturn (c : Fin 4) (what : Fin 3) (volts : W16)
  /-- STORE_RELEASE_DONE (R401). -/
  | storeReleaseDone
  /-- CELL_EXHAUSTED (R395). -/
  | cellExhausted
  /-- BACKUP_LOCKOUT_END (R394). -/
  | backupLockoutEnd
  /-- FLOOR_FUSE_BLOWN (R415). -/
  | floorFuseBlown (j : Fin 3)
  /-- DRAM_ZERO_DONE (R428). -/
  | dramZeroDone
  /-- STARTER_TIMEOUT (R440). -/
  | starterTimeout
  /-- PTP_WAIT_EXPIRE (R437). -/
  | ptpWaitExpire
  /-- SLEEP_PREPARE_TIMEOUT (R389). -/
  | sleepPrepareTimeout (j : Fin 9) (block : Fin 49)
  /-- RESYNC_HOLDOFF_END (R193). -/
  | resyncHoldoffEnd (t : Fin 4)
  /-- LEVEL_CHANGE_HOLDOFF_END (R383). -/
  | levelChangeHoldoffEnd (j : Fin 8)
  /-- TUYERE_TEST_RESET (R424). -/
  | tuyereTestReset
  /-- TUYERE_DEBUG_ACCESS (R424). -/
  | tuyereDebugAccess (c : Fin 16) (op : DebugOp)
  /-- PTP_GENERAL_MESSAGE_RECEIVED (R338). -/
  | ptpGeneralMessageReceived (p : Fin 4) (udp : Bool) (domain : W8) (m : PtpGeneral)
  /-- PTP_INTERVAL_TIMER (R338). -/
  | ptpIntervalTimer (p : Fin 4) (t : PtpTimer) (when : W64)
  deriving DecidableEq, Repr

end Sys2Proof
end

