-- ==== Sys2Proof/Decode.lean ====
section
/-!
DEFINITION. The commands of this block have no encoding: spec/opcode_table.json gives no row any bits, so no word spells a
command. (The processors' instruction words are checked by the meanings of the processor rows themselves, against what
stands at the program counter: Machine/Words.lean, Machine/Cores.lean.)
-/
namespace Sys2Proof

/-- The command that a word spells by the table's bits: none, for the table gives none. -/
def decodeTableWord (_nbits _w : Nat) : Option Instr := none

end Sys2Proof
end

