-- ==== Sys2Proof/Machine/Bits.lean ====
section
/-!
DEFINITION. Fields of words and the byte order of R1: least significant byte first at the lowest address. -/
namespace Sys2Proof.Machine

/-- Bits lo+n-1 to lo of a word, as a number. -/
def getF {w : Nat} (x : BitVec w) (lo n : Nat) : Nat := x.toNat / 2 ^ lo % 2 ^ n

/-- The word with bits lo+n-1 to lo replaced by the low n bits of `v`. -/
def setF {w : Nat} (x : BitVec w) (lo n v : Nat) : BitVec w :=
  BitVec.ofNat w (x.toNat % 2 ^ lo + v % 2 ^ n * 2 ^ lo + x.toNat / 2 ^ (lo + n) * 2 ^ (lo + n))

/-- Bit i of a word. -/
def bit {w : Nat} (x : BitVec w) (i : Nat) : Bool := x.getLsbD i

/-- The word with bit i set. -/
def setB {w : Nat} (x : BitVec w) (i : Nat) : BitVec w := x ||| BitVec.ofNat w (2 ^ i)

/-- The word with bit i clear. -/
def clrB {w : Nat} (x : BitVec w) (i : Nat) : BitVec w := x &&& ~~~(BitVec.ofNat w (2 ^ i))

/-- The word with bit i made equal to b. -/
def putB {w : Nat} (x : BitVec w) (i : Nat) (b : Bool) : BitVec w := if b then setB x i else clrB x i

/-- A Bool as 0 or 1. -/
def b2n (b : Bool) : Nat := if b then 1 else 0

/-- The n bytes of a number, least significant first (R1). -/
def toBytes : Nat → Nat → List W8
  | 0, _ => []
  | n + 1, x => BitVec.ofNat 8 x :: toBytes n (x / 256)

/-- The number that bytes spell, least significant first (R1). -/
def ofBytes : List W8 → Nat
  | [] => 0
  | b :: bs => b.toNat + 256 * ofBytes bs

/-- The n bytes of a number, most significant first: the order of the fields of IEEE 1588 messages and of HART frames,
whose standards fix it. -/
def beBytes (n x : Nat) : List W8 := (toBytes n x).reverse

/-- The signed reading of the low n bits of a number. -/
def sextN (n : Nat) (x : Nat) : Int :=
  if x % 2 ^ n < 2 ^ (n - 1) then (x % 2 ^ n : Nat) else ((x % 2 ^ n : Nat) : Int) - 2 ^ n

/-- Sign extension of the low n bits of a number to a word of width w (the manual's sext). -/
def sext (w n x : Nat) : BitVec w := BitVec.ofInt w (sextN n x)

/-- A counter field that saturates at `max`. -/
def satInc (max v : Nat) : Nat := if v < max then v + 1 else max

/-- A byte list padded with zeros, or cut, to length n. -/
def padTo (n : Nat) (l : List W8) : List W8 := (l ++ List.replicate n 0).take n

/-- A number of n bytes at an offset of an object. -/
def objN (l : List W8) (o n : Nat) : Nat := ofBytes ((l.drop o).take n)

/-- One step of a reflected CRC over a byte. -/
def crcByte (w : Nat) (poly : BitVec w) (c : BitVec w) (b : W8) : BitVec w :=
  (List.range 8).foldl (fun c _ => if c.getLsbD 0 then (c >>> 1) ^^^ poly else c >>> 1) (c ^^^ b.setWidth w)

/-- CRC-32 of IEEE 802.3, reflected polynomial 0xEDB88320 (R447, R461). -/
def crc32 (l : List W8) : W32 := ~~~(l.foldl (crcByte 32 0xEDB88320#32) 0xFFFFFFFF#32)

/-- One step of the CRC-64 of ECMA-182, most significant bit first. -/
def crc64Byte (c : W64) (b : W8) : W64 :=
  (List.range 8).foldl (fun c _ => if c.getLsbD 63 then (c <<< 1) ^^^ 0x42F0E1EBA9EA3693#64 else c <<< 1)
    (c ^^^ (b.setWidth 64 <<< 56))

/-- CRC-64 of ECMA-182 (R360). -/
def crc64 (l : List W8) : W64 := l.foldl crc64Byte 0

end Sys2Proof.Machine
end

