-- ==== Sys2Proof/Machine/Flags.lean ====
section
/-!
DEFINITION. The flags of `ST` (R79, R84, R97), the conditions (R98), and the integer operations with the carry and overflow
that they give (R96 to R100). -/
namespace Sys2Proof.Machine

/-! ### ST -/

/-- The fields of `ST` that hold anything: N, Z, C, V, RM, the float flags and M. -/
def stMask : W32 := 0xF0FF0100#32

/-- RM of a status word is one that may be written (R84). -/
def rmOk (v : W32) : Bool := decide (getF v 21 3 < 5)

/-- `ST` as a write of `v` leaves it: reserved bits stay 0, and an RM of 5 to 7 is not taken (R84; notes/assumptions/30.md). -/
def stPut (old v : W32) : W32 :=
  if rmOk v then v &&& stMask else setF (v &&& stMask) 21 3 (getF old 21 3)

/-- `ST` with N, Z, C and V set (R79). -/
def putNzcv (n z c v : Bool) (st : W32) : W32 := setF st 28 4 (8 * b2n n + 4 * b2n z + 2 * b2n c + b2n v)

/-- N of a status word. -/
def stN (st : W32) : Bool := bit st 31
/-- Z of a status word. -/
def stZ (st : W32) : Bool := bit st 30
/-- C of a status word. -/
def stC (st : W32) : Bool := bit st 29
/-- V of a status word. -/
def stV (st : W32) : Bool := bit st 28

/-- A condition holds on the flags (R98); code 15 is reserved and holds never. -/
def condHolds (k : Nat) (st : W32) : Bool :=
  match k with
  | 0 => stZ st
  | 1 => !stZ st
  | 2 => stC st
  | 3 => !stC st
  | 4 => stN st
  | 5 => !stN st
  | 6 => stV st
  | 7 => !stV st
  | 8 => stC st && !stZ st
  | 9 => !stC st || stZ st
  | 10 => stN st == stV st
  | 11 => stN st != stV st
  | 12 => !stZ st && stN st == stV st
  | 13 => stZ st || stN st != stV st
  | 14 => true
  | _ => false

/-! ### Integer results -/

/-- What an integer operation gives at its width: the result, C and V. -/
structure IntRes where
  r : Nat
  c : Bool := false
  v : Bool := false
  deriving DecidableEq, Repr

/-- The width that D selects (R96). -/
def wid (d : Bool) : Nat := if d then 64 else 32

/-- A register's value at a width. -/
def low (w : Nat) (x : W64) : Nat := x.toNat % 2 ^ w

/-- A result of width w as a register holds it (R96). -/
def widen (w r : Nat) : W64 := if w = 64 then BitVec.ofNat 64 r else sext 64 32 r

/-- N, Z, C and V of a result (R97). -/
def intFlags (w : Nat) (o : IntRes) (st : W32) : W32 :=
  putNzcv (decide (2 ^ (w - 1) ≤ o.r % 2 ^ w)) (o.r % 2 ^ w == 0) o.c o.v st

/-- A signed value fits a width. -/
def fitsS (w : Nat) (x : Int) : Bool := -(2 ^ (w - 1) : Int) ≤ x && x < (2 ^ (w - 1) : Int)

/-- A number modulo 2^w. -/
def modW (w : Nat) (x : Int) : Nat := (x % (2 ^ w : Int)).toNat

def intAdd (w a b : Nat) : IntRes :=
  { r := (a + b) % 2 ^ w, c := decide (2 ^ w ≤ a + b), v := !fitsS w (sextN w a + sextN w b) }

def intSub (w a b : Nat) : IntRes :=
  { r := (a + 2 ^ w - b) % 2 ^ w, c := decide (b ≤ a), v := !fitsS w (sextN w a - sextN w b) }

def intAnd (_w a b : Nat) : IntRes := { r := a &&& b }
def intOr (_w a b : Nat) : IntRes := { r := a ||| b }
def intXor (_w a b : Nat) : IntRes := { r := a ^^^ b }
def intAndn (w a b : Nat) : IntRes := { r := a &&& (2 ^ w - 1 - b) }

/-- The shift amount of R99. -/
def amount (w b : Nat) : Nat := b % w

def intSll (w a k : Nat) : IntRes := { r := a * 2 ^ k % 2 ^ w, c := decide (0 < k) && a.testBit (w - k) }
def intSrl (_w a k : Nat) : IntRes := { r := a / 2 ^ k, c := decide (0 < k) && a.testBit (k - 1) }
def intSra (w a k : Nat) : IntRes :=
  { r := modW w (sextN w a / 2 ^ k), c := decide (0 < k) && a.testBit (k - 1) }
def intRor (w a k : Nat) : IntRes := { r := (a / 2 ^ k + a * 2 ^ (w - k)) % 2 ^ w }

def intMin (w a b : Nat) : IntRes := { r := if sextN w a ≤ sextN w b then a else b }
def intMax (w a b : Nat) : IntRes := { r := if sextN w b ≤ sextN w a then a else b }
def intMinu (_w a b : Nat) : IntRes := { r := min a b }
def intMaxu (_w a b : Nat) : IntRes := { r := max a b }

def intMul (w a b : Nat) : IntRes := { r := a * b % 2 ^ w, v := !fitsS w (sextN w a * sextN w b) }
def intMulh (w a b : Nat) : IntRes := { r := modW w (sextN w a * sextN w b / 2 ^ w) }
def intMulhu (w a b : Nat) : IntRes := { r := a * b / 2 ^ w }

/-- The most negative value divided by −1 (R100). -/
def divCorner (w a b : Nat) : Bool := a == 2 ^ (w - 1) && b == 2 ^ w - 1

/-- DIV for b ≠ 0 (R100). -/
def intDiv (w a b : Nat) : IntRes :=
  if divCorner w a b then { r := a, v := true } else { r := modW w (Int.tdiv (sextN w a) (sextN w b)) }
/-- REM for b ≠ 0 (R100). -/
def intRem (w a b : Nat) : IntRes :=
  if divCorner w a b then { r := 0, v := true } else { r := modW w (Int.tmod (sextN w a) (sextN w b)) }
/-- DIVU for b ≠ 0 (R100). -/
def intDivu (_w a b : Nat) : IntRes := { r := a / b }
/-- REMU for b ≠ 0 (R100). -/
def intRemu (_w a b : Nat) : IntRes := { r := a % b }

/-- The leading zeros of a number at a width. -/
def leadZeros (w a : Nat) : Nat := if a = 0 then w else w - 1 - a.log2
/-- The trailing zeros of a number below bit w; w for 0. -/
def trailZeros (w a : Nat) : Nat := ((List.range w).find? fun i => a.testBit i).getD w
/-- The one bits of a number below bit w. -/
def oneBits (w a : Nat) : Nat := (List.range w).countP fun i => a.testBit i

end Sys2Proof.Machine
end

