-- ==== Sys2Proof/Config.lean ====
section
/-!
DEFINITION. What one unit of the hardware fixes and what the manual leaves open: constants without a body, so that
no proof can see a value of them (notes/assumptions/2.md, 7.md, 8.md).
-/
namespace Sys2Proof.Config

/-- A value the manual leaves open, by number (State.free counts them). The result is cut to the width wanted. -/
opaque freeValue : Nat → W64

/-- `SYS.REVISION` as fused: die revision and assembly revision (R77). -/
opaque revision : W16

/-- The unit's 128-bit serial number as fused (R77). -/
opaque serial : BitVec 128

/-- The CRC-32 of the link frame with a sequence number (R354), over bytes whose layout the manual does not give. -/
opaque linkCrc : Nat → W32

/-- The depth D of the FIFO of the crossing from one island to another (R61). -/
opaque fifoDepth : Nat → Nat → Nat

/-- clockAccuracy and offsetScaledLogVariance of the module as a PTP clock, which the manual does not give. -/
opaque clockQuality : BitVec 24

/-- The clockIdentity of the module. -/
opaque clockId : W64

/-- SHAKE256 with a 512-bit output, a function the manual takes from a published standard. -/
opaque shake256 : List W8 → BitVec 512

/-- Falcon-1024 verification: public key, message, signature. -/
opaque falconVerify : List W8 → List W8 → List W8 → Bool

/-- Falcon-1024 signing with the device key of this unit: what follows the header byte of the signature (R405). -/
opaque falconSign : List W8 → List W8

/-- What the device certificate of this unit holds beside its fixed fields (R409): the time of manufacture, the device public key
after its header byte, the vendor root's public key after its header byte, and the signature after its header byte. -/
opaque certIssue : W64
opaque deviceKey : List W8
opaque certSignature : List W8

/-- The saved configuration in the configuration area of the image store (R412), by chunk. -/
opaque savedConfig : Nat → List W8

/-- The IEEE 802.3 frame without FCS of a message to UDP port 47,010 of a node over IPv6 (R333, R422), whose MAC and IPv6
addresses the manual does not give. -/
opaque udpFrame : Nat → List W8 → List W8

/-- The fused digest of the vendor root's public key (R407). -/
opaque rootDigest : BitVec 512

/-- The fused digest of Hearth (R431). -/
opaque hearthDigest : BitVec 512

/-- The factory keeper and system images in K0 and S0, by chunk (R446). -/
opaque factoryImage : Nat → List W8

/-- The bytes of the ledger's state block (R462), whose layout the manual does not give, from the numbers it holds. -/
opaque stateBlock : List Nat → List W8

/-- The fold of one register write into the running signature of R189: the signature, the register's number and the value
written. The manual does not give the function. -/
opaque signature : W64 → Nat → W64 → W64

end Sys2Proof.Config
end

