-- ==== Sys2Proof/Machine/Sparse.lean ====
section
/-!
DEFINITION. Sparse data by key, in one canonical form: a list of pairs of a number and a value, keys strictly
rising, and no value equal to the one an absent key reads as. Registers, memory and the module's tables use it. -/
namespace Sys2Proof.Machine

/-- The value at key `k`; `d k` for a key that is not listed. -/
def sget {α : Type} (d : Nat → α) : List (Nat × α) → Nat → α
  | [], k => d k
  | (j, v) :: m, k => if k = j then v else sget d m k

/-- The list without key `k`. -/
def serase {α : Type} : List (Nat × α) → Nat → List (Nat × α)
  | [], _ => []
  | (j, v) :: m, k => if k = j then serase m k else (j, v) :: serase m k

/-- The list with key `k` put at `v`, before the first larger key. -/
def sput {α : Type} : List (Nat × α) → Nat → α → List (Nat × α)
  | [], k, v => [(k, v)]
  | (j, w) :: m, k, v =>
    if k < j then (k, v) :: (j, w) :: m
    else if k = j then (k, v) :: m
    else (j, w) :: sput m k v

/-- Key `k` set to `v`: removed when `v` is what an absent key reads as. -/
def sset {α : Type} [DecidableEq α] (d : Nat → α) (m : List (Nat × α)) (k : Nat) (v : α) : List (Nat × α) :=
  if v = d k then serase m k else sput m k v

/-- The canonical form of sparse data. -/
def swf {α : Type} [DecidableEq α] (d : Nat → α) : List (Nat × α) → Bool
  | [] => true
  | [(j, v)] => decide (v ≠ d j)
  | (j, v) :: (j', v') :: m => decide (v ≠ d j) && decide (j < j') && swf d ((j', v') :: m)

/-- Keys kept by `p`, the others back to what an absent key reads as. -/
def skeep {α : Type} (p : Nat → Bool) (m : List (Nat × α)) : List (Nat × α) := m.filter fun e => p e.1

end Sys2Proof.Machine
end

