-- ==== Sys2Proof/Machine/RegMap.lean ====
section
/-!
DEFINITION. The register map, written from the register tables of spec/: each register's address under the manual's
name (`SYS.LOCK` is `Reg.SYS_LOCK`), and its reset value and access codes by bit. The block bases are those of R71. -/
namespace Sys2Proof.Machine

/-- One register, or an array of them: where it lies in its block, its reset value, and which bits carry each access
code of R3 (bits in none of the masks are r or w: they store nothing). -/
structure RegRow where
  off : Nat
  stride : Nat
  count : Nat
  reset : Nat
  rw : Nat := 0
  w1c : Nat := 0
  w1s : Nat := 0
  rwl : Nat := 0
  deriving DecidableEq, Repr

namespace Reg


/-! SYS (03_islands_fabric_memory.md, R77) -/
def SYS_HWTYPE : Nat := 0x10000000
def SYS_REVISION : Nat := 0x10000004
def SYS_SERIAL (i : Nat) : Nat := 0x10000010 + 4 * i
def SYS_POSITION : Nat := 0x10000020
def SYS_RESET_CAUSE : Nat := 0x10000024
def SYS_RESET_CTRL : Nat := 0x10000028
def SYS_LOCK : Nat := 0x10000030
def SYS_SCRUB : Nat := 0x10000034
def SYS_MEMERR_CNT : Nat := 0x10000040
def SYS_MEMERR_ADDR : Nat := 0x10000044
def SYS_FABERR : Nat := 0x10000048
def SYS_SCRATCH : Nat := 0x100000f0

/-! CLK (03_islands_fabric_memory.md, R78) -/
def CLK_REFSTAT : Nat := 0x10010000
def CLK_REFERR : Nat := 0x10010004
def CLK_AUTO : Nat := 0x10010008
def CLK_SEL_LO : Nat := 0x10010010
def CLK_SEL_HI : Nat := 0x10010014
def CLK_ACT_LO : Nat := 0x10010018
def CLK_ACT_HI : Nat := 0x1001001c

/-! TIC (06_tiers_guards_dma.md, R168) -/
def TIC_SRC_CFG (i : Nat) : Nat := 0x10060000 + 16 * i
def TIC_SRC_ENTRY (i : Nat) : Nat := 0x10060004 + 16 * i
def TIC_SRC_SB (i : Nat) : Nat := 0x10060008 + 16 * i
def TIC_PEND (i : Nat) : Nat := 0x10061000 + 4 * i
def TIC_MISSED (i : Nat) : Nat := 0x10061020 + 4 * i
def TIC_SWTRIG : Nat := 0x10061040
def TIC_TGT_VBASE (i : Nat) : Nat := 0x10062000 + 32 * i
def TIC_TGT_STATE (i : Nat) : Nat := 0x10062004 + 32 * i

/-! GRD (06_tiers_guards_dma.md, R177) -/
def GRD_CTRL (m : Nat) : Nat := 0x10040000 + 0x100 * m
def GRD_STAT (m : Nat) : Nat := 0x10040000 + 0x100 * m + 0x4
def GRD_FADDR (m : Nat) : Nat := 0x10040000 + 0x100 * m + 0x8
def GRD_RBAR (m : Nat) (i : Nat) : Nat := 0x10040000 + 0x100 * m + 0x10 + 8 * i
def GRD_RATR (m : Nat) (i : Nat) : Nat := 0x10040000 + 0x100 * m + 0x14 + 8 * i

/-! DMA (06_tiers_guards_dma.md, R183) -/
def DMA_ACTIVE : Nat := 0x10050000

/-! DMAC (06_tiers_guards_dma.md, R183) -/
def DMA_CH_CTRL (c : Nat) : Nat := 0x10050100 + 0x40 * c
def DMA_CH_STAT (c : Nat) : Nat := 0x10050100 + 0x40 * c + 0x4
def DMA_CH_DESC (c : Nat) : Nat := 0x10050100 + 0x40 * c + 0x8
def DMA_CH_SRC (c : Nat) : Nat := 0x10050100 + 0x40 * c + 0xc
def DMA_CH_DST (c : Nat) : Nat := 0x10050100 + 0x40 * c + 0x10
def DMA_CH_REMAIN (c : Nat) : Nat := 0x10050100 + 0x40 * c + 0x14
def DMA_CH_FADDR (c : Nat) : Nat := 0x10050100 + 0x40 * c + 0x18

/-! TRI (07_triads_spares.md, R206) -/
def TRI_CTRL (t : Nat) : Nat := 0x10030000 + 0x1000 * t
def TRI_STATE (t : Nat) : Nat := 0x10030000 + 0x1000 * t + 0x4
def TRI_LANEMAP (t : Nat) : Nat := 0x10030000 + 0x1000 * t + 0x8
def TRI_MISCNT (t : Nat) : Nat := 0x10030000 + 0x1000 * t + 0xc
def TRI_LASTMIS (t : Nat) : Nat := 0x10030000 + 0x1000 * t + 0x10
def TRI_LASTMIS_ADDR (t : Nat) : Nat := 0x10030000 + 0x1000 * t + 0x14
def TRI_RSTAT (t : Nat) : Nat := 0x10030000 + 0x1000 * t + 0x18
def TRI_OVERRUN (t : Nat) : Nat := 0x10030000 + 0x1000 * t + 0x1c
def TRI_ICP (t : Nat) : Nat := 0x10030000 + 0x1000 * t + 0x20
def TRI_DCP (t : Nat) : Nat := 0x10030000 + 0x1000 * t + 0x24
def TRI_POOL (t : Nat) : Nat := 0x10030000 + 0x1000 * t + 0x100
def TRI_POOLCMD (t : Nat) : Nat := 0x10030000 + 0x1000 * t + 0x104

/-! SCN (08_scan_force_change.md, R235) -/
def SCN_GRID : Nat := 0x12000000
def SCN_WIN : Nat := 0x12000004
def SCN_LINE (i : Nat) : Nat := 0x12000010 + 4 * i
def SCN_GRIDSTAT : Nat := 0x12000040
def SCN_TICK_LO : Nat := 0x12000048
def SCN_TICK_HI : Nat := 0x1200004c
def SCN_ENG (i : Nat) : Nat := 0x12000050 + 4 * i
def SCN_IMG_BASE (i : Nat) : Nat := 0x12000060 + 4 * i
def SCN_CHG_CTRL : Nat := 0x12000100
def SCN_CHG_STAT : Nat := 0x12000104
def SCN_CHG_DESC : Nat := 0x12000108
def SCN_CHG_TS_LO : Nat := 0x12000110
def SCN_CHG_TS_HI : Nat := 0x12000114
def SCN_DIR_BASE : Nat := 0x12000118
def SCN_DIR_N : Nat := 0x1200011c
def SCN_CHG_WIN (i : Nat) : Nat := 0x12000120 + 4 * i
def SCN_FORCE_BASE : Nat := 0x12000200
def SCN_FORCE_CNT : Nat := 0x12000204
def SCN_FORCE_ARG_ID : Nat := 0x12000208
def SCN_FORCE_ARG_LO : Nat := 0x1200020c
def SCN_FORCE_ARG_HI : Nat := 0x12000210
def SCN_FORCE_CMD : Nat := 0x12000214
def SCN_FORCE_STAT : Nat := 0x12000218

/-! FCHS (09_field_slices_digital.md, R264) -/
def FCH_CFG (g s : Nat) : Nat := 0x11000000 + 0x8000 * g + 0x400 * s
def FCH_DI_CFG (g s : Nat) : Nat := 0x11000000 + 0x8000 * g + 0x400 * s + 0x4
def FCH_DO_CFG (g s : Nat) : Nat := 0x11000000 + 0x8000 * g + 0x400 * s + 0x8
def FCH_STATUS (g s : Nat) : Nat := 0x11000000 + 0x8000 * g + 0x400 * s + 0x10
def FCH_DIAG (g s : Nat) : Nat := 0x11000000 + 0x8000 * g + 0x400 * s + 0x14
def FCH_DIAG_EN (g s : Nat) : Nat := 0x11000000 + 0x8000 * g + 0x400 * s + 0x18
def FCH_VALUE (g s : Nat) : Nat := 0x11000000 + 0x8000 * g + 0x400 * s + 0x20
def FCH_RDBK (g s : Nat) : Nat := 0x11000000 + 0x8000 * g + 0x400 * s + 0x24
def FCH_EDGE_LO (g s : Nat) : Nat := 0x11000000 + 0x8000 * g + 0x400 * s + 0x28
def FCH_EDGE_HI (g s : Nat) : Nat := 0x11000000 + 0x8000 * g + 0x400 * s + 0x2c
def FCH_CMD (g s : Nat) : Nat := 0x11000000 + 0x8000 * g + 0x400 * s + 0x30
def FCH_RETRY (g s : Nat) : Nat := 0x11000000 + 0x8000 * g + 0x400 * s + 0x34
def FCH_CTRL (g s : Nat) : Nat := 0x11000000 + 0x8000 * g + 0x400 * s + 0x40

/-! FCHG (09_field_slices_digital.md, R265) -/
def FCH_GRP_STAT (g : Nat) : Nat := 0x11007000 + 0x8000 * g
def FCH_GRP_DRAW (g : Nat) : Nat := 0x11007000 + 0x8000 * g + 0x4
def FCH_GRP_FEED (g : Nat) : Nat := 0x11007000 + 0x8000 * g + 0x8
def FCH_SPARE (g : Nat) : Nat := 0x11007000 + 0x8000 * g + 0x10
def FCH_EVT_STAT (g : Nat) : Nat := 0x11007000 + 0x8000 * g + 0x20
def FCH_EVT_TIME_LO (g : Nat) : Nat := 0x11007000 + 0x8000 * g + 0x24
def FCH_EVT_TIME_HI (g : Nat) : Nat := 0x11007000 + 0x8000 * g + 0x28
def FCH_EVT_INFO (g : Nat) : Nat := 0x11007000 + 0x8000 * g + 0x2c
def FCH_GRP_IRQ (g : Nat) : Nat := 0x11007000 + 0x8000 * g + 0x30

/-! FCHS (10_field_analog_loops.md, R296) -/
def FCH_AN_CFG (g s : Nat) : Nat := 0x11000000 + 0x8000 * g + 0x400 * s + 0x100
def FCH_SEQ_CFG (g s : Nat) : Nat := 0x11000000 + 0x8000 * g + 0x400 * s + 0x104
def FCH_SEQ_STAT (g s : Nat) : Nat := 0x11000000 + 0x8000 * g + 0x400 * s + 0x108
def FCH_REG_ENT (g s : Nat) (i : Nat) : Nat := 0x11000000 + 0x8000 * g + 0x400 * s + 0x110 + 4 * i
def FCH_INJ_ENT (g s : Nat) (i : Nat) : Nat := 0x11000000 + 0x8000 * g + 0x400 * s + 0x130 + 4 * i
def FCH_REG_RES (g s : Nat) (i : Nat) : Nat := 0x11000000 + 0x8000 * g + 0x400 * s + 0x140 + 4 * i
def FCH_INJ_RES (g s : Nat) (i : Nat) : Nat := 0x11000000 + 0x8000 * g + 0x400 * s + 0x160 + 4 * i
def FCH_AO_CMD (g s : Nat) : Nat := 0x11000000 + 0x8000 * g + 0x400 * s + 0x170
def FCH_AO_TRIM_LO (g s : Nat) : Nat := 0x11000000 + 0x8000 * g + 0x400 * s + 0x174
def FCH_AO_TRIM_HI (g s : Nat) : Nat := 0x11000000 + 0x8000 * g + 0x400 * s + 0x178
def FCH_AO_TRIM_CTRL (g s : Nat) : Nat := 0x11000000 + 0x8000 * g + 0x400 * s + 0x17c
def FCH_HART_CFG (g s : Nat) : Nat := 0x11000000 + 0x8000 * g + 0x400 * s + 0x180
def FCH_CNT_CFG (g s : Nat) : Nat := 0x11000000 + 0x8000 * g + 0x400 * s + 0x184

/-! FCHM (10_field_analog_loops.md, R297) -/
def FCH_HM_CTRL (g m : Nat) : Nat := 0x11005000 + 0x8000 * g + 0x400 * m
def FCH_HM_REQ (g m : Nat) : Nat := 0x11005000 + 0x8000 * g + 0x400 * m + 0x4
def FCH_HM_ADDR_LO (g m : Nat) : Nat := 0x11005000 + 0x8000 * g + 0x400 * m + 0x8
def FCH_HM_ADDR_HI (g m : Nat) : Nat := 0x11005000 + 0x8000 * g + 0x400 * m + 0xc
def FCH_HM_STAT (g m : Nat) : Nat := 0x11005000 + 0x8000 * g + 0x400 * m + 0x10
def FCH_HM_CFG (g m : Nat) : Nat := 0x11005000 + 0x8000 * g + 0x400 * m + 0x14
def FCH_HM_CNT (g m : Nat) : Nat := 0x11005000 + 0x8000 * g + 0x400 * m + 0x18

/-! STB (11_station_buses.md, R327) -/
def STB_CFG (k : Nat) : Nat := 0x10100000 + 0x1000 * k
def STB_NBT (k : Nat) : Nat := 0x10100000 + 0x1000 * k + 0x4
def STB_DBT (k : Nat) : Nat := 0x10100000 + 0x1000 * k + 0x8
def STB_TDC (k : Nat) : Nat := 0x10100000 + 0x1000 * k + 0xc
def STB_STATE (k : Nat) : Nat := 0x10100000 + 0x1000 * k + 0x10
def STB_EVT (k : Nat) : Nat := 0x10100000 + 0x1000 * k + 0x14
def STB_EVT_EN (k : Nat) : Nat := 0x10100000 + 0x1000 * k + 0x18
def STB_CTRL (k : Nat) : Nat := 0x10100000 + 0x1000 * k + 0x1c
def STB_SCHED (k : Nat) : Nat := 0x10100000 + 0x1000 * k + 0x20
def STB_CNT_A (k : Nat) : Nat := 0x10100000 + 0x1000 * k + 0x24
def STB_CNT_B (k : Nat) : Nat := 0x10100000 + 0x1000 * k + 0x28
def STB_SLOTS (k : Nat) : Nat := 0x10100000 + 0x1000 * k + 0x2c
def STB_LIVE_LO (k : Nat) : Nat := 0x10100000 + 0x1000 * k + 0x30
def STB_LIVE_HI (k : Nat) : Nat := 0x10100000 + 0x1000 * k + 0x34
def STB_LOST_LO (k : Nat) : Nat := 0x10100000 + 0x1000 * k + 0x38
def STB_LOST_HI (k : Nat) : Nat := 0x10100000 + 0x1000 * k + 0x3c
def STB_REF_LO (k : Nat) : Nat := 0x10100000 + 0x1000 * k + 0x40
def STB_REF_HI (k : Nat) : Nat := 0x10100000 + 0x1000 * k + 0x44
def STB_AC_CTRL (k : Nat) : Nat := 0x10100000 + 0x1000 * k + 0x80
def STB_AC_REQ (k : Nat) : Nat := 0x10100000 + 0x1000 * k + 0x84
def STB_AC_STAT (k : Nat) : Nat := 0x10100000 + 0x1000 * k + 0x88
def STB_ST_BASE (k : Nat) (i : Nat) : Nat := 0x10100000 + 0x1000 * k + 0x800 + 4 * i
def STB_PT_BASE (k : Nat) (i : Nat) : Nat := 0x10100000 + 0x1000 * k + 0x808 + 4 * i

/-! NET (12_network_time.md, R351) -/
def NET_NODE : Nat := 0x10200000
def NET_PARTNER : Nat := 0x10200004
def NET_FRAME : Nat := 0x10200008
def NET_RING : Nat := 0x1020000c
def NET_SCHED : Nat := 0x10200010
def NET_EVT : Nat := 0x10200014
def NET_EVT_EN : Nat := 0x10200018
def NET_CNT : Nat := 0x1020001c
def NET_PTP_CTRL : Nat := 0x10200020
def NET_PTP_DS : Nat := 0x10200024
def NET_PTP_STAT : Nat := 0x10200028
def NET_PTP_OFS : Nat := 0x1020002c
def NET_SOE_CTRL : Nat := 0x10200030
def NET_SOE_BASE : Nat := 0x10200034
def NET_SOE_GRP : Nat := 0x10200038
def NET_SOE_WR : Nat := 0x1020003c
def NET_SOE_RD : Nat := 0x10200040
def NET_LIVE (i : Nat) : Nat := 0x10200100 + 4 * i
def NET_LOST (i : Nat) : Nat := 0x10200300 + 4 * i

/-! NETP (12_network_time.md, R351) -/
def NET_PCFG (p : Nat) : Nat := 0x10200000 + 0x4000 * p + 0x1000
def NET_PSTAT (p : Nat) : Nat := 0x10200000 + 0x4000 * p + 0x1004
def NET_PRX (p : Nat) : Nat := 0x10200000 + 0x4000 * p + 0x1008
def NET_PTX (p : Nat) : Nat := 0x10200000 + 0x4000 * p + 0x100c
def NET_PERR (p : Nat) : Nat := 0x10200000 + 0x4000 * p + 0x1010
def NET_PMPD (p : Nat) : Nat := 0x10200000 + 0x4000 * p + 0x1014

/-! TIME (12_network_time.md, R352) -/
def TIME_CTRL : Nat := 0x10080000
def TIME_NS : Nat := 0x10080004
def TIME_EPOCH : Nat := 0x10080008
def TIME_RAW_EP : Nat := 0x1008000c
def TIME_RAW_WP : Nat := 0x10080010
def TIME_NOW_LO : Nat := 0x10080014
def TIME_NOW_HI : Nat := 0x10080018
def TIME_INC : Nat := 0x10080020
def TIME_STEP_LO : Nat := 0x10080024
def TIME_STEP_HI : Nat := 0x10080028
def TIME_STEP_LIMIT : Nat := 0x1008002c
def TIME_SET_LO : Nat := 0x10080030
def TIME_SET_HI : Nat := 0x10080034
def TIME_LOCK : Nat := 0x10080038
def TIME_EVT : Nat := 0x10080040
def TIME_EVT_EN : Nat := 0x10080044
def TIME_ALM_LO (i : Nat) : Nat := 0x10080080 + 16 * i
def TIME_ALM_HI (i : Nat) : Nat := 0x10080084 + 16 * i
def TIME_ALM_PER (i : Nat) : Nat := 0x10080088 + 16 * i
def TIME_ALM_CTRL (i : Nat) : Nat := 0x1008008c + 16 * i

/-! ANV (13_pair_handover.md, R379) -/
def ANV_CFG : Nat := 0x100c0000
def ANV_STAT : Nat := 0x100c0004
def ANV_SEALED_LO : Nat := 0x100c0008
def ANV_SEALED_HI : Nat := 0x100c000c
def ANV_COMMIT_LO : Nat := 0x100c0010
def ANV_COMMIT_HI : Nat := 0x100c0014
def ANV_EPLINES : Nat := 0x100c0018
def ANV_XFER : Nat := 0x100c001c
def ANV_TOFS : Nat := 0x100c0020
def ANV_COPY : Nat := 0x100c0024
def ANV_EVT : Nat := 0x100c0030
def ANV_EVT_EN : Nat := 0x100c0034
def ANV_LANEERR : Nat := 0x100c0038

/-! COL (13_pair_handover.md, R380) -/
def COL_STAT : Nat := 0x100d0000
def COL_CTRL : Nat := 0x100d0004
def COL_YTS_LO : Nat := 0x100d0008
def COL_YTS_HI : Nat := 0x100d000c
def COL_CAUSE : Nat := 0x100d0010
def COL_EVT : Nat := 0x100d0014
def COL_EVT_EN : Nat := 0x100d0018
def COL_CURR : Nat := 0x100d001c

/-! BEL (14_bellows_backup.md, R402) -/
def BEL_PL (i : Nat) : Nat := 0x10020000 + 4 * i
def BEL_SLEEP (i : Nat) : Nat := 0x10020040 + 4 * i
def BEL_WAKE_EN (i : Nat) : Nat := 0x10020060 + 4 * i
def BEL_STATE : Nat := 0x100200a0
def BEL_SLP_STAT : Nat := 0x100200a4
def BEL_WAKE_CAUSE : Nat := 0x100200a8
def BEL_EVT : Nat := 0x100200b0
def BEL_EVT_EN : Nat := 0x100200b4

/-! BKD (14_bellows_backup.md, R403) -/
def BKD_STAT : Nat := 0x10090000
def BKD_CTRL : Nat := 0x10090004
def BKD_CFG : Nat := 0x10090008
def BKD_TRIM_MEAS : Nat := 0x1009000c
def BKD_RTC_SUB : Nat := 0x10090010
def BKD_RTC_SEC_LO : Nat := 0x10090014
def BKD_RTC_SEC_HI : Nat := 0x10090018
def BKD_RTC_SET_LO : Nat := 0x1009001c
def BKD_RTC_SET_HI : Nat := 0x10090020
def BKD_CAL_DATE : Nat := 0x10090024
def BKD_CAL_TIME : Nat := 0x10090028
def BKD_OPSEC_LO : Nat := 0x10090030
def BKD_OPSEC_HI : Nat := 0x10090034
def BKD_PWRCYC : Nat := 0x10090038
def BKD_LOSS_SEC_LO : Nat := 0x10090040
def BKD_LOSS_SEC_HI : Nat := 0x10090044
def BKD_LOSS_PT_LO : Nat := 0x10090048
def BKD_LOSS_PT_HI : Nat := 0x1009004c
def BKD_GAP_LO : Nat := 0x10090050
def BKD_GAP_HI : Nat := 0x10090054
def BKD_CELL : Nat := 0x10090058

/-! TRU (15_trust_update.md, R427) -/
def TRU_STAT : Nat := 0x100b0000
def TRU_CMD : Nat := 0x100b0004
def TRU_ARG : Nat := 0x100b0008
def TRU_CRC : Nat := 0x100b000c
def TRU_SLOT (i : Nat) : Nat := 0x100b0020 + 4 * i
def TRU_SVN (i : Nat) : Nat := 0x100b0040 + 4 * i
def TRU_FLOOR (i : Nat) : Nat := 0x100b0060 + 4 * i
def TRU_XFER : Nat := 0x100b0070
def TRU_XRCVD : Nat := 0x100b0074
def TRU_XNEXT : Nat := 0x100b0078
def TRU_TRIAL : Nat := 0x100b007c
def TRU_HEALTH_CONFIRM : Nat := 0x100b0080
def TRU_OWNER : Nat := 0x100b0084
def TRU_FUSE : Nat := 0x100b0088
def TRU_CHAL_LO : Nat := 0x100b0090
def TRU_CHAL_HI : Nat := 0x100b0094
def TRU_EVT : Nat := 0x100b0098
def TRU_EVT_EN : Nat := 0x100b009c
def TRU_IMGERR : Nat := 0x100b00a0

/-! EVR (17_recorder_faults_spares.md, R464) -/
def EVR_STAT : Nat := 0x100a0000
def EVR_NEXT_LO : Nat := 0x100a0004
def EVR_NEXT_HI : Nat := 0x100a0008
def EVR_LOW_LO : Nat := 0x100a000c
def EVR_LOW_HI : Nat := 0x100a0010
def EVR_DROP : Nat := 0x100a0014
def EVR_EVT : Nat := 0x100a0018
def EVR_EVT_EN : Nat := 0x100a001c
def EVR_SW_CODE : Nat := 0x100a0020
def EVR_SW_DATA (i : Nat) : Nat := 0x100a0024 + 4 * i
def EVR_SW_CTRL : Nat := 0x100a0040
def EVR_CUR_LO (i : Nat) : Nat := 0x100a0080 + 32 * i
def EVR_CUR_HI (i : Nat) : Nat := 0x100a0084 + 32 * i
def EVR_FIND_LO (i : Nat) : Nat := 0x100a0088 + 32 * i
def EVR_FIND_HI (i : Nat) : Nat := 0x100a008c + 32 * i
def EVR_CUR_CTRL (i : Nat) : Nat := 0x100a0090 + 32 * i
def EVR_CUR_STAT (i : Nat) : Nat := 0x100a0094 + 32 * i
def EVR_WIN (c i : Nat) : Nat := 0x100a0100 + 64 * c + 4 * i
def EVR_PT_EN : Nat := 0x100a0200
def EVR_PT_STAT : Nat := 0x100a0204
def EVR_POOL (i : Nat) : Nat := 0x100a0300 + 4 * i
def EVR_LEDGER : Nat := 0x100a0340

end Reg

/-- The registers of SYS by their offset. -/
def rowsSYS : List RegRow :=
  [⟨0x0, 4, 1, 0x5a120001, 0x0, 0x0, 0x0, 0x0⟩,
   ⟨0x4, 4, 1, 0x0, 0x0, 0x0, 0x0, 0x0⟩,
   ⟨0x10, 4, 4, 0x0, 0x0, 0x0, 0x0, 0x0⟩,
   ⟨0x20, 4, 1, 0x0, 0x0, 0x0, 0x0, 0x0⟩,
   ⟨0x24, 4, 1, 0x1, 0x0, 0xff, 0x0, 0x0⟩,
   ⟨0x28, 4, 1, 0x0, 0x0, 0x0, 0x0, 0x0⟩,
   ⟨0x30, 4, 1, 0x0, 0x0, 0x0, 0x1, 0x0⟩,
   ⟨0x34, 4, 1, 0x4444, 0x0, 0x0, 0x0, 0xffff⟩,
   ⟨0x40, 4, 1, 0x0, 0x0, 0xffffffff, 0x0, 0x0⟩,
   ⟨0x44, 4, 1, 0x0, 0x0, 0x0, 0x0, 0x0⟩,
   ⟨0x48, 4, 1, 0x0, 0x0, 0x80000000, 0x0, 0x0⟩,
   ⟨0xf0, 4, 1, 0x0, 0xffffffff, 0x0, 0x0, 0x0⟩]

/-- The registers of CLK by their offset. -/
def rowsCLK : List RegRow :=
  [⟨0x0, 4, 1, 0x3, 0x0, 0x1c, 0x0, 0x0⟩,
   ⟨0x4, 4, 1, 0x0, 0x0, 0x0, 0x0, 0x0⟩,
   ⟨0x8, 4, 1, 0x1, 0x0, 0x0, 0x0, 0x1⟩,
   ⟨0x10, 4, 1, 0x0, 0x0, 0x0, 0x0, 0xffffffff⟩,
   ⟨0x14, 4, 1, 0x0, 0x0, 0x0, 0x0, 0xffff⟩,
   ⟨0x18, 4, 1, 0x0, 0x0, 0x0, 0x0, 0x0⟩,
   ⟨0x1c, 4, 1, 0x0, 0x0, 0x0, 0x0, 0x0⟩]

/-- The registers of TIC by their offset. -/
def rowsTIC : List RegRow :=
  [⟨0x0, 16, 256, 0x0, 0x85ff0000, 0x0, 0x0, 0x0⟩,
   ⟨0x4, 16, 256, 0x0, 0xfffffffc, 0x0, 0x0, 0x0⟩,
   ⟨0x8, 16, 256, 0x0, 0xffffffff, 0x0, 0x0, 0x0⟩,
   ⟨0x1000, 4, 8, 0x0, 0x0, 0x0, 0x0, 0x0⟩,
   ⟨0x1020, 4, 8, 0x0, 0x0, 0xffffffff, 0x0, 0x0⟩,
   ⟨0x1040, 4, 1, 0x0, 0x0, 0x0, 0x0, 0x0⟩,
   ⟨0x2000, 32, 32, 0x0, 0xfffff800, 0x0, 0x0, 0x0⟩,
   ⟨0x2004, 32, 32, 0x0, 0x0, 0x0, 0x0, 0x0⟩]

/-- The registers of GRD by their offset. -/
def rowsGRD : List RegRow :=
  [⟨0x0, 4, 1, 0x200, 0x0, 0x0, 0x80000000, 0x1⟩,
   ⟨0x4, 4, 1, 0x0, 0x0, 0x80000000, 0x0, 0x0⟩,
   ⟨0x8, 4, 1, 0x0, 0x0, 0x0, 0x0, 0x0⟩,
   ⟨0x10, 8, 16, 0x0, 0xffffff00, 0x0, 0x0, 0x0⟩,
   ⟨0x14, 8, 16, 0x0, 0xff1ff7, 0x0, 0x0, 0x0⟩]

/-- The registers of DMA by their offset. -/
def rowsDMA : List RegRow :=
  [⟨0x0, 4, 1, 0x0, 0x0, 0x0, 0x0, 0x0⟩]

/-- The registers of DMAC by their offset. -/
def rowsDMAC : List RegRow :=
  [⟨0x0, 4, 1, 0x0, 0x7300, 0x0, 0x0, 0x0⟩,
   ⟨0x4, 4, 1, 0x0, 0x0, 0xf0000000, 0x0, 0x0⟩,
   ⟨0x8, 4, 1, 0x0, 0xffffffe0, 0x0, 0x0, 0x0⟩,
   ⟨0xc, 4, 1, 0x0, 0x0, 0x0, 0x0, 0x0⟩,
   ⟨0x10, 4, 1, 0x0, 0x0, 0x0, 0x0, 0x0⟩,
   ⟨0x14, 4, 1, 0x0, 0x0, 0x0, 0x0, 0x0⟩,
   ⟨0x18, 4, 1, 0x0, 0x0, 0x0, 0x0, 0x0⟩]

/-- The registers of TRI by their offset. -/
def rowsTRI : List RegRow :=
  [⟨0x0, 4, 1, 0x0, 0x0, 0x0, 0x0, 0x0⟩,
   ⟨0x4, 4, 1, 0x700, 0x0, 0x80000000, 0x0, 0x0⟩,
   ⟨0x8, 4, 1, 0x0, 0x0, 0x0, 0x0, 0x0⟩,
   ⟨0xc, 4, 1, 0x0, 0x0, 0xffff0000, 0x0, 0x0⟩,
   ⟨0x10, 4, 1, 0x0, 0x0, 0x80000000, 0x0, 0x0⟩,
   ⟨0x14, 4, 1, 0x0, 0x0, 0x0, 0x0, 0x0⟩,
   ⟨0x18, 4, 1, 0x0, 0x0, 0xffff0000, 0x0, 0x0⟩,
   ⟨0x1c, 4, 1, 0x0, 0x0, 0xffff0000, 0x0, 0x0⟩,
   ⟨0x20, 4, 1, 0x0, 0xfffff0f1, 0x0, 0x0, 0x0⟩,
   ⟨0x24, 4, 1, 0x0, 0xfffff0f1, 0x0, 0x0, 0x0⟩,
   ⟨0x100, 4, 1, 0x0, 0x0, 0x0, 0x0, 0x0⟩,
   ⟨0x104, 4, 1, 0x0, 0x0, 0x0, 0x0, 0x0⟩]

/-- The registers of SCN by their offset. -/
def rowsSCN : List RegRow :=
  [⟨0x0, 4, 1, 0x3e8, 0x0, 0x0, 0x0, 0xffff⟩,
   ⟨0x4, 4, 1, 0x1e0028, 0x0, 0x0, 0x0, 0xffffffff⟩,
   ⟨0x10, 4, 12, 0x1, 0x0, 0x0, 0x0, 0x83ff03ff⟩,
   ⟨0x40, 4, 1, 0x0, 0x0, 0xf000ffff, 0x0, 0x0⟩,
   ⟨0x48, 4, 1, 0x0, 0x0, 0x0, 0x0, 0x0⟩,
   ⟨0x4c, 4, 1, 0x0, 0x0, 0x0, 0x0, 0x0⟩,
   ⟨0x50, 4, 2, 0x0, 0x0, 0x0, 0x0, 0x0⟩,
   ⟨0x60, 4, 2, 0x0, 0xffffffc0, 0x0, 0x0, 0x0⟩,
   ⟨0x100, 4, 1, 0x0, 0x0, 0x0, 0x0, 0x0⟩,
   ⟨0x104, 4, 1, 0x0, 0x0, 0x80000000, 0x0, 0x0⟩,
   ⟨0x108, 4, 1, 0x0, 0xffffffc0, 0x0, 0x0, 0x0⟩,
   ⟨0x110, 4, 1, 0x0, 0x0, 0x0, 0x0, 0x0⟩,
   ⟨0x114, 4, 1, 0x0, 0x0, 0x0, 0x0, 0x0⟩,
   ⟨0x118, 4, 1, 0x0, 0x0, 0x0, 0x0, 0x0⟩,
   ⟨0x11c, 4, 1, 0x0, 0x0, 0x0, 0x0, 0x0⟩,
   ⟨0x120, 4, 4, 0x0, 0x0, 0x0, 0x0, 0x0⟩,
   ⟨0x200, 4, 1, 0x0, 0x0, 0x0, 0x0, 0xffffffc0⟩,
   ⟨0x204, 4, 1, 0x0, 0x0, 0x0, 0x0, 0x0⟩,
   ⟨0x208, 4, 1, 0x0, 0xffffffff, 0x0, 0x0, 0x0⟩,
   ⟨0x20c, 4, 1, 0x0, 0xffffffff, 0x0, 0x0, 0x0⟩] ++
  [⟨0x210, 4, 1, 0x0, 0xffffffff, 0x0, 0x0, 0x0⟩,
   ⟨0x214, 4, 1, 0x0, 0x0, 0x0, 0x0, 0x0⟩,
   ⟨0x218, 4, 1, 0x0, 0x0, 0x60000000, 0x0, 0x0⟩]

/-- The registers of FCHS by their offset. -/
def rowsFCHS : List RegRow :=
  [⟨0x0, 4, 1, 0x40000000, 0x4000010f, 0x0, 0x0, 0x0⟩,
   ⟨0x4, 4, 1, 0x303e8, 0x3ffff, 0x0, 0x0, 0x0⟩,
   ⟨0x8, 4, 1, 0x640305, 0x1fffffff, 0x0, 0x0, 0x0⟩,
   ⟨0x10, 4, 1, 0x20000000, 0x0, 0x0, 0x0, 0x0⟩,
   ⟨0x14, 4, 1, 0x0, 0x0, 0x7ffff00, 0x0, 0x0⟩,
   ⟨0x18, 4, 1, 0x0, 0x7ffff00, 0x0, 0x0, 0x0⟩,
   ⟨0x20, 4, 1, 0x0, 0x0, 0x0, 0x0, 0x0⟩,
   ⟨0x24, 4, 1, 0x0, 0x0, 0x0, 0x0, 0x0⟩,
   ⟨0x28, 4, 1, 0x0, 0x0, 0x0, 0x0, 0x0⟩,
   ⟨0x2c, 4, 1, 0x0, 0x0, 0x0, 0x0, 0x0⟩,
   ⟨0x30, 4, 1, 0x0, 0x1, 0x0, 0x0, 0x0⟩,
   ⟨0x34, 4, 1, 0x0, 0x0, 0x0, 0x0, 0x0⟩,
   ⟨0x40, 4, 1, 0x0, 0x0, 0x0, 0x0, 0x0⟩,
   ⟨0x100, 4, 1, 0x140000, 0xff0317, 0x0, 0x0, 0x0⟩,
   ⟨0x104, 4, 1, 0x114, 0x77f, 0x0, 0x0, 0x0⟩,
   ⟨0x108, 4, 1, 0x0, 0x0, 0x0, 0x0, 0x0⟩,
   ⟨0x110, 4, 1, 0x12000a00, 0xf71fffff, 0x0, 0x0, 0x0⟩,
   ⟨0x114, 4, 1, 0x42000a00, 0xf71fffff, 0x0, 0x0, 0x0⟩,
   ⟨0x118, 4, 1, 0x52000a00, 0xf71fffff, 0x0, 0x0, 0x0⟩,
   ⟨0x11c, 4, 1, 0x32000a00, 0xf71fffff, 0x0, 0x0, 0x0⟩] ++
  [⟨0x120, 4, 1, 0x0, 0xf71fffff, 0x0, 0x0, 0x0⟩,
   ⟨0x124, 4, 1, 0x0, 0xf71fffff, 0x0, 0x0, 0x0⟩,
   ⟨0x128, 4, 1, 0x0, 0xf71fffff, 0x0, 0x0, 0x0⟩,
   ⟨0x12c, 4, 1, 0x0, 0xf71fffff, 0x0, 0x0, 0x0⟩,
   ⟨0x130, 4, 1, 0x72001400, 0xf71fffff, 0x0, 0x0, 0x0⟩,
   ⟨0x134, 4, 3, 0x0, 0xf71fffff, 0x0, 0x0, 0x0⟩,
   ⟨0x140, 4, 8, 0x0, 0x0, 0x0, 0x0, 0x0⟩,
   ⟨0x160, 4, 4, 0x0, 0x0, 0x0, 0x0, 0x0⟩,
   ⟨0x170, 4, 1, 0x0, 0xffffffff, 0x0, 0x0, 0x0⟩,
   ⟨0x174, 4, 1, 0x0, 0xffffffff, 0x0, 0x0, 0x0⟩,
   ⟨0x178, 4, 1, 0x0, 0xffffffff, 0x0, 0x0, 0x0⟩,
   ⟨0x17c, 4, 1, 0x0, 0x0, 0x8, 0x0, 0x0⟩,
   ⟨0x180, 4, 1, 0x0, 0x3, 0x0, 0x0, 0x0⟩,
   ⟨0x184, 4, 1, 0x800, 0xff03, 0x0, 0x0, 0x0⟩]

/-- The registers of FCHG by their offset. -/
def rowsFCHG : List RegRow :=
  [⟨0x0, 4, 1, 0x0, 0x0, 0x10000000, 0x0, 0x0⟩,
   ⟨0x4, 4, 1, 0x0, 0x0, 0x0, 0x0, 0x0⟩,
   ⟨0x8, 4, 1, 0x0, 0x0, 0x0, 0x0, 0x0⟩,
   ⟨0x10, 4, 1, 0x0, 0x0, 0x0, 0x0, 0x0⟩,
   ⟨0x20, 4, 1, 0x0, 0x8000, 0x80ff0000, 0x0, 0x0⟩,
   ⟨0x24, 4, 1, 0x0, 0x0, 0x0, 0x0, 0x0⟩,
   ⟨0x28, 4, 1, 0x0, 0x0, 0x0, 0x0, 0x0⟩,
   ⟨0x2c, 4, 1, 0x0, 0x0, 0x0, 0x0, 0x0⟩,
   ⟨0x30, 4, 1, 0x0, 0x0, 0x0, 0x0, 0x0⟩]

/-- The registers of FCHM by their offset. -/
def rowsFCHM : List RegRow :=
  [⟨0x0, 4, 1, 0x0, 0x0, 0x0, 0x0, 0x0⟩,
   ⟨0x4, 4, 1, 0x0, 0xfffffff, 0x0, 0x0, 0x0⟩,
   ⟨0x8, 4, 1, 0x0, 0xffffffff, 0x0, 0x0, 0x0⟩,
   ⟨0xc, 4, 1, 0x0, 0x80003fff, 0x0, 0x0, 0x0⟩,
   ⟨0x10, 4, 1, 0x0, 0x0, 0x60000000, 0x0, 0x0⟩,
   ⟨0x14, 4, 1, 0x501, 0x1f03, 0x0, 0x0, 0x0⟩,
   ⟨0x18, 4, 1, 0x0, 0x0, 0xffffffff, 0x0, 0x0⟩]

/-- The registers of STB by their offset. -/
def rowsSTB : List RegRow :=
  [⟨0x0, 4, 1, 0x30100, 0x3f0101, 0x0, 0x0, 0x0⟩,
   ⟨0x4, 4, 1, 0x3e1e3c00, 0xfffffdff, 0x0, 0x0, 0x0⟩,
   ⟨0x8, 4, 1, 0x60101, 0x1f1f0f0f, 0x0, 0x0, 0x0⟩,
   ⟨0xc, 4, 1, 0x80000008, 0x8000007f, 0x0, 0x0, 0x0⟩,
   ⟨0x10, 4, 1, 0x0, 0x0, 0x0, 0x0, 0x0⟩,
   ⟨0x14, 4, 1, 0x0, 0x0, 0x30fff, 0x0, 0x0⟩,
   ⟨0x18, 4, 1, 0x0, 0x30fff, 0x0, 0x0, 0x0⟩,
   ⟨0x1c, 4, 1, 0x0, 0x0, 0x0, 0x0, 0x0⟩,
   ⟨0x20, 4, 1, 0xa0002, 0x3ff007f, 0x0, 0x0, 0x0⟩,
   ⟨0x24, 4, 1, 0x0, 0x0, 0xffffffff, 0x0, 0x0⟩,
   ⟨0x28, 4, 1, 0x0, 0x0, 0xffffffff, 0x0, 0x0⟩,
   ⟨0x2c, 4, 1, 0x200000, 0x0, 0x0, 0x0, 0x0⟩,
   ⟨0x30, 4, 1, 0x0, 0x0, 0x0, 0x0, 0x0⟩,
   ⟨0x34, 4, 1, 0x0, 0x0, 0x0, 0x0, 0x0⟩,
   ⟨0x38, 4, 1, 0x0, 0x0, 0xffffffff, 0x0, 0x0⟩,
   ⟨0x3c, 4, 1, 0x0, 0x0, 0xffffffff, 0x0, 0x0⟩,
   ⟨0x40, 4, 1, 0x0, 0x0, 0x0, 0x0, 0x0⟩,
   ⟨0x44, 4, 1, 0x0, 0x0, 0x0, 0x0, 0x0⟩,
   ⟨0x80, 4, 1, 0x0, 0x0, 0x0, 0x0, 0x0⟩,
   ⟨0x84, 4, 1, 0x0, 0x3fffffff, 0x0, 0x0, 0x0⟩] ++
  [⟨0x88, 4, 1, 0x0, 0x0, 0x60000000, 0x0, 0x0⟩,
   ⟨0x800, 4, 2, 0x0, 0xffffffc0, 0x0, 0x0, 0x0⟩,
   ⟨0x808, 4, 2, 0x0, 0xffffffc0, 0x0, 0x0, 0x0⟩]

/-- The registers of NET by their offset. -/
def rowsNET : List RegRow :=
  [⟨0x0, 4, 1, 0x0, 0x0, 0x0, 0x0, 0x8000ffff⟩,
   ⟨0x4, 4, 1, 0x0, 0x0, 0x0, 0x0, 0xffff⟩,
   ⟨0x8, 4, 1, 0x88b5, 0x0, 0x0, 0x0, 0xffffffff⟩,
   ⟨0xc, 4, 1, 0x1001, 0x0, 0x0, 0x0, 0xff01⟩,
   ⟨0x10, 4, 1, 0x7d00a002, 0x0, 0x0, 0x0, 0xfffff07f⟩,
   ⟨0x14, 4, 1, 0x0, 0x0, 0x7033f03, 0x0, 0x0⟩,
   ⟨0x18, 4, 1, 0x0, 0x7033f03, 0x0, 0x0, 0x0⟩,
   ⟨0x1c, 4, 1, 0x0, 0x0, 0xffffffff, 0x0, 0x0⟩,
   ⟨0x20, 4, 1, 0x8030d000, 0x0, 0x0, 0x0, 0xf8f0fff0⟩,
   ⟨0x24, 4, 1, 0x8080f8, 0x0, 0x0, 0x0, 0xffffffff⟩,
   ⟨0x28, 4, 1, 0xf000000, 0x0, 0x0, 0x0, 0x0⟩,
   ⟨0x2c, 4, 1, 0x0, 0x0, 0x0, 0x0, 0x0⟩,
   ⟨0x30, 4, 1, 0x100000, 0xc01fffff, 0x0, 0x0, 0x0⟩,
   ⟨0x34, 4, 1, 0x0, 0xfffff000, 0x0, 0x0, 0x0⟩,
   ⟨0x38, 4, 1, 0x0, 0xffffffff, 0x0, 0x0, 0x0⟩,
   ⟨0x3c, 4, 1, 0x0, 0x0, 0x0, 0x0, 0x0⟩,
   ⟨0x40, 4, 1, 0x0, 0xffffffff, 0x0, 0x0, 0x0⟩,
   ⟨0x100, 4, 128, 0x0, 0x0, 0x0, 0x0, 0x0⟩,
   ⟨0x300, 4, 128, 0x0, 0x0, 0xffffffff, 0x0, 0x0⟩]

/-- The registers of NETP by their offset. -/
def rowsNETP : List RegRow :=
  [⟨0x1000, 4, 1, 0x1, 0x3, 0x0, 0x0, 0x0⟩,
   ⟨0x1004, 4, 1, 0x0, 0x0, 0x60000000, 0x0, 0x0⟩,
   ⟨0x1008, 4, 1, 0x0, 0x0, 0x0, 0x0, 0x0⟩,
   ⟨0x100c, 4, 1, 0x0, 0x0, 0x0, 0x0, 0x0⟩,
   ⟨0x1010, 4, 1, 0x0, 0x0, 0xffffffff, 0x0, 0x0⟩,
   ⟨0x1014, 4, 1, 0x0, 0x0, 0x0, 0x0, 0x0⟩]

/-- The registers of TIME by their offset. -/
def rowsTIME : List RegRow :=
  [⟨0x0, 4, 1, 0x0, 0x0, 0x3800, 0x0, 0x0⟩,
   ⟨0x4, 4, 1, 0x0, 0x0, 0x0, 0x0, 0x0⟩,
   ⟨0x8, 4, 1, 0x0, 0x0, 0x0, 0x0, 0x0⟩,
   ⟨0xc, 4, 1, 0x0, 0x0, 0x0, 0x0, 0x0⟩,
   ⟨0x10, 4, 1, 0x0, 0x0, 0x0, 0x0, 0x0⟩,
   ⟨0x14, 4, 1, 0x0, 0x0, 0x0, 0x0, 0x0⟩,
   ⟨0x18, 4, 1, 0x0, 0x0, 0x0, 0x0, 0x0⟩,
   ⟨0x20, 4, 1, 0x8000000, 0xffffffff, 0x0, 0x0, 0x0⟩,
   ⟨0x24, 4, 1, 0x0, 0xffffffff, 0x0, 0x0, 0x0⟩,
   ⟨0x28, 4, 1, 0x0, 0xffffffff, 0x0, 0x0, 0x0⟩,
   ⟨0x2c, 4, 1, 0xf4240, 0x0, 0x0, 0x0, 0xffffffff⟩,
   ⟨0x30, 4, 1, 0x0, 0xffffffff, 0x0, 0x0, 0x0⟩,
   ⟨0x34, 4, 1, 0x0, 0xffffffff, 0x0, 0x0, 0x0⟩,
   ⟨0x38, 4, 1, 0x0, 0x0, 0x0, 0x1, 0x0⟩,
   ⟨0x40, 4, 1, 0x0, 0x0, 0x31f, 0x0, 0x0⟩,
   ⟨0x44, 4, 1, 0x0, 0x31f, 0x0, 0x0, 0x0⟩,
   ⟨0x80, 16, 3, 0x0, 0xffffffff, 0x0, 0x0, 0x0⟩,
   ⟨0x84, 16, 3, 0x0, 0xffffffff, 0x0, 0x0, 0x0⟩,
   ⟨0x88, 16, 3, 0x0, 0xffffffff, 0x0, 0x0, 0x0⟩,
   ⟨0x8c, 16, 3, 0x0, 0xc0000000, 0x30000000, 0x0, 0x0⟩]

/-- The registers of ANV by their offset. -/
def rowsANV : List RegRow :=
  [⟨0x0, 4, 1, 0x800003e8, 0x80000000, 0x0, 0x0, 0xffff⟩,
   ⟨0x4, 4, 1, 0x30, 0x0, 0x0, 0x0, 0x0⟩,
   ⟨0x8, 4, 1, 0x0, 0x0, 0x0, 0x0, 0x0⟩,
   ⟨0xc, 4, 1, 0x0, 0x0, 0x0, 0x0, 0x0⟩,
   ⟨0x10, 4, 1, 0x0, 0x0, 0x0, 0x0, 0x0⟩,
   ⟨0x14, 4, 1, 0x0, 0x0, 0x0, 0x0, 0x0⟩,
   ⟨0x18, 4, 1, 0x0, 0x0, 0x0, 0x0, 0x0⟩,
   ⟨0x1c, 4, 1, 0x0, 0x0, 0xffff0000, 0x0, 0x0⟩,
   ⟨0x20, 4, 1, 0x0, 0x0, 0x0, 0x0, 0x0⟩,
   ⟨0x24, 4, 1, 0x0, 0x0, 0x0, 0x0, 0x0⟩,
   ⟨0x30, 4, 1, 0x0, 0x0, 0x3fff, 0x0, 0x0⟩,
   ⟨0x34, 4, 1, 0x0, 0x3fff, 0x0, 0x0, 0x0⟩,
   ⟨0x38, 4, 1, 0x0, 0x0, 0xffffff, 0x0, 0x0⟩]

/-- The registers of COL by their offset. -/
def rowsCOL : List RegRow :=
  [⟨0x0, 4, 1, 0x700, 0x0, 0x0, 0x0, 0x0⟩,
   ⟨0x4, 4, 1, 0x0, 0x0, 0x0, 0x0, 0x0⟩,
   ⟨0x8, 4, 1, 0x0, 0x0, 0x0, 0x0, 0x0⟩,
   ⟨0xc, 4, 1, 0x0, 0x0, 0x0, 0x0, 0x0⟩,
   ⟨0x10, 4, 1, 0x0, 0x0, 0x80000000, 0x0, 0x0⟩,
   ⟨0x14, 4, 1, 0x0, 0x0, 0xff, 0x0, 0x0⟩,
   ⟨0x18, 4, 1, 0x0, 0xff, 0x0, 0x0, 0x0⟩,
   ⟨0x1c, 4, 1, 0x0, 0x0, 0x0, 0x0, 0x0⟩]

/-- The registers of BEL by their offset. -/
def rowsBEL : List RegRow :=
  [⟨0x0, 4, 8, 0x30000, 0x303, 0x0, 0x0, 0x0⟩,
   ⟨0x40, 4, 8, 0x0, 0x703, 0x0, 0x0, 0x0⟩,
   ⟨0x60, 4, 9, 0x1, 0x3ff, 0x0, 0x0, 0x0⟩,
   ⟨0xa0, 4, 1, 0x0, 0x0, 0x0, 0x0, 0x0⟩,
   ⟨0xa4, 4, 1, 0x3f0000, 0x0, 0x0, 0x0, 0x0⟩,
   ⟨0xa8, 4, 1, 0x0, 0x0, 0x80000000, 0x0, 0x0⟩,
   ⟨0xb0, 4, 1, 0x0, 0x0, 0xf, 0x0, 0x0⟩,
   ⟨0xb4, 4, 1, 0x0, 0xf, 0x0, 0x0, 0x0⟩]

/-- The registers of BKD by their offset. -/
def rowsBKD : List RegRow :=
  [⟨0x0, 4, 1, 0x20000000, 0x0, 0xc200000, 0x0, 0x0⟩,
   ⟨0x4, 4, 1, 0x0, 0x0, 0x0, 0x0, 0x0⟩,
   ⟨0x8, 4, 1, 0x80000000, 0x83ff01ff, 0x0, 0x0, 0x0⟩,
   ⟨0xc, 4, 1, 0x0, 0x0, 0x0, 0x0, 0x0⟩,
   ⟨0x10, 4, 1, 0x0, 0x0, 0x0, 0x0, 0x0⟩,
   ⟨0x14, 4, 1, 0x0, 0x0, 0x0, 0x0, 0x0⟩,
   ⟨0x18, 4, 1, 0x0, 0x0, 0x0, 0x0, 0x0⟩,
   ⟨0x1c, 4, 1, 0x0, 0xffffffff, 0x0, 0x0, 0x0⟩,
   ⟨0x20, 4, 1, 0x0, 0xffff, 0x0, 0x0, 0x0⟩,
   ⟨0x24, 4, 1, 0x7b20101, 0x0, 0x0, 0x0, 0x0⟩,
   ⟨0x28, 4, 1, 0x0, 0x0, 0x0, 0x0, 0x0⟩,
   ⟨0x30, 4, 1, 0x0, 0x0, 0x0, 0x0, 0x0⟩,
   ⟨0x34, 4, 1, 0x0, 0x0, 0x0, 0x0, 0x0⟩,
   ⟨0x38, 4, 1, 0x0, 0x0, 0x0, 0x0, 0x0⟩,
   ⟨0x40, 4, 1, 0x0, 0x0, 0x0, 0x0, 0x0⟩,
   ⟨0x44, 4, 1, 0x0, 0x0, 0x0, 0x0, 0x0⟩,
   ⟨0x48, 4, 1, 0x0, 0x0, 0x0, 0x0, 0x0⟩,
   ⟨0x4c, 4, 1, 0x0, 0x0, 0x0, 0x0, 0x0⟩,
   ⟨0x50, 4, 1, 0x0, 0x0, 0x0, 0x0, 0x0⟩,
   ⟨0x54, 4, 1, 0x0, 0x0, 0x0, 0x0, 0x0⟩] ++
  [⟨0x58, 4, 1, 0x0, 0x0, 0x0, 0x0, 0x0⟩]

/-- The registers of TRU by their offset. -/
def rowsTRU : List RegRow :=
  [⟨0x0, 4, 1, 0x0, 0x0, 0x60000000, 0x0, 0x0⟩,
   ⟨0x4, 4, 1, 0x0, 0x0, 0x0, 0x0, 0x0⟩,
   ⟨0x8, 4, 1, 0x0, 0xffffffff, 0x0, 0x0, 0x0⟩,
   ⟨0xc, 4, 1, 0x0, 0xffffffff, 0x0, 0x0, 0x0⟩,
   ⟨0x20, 4, 6, 0x0, 0x0, 0x0, 0x0, 0x0⟩,
   ⟨0x40, 4, 6, 0x0, 0x0, 0x0, 0x0, 0x0⟩,
   ⟨0x60, 4, 3, 0x0, 0x0, 0x0, 0x0, 0x0⟩,
   ⟨0x70, 4, 1, 0x0, 0x0, 0x0, 0x0, 0x0⟩,
   ⟨0x74, 4, 1, 0x0, 0x0, 0x0, 0x0, 0x0⟩,
   ⟨0x78, 4, 1, 0x0, 0x0, 0x0, 0x0, 0x0⟩,
   ⟨0x7c, 4, 1, 0x14, 0x7ff, 0x0, 0x0, 0x0⟩,
   ⟨0x80, 4, 1, 0x0, 0x0, 0x0, 0x0, 0x0⟩,
   ⟨0x84, 4, 1, 0x0, 0x0, 0x0, 0x0, 0x0⟩,
   ⟨0x88, 4, 1, 0x0, 0x0, 0x0, 0x0, 0x0⟩,
   ⟨0x90, 4, 1, 0x0, 0x0, 0x0, 0x0, 0x0⟩,
   ⟨0x94, 4, 1, 0x0, 0x0, 0x0, 0x0, 0x0⟩,
   ⟨0x98, 4, 1, 0x0, 0x0, 0xff, 0x0, 0x0⟩,
   ⟨0x9c, 4, 1, 0x0, 0xff, 0x0, 0x0, 0x0⟩,
   ⟨0xa0, 4, 1, 0x0, 0x0, 0x80000000, 0x0, 0x0⟩]

/-- The registers of EVR by their offset. -/
def rowsEVR : List RegRow :=
  [⟨0x0, 4, 1, 0x0, 0x0, 0x0, 0x0, 0x0⟩,
   ⟨0x4, 4, 1, 0x0, 0x0, 0x0, 0x0, 0x0⟩,
   ⟨0x8, 4, 1, 0x0, 0x0, 0x0, 0x0, 0x0⟩,
   ⟨0xc, 4, 1, 0x0, 0x0, 0x0, 0x0, 0x0⟩,
   ⟨0x10, 4, 1, 0x0, 0x0, 0x0, 0x0, 0x0⟩,
   ⟨0x14, 4, 1, 0x0, 0x0, 0xffff, 0x0, 0x0⟩,
   ⟨0x18, 4, 1, 0x0, 0x0, 0x377f, 0x0, 0x0⟩,
   ⟨0x1c, 4, 1, 0x0, 0x3fff, 0x0, 0x0, 0x0⟩,
   ⟨0x20, 4, 1, 0xf000, 0xffff, 0x0, 0x0, 0x0⟩,
   ⟨0x24, 4, 7, 0x0, 0xffffffff, 0x0, 0x0, 0x0⟩,
   ⟨0x40, 4, 1, 0x0, 0x0, 0x0, 0x0, 0x0⟩,
   ⟨0x80, 32, 2, 0x0, 0xffffffff, 0x0, 0x0, 0x0⟩,
   ⟨0x84, 32, 2, 0x0, 0xffff, 0x0, 0x0, 0x0⟩,
   ⟨0x88, 32, 2, 0x0, 0xffffffff, 0x0, 0x0, 0x0⟩,
   ⟨0x8c, 32, 2, 0x0, 0xffffffff, 0x0, 0x0, 0x0⟩,
   ⟨0x90, 32, 2, 0x0, 0x100, 0x0, 0x0, 0x0⟩,
   ⟨0x94, 32, 2, 0x0, 0x0, 0x0, 0x0, 0x0⟩,
   ⟨0x100, 4, 32, 0x0, 0x0, 0x0, 0x0, 0x0⟩,
   ⟨0x200, 4, 1, 0x1ff, 0x1ff, 0x0, 0x0, 0x0⟩,
   ⟨0x204, 4, 1, 0x0, 0x0, 0x80000000, 0x0, 0x0⟩] ++
  [⟨0x300, 4, 9, 0x0, 0x0, 0x0, 0x0, 0x0⟩,
   ⟨0x340, 4, 1, 0x0, 0x0, 0x0, 0x0, 0x0⟩]

end Sys2Proof.Machine
end

