-- ==== Sys2Proof/Machine/State.lean ====
section
/-!
DEFINITION. The state of one PZ5120 module as plain data (INVENTORY.md, State), its reset, and the reasons a step can
stop. Every register of a block lies in `regs` under its address; what no register holds has a field here. -/
namespace Sys2Proof.Machine

/-- Why a command would stop the model. No meaning of this model raises one: the module answers every condition of
the manual in its own state. -/
inductive Fault where
  /-- Kept so that the type is not empty; raised by nothing (safe). -/
  | none
  deriving DecidableEq, Repr

/-- Why a command would have no meaning. -/
inductive Refusal where
  /-- The dispatch raises it for a row that has no meaning yet (safe: the model stops). -/
  | notModelled (mnemonic : String)
  deriving DecidableEq, Repr

/-- The answer of the last register or memory access that a command made (the model's own, notes/assumptions/3.md). -/
structure Resp where
  data : W64 := 0
  err : Bool := false
  deriving DecidableEq, Repr

/-- The time base (R341): NS in 8.24 fixed point, EPOCH, WRAP_PENDING, a step that waits (R345), and the groups that have
still to re-phase after an accepted step (R274), the ports whose next reference carries STEP (R309), and the plant time of the
reference errors that `CLK.REFERR` holds (R78). -/
structure TimeBase where
  ns : W32 := 0
  frac : BitVec 24 := 0
  epoch : W32 := 0
  wrapPending : Bool := false
  step : Option W64 := none
  rephase : W32 := 0
  refStep : BitVec 9 := 0
  refAt : W64 := 0
  deriving DecidableEq, Repr

/-- The grid (08, R207 to R214): the last base tick processed, whether a backward step holds the grid, the ticks whose
output images a forward step has skipped, the lines whose output images are sent (R369), and whether the hold before an
epoch boundary has begun (R358). -/
structure Grid where
  last : W64 := 0
  held : Bool := false
  skippedFrom : Option W64 := none
  live : BitVec 12 := BitVec.allOnes 12
  holding : Bool := false
  /-- No base tick before this instant is due any more: where the last forward step led (R214, R356). -/
  dueFrom : W64 := 0
  deriving DecidableEq, Repr

/-- The roles of R10. -/
inductive Role where
  | unassigned
  | joining
  | standby
  | active
  | outOfService
  deriving DecidableEq, Repr

/-- `COL.STAT.YIELD` (R380). -/
inductive YieldPhase where
  | none
  | preparing
  | hold
  | overlap
  deriving DecidableEq, Repr

/-- The REMOVE indicator (R52, R53). -/
inductive Lamp where
  | off
  | steady
  | flash1
  | flash4
  deriving DecidableEq, Repr

/-- What the field terminals do (R10, R50): undriven, or driving as the mode gives. -/
inductive Drive where
  | highZ
  | standby
  | driving
  deriving DecidableEq, Repr

/-- Power entry, presence and lever (02). -/
structure Power where
  mainValid : Bool := true
  paLost : Bool := false
  pbLost : Bool := false
  paOver : Bool := false
  pbOver : Bool := false
  paMv : Nat := 24000
  pbMv : Nat := 24000
  thermal : Bool := false
  loop : Bool := true
  peerPres : Bool := false
  lever : Bool := false
  pos : BitVec 2 := 1
  posInvalid : Bool := false
  lampTest : Bool := true
  remove : Lamp := .steady
  /-- The end of the lamp test, on the time base as it runs and is set (R53). -/
  lampTill : W64 := 500000000
  phases : Nat := 10
  deriving DecidableEq, Repr

/-- Role and handover (01, 13). -/
structure Pair where
  role : Role := .unassigned
  claim : Bool := false
  returned : Bool := false
  sense : Bool := false
  yield : YieldPhase := .none
  yieldWaits : Bool := false
  yts : W64 := 0
  hts : W64 := 0
  /-- The yield has been abandoned in its hold, which lasts until the yield tick (R374). -/
  yieldOff : Bool := false
  peer : Option Role := none
  peerReady : Bool := false
  peerClaim : Bool := false
  peerTrial : Bool := false
  peerRecovering : Bool := false
  peerFmt : W8 := 0
  peerAcc : W8 := 0
  ownFault : Bool := false
  ctlFault : Bool := false
  pairAlarm : Bool := false
  sparesWarning : Bool := false
  running : Bool := false
  drive : Drive := .highZ
  deriving DecidableEq, Repr

/-- The state of the Anvil link (R353). -/
inductive Link where
  | full
  | degraded
  | lost
  deriving DecidableEq, Repr

/-- What a frame of the Anvil link carries (R355): class 1 a heartbeat or a release order, 2 a shadow record, 3 a control message,
4 a line or seal record, 5 content of a full copy, in the format chosen (R421), 6 a message of an image relay. -/
inductive LinkFrame where
  | heartbeat (role : Role) (claim ready trial : Bool) (why : W32) (fmt acc : W8) (merit sealed committed stamp : W64)
  | releaseOrder
  | shadowRecord (tick : W64) (commands : List (Nat × W32))
  | control (what : Nat) (args : List Nat)
  | lineRecord (line : Nat) (epoch : W64) (data : List W8)
  | sealRecord (epoch ends : W64) (lines : Nat) (check : W64) (force : W32) (flags : Nat) (change : W32) (fmt : Option W8)
  | copy (fmt : Option W8) (item : CopyItem)
  | relay (bytes : List W8)
  deriving DecidableEq, Repr

/-- A frame that awaits its acknowledgement (R354): its number, the lane that it went out on, none while no lane carries it, and
when. -/
structure Flight where
  seq : Nat
  lane : Option Nat
  sentAt : W64
  frame : LinkFrame
  deriving DecidableEq, Repr

/-- The Anvil engine (13). `hbWin` is the number of the heartbeat window (R356) after that of the partner's latest heartbeat, 0
when none has come. -/
structure Anvil where
  link : Link := .lost
  lock : BitVec 3 := 0
  service : BitVec 3 := 0
  failed : BitVec 3 := 0
  spare : BitVec 2 := 3
  retries : List (Nat × Nat) := []
  sealed : W64 := 0
  committed : W64 := 0
  /-- The epochs sealed and not yet acknowledged, with the instants of their seals (R362, R377, R379). -/
  owed : List (W64 × W64) := []
  sealing : Bool := false
  overrun : Bool := false
  finalAcked : Bool := false
  copyDone : Bool := false
  copyEpoch : W64 := 0
  missed : Bool := false
  rxLines : List (Nat × List W8) := []
  shadowTick : W64 := 0
  endTime : W64 := 0
  shadow : List (Nat × W32) := []
  pending : List (Nat × Nat) := []
  hold : Bool := false
  bank : Bool := false
  dirty0 : List (Nat × Bool) := []
  dirty1 : List (Nat × Bool) := []
  hbWin : W64 := 0
  forceCount : W32 := 0
  /-- The masters whose LOCK the full copy in progress has set (R5, R376). -/
  copyLocks : List Nat := []
  /-- The next link sequence number, the frames that await acknowledgement, and how many frames have been received (R354). -/
  txSeq : Nat := 0
  rxSeq : Nat := 0
  flight : List Flight := []
  deriving DecidableEq, Repr

/-- One record of the recorder (R447), less CHECK, which is computed. -/
structure Rec where
  seq : Nat
  opsec : Nat
  flags : W8
  code : W16
  pwrcyc : W32
  ptime : W64
  data : List W8
  deriving DecidableEq, Repr

/-- The event recorder (17). Cairn and Scree are held by sequence number and by slot. -/
structure Recorder where
  queue : List Rec := []
  next : Nat := 0
  low : Nat := 0
  cairn : List (Nat × Option Rec) := []
  scree : List (Nat × Option Rec) := []
  dropFirst : W16 := 0
  dropCount : Nat := 0
  closed : Bool := false
  reserved : List (Nat × Nat) := []
  deriving DecidableEq, Repr

/-- One entry of the spares ledger (R461), less CHECK, which is computed. -/
structure LedgerEntry where
  entry : Nat
  opsec : Nat
  pool : Nat
  action : Nat
  cause : Nat
  old : W32
  new : W32
  evrseq : Nat
  deriving DecidableEq, Repr

/-- The spares ledger (R460 to R463): the log, the elements consumed of each sub-pool (key pool × 65,536 + sub-pool), the
mismatch history of each core, and the number of entries each copy of the state block includes. -/
structure Ledger where
  log : List LedgerEntry := []
  count : Nat := 0
  used : List (Nat × Nat) := []
  history : List (Nat × List Nat) := []
  blockA : Nat := 0
  blockB : Nat := 0
  copying : List (Nat × W32) := []
  /-- The spare slot under proof test, and the state, READY or PARKED, that it had before (R198). -/
  tested : Option (Nat × Nat) := none
  deriving DecidableEq, Repr

/-- One line of a data cache (R94, R95): whether it holds stores that its memory has not, and its 64 bytes. -/
structure CacheLine where
  dirty : Bool
  data : List W8
  deriving DecidableEq, Repr

/-- The execution context of one target (R79, R83, R153). Registers that are zero are not listed; `owner` holds for each home
tier the number of the source whose activation it holds, plus 1; `dcache` the Hearth and DRAM lines in the data cache, by line
number, `icache` those in the instruction cache (R94); `sig` the signature of R189. -/
structure Ctx where
  g : List (Nat × W64) := []
  f : List (Nat × W64) := []
  pc : W32 := 0
  st : W32 := 0x100
  ib : W32 := 0
  sb : W32 := 0
  tier : BitVec 4 := 15
  cyc : W64 := 0
  icnt : W64 := 0
  stackRegs : List (Nat × List (W32 × W32)) := []
  latches : List (Nat × W64) := []
  home : BitVec 4 := 15
  running : Bool := false
  saved : W16 := 0
  owner : List (Nat × Nat) := []
  halted : Bool := false
  stopping : Bool := false
  sig : W64 := 0
  steps : Nat := 0
  dbg : Bool := false
  dcache : List (Nat × CacheLine) := []
  icache : List Nat := []
  deriving DecidableEq, Repr

/-- A target that waits and holds nothing, as every target but T0 is at reset. -/
def Ctx.idle : Ctx := {}

/-- The repair in progress on a triad (R192): the odd lane, the core that receives (none: the lane's own), the phase
(0 awaiting a spare's wake, 1 connection, 2 copy, 3 rejoin), the cause (KIND) and the time at which the halt ended. -/
structure Repair where
  lane : Nat
  core : Option Nat
  phase : Nat
  kind : Nat
  since : W64
  deriving DecidableEq, Repr

/-- What a triad holds beyond its registers (07, 03 R68). -/
structure TriadSt where
  bankB : Bool := false
  repair : Option Repair := none
  holdoff : Bool := false
  deferred : List (Nat × Nat) := []
  voterMasked : BitVec 3 := 0
  /-- The lanes whose register state has diverged from the others' and not yet been found out (R189). -/
  upset : BitVec 3 := 0
  mdone : Bool := false
  deriving DecidableEq, Repr

/-- A DMA channel's loaded descriptor and the configuration taken at START (R179 to R182); `bad` marks a descriptor that
was read and is invalid. -/
structure Chan where
  ctrl : W32 := 0
  next : W32 := 0
  pat : W64 := 0
  big : Bool := false
  mguard : Bool := false
  mtriad : BitVec 2 := 0
  irq : Bool := false
  loaded : Bool := false
  bad : Bool := false
  deriving DecidableEq, Repr

/-- The books of one crossing (R61, R62). -/
structure Crossing where
  c : Nat
  o : Nat
  r : Nat
  depth : Nat
  deriving DecidableEq, Repr

/-- A corrected error that the controllers of R76 still count: of DRAM the device, bank and row, of MRAM (device 11) the bank
of a double-bit error; and the operating second. -/
structure MemError where
  device : Nat
  bank : Nat
  row : Nat
  second : Nat
  deriving DecidableEq, Repr

/-- What goes out of the module (the model's own trace, notes/assumptions/9.md), newest first in State. -/
inductive Sent where
  /-- A frame on an Anvil lane with its link sequence number and its CRC-32 (R354). -/
  | link (lane seq : Nat) (crc : W32) (frame : LinkFrame)
  /-- The acknowledgement of the frames received on the Anvil link, by their count (R354). -/
  | linkAck (seq : Nat)
  /-- A Rinfa frame on network ports N0 (bit 0) and N1 (bit 1), from its tag or EtherType on (R332). -/
  | rinfa (ports : Nat) (frame : List W8)
  | can (port : Nat) (id : Nat) (fd : Bool) (data : List W8)
  | hart (group modem : Nat) (bytes : List W8)
  /-- A PTP message, in UDP over IPv6 or in IEEE 802.3 (R338). -/
  | ptp (port : Nat) (udp : Bool) (kind : Nat) (bytes : List W8)
  /-- A relay message to UDP port 47,010 of a node (0 all nodes) on network port N2 or N3 (R422, R435). -/
  | udp (port node : Nat) (bytes : List W8)
  deriving DecidableEq, Repr

/-- Work of an engine that waits until its guard is enabled (R175): the rest of an output or an input phase, a store, the
output of a station, the input phase of one, a seal with the lines as they stood at the boundary (R359), a commit with the
line records of its epoch, and what a full copy or a mirrored store brings. -/
inductive Waiting where
  | outputs (engine : Nat) (tick : W64) (rest : List Nat) (skipped : Option W64)
  | inputs (engine : Nat) (tick : W64) (items : List (Nat × Nat × List W8))
  | store (a : Nat) (data : List W8)
  | station (n tick : Nat)
  | stationIn (n tick : Nat)
  | seal (epoch ends : W64) (lines : List (Nat × List W8)) (flags : Nat) (force change : W32)
  | commit (epoch ends : W64) (lines : W32) (check : W64) (force : W32) (swap final : Bool) (change : W32)
      (held : List (Nat × List W8))
  | copy (items : List CopyItem) (kib : W16)
  | bank (a : Nat) (data : List W8)
  deriving DecidableEq, Repr

/-- Entry into Banked or Ember in progress (R389): the target (15 the module), the state asked for, the core targets
that executed WAIT, and whether the commit phase has begun. -/
structure SleepEntry where
  target : Nat
  mode : Nat
  cores : List Nat
  commit : Bool
  deriving DecidableEq, Repr

/-- How a target sleeps (R385 to R391): in Idle, in Idle while the other cores of its split island still run, stopped by
the entry in progress, in Banked, or waking from Idle or from Banked. -/
inductive Nap where
  | awake
  | idle
  | waits
  | entering
  | banked
  | wakesIdle
  | wakesBanked
  deriving DecidableEq, Repr

/-- Bellows (R381 to R392). `goal` holds the pair of levels that the writes taken lead to, where it is not in effect yet, `stallF`
and `stallV` the values that stall; `entries` the sleep entries in progress, which share no block. -/
structure Bellows where
  stallF : List (Nat × Nat) := []
  stallV : List (Nat × Nat) := []
  goal : List (Nat × (Nat × Nat)) := []
  holdoff : List Nat := []
  entries : List SleepEntry := []
  asleep : List (Nat × Nap) := []
  ember : Bool := false
  waking : Bool := false
  deriving DecidableEq, Repr

/-- The PWR_ON_REQ output (R401). -/
inductive PwrReq where
  | sinking
  | watching
  | delay
  | released
  deriving DecidableEq, Repr

/-- The backup domain beyond its registers (R393 to R401); until `busyTill` a write is in transfer (R403); `lossKnown` says
that plant time was established when the loss snapshot was latched. -/
structure Backup where
  sub : BitVec 15 := 0
  sec : BitVec 48 := 0
  opsec : BitVec 40 := 0
  pwrcyc : W32 := 0
  lockout : Bool := false
  onCell : Bool := false
  stopped : Bool := false
  req : PwrReq := .sinking
  holdup : W16 := 0
  cellMv : W16 := 0
  trim : BitVec 9 := 0
  raw : Nat := 0
  lossKnown : Bool := false
  pulses : Nat := 0
  savedOpsec : BitVec 40 := 0
  savedPwrcyc : W32 := 0
  busyTill : W64 := 0
  deriving DecidableEq, Repr

/-- What runs on the control side of the start path (R430 to R435). -/
inductive Stage where
  | hearth
  | tests
  | keeper
  | system
  | recovery
  | stopped
  deriving DecidableEq, Repr

/-- One retain copy (R443): START, END, the CHANGE_ID in force, the digest of the application manifest in service, and
the retained lines by line number. -/
structure Retain where
  starts : W64
  ends : W64
  id : W32
  manifest : BitVec 512
  lines : List (Nat × List W8)
  deriving DecidableEq, Repr

/-- The start path (16): stage, whether plant time is established and from which source of R437, listening, the start policy
of R438, the two retain copies in MRAM, the merit and serial that the partner reports, two diagnostics (R436, R441), and a
Hearth whose digest is not the fused one (R431). -/
structure Start where
  stage : Stage := .hearth
  timeKnown : Bool := false
  timeSource : Nat := 0
  coldAuto : Bool := false
  startReq : Bool := false
  waiting : Bool := false
  waited : Bool := false
  ptpWaited : Bool := false
  listening : Bool := false
  probing : Bool := false
  backoff : Bool := false
  finding : W32 := 0
  recoverWhy : Nat := 0
  recoverKind : Nat := 0
  starting : Bool := false
  retain : Nat := 0
  starterGone : Bool := false
  trigger : Nat := 0
  startWait : Nat := 30
  ptpWait : Nat := 10
  retainPer : Nat := 100
  peerMerit : W64 := 0
  peerSerial : BitVec 128 := 0
  copies : List (Nat × Option Retain) := []
  loopDiag : Bool := false
  noApp : Bool := false
  hearthBad : Bool := false
  deriving DecidableEq, Repr

/-- A relay that the module serves (R422): the network port that the request came in on, none for the Anvil link, the node that
asked, the area served and the next chunk of it. -/
structure Serving where
  via : Option (Fin 4)
  node : Nat
  area : Nat
  next : Nat
  deriving DecidableEq, Repr

/-- The trust engine beyond its registers (15): the operation in progress (OP, ARG and the code that it will give), the body
of the quote being signed and the extensions that wait for it, M0 to M7, the number of the free value that is the challenge,
the digests of the owner slots, the MRAM counters of the rollback floors, the image store in chunks of 4 KiB by 2^18 × area +
chunk (areas 0 to 5 the slots, 6 staging, 7 the configuration area), the relay that fills staging (path, KIND, node; path 3
while recovery awaits the first server that answers) with the fragments of its chunk that have come (index, CRC-32, fragments
by number), the relays that it serves, the high word of the challenge as captured, the instant of a first SEAL write, a seal
that has begun, the state of the TAP controller of the Tuyere port, its instruction and those used since the reset, the
operating second at which the trial began, and whether a module reset follows the yield that ends it. -/
structure Trust where
  op : Option (Nat × W32 × Nat) := none
  quote : List W8 := []
  waiting : List (Nat × List W8) := []
  m : List (Nat × BitVec 512) := []
  chal : Nat := 0
  owners : List (Nat × BitVec 512) := []
  counters : List (Nat × Nat) := []
  store : List (Nat × List W8) := []
  relay : Option (Nat × Nat × Nat) := none
  parts : Option (W32 × W32 × List (Nat × List W8)) := none
  serving : List Serving := []
  chalHi : Option W32 := none
  sealFirst : Option W64 := none
  sealing : Bool := false
  tap : BitVec 4 := 0xF
  ir : W8 := 1
  used : List W8 := []
  trialAt : Nat := 0
  yieldReset : Bool := false
  deriving DecidableEq, Repr

/-- The change between cycles beyond its registers (R224 to R233): the CHANGE_ID and TRIADS taken at VERIFY, the bytes whose
digest VERIFY took, the CHANGE_ID that the Standby partner holds READY, S of each migrating triad, the triads whose
sources are held, those whose migration routine has not ended, the results of the last verification and of the
configuration in force, and the CHANGE_ID in force. -/
structure Change where
  id : W32 := 0
  triads : Nat := 0
  taken : List W8 := []
  partnerReady : Option W32 := none
  starts : List (Nat × W64) := []
  holding : List Nat := []
  routine : List Nat := []
  /-- The instant at which the holds of R229 end. -/
  holdTill : W64 := 0
  /-- The spare slot that verifies for a Standby, or 4 for T0 (R226). -/
  runner : Option Nat := none
  found : Verified := {}
  inForce : Verified := {}
  idNow : W32 := 0
  deriving DecidableEq, Repr

/-- A force command that waits for its output phase (R220): OP, NODE and the arguments at the write. -/
structure ForceCmd where
  op : Nat
  node : Nat
  id : W32
  value : W64
  since : W64
  deriving DecidableEq, Repr

/-- One entry of a group's event queue (R249). -/
structure EdgeEvent where
  stamp : W64
  slice : Nat
  level : Bool
  subst : Bool
  stby : Bool
  deriving DecidableEq, Repr

/-- How far a substitution by the spare slice has come (R260, R261). -/
inductive SpareWork where
  | replacing
  | tracking
  | overlap
  deriving DecidableEq, Repr

/-- A group beyond its registers: the event queue, oldest first, the substitution in progress, and the slice that each
busy modem is attached to (R249, R260, R295). -/
structure Group where
  queue : List EdgeEvent := []
  work : Option (Nat × SpareWork) := none
  modems : List (Nat × Nat) := []
  deriving DecidableEq, Repr

/-- The slice that serves a channel, beyond its registers (09, 10). `eff` holds what a register whose write awaits
confirmation still has in effect; `conv` waits for the first conversion after a change of mode; `inj` is the injected run
in progress (a grid run or not, and its entry), `held` the run that a grid run interrupted, `trig` a trigger that waits,
`edges` the stamps of the edges that a Standby counts beyond the committed count (R290); `failed` marks a slice isolated for a
hardware fault (R259), `limitAt` the instant from which its output is held at its limit, `heldAt` that from which the switch is
held closed below it (R251), `zero` the latest zero result (R268), `applied` the current applied in nA and `dac` the DAC code, in
steps of 91.55 nA (R284). -/
structure Slice where
  ready : Bool := false
  eff : List (Nat × W32) := []
  conv : Bool := false
  raw : Bool := false
  level : Bool := false
  waiting : Bool := false
  new : Bool := false
  start : W64 := 0
  edge : W64 := 0
  cmd : W32 := 0
  direct : Option W32 := none
  closed : Bool := false
  offAt : Option W64 := none
  zeroSince : Option W64 := none
  band : Nat := 1
  bandAt : W64 := 0
  quiet : W64 := 0
  stim : Bool := false
  stimFail : Option Nat := none
  count : W32 := 0
  grid : W32 := 0
  disc : Bool := false
  refBad : Bool := false
  cur : W32 := 0
  reg : Nat := 0
  rot : Nat := 0
  inj : Option (Bool × Nat) := none
  held : Option Nat := none
  trig : Bool := false
  dac : W32 := 0
  edges : List W64 := []
  failed : Bool := false
  limitAt : Option W64 := none
  heldAt : W64 := 0
  zero : W32 := 0
  applied : W32 := 0
  /-- The stamp of the first sample that the filter takes (R258). -/
  filterFrom : W64 := 0
  deriving DecidableEq, Repr

/-- A frame that a port has released and not yet sent (R303, R305, R313). -/
structure TxFrame where
  id : Nat
  data : List W8
  tries : Nat
  release : W64
  /-- It carries output data, and is withdrawn at its deadline (R313). -/
  cyclic : Bool
  /-- An acyclic request whose transaction is over (R321). -/
  aborted : Bool := false
  deriving DecidableEq, Repr

/-- A received fragment of a station's input data (R307). -/
structure Fragment where
  station : Nat
  tag : Nat
  index : Nat
  last : Nat
  data : List W8
  deriving DecidableEq, Repr

/-- A station-bus port, 0 to 7, or the Rinfa exchange on the network, 8, beyond its registers (R302 to R325). `held` marks
the incoming module of a yield that waits for the queue-empty report. -/
structure Port where
  queue : List TxFrame := []
  onbus : Option TxFrame := none
  stopping : Bool := false
  held : Bool := false
  draining : Bool := false
  refSeq : W8 := 0
  refGood : Bool := false
  refStamp : W64 := 0
  /-- The stamp of the last reference message sent or observed (`STB.REF_LO`, `STB.REF_HI`, R327). -/
  ref : W64 := 0
  frags : List Fragment := []
  acTill : Option W64 := none
  /-- A recessive res bit has put the port out until it has integrated into the bus again (R298). -/
  excepted : Bool := false
  /-- The transmitter is switched off until the controller releases it (R299). -/
  txOff : Bool := false
  /-- Frames released before the queue-empty report of a yield (R324), or, on the network, while neither link is up. -/
  waits : List TxFrame := []
  deriving DecidableEq, Repr

/-- A remote station by its table index (R314, R318, R319): the tick of its last complete set, the start of its watchdog
without one, whether it is lost, the complete sets in a row since, its last complete data, the last phase done. -/
structure Station where
  seen : Option W64 := none
  since : W64 := 0
  lost : Bool := true
  runs : Nat := 0
  data : List W8 := []
  /-- The last complete data in service, which a substitute that holds the last value holds (R318, R319). -/
  hold : List W8 := []
  phase : W64 := 0
  deriving DecidableEq, Repr

/-- What a PTP port has measured (R338): origin and receipt of its last Sync, the receipt of one that a Follow_Up completes,
when its request went out, and the two times of an answer in two steps: the receipt of the request, and that of the answer. -/
structure PtpPort where
  sync : Option (W64 × W64) := none
  first : Option W64 := none
  asked : Option W64 := none
  answer : Option (W64 × W64) := none
  deriving DecidableEq, Repr

/-- The network engine and the time service beyond their registers (12): SEQ of the next own frame, the frames accepted
within the last 4 ms by (SRC, SEQ), the own frames that have not returned with the port to return on, the announce
last heard on each port (rank and stepsRemoved), what the PTP ports have measured, the Syncs in a row within ±50 ns, the
collector's record number, the stamps between which it sets TAKEOVER, the records of stations that it has not collected, as
node, origin and record (R349), and the tunnelled frames that wait to be answered, with their senders and
the FRAG of the last piece that has come (R328, R333). -/
structure Net where
  seq : W16 := 0
  accepted : List (Nat × Nat × W64) := []
  owed : List (Nat × Nat × W64) := []
  announces : List (Nat × (Nat × Nat)) := []
  ptp : List (Nat × PtpPort) := []
  inRow : Nat := 0
  count : W16 := 0
  tkFrom : W64 := 0
  tkTo : W64 := 0
  records : List (Nat × Nat × List W8) := []
  tunnels : List (Nat × W8 × List W8) := []
  deriving DecidableEq, Repr

/-- The whole module. -/
structure State where
  /-- Commands waiting, first in first out. -/
  pending : List Instr
  /-- How many free values have been drawn (Config.freeValue). -/
  free : Nat
  resp : Resp
  /-- Registers and register buffers by address; an unlisted one holds its reset value. -/
  regs : List (Nat × W32)
  /-- Memory bytes by physical address; an unlisted one reads 0. -/
  mem : List Host.Cell
  sent : List Sent
  time : TimeBase
  power : Power
  pair : Pair
  anvil : Anvil
  recorder : Recorder
  ledger : Ledger
  /-- The contexts of the targets 0 to 31. -/
  cores : List (Nat × Ctx)
  /-- Pending sources with the plant time at which each fired (R154). -/
  tic : List (Nat × W64)
  triads : List (Nat × TriadSt)
  dma : List (Nat × Chan)
  crossings : List (Nat × Option Crossing)
  /-- What waits for the guard of an engine, by master, oldest first (R175). -/
  stalls : List (Nat × Waiting)
  /-- The corrected errors of the last 24 h (R76). -/
  memErrors : List MemError
  islandsOff : BitVec 48
  holdover : Bool
  dramReady : Bool
  bellows : Bellows
  backup : Backup
  start : Start
  grid : Grid
  change : Change
  force : Option ForceCmd
  /-- The slices by 17 × group + channel; 16 is the spare itself. -/
  slices : List (Nat × Slice)
  groups : List (Nat × Group)
  /-- The user trim of each current output, kept in MRAM (R289). -/
  trims : List (Nat × (W32 × W32))
  /-- The channels that the configuration declares critical (R23: none by default). -/
  critical : List Nat
  ports : List (Nat × Port)
  stations : List (Nat × Station)
  net : Net
  trust : Trust
  deriving DecidableEq, Repr

/-- The module on leaving power-on reset: main-valid asserted for the first time, which the backup domain has counted, its lockout
still standing, and Hearth about to run on T0 (R394, R399, R428 to R430, log entry 4). -/
def State.reset : State :=
  { pending := [], free := 1, resp := {}, regs := [], mem := [], sent := [], time := {}, power := {}, pair := {},
    anvil := {}, recorder := {}, ledger := {}, cores := [(0, { running := true })], tic := [], triads := [], dma := [],
    crossings := [], stalls := [], memErrors := [], islandsOff := 0, holdover := false, dramReady := false, bellows := {},
    backup := { pwrcyc := 1, lockout := true }, start := {}, grid := {}, change := {}, force := none, slices := [], groups := [],
    trims := [], critical := [], ports := [], stations := [], net := {}, trust := {} }

end Sys2Proof.Machine
end

