-- ==== Sys2Proof/Machine/Ops.lean ====
section
/-!
DEFINITION. The named operations over registers, memory and the module's tables. -/
namespace Sys2Proof.Machine

/-! ### The register map -/

/-- The row of a block's table that holds the register at offset `o`. -/
def findRow : List RegRow → Nat → Option RegRow
  | [], _ => none
  | r :: rs, o =>
    if r.off ≤ o ∧ (o - r.off) % r.stride = 0 ∧ (o - r.off) / r.stride < r.count then some r else findRow rs o

/-- The masters that have a guard (R169). -/
def guardMaster (m : Nat) : Bool := m ≤ 22 || (24 ≤ m && m ≤ 27) || (32 ≤ m && m ≤ 47)

/-- The row of the register at a physical address, by the block windows of R71; none where no register lies. -/
def regRow (a : Nat) : Option RegRow :=
  if a < 0x10000000 then none
  else if a < 0x10010000 then findRow rowsSYS (a - 0x10000000)
  else if a < 0x10020000 then findRow rowsCLK (a - 0x10010000)
  else if a < 0x10030000 then findRow rowsBEL (a - 0x10020000)
  else if a < 0x10034000 then findRow rowsTRI ((a - 0x10030000) % 0x1000)
  else if a < 0x10040000 then none
  else if a < 0x10050000 then
    if guardMaster ((a - 0x10040000) / 0x100) then findRow rowsGRD ((a - 0x10040000) % 0x100) else none
  else if a < 0x10060000 then
    if a < 0x10050100 then findRow rowsDMA (a - 0x10050000)
    else if a < 0x10050500 then findRow rowsDMAC ((a - 0x10050100) % 0x40) else none
  else if a < 0x10080000 then findRow rowsTIC (a - 0x10060000)
  else if a < 0x10090000 then findRow rowsTIME (a - 0x10080000)
  else if a < 0x100A0000 then findRow rowsBKD (a - 0x10090000)
  else if a < 0x100B0000 then findRow rowsEVR (a - 0x100A0000)
  else if a < 0x100C0000 then findRow rowsTRU (a - 0x100B0000)
  else if a < 0x100D0000 then findRow rowsANV (a - 0x100C0000)
  else if a < 0x100E0000 then findRow rowsCOL (a - 0x100D0000)
  else if a < 0x10100000 then none
  else if a < 0x10108000 then findRow rowsSTB ((a - 0x10100000) % 0x1000)
  else if a < 0x10200000 then none
  else if a < 0x10210000 then
    if (a - 0x10200000) % 0x4000 < 0x800 then findRow rowsNET ((a - 0x10200000) % 0x4000)
    else findRow rowsNETP ((a - 0x10200000) % 0x4000)
  else if a < 0x11000000 then none
  else if a < 0x11100000 then
    if (a - 0x11000000) % 0x8000 < 0x4400 then findRow rowsFCHS ((a - 0x11000000) % 0x8000 % 0x400)
    else if (a - 0x11000000) % 0x8000 < 0x5000 then none
    else if (a - 0x11000000) % 0x8000 < 0x6000 then findRow rowsFCHM ((a - 0x11000000) % 0x8000 % 0x400)
    else if (a - 0x11000000) % 0x8000 < 0x7000 then none
    else findRow rowsFCHG ((a - 0x11000000) % 0x8000 - 0x7000)
  else if a < 0x12000000 then none
  else if a < 0x12010000 then findRow rowsSCN (a - 0x12000000)
  else none

/-- One address for a register that several windows show: `TRI.POOL` and `TRI.POOLCMD` (R206), the common part of
NET (R351), and the table bases of STB (R327). -/
def canonReg (a : Nat) : Nat :=
  if 0x10030000 ≤ a ∧ a < 0x10034000 ∧ (a % 0x1000 = 0x100 ∨ a % 0x1000 = 0x104) then 0x10030000 + a % 0x1000
  else if 0x10200000 ≤ a ∧ a < 0x10210000 ∧ a % 0x4000 < 0x800 then 0x10200000 + a % 0x4000
  else if 0x10100000 ≤ a ∧ a < 0x10108000 ∧ 0x800 ≤ a % 0x1000 ∧ a % 0x1000 < 0x810 then 0x10100000 + a % 0x1000
  else a

/-- `EVR.POOL` of a module that has consumed no spare: the forecast of R463 at the prior rate, and LEFT (R460). -/
def poolReset : Nat → W32
  | 0 => 0x3C000400#32
  | 1 => 0xFFF00100#32
  | 2 => 0xFFF01000#32
  | 3 => 0x25800100#32
  | 4 => 0x3C000400#32
  | 5 => 0x7B00FF00#32
  | 6 => 0x0F000100#32
  | 7 => 0x78000100#32
  | _ => 0x1E000200#32

/-- The value a register holds after reset: its Reset column; the lane map and the spare slots of a module without a
substitution (R185, R206), and the slots, floors and fuses of a module as shipped (R407, R446; notes/assumptions/5.md). -/
def resetVal (a : Nat) : W32 :=
  if 0x10030000 ≤ a ∧ a < 0x10034000 ∧ a % 0x1000 = 8 then
    let t := (a - 0x10030000) / 0x1000
    BitVec.ofNat 32 (0x00101010 + (3 * t + 2) * 0x10000 + (3 * t + 1) * 0x100 + 3 * t)
  else if a = 0x10030100 then 0x2F2E2D1C#32
  else if a = 0x100B0020 ∨ a = 0x100B0028 then (if a = 0x100B0020 then 0x30000000#32 else 0x30000001#32)
  else if a = 0x100B0040 ∨ a = 0x100B0048 ∨ a = 0x100B0060 ∨ a = 0x100B0064 then 1#32
  else if a = 0x100B0088 then 0x20000000#32
  else if 0x100A0300 ≤ a ∧ a < 0x100A0324 ∧ a % 4 = 0 then poolReset ((a - 0x100A0300) / 4)
  else
    match regRow a with
    | some r => BitVec.ofNat 32 r.reset
    | none => 0

/-- The stored value of the register at an address. -/
def State.rd (s : State) (a : Nat) : W32 := sget resetVal s.regs a

/-- A register's stored value replaced. -/
def State.wr (a : Nat) (v : W32) (s : State) : State := { s with regs := sset resetVal s.regs a v }

/-- A field of a stored register. -/
def State.rdF (s : State) (a lo n : Nat) : Nat := getF (s.rd a) lo n

/-- A field of a stored register replaced. -/
def State.wrF (a lo n v : Nat) (s : State) : State := s.wr a (setF (s.rd a) lo n v)

/-- A bit of a stored register. -/
def State.rdB (s : State) (a i : Nat) : Bool := bit (s.rd a) i

/-- A bit of a stored register made equal to `b`. -/
def State.wrB (a i : Nat) (b : Bool) (s : State) : State := s.wr a (putB (s.rd a) i b)

/-- Bits of a register set. -/
def State.orR (a : Nat) (m : W32) (s : State) : State := s.wr a (s.rd a ||| m)

/-- A saturating counter field of a register raised by one. -/
def State.incF (a lo n : Nat) (s : State) : State := s.wrF a lo n (satInc (2 ^ n - 1) (s.rdF a lo n))

/-- A 64-bit value held in two registers, low word first. -/
def State.rd64 (s : State) (lo hi : Nat) : W64 := (s.rd hi) ++ (s.rd lo)

/-- A 64-bit value put into two registers. -/
def State.wr64 (lo hi : Nat) (v : W64) (s : State) : State :=
  (s.wr lo (v.setWidth 32)).wr hi ((v >>> 32).setWidth 32)

/-! ### The answer of an access -/

/-- The access is answered with data. -/
def State.okResp (v : W64) (s : State) : State := { s with resp := { data := v, err := false } }

/-- The access is answered with a bus error and has no effect. -/
def State.busErr (s : State) : State := { s with resp := { data := 0, err := true } }

/-! ### Free values -/

/-- A fresh value that the manual leaves open. -/
def State.draw (s : State) : W64 := Config.freeValue s.free

/-- The counter of free values moved on. -/
def State.drawn (s : State) : State := { s with free := s.free + 1 }

/-! ### Tables -/

def State.ctx (s : State) (x : Nat) : Ctx := sget (fun _ => Ctx.idle) s.cores x
def State.setCtx (x : Nat) (c : Ctx) (s : State) : State := { s with cores := sset (fun _ => Ctx.idle) s.cores x c }
def State.triad (s : State) (t : Nat) : TriadSt := sget (fun _ => {}) s.triads t
def State.setTriad (t : Nat) (v : TriadSt) (s : State) : State :=
  { s with triads := sset (fun _ => {}) s.triads t v }
def State.chan (s : State) (c : Nat) : Chan := sget (fun _ => {}) s.dma c
def State.setChan (c : Nat) (v : Chan) (s : State) : State := { s with dma := sset (fun _ => {}) s.dma c v }

/-- Something goes out of the module. -/
def State.emit (m : Sent) (s : State) : State := { s with sent := m :: s.sent }

def State.setPair (p : Pair) (s : State) : State := { s with pair := p }
def State.setAnvil (p : Anvil) (s : State) : State := { s with anvil := p }
def State.setPower (p : Power) (s : State) : State := { s with power := p }
def State.setTime (p : TimeBase) (s : State) : State := { s with time := p }
def State.setRecorder (p : Recorder) (s : State) : State := { s with recorder := p }
def State.setLedger (p : Ledger) (s : State) : State := { s with ledger := p }

/-- What a reset leaves of a slice (R254, R256): its isolation for a hardware fault, and the time of its last stimulus failure. -/
def Slice.outlast (v : Slice) : Slice := { stimFail := v.stimFail, failed := v.failed }

/-! ### Memory -/

/-- What an unlisted byte of memory reads as (R428; notes/assumptions/6.md). -/
def memDefault : Nat → W8 := fun _ => 0

/-- Memory is in its canonical form. -/
def Memory.wf (m : List Host.Cell) : Bool := swf memDefault m

/-- The byte at a physical address. -/
def State.byte (s : State) (a : Nat) : W8 := sget memDefault s.mem a

/-- A byte of memory replaced. -/
def State.pokeByte (a : Nat) (v : W8) (s : State) : State := { s with mem := sset memDefault s.mem a v }

/-- The n bytes from an address. -/
def State.bytes (s : State) (a : Nat) : Nat → List W8
  | 0 => []
  | n + 1 => s.byte a :: s.bytes (a + 1) n

/-- The little-endian number in n bytes from an address (R1). -/
def State.peek (s : State) (a n : Nat) : Nat := ofBytes (s.bytes a n)

/-- Bytes put from an address on. -/
def State.pokeBytes (a : Nat) : List W8 → State → State
  | [], s => s
  | b :: bs, s => State.pokeBytes (a + 1) bs (s.pokeByte a b)

/-- A number put as n bytes, least significant first (R1). -/
def State.poke (a n v : Nat) (s : State) : State := s.pokeBytes a (toBytes n v)

/-- The address lies in the working store (R67). -/
def inWS (a : Nat) : Bool := 0x20000000 ≤ a && a < 0x22000000

/-- The line of the working store that holds an address (R73). -/
def wsLine (a : Nat) : Nat := (a - 0x20000000) / 64

/-- The dirty bit of one line set in the bank in use (R73, R359). -/
def State.markLine (line : Nat) (s : State) : State :=
  if s.anvil.bank then
    s.setAnvil { s.anvil with dirty1 := sset (fun _ => false) s.anvil.dirty1 line true }
  else
    s.setAnvil { s.anvil with dirty0 := sset (fun _ => false) s.anvil.dirty0 line true }

/-- The dirty bits of every line that n bytes from an address touch. -/
def State.markDirty (a n : Nat) (s : State) : State :=
  if inWS a && 0 < n then
    (List.range (wsLine (a + n - 1) + 1 - wsLine a)).foldl (fun s i => s.markLine (wsLine a + i)) s
  else s

/-- A store to memory by a core, an engine or a channel: the bytes, and the dirty bits of the working store. -/
def State.store (a : Nat) (bs : List W8) (s : State) : State := (s.pokeBytes a bs).markDirty a bs.length

end Sys2Proof.Machine
end

