-- ==== Sys2Proof/Machine/Events.lean ====
section
/-!
DEFINITION. What every block shares: plant time (R341 to R343), interrupt sources and their firing (R154, R465),
latched event bits, and records (R447 to R449). -/
namespace Sys2Proof.Machine

/-! ### Plant time -/

/-- The combination of NS, EPOCH and WRAP_PENDING (R342). -/
def combine (ns ep : W32) (wp : Bool) : W64 :=
  if wp && ns.toNat < 2 ^ 31 then (ep + 1) ++ ns else ep ++ ns

/-- Extended plant time at present (R342). -/
def State.now (s : State) : W64 := combine s.time.ns s.time.epoch s.time.wrapPending

/-! ### The Anvil link (R353 to R355) -/

/-- The lanes that carry traffic (R353): in block lock and in service, lowest first. -/
def Anvil.lanes (v : Anvil) : List Nat := (List.range 3).filter fun k => bit (v.lock &&& v.service) k

/-- How many lanes are in block lock and in service. -/
def Anvil.inService (v : Anvil) : Nat := v.lanes.length

/-- The traffic class of a frame (R355). -/
def LinkFrame.cls : LinkFrame → Nat
  | .heartbeat _ _ _ _ _ _ _ _ _ _ _ => 1
  | .releaseOrder => 1
  | .shadowRecord _ _ => 2
  | .control _ _ => 3
  | .lineRecord _ _ _ => 4
  | .sealRecord _ _ _ _ _ _ _ _ => 4
  | .copy _ _ => 5
  | .relay _ => 6

/-- The link carries traffic of a class (R353). -/
def Anvil.carries (v : Anvil) (cls : Nat) : Bool :=
  match v.link with
  | .full => true
  | .degraded => cls ≤ 3
  | .lost => false

/-- The lane on which frame n goes out: the lanes take turns (DESIGN CHOICE, notes/assumptions/112.md). -/
def Anvil.laneOf (v : Anvil) (n : Nat) : Option Nat := v.lanes[n % v.lanes.length]?

/-- The frames that still await acknowledgement (R354): those that no lane carries, and those sent within the last 4 µs. -/
def State.inFlight (s : State) : List Flight :=
  s.anvil.flight.filter fun e => e.lane.isNone || decide (s.now.toNat ≤ e.sentAt.toNat + 4000)

/-- A frame goes out with the next sequence number on the link (R353, R354), if the link carries its class. While no lane is in
block lock it is held, as frames are that await their acknowledgement; heartbeats and release orders are never sent again. -/
def State.send (f : LinkFrame) (s : State) : State :=
  let v := s.anvil
  if v.carries f.cls then
    let n := v.txSeq
    let e : Flight := { seq := n, lane := v.laneOf n, sentAt := s.now, frame := f }
    let s1 := s.setAnvil { v with txSeq := n + 1, flight := if f.cls = 1 then s.inFlight else s.inFlight ++ [e] }
    match e.lane with
    | some k => s1.emit (.link k n (Config.linkCrc n) f)
    | none => s1
  else s

/-- A frame sent again (R354), on a lane as it now carries its class; it waits where none does. -/
def State.again (e : Flight) (s : State) : State :=
  let v := s.anvil
  let lane := if v.carries e.frame.cls then v.laneOf e.seq else none
  let s1 := s.setAnvil { v with
    flight := v.flight.map fun x => if x.seq = e.seq then { x with lane := lane, sentAt := s.now } else x }
  match lane with
  | some k => s1.emit (.link k e.seq (Config.linkCrc e.seq) e.frame)
  | none => s1

/-- A frame of the partner's has come: it is acknowledged (R354). -/
def State.heard (s : State) : State :=
  if s.anvil.lanes = [] then s else (s.setAnvil { s.anvil with rxSeq := s.anvil.rxSeq + 1 }).emit (.linkAck s.anvil.rxSeq)

/-- The hold before a yield tick (R374); that of an abandoned yield ends there, as the module runs on from the tick. -/
def State.yieldHolds (s : State) : Bool :=
  s.pair.role == .active && s.pair.yield == .hold && !(s.pair.yieldOff && decide (s.pair.yts.toNat ≤ s.now.toNat))

/-! ### Interrupt sources -/

/-- EN of a source (R168). -/
def State.srcEn (s : State) (n : Nat) : Bool := s.rdB (Reg.TIC_SRC_CFG n) 31
/-- The target of a source (R168). -/
def State.srcTarget (s : State) (n : Nat) : Nat := s.rdF (Reg.TIC_SRC_CFG n) 20 5
/-- The home tier of a source (R168). -/
def State.srcTier (s : State) (n : Nat) : Nat := s.rdF (Reg.TIC_SRC_CFG n) 16 4
/-- MODE of a source: true is S mode (R168). -/
def State.srcMode (s : State) (n : Nat) : Bool := s.rdB (Reg.TIC_SRC_CFG n) 26

/-- The source is pending (R154). -/
def State.isPending (s : State) (n : Nat) : Bool := s.tic.any fun e => e.1 == n

/-- Tier `t` holds an activation, running or saved, on a context (R153). -/
def Ctx.holds (c : Ctx) (t : Nat) : Bool := (c.running && c.home.toNat == t) || bit c.saved t

/-- `TIC.TGT_STATE.TIERS` of a context (R168). -/
def Ctx.tiers (c : Ctx) : W16 := if c.running then setB c.saved c.home.toNat else c.saved

/-- The MISSED bit of a source set (R154). -/
def State.markMissed (n : Nat) (s : State) : State := s.wrB (0x10061020 + 4 * (n / 32)) (n % 32) true

/-- A migration holds the source pending (R229): a control source other than a grid line until ts + Win, and a tier-15 source
until the routine has ended; the routine's own source waits for a tier-15 activation that is already running. -/
def State.heldByChange (s : State) (n : Nat) : Bool :=
  let t := s.srcTarget n
  let h := s.srcTier n
  (s.change.holding.contains t && 1 ≤ h && h ≤ 14 && !(16 ≤ n && n < 28)) || (s.change.routine.contains t && h == 15)

/-- A firing would be missed: the source is pending, its tier is held on its target (but for a source that a migration holds,
R229), or the hold before a yield tick counts it as missed (R154, R374). -/
def State.wouldMiss (s : State) (n : Nat) : Bool :=
  s.isPending n || ((s.ctx (s.srcTarget n)).holds (s.srcTier n) && !s.heldByChange n) ||
    (s.yieldHolds && 1 ≤ s.srcTier n && s.srcTier n ≤ 14)

/-- The source made pending with the present plant time. -/
def State.pend (n : Nat) (s : State) : State := { s with tic := sput s.tic n s.now }

/-- The firing of source 5, whose own missed firing raises nothing further (R154). -/
def State.fire5 (s : State) : State :=
  if s.srcEn 5 then if s.wouldMiss 5 then s.markMissed 5 else s.pend 5 else s

/-- A source fires (R154). -/
def State.fire (n : Nat) (s : State) : State :=
  if n = 5 then s.fire5
  else if s.srcEn n then if s.wouldMiss n then (s.markMissed n).fire5 else s.pend n
  else s

/-! ### Level sources (R465) -/

/-- Some group-interrupt cause of group `g` stands (R265, `FCH.GRP_IRQ`): the slices' part. -/
def State.grpDiag (s : State) (g : Nat) : Nat :=
  (List.range 17).foldl
    (fun acc i => if s.rd (Reg.FCH_DIAG g i) &&& s.rd (Reg.FCH_DIAG_EN g i) = 0 then acc else acc + 2 ^ i) 0

/-- The condition of a level source, for those raised by enabled bits of an event register: the event register, the
enable register and the bits (R206, R327, R351, R352, R379, R380, R402, R427, R464). -/
def levelOf (n : Nat) : Option (Nat × Nat × Nat) :=
  match n with
  | 31 => some (Reg.TIME_EVT, Reg.TIME_EVT_EN, 0x3FF)
  | 32 => some (Reg.ANV_EVT, Reg.ANV_EVT_EN, 0xF)
  | 33 => some (Reg.ANV_EVT, Reg.ANV_EVT_EN, 0x2970)
  | 34 => some (Reg.ANV_EVT, Reg.ANV_EVT_EN, 0x80)
  | 35 => some (Reg.ANV_EVT, Reg.ANV_EVT_EN, 0x1600)
  | 36 => some (Reg.COL_EVT, Reg.COL_EVT_EN, 0x8F)
  | 37 => some (Reg.COL_EVT, Reg.COL_EVT_EN, 0x70)
  | 68 => some (Reg.NET_EVT, Reg.NET_EVT_EN, 0x7000000)
  | 69 => some (Reg.NET_EVT, Reg.NET_EVT_EN, 0x3)
  | 70 => some (Reg.NET_EVT, Reg.NET_EVT_EN, 0x3F00)
  | 71 => some (Reg.NET_EVT, Reg.NET_EVT_EN, 0x30000)
  | 129 => some (Reg.TRU_EVT, Reg.TRU_EVT_EN, 0xFF)
  | 144 => some (Reg.BEL_EVT, Reg.BEL_EVT_EN, 0xF)
  | 160 => some (Reg.EVR_EVT, Reg.EVR_EVT_EN, 0x7F)
  | 161 => some (Reg.EVR_EVT, Reg.EVR_EVT_EN, 0x700)
  | 162 => some (Reg.EVR_EVT, Reg.EVR_EVT_EN, 0x3000)
  | n =>
    if 48 ≤ n ∧ n < 64 then
      some (Reg.STB_EVT ((n - 48) / 2), Reg.STB_EVT_EN ((n - 48) / 2), if n % 2 = 0 then 0xFFFF else 0x30000)
    else none

/-- The condition of a level source holds (R465). -/
def State.levelCond (s : State) (n : Nat) : Bool :=
  match levelOf n with
  | some (e, en, m) => decide (s.rd e &&& s.rd en &&& BitVec.ofNat 32 m ≠ 0)
  | none =>
    if 64 ≤ n ∧ n < 68 then
      s.rdB (Reg.NET_PCFG (n - 64)) 1 && decide (s.rd (Reg.NET_PSTAT (n - 64)) &&& 0x60000000 ≠ 0)
    else if 96 ≤ n ∧ n < 128 then
      decide (s.grpDiag (n - 96) ≠ 0) ||
        (s.rdB (Reg.FCH_EVT_STAT (n - 96)) 15 && decide (s.rdF (Reg.FCH_EVT_STAT (n - 96)) 0 7 ≠ 0))
    else if n = 128 then decide (s.rd Reg.TRU_STAT &&& 0x60000000 ≠ 0)
    else if n = 146 then decide (s.rd Reg.BKD_STAT &&& 0x2C000000 ≠ 0)
    else false

/-- A change of state after which the level sources `ns` fire if their condition has become true (R465). -/
def State.raising (ns : List Nat) (f : State → State) (s : State) : State :=
  ns.foldl (fun s' n => if !s.levelCond n && s'.levelCond n then s'.fire n else s') (f s)

/-- The level sources that an event or enable register can raise. -/
def levelSources (a : Nat) : List Nat :=
  if a = Reg.TIME_EVT ∨ a = Reg.TIME_EVT_EN then [31]
  else if a = Reg.ANV_EVT ∨ a = Reg.ANV_EVT_EN then [32, 33, 34, 35]
  else if a = Reg.COL_EVT ∨ a = Reg.COL_EVT_EN then [36, 37]
  else if a = Reg.NET_EVT ∨ a = Reg.NET_EVT_EN then [68, 69, 70, 71]
  else if a = Reg.TRU_EVT ∨ a = Reg.TRU_EVT_EN then [129]
  else if a = Reg.TRU_STAT then [128]
  else if a = Reg.BEL_EVT ∨ a = Reg.BEL_EVT_EN then [144]
  else if a = Reg.BKD_STAT then [146]
  else if a = Reg.EVR_EVT ∨ a = Reg.EVR_EVT_EN then [160, 161, 162]
  else if 0x10100000 ≤ a ∧ a < 0x10108000 then
    [48 + 2 * ((a - 0x10100000) / 0x1000), 49 + 2 * ((a - 0x10100000) / 0x1000)]
  else if 0x10200000 ≤ a ∧ a < 0x10210000 then [64 + (a - 0x10200000) / 0x4000]
  else if 0x11000000 ≤ a ∧ a < 0x11100000 then [96 + (a - 0x11000000) / 0x8000]
  else []

/-- A register changed, the level sources it feeds firing where their condition becomes true. -/
def State.wrL (a : Nat) (v : W32) (s : State) : State := s.raising (levelSources a) (fun s => s.wr a v)

/-- A latched event bit set (R4: set wins). -/
def State.setEvt (a i : Nat) (s : State) : State := s.wrL a (setB (s.rd a) i)

/-- Several latched event bits set. -/
def State.setEvts (a : Nat) (m : W32) (s : State) : State := s.wrL a (s.rd a ||| m)

/-! ### Records -/

/-- The code of a role (R380, `COL.STAT.ROLE`). -/
def roleCode : Role → Nat
  | .unassigned => 0
  | .joining => 1
  | .standby => 2
  | .active => 3
  | .outOfService => 4

/-- Operating seconds (R399). -/
def State.opsec (s : State) : Nat := s.backup.opsec.toNat

/-- FLAGS of a record made now (R447). -/
def State.recFlags (s : State) : W8 :=
  BitVec.ofNat 8 (roleCode s.pair.role + 8 * b2n (s.rdB Reg.BKD_STAT 28) + 16 * b2n (!s.start.timeKnown))

/-- A record made now with the next sequence number (R447, R449). -/
def State.mkRec (s : State) (code : Nat) (data : List W8) : Rec :=
  { seq := s.recorder.next, opsec := s.opsec, flags := s.recFlags, code := BitVec.ofNat 16 code,
    pwrcyc := s.backup.pwrcyc, ptime := if s.start.timeKnown then s.now else 0, data := padTo 28 data }

/-- A record enters the queue, or is dropped and counted when the queue is full; nothing after the power-loss record
(R449, R451). -/
def State.record (code : Nat) (data : List W8) (s : State) : State :=
  if s.recorder.closed then s
  else if 256 ≤ s.recorder.queue.length then
    ((s.setRecorder { s.recorder with
        dropFirst := if s.recorder.dropCount = 0 then BitVec.ofNat 16 code else s.recorder.dropFirst,
        dropCount := s.recorder.dropCount + 1 }).incF Reg.EVR_DROP 0 16).setEvt Reg.EVR_EVT 2
  else
    let s' := s.setRecorder { s.recorder with
      queue := s.recorder.queue ++ [s.mkRec code data], next := s.recorder.next + 1 }
    if s.recorder.queue.length = 127 then s'.setEvt Reg.EVR_EVT 1 else s'

/-- The four bytes of a register, as DATA bytes 0 to 3 hold it (R448). -/
def State.regBytes (s : State) (a : Nat) : List W8 := toBytes 4 (s.rd a).toNat

end Sys2Proof.Machine
end

