-- ==== Sys2Proof/Machine/Measure.lean ====
section
/-!
DEFINITION. The measurement registers of the trust engine (R410) and the checkpoint formats that two modules compare
(R421). -/
namespace Sys2Proof.Machine

def State.setTrust (v : Trust) (s : State) : State := { s with trust := v }

def State.setStart (v : Start) (s : State) : State := { s with start := v }

/-- The 64 bytes of a digest. -/
def digestBytes (d : BitVec 512) : List W8 := toBytes 64 d.toNat

/-- The measurement register Mi. -/
def State.measure (s : State) (i : Nat) : BitVec 512 := sget (fun _ => 0) s.trust.m i

/-- Mi := digest(Mi ‖ d) (R410). -/
def State.extendNow (i : Nat) (d : List W8) (s : State) : State :=
  s.setTrust
    { s.trust with m := sset (fun _ => 0) s.trust.m i (Config.shake256 (digestBytes (s.measure i) ++ d)) }

/-- A quote is being signed (R411). -/
def State.quoting (s : State) : Bool :=
  match s.trust.op with
  | some (1, _, 0) => true
  | _ => false

/-- Mi extended, or the extension put off until the signing in progress ends (R410, R411). -/
def State.extend (i : Nat) (d : List W8) (s : State) : State :=
  if s.quoting then s.setTrust { s.trust with waiting := s.trust.waiting ++ [(i, d)] } else s.extendNow i d

/-- The system slot that runs: the one of S0 and S1 with RUN set. -/
def State.runningSlot (s : State) : Nat := if s.rdB (Reg.TRU_SLOT 3) 27 then 3 else 2

/-- CKPT_FMT and ACCEPT_FMT of the running system image (R421). -/
def State.formats (s : State) : W8 × W8 :=
  let w := s.rd (Reg.TRU_SLOT s.runningSlot)
  (BitVec.ofNat 8 (getF w 0 8), BitVec.ofNat 8 (getF w 8 8))

/-- An image of formats `a` supports format f. -/
def supports (a : W8 × W8) (f : W8) : Bool := a.1 == f || (a.2 != 0 && a.2 == f)

/-- The format in which the module writes checkpoints for its partner (R421): its own CKPT_FMT, else its own ACCEPT_FMT,
if the partner's image supports it. -/
def State.writeFormat (s : State) : Option W8 :=
  let own := s.formats
  let his := (s.pair.peerFmt, s.pair.peerAcc)
  if supports his own.1 then some own.1
  else if own.2 != 0 && supports his own.2 then some own.2
  else none

/-- The two images share a format (R421). -/
def State.sharesFormat (s : State) : Bool :=
  let own := s.formats
  let his := (s.pair.peerFmt, s.pair.peerAcc)
  supports his own.1 || (own.2 != 0 && supports his own.2)

/-- The newest valid retain copy (R443). -/
def State.retained (s : State) : Option Retain :=
  match sget (fun _ => none) s.start.copies 0, sget (fun _ => none) s.start.copies 1 with
  | some a, some b => some (if a.ends.toNat < b.ends.toNat then b else a)
  | some a, none => some a
  | none, b => b

/-- The merit of the module (R439). -/
def State.merit (s : State) : W64 :=
  match s.retained with
  | some r => r.ends
  | none => 0

/-- The Active module whose trial was not confirmed stays Active (R420). -/
def State.trialStays (s : State) : State :=
  ((s.wrB Reg.TRU_TRIAL 30 true).wrB Reg.TRU_TRIAL 31 false).setEvt Reg.TRU_EVT 3

/-- A yield that was to end a trial does not come about (R420). -/
def State.trialYieldOff (s : State) : State :=
  if s.trust.yieldReset then (s.setTrust { s.trust with yieldReset := false }).trialStays else s

end Sys2Proof.Machine
end

