-- ==== Sys2Proof/Machine/Ports.lean ====
section
/-!
DEFINITION. The slots of a station-bus port, 0 to 7, or of the Rinfa exchange on the network, 8: what waits in them and when they
empty (11, R302 to R305, R321, R323, R324). -/
namespace Sys2Proof.Machine

def State.port (s : State) (k : Nat) : Port := sget (fun _ => {}) s.ports k
def State.setPort (k : Nat) (v : Port) (s : State) : State := { s with ports := sset (fun _ => {}) s.ports k v }

/-! ### Port states (R302) -/

/-- `STB.STATE.STATE` as stored: 0 OFF, 1 INTEGRATING, 2 ERROR_ACTIVE, 3 ERROR_PASSIVE, 4 BUS_OFF, 5 RECOVERING; a port of the
station island without power is off, as in Ember, where its contacts are in low-power mode with the transmitter off (R56,
R392). -/
def State.portState (s : State) (k : Nat) : Nat := if bit s.islandsOff 14 then 0 else s.rdF (Reg.STB_STATE k) 0 3

/-- The port runs, and the module is Active, or is the outgoing module of a yield that still drains its slots (R323,
R324): it transmits. -/
def State.portUp (s : State) (k : Nat) : Bool :=
  (s.portState k == 2 || s.portState k == 3) && (s.pair.role == .active || (s.port k).draining)

/-- An event of a port. -/
def State.stbEvt (k b : Nat) (s : State) : State := s.setEvt (Reg.STB_EVT k) b

/-! ### Frames in the slots (R305, R321, R324) -/

/-- A frame put among those released, lowest identifier first. -/
def insertFrame (f : TxFrame) : List TxFrame → List TxFrame
  | [] => [f]
  | x :: l => if f.id < x.id then f :: x :: l else x :: insertFrame f l

/-- The bus is never idle while a released frame waits (R305): the lowest identifier goes on the bus. -/
def State.portNext (k : Nat) (s : State) : State :=
  let p := s.port k
  match p.onbus, p.queue with
  | none, f :: l => if s.portUp k && !p.held && !p.excepted && !p.txOff then s.setPort k { p with onbus := some f, queue := l } else s
  | _, _ => s

/-- A frame released into the slots of a port; in the incoming module of a yield it enters them with the queue-empty report
(R324). -/
def State.portQueue (k : Nat) (f : TxFrame) (s : State) : State :=
  let p := s.port k
  if p.held then s.setPort k { p with waits := p.waits ++ [f] }
  else (s.setPort k { p with queue := insertFrame f p.queue }).portNext k

/-- An acyclic transaction ends with a code (R321). -/
def State.acEnd (k code : Nat) (s : State) : State :=
  let a := Reg.STB_AC_STAT k
  (s.wr a (setF (setB (clrB (s.rd a) 31) (if code = 0 then 30 else 29)) 16 8 code)).setPort k
    { s.port k with acTill := none }

/-- The frame is the request of its port's acyclic transaction. -/
def TxFrame.acyclic (f : TxFrame) : Bool := f.id / 64 == 4 && !f.aborted

/-- The acyclic request of a port among its frames belongs to no transaction any more. -/
def State.acVoid (k : Nat) (s : State) : State :=
  let p := s.port k
  let void (f : TxFrame) : TxFrame := if f.id / 64 = 4 then { f with aborted := true } else f
  s.setPort k { p with queue := p.queue.map void, waits := p.waits.map void, onbus := p.onbus.map void }

/-- The slots of the outgoing module of a yield hold none: it reports queue empty and is in MONITOR (R324). -/
def State.portEmptied (k : Nat) (s : State) : State :=
  let p := s.port k
  if p.draining && p.queue = [] && p.onbus.isNone then (s.setPort k { p with draining := false }).send (.control 2 [k]) else s

/-- Every frame of a port withdrawn; an acyclic request among them ends its transaction with code 2 (R321). -/
def State.portDrop (k : Nat) (s : State) : State :=
  let p := s.port k
  let s1 := if (p.onbus.toList ++ p.queue ++ p.waits).any TxFrame.acyclic then s.acEnd k 2 else s
  (s1.setPort k { s1.port k with queue := [], onbus := none, waits := [] }).portEmptied k

/-- What a port keeps over a stop and a start: the count of its references, the last stamp, a pending acyclic response. -/
def Port.kept (p : Port) : Port := { refSeq := p.refSeq, ref := p.ref, acTill := p.acTill }

/-- The port in OFF with empty slots. -/
def State.portStopped (k : Nat) (s : State) : State :=
  ((s.portDrop k).wr (Reg.STB_STATE k) 0).setPort k (s.port k).kept

/-- A port that was stopping has no frame on the bus any more, or an outgoing module of a yield may have emptied its slots;
else the next frame goes on the bus. -/
def State.portSettle (k : Nat) (s : State) : State :=
  let p := s.port k
  if p.onbus.isSome then s
  else if p.stopping then s.portStopped k
  else (s.portEmptied k).portNext k

/-! ### Roles (R323, R324) -/

/-- A port of a module that has left the Active role, or is released: its acyclic transaction is over and every frame
withdrawn; one that was to stop is OFF. In the outgoing module of a planned yield it drains instead. -/
def State.portPassive (agreed : Bool) (k : Nat) (s : State) : State :=
  let s1 := if s.rdB (Reg.STB_AC_STAT k) 31 then (s.acVoid k).acEnd k 4 else s
  if agreed then (s1.setPort k { s1.port k with draining := true }).portSettle k
  else
    let s2 := s1.portDrop k
    if (s2.port k).stopping then s2.portStopped k
    else s2.setPort k { s2.port k with draining := false, held := false, txOff := false }

/-- The module has left the Active role, or is released. -/
def State.portsPassive (agreed : Bool) (s : State) : State :=
  (List.range 8).foldl (fun s k => s.portPassive agreed k) s

end Sys2Proof.Machine
end

