-- ==== Sys2Proof/Machine/Records.lean ====
section
/-!
DEFINITION. What a record of each class holds (R448), the spares ledger (R460 to R463), plant time moving on to the
instant of an event (R341 to R343), and the faults that affect control (R22 to R24, R366, R368). -/
namespace Sys2Proof.Machine

/-! ### Live registers that records quote -/

/-- `COL.STAT.YIELD` (R380). -/
def yieldCode : YieldPhase → Nat
  | .none => 0
  | .preparing => 1
  | .hold => 2
  | .overlap => 3

/-- A Standby module is ready (R365): its last full copy is complete, the link is FULL and R362 holds, it sees the
partner's heartbeats, and it has raised no fault under R24. -/
def State.ready (s : State) : Bool :=
  s.anvil.copyDone && s.anvil.link == .full && !s.anvil.missed && decide (s.rdF Reg.ANV_STAT 16 8 < 7) && !s.pair.ownFault

/-- `COL.STAT.CATCH_ARMED` (R365). -/
def State.catchArmed (s : State) : Bool :=
  s.pair.role == .standby && (s.ready || (s.anvil.link != .full && s.rdB Reg.ANV_CFG 31))

/-- `COL.STAT` as it reads (R380). -/
def State.colStat (s : State) : W32 :=
  BitVec.ofNat 32 (b2n s.pair.claim * 2 ^ 31 + b2n s.pair.returned * 2 ^ 30 + b2n s.pair.sense * 2 ^ 29 +
    b2n s.catchArmed * 2 ^ 28 + yieldCode s.pair.yield * 2 ^ 20 +
    (match s.pair.peer with | some r => roleCode r | none => 7) * 2 ^ 8 + roleCode s.pair.role)

/-- A write is in transfer to the backup domain (R403). -/
def State.bkdBusy (s : State) : Bool := decide (s.now.toNat < s.backup.busyTill.toNat)

/-- The live bits of `BKD.STAT` (R403). -/
def State.bkdStat (s : State) : W32 :=
  s.rd Reg.BKD_STAT ||| BitVec.ofNat 32 (b2n s.backup.lockout * 2 ^ 31 + b2n s.bkdBusy * 2 ^ 30 +
    b2n s.backup.onCell * 2 ^ 25 + b2n (s.backup.req == .sinking) * 2 ^ 24 +
    b2n (s.backup.req == .watching || s.backup.req == .delay) * 2 ^ 23 + s.backup.holdup.toNat)

/-! ### Records by class (R448) -/

/-- Class 0x02, role and pair. -/
def State.rec02 (ev : Nat) (s : State) : State :=
  s.record (0x0200 + ev) (s.regBytes Reg.COL_EVT ++ s.regBytes Reg.COL_CAUSE ++ toBytes 4 s.colStat.toNat ++
    toBytes 8 s.anvil.committed.toNat)

/-- The age in µs of the epoch that a STALE takeover resumes from (R371), behind the registers of class 0x02 (DESIGN CHOICE,
notes/assumptions/127.md). -/
def State.rec02Age (ns : Nat) (s : State) : State :=
  s.record 0x0281 (s.regBytes Reg.COL_EVT ++ s.regBytes Reg.COL_CAUSE ++ toBytes 4 s.colStat.toNat ++
    toBytes 8 s.anvil.committed.toNat ++ toBytes 8 (ns / 1000))

/-- Class 0x03, triads and cores. -/
def State.rec03 (t ev : Nat) (extra : List W8) (s : State) : State :=
  s.record (0x0300 + ev) (s.regBytes (Reg.TRI_STATE t) ++ s.regBytes (Reg.TRI_LASTMIS t) ++
    s.regBytes (Reg.TRI_LASTMIS_ADDR t) ++ s.regBytes (Reg.TRI_LANEMAP t) ++ s.regBytes (Reg.TRI_POOL 0) ++ extra)

/-- Class 0x04, memory and fabric. -/
def State.rec04 (ev : Nat) (s : State) : State :=
  s.record (0x0400 + ev) (s.regBytes Reg.SYS_FABERR ++ s.regBytes Reg.SYS_MEMERR_ADDR ++ s.regBytes Reg.SYS_MEMERR_CNT)

/-- Class 0x05, clocks and time. -/
def State.rec05 (ev : Nat) (extra : List W8) (s : State) : State :=
  s.record (0x0500 + ev) (s.regBytes Reg.TIME_EVT ++
    (if extra = [] then s.regBytes Reg.CLK_REFSTAT ++ s.regBytes Reg.CLK_REFERR ++ s.regBytes Reg.TIME_STEP_LO ++
      s.regBytes Reg.TIME_STEP_HI else extra))

/-- Class 0x06, a slice of the field side; the channel number reads 0xFF00 + g for an event of the group or its spare. -/
def State.rec06 (g i ev : Nat) (s : State) : State :=
  s.record (0x0600 + ev) ((if 0x80 ≤ ev then s.regBytes (Reg.FCH_GRP_STAT g) else s.regBytes (Reg.FCH_DIAG g i)) ++
    toBytes 2 (if 0x80 ≤ ev ∨ i = 16 then 0xFF00 + g else 16 * g + i) ++ s.regBytes (Reg.FCH_SPARE g) ++
    s.regBytes (Reg.FCH_GRP_STAT g))

/-- Class 0x07, stations and network: the event register, the port, the station or node. -/
def State.rec07 (a port stn ev : Nat) (s : State) : State :=
  s.record (0x0700 + ev) (s.regBytes a ++ toBytes 1 port ++ toBytes 2 stn)

/-- Class 0x08, change and forces. -/
def State.rec08 (ev : Nat) (data : List W8) (s : State) : State :=
  s.record (0x0800 + ev) (s.regBytes Reg.SCN_CHG_STAT ++ data)

/-- Class 0x09, trust and update. -/
def State.rec09 (ev : Nat) (extra : List W8) (s : State) : State :=
  s.record (0x0900 + ev) (s.regBytes Reg.TRU_EVT ++ s.regBytes Reg.TRU_STAT ++ extra)

/-- Class 0x0A, proof tests and spares. -/
def State.rec0A (ev pool : Nat) (s : State) : State :=
  s.record (0x0A00 + ev) (s.regBytes Reg.EVR_EVT ++ s.regBytes Reg.EVR_PT_STAT ++ toBytes 1 pool ++
    toBytes 4 s.ledger.count)

/-- A proof test fails (R458): `EVR.PT_STAT` and PT_FAIL are set, and the failure is recorded. -/
def State.ptFail (test elem pool : Nat) (s : State) : State :=
  ((s.wr Reg.EVR_PT_STAT (BitVec.ofNat 32 (2 ^ 31 + test * 2 ^ 16 + elem))).setEvt Reg.EVR_EVT 12).rec0A 12 pool

/-- A masked fault is recorded (R21). R448 gives no event byte for it: the byte is a free value (notes/assumptions/64.md). -/
def State.recMasked (cls : Nat) (data : List W8) (s : State) : State :=
  s.drawn.record (256 * cls + s.draw.toNat % 256) data

/-- Class 0x0B, Bellows and backup domain: `ev` is the bit number in `BEL.EVT` or `BKD.STAT` (DESIGN CHOICE,
notes/assumptions/127.md). -/
def State.rec0B (ev : Nat) (s : State) : State :=
  s.record (0x0B00 + ev) (s.regBytes Reg.BEL_SLP_STAT ++ s.regBytes Reg.BEL_WAKE_CAUSE ++ toBytes 4 s.bkdStat.toNat)

/-- Class 0x0C, grid. -/
def State.rec0C (ev line : Nat) (tick : W64) (s : State) : State :=
  s.record (0x0C00 + ev) (s.regBytes Reg.SCN_GRIDSTAT ++ toBytes 1 line ++ toBytes 8 tick.toNat)

/-! ### Change states (R225) -/

/-- `SCN.CHG_STAT.STATE`: 0 IDLE, 1 VERIFYING, 2 READY, 3 ARMED, 4 MIGRATING, 5 DONE, 6 REFUSED, 7 ABANDONED. -/
def State.chgState (s : State) : Nat := s.rdF Reg.SCN_CHG_STAT 0 4

/-- The change enters a state with a code; READY, DONE, REFUSED and ABANDONED are recorded and raise source 12 (R225). A Standby
that leaves READY tells its partner (R226, code 0x14). -/
def State.chgEnter (st code : Nat) (s : State) : State :=
  let s0 := if s.pair.role = .standby ∧ s.chgState = 2 ∧ st ≠ 2 then s.send (.control 6 []) else s
  let s1 := (s0.wrF Reg.SCN_CHG_STAT 0 4 st).wrF Reg.SCN_CHG_STAT 16 8 code
  if st = 2 ∨ st = 5 ∨ st = 6 ∨ st = 7 then (s1.rec08 (0x90 + st) (toBytes 4 s.change.id.toNat)).fire 12 else s1

/-- The change is abandoned with a code: no further migration starts, and what is held starts at ts + Win (R229, R233). -/
def State.chgAbandon (code : Nat) (s : State) : State :=
  ({ s with change := { s.change with starts := [] } }).chgEnter 7 code

/-- A triad reset abandons a change that has triad t in TRIADS (R233). -/
def State.chgTriadReset (t : Nat) (s : State) : State :=
  if 1 ≤ s.chgState && s.chgState ≤ 4 && s.change.triads.testBit t then s.chgAbandon 0x16 else s

/-! ### Plant time moves on -/

/-- NS, EPOCH and WRAP_PENDING when extended time has come to `t` (R341, R343): a wrap passed on the way leaves
WRAP_PENDING, and one that has run to 2^31 has been taken in by the module itself. -/
def timeAt (b : TimeBase) (t : W64) : TimeBase :=
  let cur := (combine b.ns b.epoch b.wrapPending).toNat
  let wp := (b.wrapPending || decide (cur / 2 ^ 32 < t.toNat / 2 ^ 32)) && decide (t.toNat % 2 ^ 32 < 2 ^ 31)
  { b with ns := t.setWidth 32, wrapPending := wp,
           epoch := if wp then (t >>> 32).setWidth 32 - 1 else (t >>> 32).setWidth 32 }

/-- The module has itself advanced EPOCH by the time `t` (R343). -/
def lateAt (b : TimeBase) (t : W64) : Bool :=
  let cur := (combine b.ns b.epoch b.wrapPending).toNat
  let wrapped := decide (cur / 2 ^ 32 < t.toNat / 2 ^ 32)
  (b.wrapPending && (wrapped || decide (2 ^ 31 ≤ t.toNat % 2 ^ 32))) ||
    (wrapped && (decide (2 ^ 31 ≤ t.toNat % 2 ^ 32) || decide (cur / 2 ^ 32 + 1 < t.toNat / 2 ^ 32)))

/-- An event happens at extended plant time `t`: the time base has run on to it. An instant that has passed leaves the
time base as it is. -/
def State.atTime (t : W64) (s : State) : State :=
  if t.toNat ≤ s.now.toNat then s
  else
    let late := lateAt s.time t
    let wrapped := decide (s.now.toNat / 2 ^ 32 < t.toNat / 2 ^ 32)
    let s1 := s.setTime (timeAt s.time t)
    let s2 := if wrapped then s1.setEvt Reg.TIME_EVT 0 else s1
    if late then (s2.setEvt Reg.TIME_EVT 9).rec05 9 [] else s2

/-! ### The spares ledger -/

/-- One year of operating time in seconds (R463, worked example). -/
def yearSec : Nat := 31536000

/-- Sub-pools and size of each pool (R460). -/
def poolShape : Nat → Nat × Nat
  | 0 => (1, 4)
  | 1 => (4, 1)
  | 2 => (16, 16)
  | 3 => (1, 1)
  | 4 => (1, 4)
  | 5 => (1, 656)
  | 6 => (1, 1)
  | 7 => (32, 1)
  | 8 => (1, 2)
  | _ => (1, 0)

/-- The prior rate of a pool in thousandths per year (R460). -/
def poolRate : Nat → Nat
  | 0 => 50
  | 1 => 10
  | 2 => 500
  | 3 => 20
  | 4 => 50
  | 5 => 4000
  | 6 => 50
  | 7 => 200
  | _ => 50

/-- The number of elements consumed of a sub-pool. -/
def State.poolUsed (s : State) (p sub : Nat) : Nat := sget (fun _ => 0) s.ledger.used (p * 65536 + sub)

/-- LEFT of a pool: what remains in its most depleted sub-pool (R460). -/
def State.poolLeft (s : State) (p : Nat) : Nat :=
  (poolShape p).2 - (List.range (poolShape p).1).foldl (fun m i => max m (s.poolUsed p i)) 0

/-- c(y): entries of ACTION 1 to 3 of a pool in the last `y` years (R463): an entry counts for the half-open window of `y`
years that begins with it (R8). -/
def State.poolRecent (s : State) (p y : Nat) : Nat :=
  (s.ledger.log.filter fun e =>
    e.pool == p && 1 ≤ e.action && e.action ≤ 3 && decide (s.opsec < e.opsec + y * yearSec)).length

/-- The forecast of a pool in months (R463): 12 × LEFT × n over the largest of the three rates, saturated. -/
def State.forecast (s : State) (p : Nat) : Nat :=
  let x := 12 * s.poolLeft p * (poolShape p).1
  let a := min (5 * yearSec) (max s.opsec yearSec)
  let c1 := s.poolRecent p 1
  let c5 := s.poolRecent p 5
  let f1 := x * 1000 / poolRate p
  let f2 := if c1 = 0 then f1 else min f1 (x / c1)
  min 4095 (if c5 = 0 then f2 else min f2 (x * a / (c5 * yearSec)))

/-- The forecast of one pool put into `EVR.POOL`, with its warning and its empty mark (R463). -/
def State.forecastPool (s : State) (p : Nat) : State :=
  let a := Reg.EVR_POOL p
  let f := s.forecast p
  let left := s.poolLeft p
  let warnNow := decide (f < 12)
  let emptyNow := decide (left = 0)
  let s1 := ((s.wrF a 20 12 f).wrF a 8 8 (min 255 left)).wrB a 18 warnNow |>.wrB a 19 emptyNow
  let s2 := if warnNow && !s.rdB a 18 then s1.setEvt Reg.EVR_EVT 9 else s1
  if emptyNow && !s.rdB a 19 then (s2.setEvt Reg.EVR_EVT 8).setPair { s2.pair with sparesWarning := true } else s2

/-- The entry that a full log may overwrite: the oldest of ACTION 5 more than 86,400 operating seconds old, else the
oldest of ACTION 4 (R461). -/
def overwritable (opsec : Nat) (log : List LedgerEntry) : Option LedgerEntry :=
  match log.find? (fun e => e.action == 5 && decide (e.opsec + 86400 < opsec)) with
  | some e => some e
  | none => log.find? (fun e => e.action == 4)

/-- One entry appended to the ledger (R461). `take` says whether the sub-pool loses (1) or regains (2) an element. -/
def State.ledgerEntry (pool sub action cause : Nat) (old new : W32) (recSeq take : Nat) (s : State) : State :=
  let key := pool * 65536 + sub
  let u := s.poolUsed pool sub
  let u' := if take = 1 then min (poolShape pool).2 (u + 1) else if take = 2 then u - 1 else u
  let e : LedgerEntry :=
    { entry := s.ledger.count, opsec := s.opsec, pool := pool, action := action,
      cause := cause, old := old, new := new, evrseq := recSeq }
  let l := { s.ledger with used := sset (fun _ => 0) s.ledger.used key u' }
  let s1 :=
    if s.ledger.log.length < 65536 then
      ((s.setLedger { l with log := l.log ++ [e], count := l.count + 1 }).wrF Reg.EVR_LEDGER 0 17
        (s.ledger.log.length + 1)).setEvt Reg.EVR_EVT 10
    else
      match overwritable s.opsec s.ledger.log with
      | some o =>
        ((s.setLedger { l with log := l.log.erase o ++ [e], count := l.count + 1 }).wrB Reg.EVR_LEDGER 30 true).setEvt
          Reg.EVR_EVT 10
      | none => ((s.setLedger l).wrB Reg.EVR_LEDGER 29 true).incF Reg.EVR_LEDGER 17 12
  let s2 := if 1 ≤ action ∧ action ≤ 3 then s1.incF (Reg.EVR_POOL pool) 0 8 else s1
  (s2.setLedger (if s2.ledger.count % 2 = 0 then { s2.ledger with blockA := s2.ledger.count }
    else { s2.ledger with blockB := s2.ledger.count })).forecastPool pool

/-! ### Role, and the faults that affect control -/

/-- The role changes (R10, R380). -/
def State.setRole (r : Role) (s : State) : State :=
  if s.pair.role = r then s
  else ((s.setPair { s.pair with role := r }).setEvt Reg.COL_EVT 0).rec02 0

def State.group (s : State) (g : Nat) : Group := sget (fun _ => {}) s.groups g
def State.setGroup (g : Nat) (v : Group) (s : State) : State := { s with groups := sset (fun _ => {}) s.groups g v }

/-- The transactions of a group's modems are lost (R295). -/
def State.hartLost (g : Nat) (s : State) : State :=
  ((s.group g).modems.foldl (fun s e => s.wrB (Reg.FCH_HM_STAT g (e.1 % 4)) 31 false) s).setGroup g { s.group g with modems := [] }

/-- Every transaction is lost when the module ceases to be Active (R295). -/
def State.hartDrop (s : State) : State := (List.range 32).foldl (fun s g => s.hartLost g) s

/-- The claim current is removed and every slice set high-impedance (R32, R34, R37, R366, R368); the transmitters of the station
buses are off with every frame withdrawn (R50, R323), the HART transactions are lost (R295), and a claim probe ends with its claim
(R441). -/
def State.release (s : State) : State :=
  State.portsPassive false (State.hartDrop
    { s with
      pair := { s.pair with
        claim := false, returned := false, drive := .highZ, running := false, yield := .none, yieldOff := false,
        yieldWaits := false }
      anvil := { s.anvil with sealing := false }
      start := { s.start with probing := false } })

/-- The claim driver can source current (R35, R388): main-valid holds, the presence loop is closed, and the module is not in
Ember. A module in reset has no claim: its reset has released it, and the commands that claim come after it. -/
def State.claimable (s : State) : Bool := s.power.mainValid && s.power.loop && !s.bellows.ember

/-- The claim current is sourced and returns (R33, R35). -/
def State.sourceClaim (s : State) : State :=
  if s.claimable then s.setPair { s.pair with claim := true, returned := true } else s

/-- A leave code recorded in `COL.CAUSE` (R380). -/
def State.leaveCode (n : Nat) (s : State) : State := (s.wrF Reg.COL_CAUSE 16 8 n).wrB Reg.COL_CAUSE 31 true

/-- A yield code recorded, with YIELD_ERR (R373, R374, R380). -/
def State.yieldErr (n : Nat) (s : State) : State :=
  ((s.wrF Reg.COL_CAUSE 8 8 n).wrB Reg.COL_CAUSE 31 true).setEvt Reg.COL_EVT 5 |>.rec02 5 |>.trialYieldOff

/-- An Active module resigns with a leave code (R368, R12); in any other role nothing happens. -/
def State.resign (code : Nat) (s : State) : State :=
  if s.pair.role = .active then
    (((s.release.send (.control 1 [code])).leaveCode code).setEvt Reg.COL_EVT 1 |>.rec02 1).setRole .outOfService
  else s

/-- A module that is not Active goes out of service, reporting itself not ready (R24, R433). -/
def State.outOfService (s : State) : State :=
  let s1 := s.release
  (s1.setPair { s1.pair with ownFault := true }).setRole .outOfService

/-- A fault that affects control (R22, R24). -/
def State.affectsControl (s : State) : State :=
  let s1 := s.setPair { s.pair with ctlFault := true }
  if s1.pair.role = .active then s1.resign 1 else s1.outOfService

/-- The pair alarm (R23, R24, R362, R370, R371), recorded when it is first raised. -/
def State.raisePairAlarm (s : State) : State :=
  if s.pair.pairAlarm then s else (s.setPair { s.pair with pairAlarm := true }).rec02 0x80

end Sys2Proof.Machine
end

