-- ==== Sys2Proof/Machine/Triads.lean ====
section
/-!
DEFINITION. Lanes, the voter's findings, resynchronisation, retirement and the spare pool (07, R185 to R206). -/
namespace Sys2Proof.Machine

/-! ### The lane map and the pool -/

/-- `TRI.STATE.MODE` of a triad (R206): 0 TRIPLE, 1 RESYNC, 2 DUPLEX, 3 SPLIT, 4 JOINING, 5 HALTED. -/
def State.triMode (s : State) (t : Nat) : Nat := s.rdF (Reg.TRI_STATE t) 0 3

/-- The core in a lane of a triad (R185). -/
def State.laneCore (s : State) (t k : Nat) : Nat := s.rdF (Reg.TRI_LANEMAP t) (8 * k) 4

/-- A lane of a triad is occupied and in service. -/
def State.laneValid (s : State) (t k : Nat) : Bool := s.rdB (Reg.TRI_LANEMAP t) (8 * k + 4)

/-- A lane takes part in the vote (`TRI.STATE.LANE_OK`). -/
def State.laneOk (s : State) (t k : Nat) : Bool := s.rdB (Reg.TRI_STATE t) (8 + k)

/-- A core put into a lane, or the lane marked without one. -/
def State.setLane (t k core : Nat) (valid : Bool) (s : State) : State :=
  (s.wrF (Reg.TRI_LANEMAP t) (8 * k) 4 core).wrB (Reg.TRI_LANEMAP t) (8 * k + 4) valid

/-- The lane and triad that a core occupies, if any. -/
def State.coreLane (s : State) (c : Nat) : Option (Nat × Nat) :=
  (List.range 12).findSome? fun i =>
    if s.laneValid (i / 3) (i % 3) && s.laneCore (i / 3) (i % 3) == c then some (i / 3, i % 3) else none

/-- The state of a spare slot (R206): 0 EMPTY, 1 READY, 2 PARKED, 3 TEST, 4 INDEP, 5 FAILED. -/
def State.slotState (s : State) (i : Nat) : Nat := s.rdF (Reg.TRI_POOL 0) (8 * i + 4) 4

/-- The core of a spare slot. -/
def State.slotCore (s : State) (i : Nat) : Nat := s.rdF (Reg.TRI_POOL 0) (8 * i) 4

/-- An island is without power (R65). -/
def State.islandOff (s : State) (i : Nat) : Bool := bit s.islandsOff i

/-- The island that the guard of a master lies in (R56): with its core, or its triad; of a retired core none; of an engine or
a channel the fabric. -/
def State.guardIsland (s : State) (m : Nat) : Option Nat :=
  if m < 16 then
    match s.coreLane m with
    | some (t, _) => some t
    | none => ((List.range 4).find? fun i => s.slotCore i == m && s.slotState i != 0).map fun i => 4 + i
  else if 24 ≤ m ∧ m ≤ 27 then some (m - 24)
  else some 8

/-- The island that a register block lies in, if it can lose power (R56, R65): a triad's voter and port, and its own registers,
lie in its island. Blocks that R56 places nowhere, such as COL, lie on the always-on side (DESIGN CHOICE,
notes/assumptions/72.md). -/
def State.blockIsland (s : State) (a : Nat) : Option Nat :=
  if 0x10030000 ≤ a ∧ a < 0x10034000 then if a % 0x1000 < 0x100 then some ((a - 0x10030000) / 0x1000) else none
  else if 0x10040000 ≤ a ∧ a < 0x10050000 then s.guardIsland ((a - 0x10040000) / 0x100)
  else if 0x10050000 ≤ a ∧ a < 0x10080000 then some 8
  else if 0x100B0000 ≤ a ∧ a < 0x100C0000 then some 15
  else if 0x100C0000 ≤ a ∧ a < 0x100D0000 then some 12
  else if 0x10100000 ≤ a ∧ a < 0x10108000 then some 14
  else if 0x10200000 ≤ a ∧ a < 0x10210000 then some 13
  else if 0x11000000 ≤ a ∧ a < 0x11100000 then some (16 + (a - 0x11000000) / 0x8000)
  else if 0x12000000 ≤ a ∧ a < 0x12010000 then some 8
  else none

/-- An address lies in a window of R71; each window runs up to the next base. -/
def inWindows (a : Nat) : Bool := 0x10000000 ≤ a && a < 0x12010000

/-- The block of an address has no power (R65). -/
def State.blockOff (s : State) (a : Nat) : Bool :=
  match s.blockIsland a with
  | some i => s.islandOff i
  | none => false

/-- A command that is an access to a register of a block: a bus error while the block has no power (R65). -/
def State.atBlock (a : Nat) (f : State → State) (s : State) : State := if s.blockOff a then s.busErr else f s

/-- A spare slot put into a state (R206), and its island with it: the spare of a READY slot is in Idle, that of a PARKED one in
Banked, where the island has no power (R385, R402). -/
def State.setSlot (i st : Nat) (s : State) : State :=
  let s1 := (s.wrF (Reg.TRI_POOL 0) (8 * i + 4) 4 st).wrF Reg.BEL_STATE (2 * (4 + i)) 2 (if st = 1 then 1 else if st = 2 then 2 else 0)
  { s1 with islandsOff := if st = 2 then setB s.islandsOff (4 + i) else clrB s.islandsOff (4 + i) }

/-- The spare of a slot counts as READY (1) or PARKED (2), or the slot is in another state; a spare under test counts as what it
was before (R198). -/
def State.slotIs (s : State) (i st : Nat) : Bool :=
  s.slotState i == st || (s.slotState i == 3 && s.ledger.tested == some (i, st))

/-- The lowest-numbered slot in a state. -/
def State.slotIn (s : State) (st : Nat) : Option Nat := (List.range 4).find? fun i => s.slotIs i st

/-- The slot that holds core c as an independent core. -/
def State.indepSlot (s : State) (c : Nat) : Option Nat :=
  (List.range 4).find? fun i => s.slotState i == 4 && s.slotCore i == c

/-- A target exists (R153, R168): a joined triad, or a core that is a spare in service or belongs to a split triad. -/
def State.exists (s : State) (x : Nat) : Bool :=
  if x < 4 then s.triMode x < 3
  else if x < 16 then false
  else
    (s.indepSlot (x - 16)).isSome ||
      (match s.coreLane (x - 16) with
       | some (t, _) => s.triMode t == 3
       | none => false)

/-- Some enabled source targets `x` at a tier from 1 to 14 (R200, R386). -/
def State.hasControl (s : State) (x : Nat) : Bool :=
  (List.range 256).any fun n => s.srcEn n && s.srcTarget n == x && 1 ≤ s.srcTier n && s.srcTier n ≤ 14

/-- A level source whose activation has ended or been abandoned fires again while its condition holds (R465). -/
def State.refire (ns : List Nat) (s : State) : State :=
  ns.foldl (fun s n => if s.levelCond n then s.fire n else s) s

/-- The sources whose activations a target holds. -/
def Ctx.owners (c : Ctx) : List Nat := c.owner.filterMap fun e => if e.2 = 0 then none else some (e.2 - 1)

/-- The activations of a target abandoned (R168, R199, R203): registers, stacks and saved contexts are gone and the
target waits. -/
def State.abandonAll (x : Nat) (s : State) : State := (s.setCtx x Ctx.idle).refire (s.ctx x).owners

/-! ### Pool warnings -/

/-- The pool has no READY and no PARKED spare left. -/
def State.poolBare (s : State) : Bool := (s.slotIn 1).isNone && (s.slotIn 2).isNone

/-- Source 178 + 4t when the pool has just lost its last READY or PARKED spare (R206); the pool is shared, and `t` is the
triad whose command or lane took it (DESIGN CHOICE, notes/assumptions/106.md). -/
def State.poolFired (t : Nat) (before : State) (s : State) : State :=
  if s.poolBare && !before.poolBare then s.fire (178 + 4 * t) else s

/-! ### Mismatches -/

/-- The history of a core's mismatches within the window of R196, the present second `now` included. -/
def mismatchWindow (now : Nat) (l : List Nat) : List Nat := l.filter fun x => decide (now < x + 86400) && decide (x ≤ now)

/-- The mismatch history of a core (R196). -/
def State.history (s : State) (c : Nat) : List Nat := sget (fun _ => []) s.ledger.history c

/-- `TRI.MISCNT` with its lane fields as they read (R206): the mismatches of each lane's core within the window of R196. -/
def State.missCounts (s : State) (t : Nat) : W32 :=
  (List.range 3).foldl
    (fun w k => setF w (4 * k) 4
      (if s.laneValid t k then min 15 (mismatchWindow s.opsec (s.history (s.laneCore t k))).length else 0)) (s.rd (Reg.TRI_MISCNT t))

/-- The lane fields of `TRI.MISCNT` brought up to date. -/
def State.laneCounts (t : Nat) (s : State) : State := s.wr (Reg.TRI_MISCNT t) (s.missCounts t)

/-- What `TRI.LASTMIS` and `TRI.LASTMIS_ADDR` record (R206). -/
def State.lastMis (t lane kind icnt : Nat) (addr : W32) (s : State) : State :=
  (s.wr (Reg.TRI_LASTMIS t) (BitVec.ofNat 32 (2 ^ 31 + lane * 2 ^ 26 + kind * 2 ^ 20 + icnt % 2 ^ 16))).wr
    (Reg.TRI_LASTMIS_ADDR t) addr

/-- A lane's repair begins (R192): the lane leaves the vote and the triad runs in duplex. -/
def State.startRepair (t lane : Nat) (core : Option Nat) (phase kind : Nat) (s : State) : State :=
  (((s.wrF (Reg.TRI_STATE t) 0 3 1).wrF (Reg.TRI_STATE t) 4 2 lane).wrB (Reg.TRI_STATE t) (8 + lane) false).setTriad t
    { s.triad t with repair := some { lane := lane, core := core, phase := phase, kind := kind, since := s.now } }

/-- A triad halts (R191): its port issues nothing, and the fault affects control (R205). -/
def State.haltTriad (t : Nat) (s : State) : State :=
  let s1 := (s.wrF (Reg.TRI_STATE t) 0 3 5).setTriad t { s.triad t with repair := none }
  let s2 := (s1.setCtx t { s1.ctx t with halted := true }).fire (176 + 4 * t)
  s2.affectsControl

/-- A spare that a repair in progress has already taken. -/
def State.pledged (s : State) (c : Nat) : Bool :=
  (List.range 4).any fun t => match (s.triad t).repair with
    | some r => r.core == some c
    | none => false

/-- The lowest-numbered slot in a state whose spare no repair has taken. -/
def State.freeSlot (s : State) (st : Nat) : Option Nat :=
  (List.range 4).find? fun i => s.slotIs i st && !s.pledged (s.slotCore i)

/-- A spare that is called on leaves its proof test (R198). -/
def State.callOff (i st : Nat) (s : State) : State :=
  if s.slotState i = 3 then (s.setSlot i st).setLedger { s.ledger with tested := none } else s

/-- The substitution entered in the ledger: the lane's old core replaced by a spare (R197, R461). -/
def State.enterSpare (old new cause : Nat) (s : State) : State :=
  s.ledgerEntry 0 0 1 cause (BitVec.ofNat 32 old) (BitVec.ofNat 32 new) (s.recorder.next - 1) 1

/-- No spare is left for a lane: the triad stays DUPLEX, with a spares warning (R197). -/
def State.stayDuplex (t lane old cause : Nat) (s : State) : State :=
  let s1 := s.ledgerEntry 0 0 2 cause (BitVec.ofNat 32 old) 0xFFFFFFFF#32 (s.recorder.next - 1) 0
  let s2 := ((s1.wrF (Reg.TRI_STATE t) 0 3 2).wrB (Reg.TRI_STATE t) (8 + lane) false).setTriad t
    { s1.triad t with repair := none }
  s2.setPair { s2.pair with sparesWarning := true }

/-- The lane is filled by a spare in the order of R198: a READY spare; else a PARKED one after its wake; else a spare in
service as an independent core, whose activations are abandoned. -/
def State.fillLane (t lane old kind cause : Nat) (s : State) : State :=
  match s.freeSlot 1 with
  | some i => ((s.callOff i 1).enterSpare old (s.slotCore i) cause).startRepair t lane (some (s.slotCore i)) 1 kind
  | none =>
    match s.freeSlot 2 with
    | some i => ((s.callOff i 2).enterSpare old (s.slotCore i) cause).startRepair t lane (some (s.slotCore i)) 0 kind
    | none =>
      match s.freeSlot 4 with
      | some i =>
        (((s.enterSpare old (s.slotCore i) cause).abandonAll (16 + s.slotCore i)).setSlot i 0).startRepair t lane
          (some (s.slotCore i)) 1 kind
      | none => s.stayDuplex t lane old cause

/-- The core of a lane is retired (R196, R197): it is isolated and powered off for good, source 178 + 4t is raised, and
the lane is filled. -/
def State.retire (t lane kind cause : Nat) (s : State) : State :=
  let old := s.laneCore t lane
  ((s.setLane t lane old false).fire (178 + 4 * t)).fillLane t lane old kind cause

/-- A mismatch of the core in a lane (R191, R194, R196): recorded, counted in TOTAL and in the core's history, entered in the
ledger, and reported through source 176 + 4t. -/
def State.countMismatch (t lane core kind icnt : Nat) (addr : W32) (s : State) : State :=
  let s1 := (s.lastMis t lane kind icnt addr).incF (Reg.TRI_MISCNT t) 16 16
  let s2 := s1.setLedger { s1.ledger with
    history := sset (fun _ => []) s1.ledger.history core (mismatchWindow s.opsec (s.history core) ++ [s.opsec]) }
  let s3 := (s2.laneCounts t).rec03 t (0x80 + t) []
  (s3.ledgerEntry 0 0 5 (0x80 + t) (BitVec.ofNat 32 core) 0xFFFFFFFF#32 (s3.recorder.next - 1) 0).fire (176 + 4 * t)

/-- No two copies agree in triple mode, or the two of a duplex triad differ (R191): nothing is issued and the triad halts. -/
def State.noMajority (t kind icnt : Nat) (addr : W32) (s : State) : State :=
  if s.triMode t < 3 then
    ((s.lastMis t 3 kind icnt addr).incF (Reg.TRI_MISCNT t) 16 16 |>.rec03 t (0x80 + t) []).haltTriad t
  else s

/-- A mismatch of one lane against the other two (R191, R196): counted, then the lane is resynchronised, or its core is retired
at the third mismatch within the window. In duplex the two copies differ. -/
def State.mismatch (t lane kind icnt : Nat) (addr : W32) (s : State) : State :=
  if s.triMode t = 0 then
    let c := s.laneCore t lane
    let s1 := (s.countMismatch t lane c kind icnt addr).setTriad t
      { s.triad t with upset := clrB (s.triad t).upset lane }
    if 3 ≤ (mismatchWindow s.opsec (s.history c)).length + 1 then s1.retire t lane kind (0x80 + t)
    else s1.startRepair t lane none 2 kind
  else s.noMajority t kind icnt addr

/-- A copy of a triad's voter or port disagrees with the other two (R191, R456): it is masked, reported as a mismatch of kind PORT
and entered in the ledger; a second failing copy halts the triad. LASTMIS names the copy in its LANE field. -/
def State.voterFault (t copy icnt : Nat) (addr : W32) (s : State) : State :=
  let v := s.triad t
  if bit v.voterMasked copy then s
  else
    let s1 := ((s.setTriad t { v with voterMasked := setB v.voterMasked copy }).lastMis t copy 9 icnt addr).incF
      (Reg.TRI_MISCNT t) 16 16
    let s2 := s1.rec03 t (0x80 + t) []
    if v.voterMasked = 0 then
      (s2.ledgerEntry 1 t 2 (0x80 + t) (BitVec.ofNat 32 (4 * t + copy)) 0xFFFFFFFF#32 (s2.recorder.next - 1) 1).fire (176 + 4 * t)
    else s2.haltTriad t

/-- A vote on a signature of the lanes of a joined triad (R184, R189): kind 4 on the running signature of the register state, kind
5 on that of a frame access. A diverged lane shows here. -/
def State.sigVote (x kind : Nat) (s : State) : State :=
  if 4 ≤ x then s
  else
    match (List.range 3).filter fun k => bit (s.triad x).upset k with
    | [] => s
    | [k] => if s.laneOk x k then s.mismatch x k kind (s.ctx x).icnt.toNat 0 else s
    | _ => s.noMajority x kind (s.ctx x).icnt.toNat 0

/-- A response later than its fixed cost (R93): counted, with the largest excess and the target, 1 MRAM or 2 a register block, and
reported through source 179 + 4t. -/
def State.overrun (t n target : Nat) (s : State) : State :=
  let a := Reg.TRI_OVERRUN t
  (((s.incF a 16 16).wrF a 8 8 (max (s.rdF a 8 8) (min 255 n))).wrF a 0 4 target).fire (179 + 4 * t)

/-- A triad command is ignored (R206). -/
def State.triCmdErr (t : Nat) (s : State) : State := s.wrB (Reg.TRI_STATE t) 31 true

/-! ### Guards and what follows them (R175, R176) -/

/-- `GRD.CTRL.STATE` of a master: 0 enabled, 1 draining, 2 disabled (R177). -/
def State.guardState (s : State) (m : Nat) : Nat := s.rdF (Reg.GRD_CTRL m) 8 2

/-- The guard of a master is enabled (R175). -/
def State.guardOn (s : State) (m : Nat) : Bool := s.guardState m == 0

/-- The master whose guard checks a channel: its own, or the migration guard of a triad under MGUARD (R176). -/
def State.chanGuard (s : State) (c : Nat) : Nat :=
  if (s.chan c).mguard then 24 + (s.chan c).mtriad.toNat else 32 + c

/-- A channel whose guard has ceased to be enabled stalls before its next access, and runs on when the guard is enabled
(R175, R176, R180). -/
def State.channelsFollow (m : Nat) (s : State) : State :=
  if 24 ≤ m then
    (List.range 16).foldl (fun s c =>
      if s.chanGuard c = m then
        let a := Reg.DMA_CH_STAT c
        let st := s.rdF a 0 3
        if s.guardOn m && st == 2 then s.wrF a 0 3 1
        else if !s.guardOn m && st == 1 then s.wrF a 0 3 2
        else s
      else s) s
  else s

/-! ### A triad reset (R203, R204, R168) -/

/-- The keys of the tightly coupled data of triad t (R67). -/
def tcdBase (t : Nat) : Nat := 0x05000000 + t * 0x100000

/-- The key of the tightly coupled data that core c holds alone while its triad is split (R201); outside the 32-bit
address space. -/
def splitTcd (c : Nat) : Nat := 0x100000000 + c * 0x100000

/-- A block of memory copied byte by byte where it is listed: bytes of [dst, dst + n) become those of [src, src + n). -/
def State.copyMem (src dst n : Nat) (s : State) : State :=
  let m := (s.mem.filter fun e => src ≤ e.1 && e.1 < src + n).foldl
    (fun m e => sset memDefault m (e.1 - src + dst) e.2) (skeep (fun a => !(dst ≤ a && a < dst + n)) s.mem)
  { s with mem := m }

/-- A block of memory back to what unlisted bytes read as. -/
def State.dropMem (a n : Nat) (s : State) : State :=
  { s with mem := skeep (fun x => !(a ≤ x && x < a + n)) s.mem }

/-- The guards that a reset of triad t resets: those of its three lane cores and its migration guard (R177). -/
def State.triGuards (s : State) (t : Nat) : List Nat := [s.laneCore t 0, s.laneCore t 1, s.laneCore t 2, 24 + t]

/-- The pending bits of the sources that target `x` cleared (R168). -/
def State.clearPending (x : Nat) (s : State) : State := { s with tic := s.tic.filter fun e => s.srcTarget e.1 != x }

/-- Guards back to their reset values (R177): a channel that runs under one of them stalls (R175). -/
def State.dropGuards (gs : List Nat) (s : State) : State :=
  gs.foldl (fun s m => s.channelsFollow m)
    { s with regs := skeep (fun a => !(0x10040000 ≤ a && a < 0x10050000 && gs.contains ((a - 0x10040000) / 0x100))) s.regs }

/-- A spare put into a lane at a reset (R203): its slot is empty, and its guard is reset with the others. -/
def State.laneTakes (t k i : Nat) (s : State) : State :=
  let c := s.slotCore i
  s.poolFired t (((s.setSlot i 0).dropGuards [c]).setLane t k c true)

/-- A repair that waits for a PARKED spare to wake. -/
def Repair.waits (r : Repair) : Bool := r.core.isSome && r.phase == 0

/-- The spare that a substitution brings into a lane keeps it through a reset (R203), at once when it is awake. -/
def State.receiverKeeps (t : Nat) (r : Repair) (s : State) : State :=
  match r.core with
  | some c =>
    if r.waits then s
    else
      match (List.range 4).find? fun i => s.slotCore i == c with
      | some i => s.laneTakes t r.lane i
      | none => s.setLane t r.lane c true
  | none => s

/-- An empty lane filled by a READY spare at a reset (R203), unless it is the one that waits for a spare's wake. -/
def State.readyFills (t : Nat) (waiting : Option Nat) (k : Nat) (s : State) : State :=
  if s.laneValid t k || waiting == some k then s
  else
    match s.freeSlot 1 with
    | some i => (((s.callOff i 1).enterSpare (s.laneCore t k) (s.slotCore i) 2).laneTakes t k i).fire (178 + 4 * t)
    | none => s

/-- The lanes at their release from a reset (R203), `r` being the repair that it met: a spare that was being brought in keeps the
lane, or a retired lane is filled by a spare; the triad is DUPLEX while one lane waits for a PARKED spare's wake, and halts with
two lanes empty (DEDUCED, notes/assumptions/86.md). -/
def State.lanesFill (t : Nat) (r : Option Repair) (s : State) : State :=
  let kept := r.filter Repair.waits
  let s0 := s.setTriad t { s.triad t with repair := kept }
  let s1 := match r with
    | some v => s0.receiverKeeps t v
    | none => s0
  let s2 := (List.range 3).foldl (fun s k => s.readyFills t (kept.map fun v => v.lane) k) s1
  let bare := (List.range 3).filter fun k => !s2.laneValid t k
  let s3 := (s2.wr (Reg.TRI_STATE t) (bare.foldl (fun w k => clrB w (8 + k)) 0x700#32)).laneCounts t
  match bare with
  | [] => s3
  | [k] =>
    let s4 := if kept.isSome then s3 else s3.fillLane t k (s3.laneCore t k) 11 2
    if (s4.triad t).repair.any Repair.waits then s4.wrF (Reg.TRI_STATE t) 0 3 2 else s4
  | _ => s3.haltTriad t

/-- The cores of a split triad cease to be targets, and their own copies of the tightly coupled data go (R201, R203). -/
def State.dropSplit (t : Nat) (s : State) : State :=
  if s.triMode t = 3 ∨ s.triMode t = 4 then
    (List.range 3).foldl (fun s k =>
      (s.dropMem (splitTcd (s.laneCore t k)) 0x80000).abandonAll (16 + s.laneCore t k)) s
  else s

/-- The three lanes of a triad leave reset together (R203). `keep` holds the tightly coupled data through it (R387). -/
def State.lanesFresh (t : Nat) (keep : Bool) (s : State) : State :=
  let gs := s.triGuards t
  let s0 := s.dropGuards gs
  let s1 := { s0 with
    mem := if keep then s.mem else skeep (fun a => !(tcdBase t ≤ a && a < tcdBase t + 0x80000)) s.mem }
  let s2 := ((((s1.dropSplit t).abandonAll t).wr (Reg.TRI_CTRL t) 0).wr (Reg.TRI_ICP t) 0).wr (Reg.TRI_DCP t) 0
  (s2.setTriad t { s2.triad t with repair := none, deferred := [], holdoff := false, upset := 0 }).lanesFill t (s.triad t).repair

/-- A triad reset of Tt (R203): the TIC effects of R168, and a fault that affects control when the module is Active and
the triad has control sources (R204). A Standby with control sources is not ready (R205). -/
def State.triadReset (t : Nat) (s : State) : State :=
  let control := s.hasControl t
  let s1 := (((s.chgTriadReset t).clearPending t).wrB Reg.SYS_RESET_CAUSE (4 + t) true).lanesFresh t false
  if control && (s1.pair.role == .active || s1.pair.role == .standby) then s1.affectsControl else s1

end Sys2Proof.Machine
end

