-- ==== Sys2Proof/Machine/TriadOps.lean ====
section
/-!
DEFINITION. The commands of Triads, voting and spare cores (07). -/
namespace Sys2Proof.Machine

/-- A lane's copy does not reach the voter within 32 triad cycles of the other two (R190): a mismatch of kind TIMEOUT.
`icnt` is the majority's ICNT at the transaction. -/
def execVoterTimeout (t : Fin 4) (lane : Fin 3) (icnt : W16) (s : State) : Host.Outcome State Fault Refusal :=
  .next (s.mismatch t lane 6 icnt.toNat 0)

/-- The spare taken for a lane is connected to the lane's place and clocked from the triad island (R192, R198). -/
def execResyncSpareConnected (t : Fin 4) (s : State) : Host.Outcome State Fault Refusal :=
  match (s.triad t).repair with
  | some r =>
    match r.core with
    | some c =>
      if s.triMode t = 1 && r.phase == 1 && !(s.triad t).holdoff then
        let s1 := s.setTriad t { s.triad t with repair := some { r with phase := 2 } }
        match (List.range 4).find? fun i => s.slotCore i == c with
        | some i => .next (s.poolFired t (s1.setSlot i 0))
        | none => .next s1
      else .next s
    | none => .next s
  | none => .next s

/-- A copy fails the check of R194: a mismatch of the receiving core, KIND 8, which is retired instead of rejoining (R196). -/
def State.copyFailed (t lane core : Nat) (s : State) : State :=
  let s1 := s.countMismatch t lane core 8 0 0
  (((s1.setLane t lane core false).wrB (Reg.TRI_STATE t) (8 + lane) false).setTriad t
    { s1.triad t with repair := none }).fire (178 + 4 * t)

/-- The copier has copied a lane's state and compares signatures (R194): after a failed comparison the receiving core is retired
and the lane filled by a spare; otherwise the lane awaits its rejoin. No copy is made within 60 µs of the end of the previous
resynchronisation (R193). -/
def execResyncCopyDone (t : Fin 4) (same : Bool) (s : State) : Host.Outcome State Fault Refusal :=
  match (s.triad t).repair with
  | some r =>
    if s.triMode t = 1 && r.phase == 2 && !(s.triad t).holdoff then
      if same then .next (s.setTriad t { s.triad t with repair := some { r with phase := 3 } })
      else
        let core := match r.core with
          | some c => c
          | none => s.laneCore t r.lane
        .next (((s.copyFailed t r.lane core).fillLane t r.lane core 8 (0x80 + t)).laneCounts t)
    else .next s
  | none => .next s

/-- The registers of the guard of one master, CTRL and the regions, copied to another's window (R193), where LOCK stays set
(R5). -/
def State.copyGuard (src dst : Nat) (s : State) : State :=
  let lock := s.rd (Reg.GRD_CTRL dst) &&& 0x80000000#32
  (List.range 36).foldl (fun s i =>
    if i = 3 then s
    else
      let v := s.rd (0x10040000 + 0x100 * src + 4 * i)
      s.wr (0x10040000 + 0x100 * dst + 4 * i) (if i = 0 then v ||| lock else v)) s

/-- The guards of a joined triad's lanes read alike (R169): LOCK of one is LOCK of all, as it is never cleared (R5; DEDUCED,
notes/assumptions/107.md). -/
def State.lockAlike (t : Nat) (s : State) : State :=
  let cs := ((List.range 3).filter fun k => s.laneValid t k).map fun k => s.laneCore t k
  if cs.any fun c => s.rdB (Reg.GRD_CTRL c) 31 then cs.foldl (fun s c => s.wrB (Reg.GRD_CTRL c) 31 true) s else s

/-- The lower-numbered running lane of a triad, the source of a copy (R192). -/
def State.sourceLane (s : State) (t : Nat) : Nat := (List.range 3).findIdx fun k => s.laneOk t k

/-- The fallback of a triad's core guards, which act as one while it is joined, and of its migration guard ends when the core
whose comparator failed has been replaced (R174); while a further such replacement is due, it stays. -/
def State.fallbackEnds (t : Nat) (s : State) : State :=
  if (s.triad t).deferred.any fun e => e.1 == 10 then s
  else
    let lanes := if s.triMode t = 3 then [] else [s.laneCore t 0, s.laneCore t 1, s.laneCore t 2]
    (lanes ++ [24 + t]).foldl (fun s m => s.wrB (Reg.GRD_CTRL m) 16 false) s

/-- The duration of a repair in units of 10 ns (`TRI.RSTAT.TIME`). -/
def repairTime (s : State) (r : Repair) : Nat := min 0xFFFF ((s.now.toNat - r.since.toNat) / 10)

/-- Rejoin (R192, R193): the running lanes stall 64 triad cycles, the registers are copied, the lane's guard is a copy of that of
the running lanes, and the triad returns to triple mode, with a split that waits still waiting; source 177 + 4t is raised. `when`
is the plant time of the rejoin. -/
def execResyncRejoin (t : Fin 4) (when : W64) (s : State) : Host.Outcome State Fault Refusal :=
  match (s.triad t).repair with
  | some r =>
    if s.triMode t = 1 && r.phase == 3 then
      let s0 := s.atTime when
      let core := match r.core with
        | some c => c
        | none => s0.laneCore t r.lane
      let sg := s0.copyGuard (s0.laneCore t (s0.sourceLane t)) core
      let sf := ((sg.setLane t r.lane core true).lockAlike t).wr (Reg.TRI_STATE t) ((s0.rd (Reg.TRI_STATE t) &&& 0xC0000000#32) ||| 0x700#32)
      let s1 := (if r.core.isSome then sf.fallbackEnds t else sf).setTriad t
        { s0.triad t with repair := none, holdoff := true, upset := clrB (s0.triad t).upset r.lane }
      let s2 := ((s1.incF (Reg.TRI_RSTAT t) 16 16).wrF (Reg.TRI_RSTAT t) 0 16 (repairTime s0 r)).laneCounts t
      let s3 := s2.setCtx t { s2.ctx t with cyc := (s2.ctx t).cyc + 64 }
      .next (s3.fire (177 + 4 * t))
    else .next s
  | none => .next s

/-- A spare takes a lane of a split triad as an independent core of it (R196, R201), with nothing in its private copy of the
tightly coupled data. -/
def State.splitTakes (t lane i : Nat) (s : State) : State :=
  let c := s.slotCore i
  s.poolFired t (((((s.setSlot i 0).dropMem (splitTcd c) 0x80000).setLane t lane c true).setTriad t
    { s.triad t with repair := none }).laneCounts t)

/-- A PARKED spare has been woken to READY (R198): the one that a lane waits for, which is connected next, or takes its lane of a
split triad; or the lowest-numbered. -/
def execSpareWakeDone (slot : Fin 4) (s : State) : Host.Outcome State Fault Refusal :=
  if s.slotState slot = 2 then
    match (List.range 4).find? fun t => match (s.triad t).repair with
        | some r => r.phase == 0 && r.core == some (s.slotCore slot)
        | none => false with
    | some t =>
      match (s.triad t).repair with
      | some r =>
        if s.triMode t = 3 then .next ((s.splitTakes t r.lane slot).fallbackEnds t)
        else .next (((s.setSlot slot 1).wrF (Reg.TRI_STATE t) 0 3 1).setTriad t
          { s.triad t with repair := some { r with phase := 1 } })
      | none => .next s
    | none =>
      if (List.range 4).find? (fun i => s.slotState i == 2 && !s.pledged (s.slotCore i)) = some slot.val then
        .next (s.setSlot slot 1)
      else .next s
  else .next s

/-- A repair in progress makes `TRI.CTRL` commands ignored (R195). -/
def State.repairing (s : State) (t : Nat) : Bool := (s.triad t).repair.isSome

/-- `TRI.CTRL.SPLIT` with its key (R200). -/
def State.triSplit (t : Nat) (s : State) : State :=
  if s.triMode t = 0 && !s.repairing t && !s.hasControl t then s.wrB (Reg.TRI_STATE t) 30 true else s.triCmdErr t

def execTriSplit (t : Fin 4) (s : State) : Host.Outcome State Fault Refusal :=
  .next (s.atBlock (Reg.TRI_CTRL t) fun s => s.triSplit t)

/-- The split takes effect once the triad holds no activation (R200, R201): its three cores become independent targets,
each with its own copy of the tightly coupled data, the stacks and the latches, and no lane takes part in a vote. -/
def execSplitEffect (t : Fin 4) (s : State) : Host.Outcome State Fault Refusal :=
  if s.rdB (Reg.TRI_STATE t) 30 && (s.ctx t).tiers = 0 && s.triMode t = 0 then
    let c0 := s.ctx t
    let s1 := ((s.wrB (Reg.TRI_STATE t) 30 false).wrF (Reg.TRI_STATE t) 0 3 3).wrF (Reg.TRI_STATE t) 8 3 0
    let s2 := (List.range 3).foldl (fun s k =>
      (s.copyMem (tcdBase t) (splitTcd (s.laneCore t k)) 0x80000).setCtx (16 + s.laneCore t k) c0) s1
    .next ((s2.abandonAll t).fire (177 + 4 * t))
  else .next s

/-- `TRI.CTRL.JOIN` with its key (R202): cancels a pending split, or joins a split triad whose cores hold nothing. -/
def State.triJoin (t : Nat) (s : State) : State :=
  if s.repairing t then s.triCmdErr t
  else if s.rdB (Reg.TRI_STATE t) 30 then s.wrB (Reg.TRI_STATE t) 30 false
  else if s.triMode t = 3 && (List.range 3).all (fun k => decide ((s.ctx (16 + s.laneCore t k)).tiers = 0)) then
    (s.wrF (Reg.TRI_STATE t) 0 3 4).setTriad t
      { s.triad t with repair := some { lane := 1, core := none, phase := 4, kind := 11, since := s.now } }
  else s.triCmdErr t

def execTriJoin (t : Fin 4) (s : State) : Host.Outcome State Fault Refusal :=
  .next (s.atBlock (Reg.TRI_CTRL t) fun s => s.triJoin t)

/-- A join completes (R202): the data, stacks, latches and guard of L0's core become those of the triad, and source
177 + 4t is raised. `same` tells, for L1 and L2, whether the check of R194 passed: a core whose copy failed is retired instead of
joining, and its lane is filled by a spare; when both fail, no two lanes agree and the triad halts. A lane without a core leaves
the triad DUPLEX. -/
def execJoinDone (t : Fin 4) (when : W64) (same1 same2 : Bool) (s : State) : Host.Outcome State Fault Refusal :=
  if s.triMode t = 4 then
    let s0 := s.atTime when
    let c0 := s0.laneCore t 0
    let s1 := (s0.copyMem (splitTcd c0) (tcdBase t) 0x80000).setCtx t (s0.ctx (16 + c0))
    let s2 := (List.range 3).foldl (fun s k => (s.dropMem (splitTcd (s.laneCore t k)) 0x80000).abandonAll
      (16 + s.laneCore t k)) s1
    let s3 := ((s2.copyGuard c0 (s2.laneCore t 1)).copyGuard c0 (s2.laneCore t 2)).lockAlike t
    let time := match (s0.triad t).repair with
      | some r => repairTime s0 r
      | none => 0
    let bare := (List.range 3).find? fun k => !s3.laneValid t k
    let word : W32 := (s3.rd (Reg.TRI_STATE t) &&& 0x80000000#32) ||| match bare with
      | some k => clrB 0x702#32 (8 + k)
      | none => 0x700#32
    let s4 := (s3.wr (Reg.TRI_STATE t) word).setTriad t { s3.triad t with repair := none, holdoff := true, upset := 0 }
    let s5 := (s4.incF (Reg.TRI_RSTAT t) 16 16).wrF (Reg.TRI_RSTAT t) 0 16 time
    let s6 := s5.fire (177 + 4 * t)
    let bad1 := !same1 && s6.laneValid t 1
    let bad2 := !same2 && s6.laneValid t 2
    let s7 := if bad1 then s6.copyFailed t 1 (s6.laneCore t 1) else s6
    let s8 := if bad2 then s7.copyFailed t 2 (s7.laneCore t 2) else s7
    if (bad1 && bad2) || ((bad1 || bad2) && bare.isSome) then .next (s8.haltTriad t)
    else if bad1 then .next ((s8.fillLane t 1 (s8.laneCore t 1) 8 (0x80 + t)).laneCounts t)
    else if bad2 then .next ((s8.fillLane t 2 (s8.laneCore t 2) 8 (0x80 + t)).laneCounts t)
    else .next s8
  else .next s

/-- A request through `TRI.CTRL` recorded in `TRI.LASTMIS` with KIND 11, not counted (R196). -/
def State.requested (t lane : Nat) (s : State) : State :=
  s.lastMis t lane 11 (s.ctx t).icnt.toNat 0

/-- `TRI.CTRL.RESYNC` with its key (R192): accepted in triple mode; a lane number of 3 or a repair in progress is an
error. Within 60 µs of the previous resynchronisation it waits (R193). -/
def State.triResync (t lane : Nat) (s : State) : State :=
  if lane < 3 && s.triMode t = 0 && !s.repairing t then
    if (s.triad t).holdoff then s.setTriad t { s.triad t with deferred := (s.triad t).deferred ++ [(0, lane)] }
    else (s.requested t lane).startRepair t lane none 2 11
  else s.triCmdErr t

def execTriResync (t : Fin 4) (lane : Fin 4) (s : State) : Host.Outcome State Fault Refusal :=
  .next (s.atBlock (Reg.TRI_CTRL t) fun s => s.triResync t lane)

/-- The core of a lane retired on request or by a fallen-back guard, recorded under class 0x03. -/
def State.retireNow (t lane kind : Nat) (s : State) : State :=
  ((s.lastMis t lane kind (s.ctx t).icnt.toNat 0).rec03 t kind []).retire t lane kind kind

/-- `TRI.CTRL.RETIRE` with its key (R196): accepted in triple mode. -/
def State.triRetire (t lane : Nat) (s : State) : State :=
  if lane < 3 && s.triMode t = 0 && !s.repairing t then
    if (s.triad t).holdoff then s.setTriad t { s.triad t with deferred := (s.triad t).deferred ++ [(11, lane)] }
    else s.retireNow t lane 11
  else s.triCmdErr t

def execTriRetire (t : Fin 4) (lane : Fin 4) (s : State) : Host.Outcome State Fault Refusal :=
  .next (s.atBlock (Reg.TRI_CTRL t) fun s => s.triRetire t lane)

/-- The core of a lane of a split triad retired (R196): its activations are abandoned, and a spare, taken in the order of R198,
takes the lane as an independent core of the triad, a PARKED one when it has woken; without one the lane stays empty. -/
def State.retireSplit (t lane kind : Nat) (s : State) : State :=
  let old := s.laneCore t lane
  let s1 := ((s.lastMis t lane kind 0 0).rec03 t kind []).abandonAll (16 + old)
  let s2 := ((s1.dropMem (splitTcd old) 0x80000).setLane t lane old false).fire (178 + 4 * t)
  match s2.freeSlot 1, (if (s2.triad t).repair.isSome then none else s2.freeSlot 2), s2.freeSlot 4 with
  | some i, _, _ => (((s2.callOff i 1).enterSpare old (s2.slotCore i) kind).splitTakes t lane i).fallbackEnds t
  | none, some i, _ =>
    ((s2.callOff i 2).enterSpare old (s2.slotCore i) kind).setTriad t
      { s2.triad t with repair := some { lane := lane, core := some (s2.slotCore i), phase := 0, kind := kind, since := s2.now } }
  | none, none, some i =>
    (((s2.enterSpare old (s2.slotCore i) kind).abandonAll (16 + s2.slotCore i)).splitTakes t lane i).fallbackEnds t
  | none, none, none =>
    let s3 := s2.ledgerEntry 0 0 2 kind (BitVec.ofNat 32 old) 0xFFFFFFFF#32 (s2.recorder.next - 1) 0
    s3.setPair { s3.pair with sparesWarning := true }

/-- A replacement that a guard's fallback schedules (R174, R195): at once, or when the repair in progress has ended; the core of
a split triad is retired (R196). -/
def State.replaceLane (t lane : Nat) (s : State) : State :=
  if s.triMode t = 0 && !(s.triad t).holdoff then s.retireNow t lane 10
  else if s.triMode t = 3 && s.laneValid t lane then s.retireSplit t lane 10
  else s.setTriad t { s.triad t with deferred := (s.triad t).deferred ++ [(10, lane)] }

/-- 60 µs after the previous resynchronisation a deferred one may start (R193); a triad that has been split meanwhile retires the
cores that wait for it, and has no lane to resynchronise. -/
def execResyncHoldoffEnd (t : Fin 4) (s : State) : Host.Outcome State Fault Refusal :=
  let s1 := s.setTriad t { s.triad t with holdoff := false }
  match (s.triad t).deferred with
  | [] => .next s1
  | (kind, lane) :: rest =>
    if s.triMode t = 0 then
      let s2 := s1.setTriad t { s1.triad t with deferred := rest }
      if kind = 0 then .next ((s2.requested t lane).startRepair t lane none 2 11)
      else .next (s2.retireNow t lane kind)
    else if s.triMode t = 3 then
      .next ((s.triad t).deferred.foldl (fun s e => if e.1 = 0 || !s.laneValid t e.2 then s else s.retireSplit t e.2 e.1)
        (s1.setTriad t { s1.triad t with deferred := [] }))
    else .next s1

/-- `TRI.POOLCMD.START_INDEP` with its key, in the window of triad `w` (R199); a spare that a lane has already called on is no
longer to be had (DESIGN CHOICE, notes/assumptions/106.md). -/
def State.startIndep (w slot : Nat) (s : State) : State :=
  if (s.slotState slot = 1 ∨ s.slotState slot = 2) ∧ s.pledged (s.slotCore slot) = false then
    s.poolFired w (((s.setSlot slot 4).setCtx (16 + s.slotCore slot) Ctx.idle).dropMem (splitTcd (s.slotCore slot)) 0x80000)
  else s.triCmdErr w

def execStartIndep (w : Fin 4) (slot : Fin 4) (s : State) : Host.Outcome State Fault Refusal :=
  .next (s.startIndep w slot)

/-- `TRI.POOLCMD.STOP_INDEP` with its key (R199): the request waits, marked by the core's context, until its tiers are
empty. -/
def State.stopIndep (w slot : Nat) (s : State) : State :=
  if s.slotState slot = 4 then
    let x := 16 + s.slotCore slot
    if (s.ctx x).tiers = 0 then (s.setSlot slot 2).abandonAll x
    else s.setCtx x { s.ctx x with stopping := true }
  else s.triCmdErr w

def execStopIndep (w : Fin 4) (slot : Fin 4) (s : State) : Host.Outcome State Fault Refusal :=
  .next (s.stopIndep w slot)

/-- An independent core with a stop pending holds no activation and returns to PARKED (R199). -/
def execStopIndepEffect (slot : Fin 4) (s : State) : Host.Outcome State Fault Refusal :=
  let x := 16 + s.slotCore slot
  if s.slotState slot = 4 && (s.ctx x).stopping && (s.ctx x).tiers = 0 then .next ((s.setSlot slot 2).abandonAll x)
  else .next s

/-- `TRI.POOLCMD` as written in the window of triad `w` (R206): both command bits, or neither, do nothing but set CMD_ERR
when both are set. -/
def State.poolCmdWrite (w : Nat) (v : W32) (s : State) : State :=
  if getF v 24 8 = 0xA5 then
    if bit v 0 && bit v 1 then s.triCmdErr w
    else if bit v 0 then s.startIndep w (getF v 8 2)
    else if bit v 1 then s.stopIndep w (getF v 8 2)
    else s
  else s

/-- `TRI.CTRL` as written (R206). -/
def State.triCtrlWrite (t : Nat) (v : W32) (s : State) : State :=
  if getF v 24 8 = 0xA5 then
    let n := b2n (bit v 0) + b2n (bit v 1) + b2n (bit v 3) + b2n (bit v 4)
    if 1 < n || getF v 8 2 = 3 then s.triCmdErr t
    else if bit v 0 then s.triSplit t
    else if bit v 1 then s.triJoin t
    else if bit v 3 then s.triResync t (getF v 8 2)
    else if bit v 4 then s.triRetire t (getF v 8 2)
    else s
  else s

/-- The bytes of a cache partition of SIZE code `n` (R206). -/
def partBytes (n : Nat) : Nat := if n = 0 then 0 else 2048 * 2 ^ n

/-- A cache partition's range obeys the rules of R206: aligned to its size, within Hearth or the DRAM window; 32 KiB in
`TRI.ICP` only. -/
def partOk (dcp : Bool) (v : W32) : Bool :=
  let n := getF v 4 4
  let b := getF v 12 20 * 4096
  n ≤ (if dcp then 3 else 4) && b % (max 1 (partBytes n)) = 0 && (b + partBytes n ≤ 0x40000 || 0x80000000 ≤ b)

/-- The targets that run on the cores of a triad. -/
def State.triTargets (s : State) (t : Nat) : List Nat :=
  if s.triMode t = 3 then (List.range 3).map fun k => 16 + s.laneCore t k else [t]

/-- Lines dropped from the data caches of a triad without writeback (R206). -/
def State.dropLines (t l n : Nat) (s : State) : State :=
  (s.triTargets t).foldl (fun s x =>
    s.setCtx x { s.ctx x with dcache := (s.ctx x).dcache.filter fun e => !(l ≤ e.1 && e.1 < l + n) }) s

/-- A write of `TRI.ICP` or `TRI.DCP` (R206): BASE and SIZE change only while EN is 0, and EN is set only for a range
that obeys the rules; otherwise the write is ignored with CMD_ERR. Clearing EN drops the partition. -/
def State.partWrite (t : Nat) (dcp : Bool) (v : W32) (s : State) : State :=
  let a := if dcp then Reg.TRI_DCP t else Reg.TRI_ICP t
  let old := s.rd a
  let new := v &&& 0xFFFFF0F1#32
  if bit old 0 && (old &&& 0xFFFFF0F0#32) != (new &&& 0xFFFFF0F0#32) then s.triCmdErr t
  else if bit new 0 && !partOk dcp new then s.triCmdErr t
  else if bit old 0 && bit new 0 then s
  else if dcp && bit old 0 then (s.wr a new).dropLines t (getF old 12 20 * 64) (partBytes (getF old 4 4) / 64)
  else s.wr a new

def execCachePartitionWrite (t : Fin 4) (dcp : Bool) (v : W32) (s : State) : Host.Outcome State Fault Refusal :=
  .next (s.atBlock (if dcp then Reg.TRI_DCP t else Reg.TRI_ICP t) fun s => s.partWrite t dcp v)

end Sys2Proof.Machine
end

