-- ==== Sys2Proof/Machine/Guards.lean ====
section
/-!
DEFINITION. The region guards (06, R169 to R177) and the TIC block's registers (R168). -/
namespace Sys2Proof.Machine

/-! ### Whose guard -/

/-- The triad is joined (R153): TRIPLE, RESYNC or DUPLEX. -/
def State.joined (s : State) (t : Nat) : Bool := s.triMode t < 3

/-- The guard windows that act as one with that of master m: those of the three lane cores of a joined triad (R169). -/
def State.guardMates (s : State) (m : Nat) : List Nat :=
  if m < 16 then
    match s.coreLane m with
    | some (t, _) => if s.joined t then ((List.range 3).filter (fun k => s.laneValid t k)).map (fun k => s.laneCore t k) else [m]
    | none => [m]
  else [m]

/-- The master whose guard checks the accesses of a target: L0's core of a joined triad, else the core itself. -/
def State.targetMaster (s : State) (x : Nat) : Nat :=
  if x < 4 then (s.guardMates (s.laneCore x ((List.range 3).findIdx (fun k => s.laneValid x k)))).headD (3 * x) else x - 16

/-! ### Deciding an access (R170 to R174) -/

/-- The size of a region as a power of two, none when its SIZE field is malformed (R170). -/
def regionSize (ratr : W32) : Option Nat :=
  let n := getF ratr 8 5
  if n = 0 then some 32 else if n < 8 then none else some n

/-- A region is well formed: a SIZE that is not malformed and a BASE that is a multiple of it (R170). -/
def regionOk (rbar ratr : W32) : Bool :=
  match regionSize ratr with
  | none => false
  | some n => if n = 32 then decide (rbar = 0) else rbar.toNat % 2 ^ n == 0

/-- A region covers byte x in a sub-region that is not excluded (R170). -/
def regionCovers (rbar ratr : W32) (x : Nat) : Bool :=
  match regionSize ratr with
  | none => false
  | some n =>
    regionOk rbar ratr && rbar.toNat ≤ x && x < rbar.toNat + 2 ^ n &&
      !bit ratr (16 + (x - rbar.toNat) / 2 ^ (n - 3))

/-- The permission bits of a region for a kind of access: 0 fetch, 1 load, 2 store, 3 load and store (R170, R177). -/
def regionBits (ratr : W32) (sbits : Bool) (kind : Nat) : Bool :=
  let o := if sbits then 4 else 0
  match kind with
  | 0 => bit ratr (o + 2)
  | 1 => bit ratr o
  | 2 => bit ratr (o + 1)
  | _ => bit ratr o && bit ratr (o + 1)

/-- The default map (R171). -/
def defaultMap (x kind : Nat) : Bool :=
  if x < 0x40000 then kind ≤ 1
  else if 0x01000000 ≤ x ∧ x < 0x01200000 then kind ≤ 1
  else if 0x01200000 ≤ x ∧ x < 0x01400000 then 1 ≤ kind
  else if 0x01800000 ≤ x ∧ x < 0x01880000 then 1 ≤ kind
  else if 0x04000000 ≤ x ∧ x < 0x05000000 then 1 ≤ kind
  else if 0x05000000 ≤ x ∧ x < 0x05400000 then x % 0x100000 < 0x80000 && 1 ≤ kind
  else if 0x10000000 ≤ x ∧ x < 0x12010000 then 1 ≤ kind
  else if 0x20000000 ≤ x ∧ x < 0x22000000 then 1 ≤ kind
  else if 0x40000000 ≤ x ∧ x < 0x43C00000 then 1 ≤ kind
  else 0x80000000 ≤ x && x < 0x100000000

/-- The highest-numbered enabled region that covers byte x, among the first n. -/
def State.regionOf (s : State) (m x : Nat) : Nat → Option Nat
  | 0 => none
  | n + 1 =>
    let ratr := s.rd (Reg.GRD_RATR m n)
    if bit ratr 7 && regionCovers (s.rd (Reg.GRD_RBAR m n)) ratr x then some n else s.regionOf m x n

/-- `permitted` of R170: the decision for byte x, with the deciding region (0xFE default map, 0xFF no match). `priv` is
true for a core in S mode and for master 22, which use the S bits and the default map. -/
def State.permitted (s : State) (m : Nat) (priv : Bool) (x kind : Nat) : Bool × Nat :=
  match if s.guardOn m then s.regionOf m x 16 else none with
  | some n => (regionBits (s.rd (Reg.GRD_RATR m n)) priv kind, n)
  | none => if priv then (defaultMap x kind, 0xFE) else (false, 0xFF)

/-- A refused access: the first refused byte, whether a part was permitted, and the deciding region (R172). -/
structure Refused where
  addr : Nat
  straddle : Bool
  region : Nat
  fallback : Bool
  deriving DecidableEq, Repr

/-- `guard_check` of R172, in fallback by the first byte alone (R174). -/
def State.guardCheck (s : State) (m : Nat) (priv : Bool) (a n kind : Nat) : Option Refused :=
  let fb := s.rdB (Reg.GRD_CTRL m) 16
  let ok (x : Nat) : Bool := (s.permitted m priv x kind).1
  if fb then
    if ok a then none else some { addr := a, straddle := false, region := (s.permitted m priv a kind).2, fallback := true }
  else
    match (List.range n).find? fun i => !ok (a + i) with
    | none => none
    | some i =>
      some { addr := a + i, straddle := (List.range n).any fun j => ok (a + j),
             region := (s.permitted m priv (a + i) kind).2, fallback := false }

/-- A refusal recorded in the guard (R172, R177). -/
def State.guardRefused (m kind : Nat) (r : Refused) (s : State) : State :=
  (s.guardMates m).foldl (fun s m =>
    (s.wr (Reg.GRD_STAT m) (BitVec.ofNat 32 (2 ^ 31 + b2n r.straddle * 2 ^ 30 + kind * 2 ^ 28 + b2n r.fallback * 2 ^ 27 +
      r.region * 2 ^ 16))).wr (Reg.GRD_FADDR m) (BitVec.ofNat 32 r.addr)) s

/-- The bytes of an engine's access that its guard refuses, the first of several accesses that meets a refusal. -/
def State.refusedIn (s : State) (m kind : Nat) (l : List (Nat × Nat)) : Option Refused :=
  l.findSome? fun e => s.guardCheck m false e.1 e.2 kind

/-- An engine whose guard is not enabled waits before its next access (R175). -/
def State.stall (m : Nat) (w : Waiting) (s : State) : State := { s with stalls := s.stalls ++ [(m, w)] }

/-! ### Writing the guard registers (R175, R177) -/

/-- EN := 0 in every window that acts as one (R175): draining, or disabled at once when no checked access is in flight. -/
def State.guardDisable (m : Nat) (inFlight : Bool) (s : State) : State :=
  if s.rdB (Reg.GRD_CTRL m) 31 || !s.rdB (Reg.GRD_CTRL m) 0 then s
  else
    (s.guardMates m).foldl (fun s m =>
      ((s.wrB (Reg.GRD_CTRL m) 0 false).wrF (Reg.GRD_CTRL m) 8 2 (if inFlight then 1 else 2)).channelsFollow m) s

/-- The last checked access has completed (R175). -/
def State.guardDrained (m : Nat) (s : State) : State :=
  if s.guardState m = 1 then
    (s.guardMates m).foldl (fun s m => (s.wrF (Reg.GRD_CTRL m) 8 2 2).channelsFollow m) s
  else s

/-- EN := 1 (R175): enabled at once. -/
def State.guardEnable (m : Nat) (s : State) : State :=
  if s.rdB (Reg.GRD_CTRL m) 31 then s
  else
    (s.guardMates m).foldl (fun s m =>
      ((s.wrB (Reg.GRD_CTRL m) 0 true).wrF (Reg.GRD_CTRL m) 8 2 0).channelsFollow m) s

/-- LOCK := 1, ignored while STATE is not enabled (R177). -/
def State.guardLock (m : Nat) (s : State) : State :=
  if s.guardState m = 0 then (s.guardMates m).foldl (fun s m => s.wrB (Reg.GRD_CTRL m) 31 true) s else s

/-- Some enabled region of a master is malformed (R170, `GRD.CTRL.CFG_ERR`). -/
def State.guardBad (s : State) (m : Nat) : Bool :=
  (List.range 16).any fun n =>
    bit (s.rd (Reg.GRD_RATR m n)) 7 && !regionOk (s.rd (Reg.GRD_RBAR m n)) (s.rd (Reg.GRD_RATR m n))

/-- A write of `GRD.RBAR` or `GRD.RATR` (R175): stored while the guard is disabled and not locked, a bus error
otherwise. -/
def State.guardRegion (m n : Nat) (attr : Bool) (v : W32) (s : State) : State :=
  if s.guardState m = 2 && !s.rdB (Reg.GRD_CTRL m) 31 then
    ((s.guardMates m).foldl (fun s m =>
      let s1 := if attr then s.wr (Reg.GRD_RATR m n) (v &&& 0x00FF1FF7#32) else s.wr (Reg.GRD_RBAR m n) (v &&& 0xFFFFFF00#32)
      s1.wrB (Reg.GRD_CTRL m) 1 (s1.guardBad m)) s).okResp 0
  else s.busErr

/-- Whether a master has checked accesses in flight as a write of its own guard sees it (R175): a running channel or an
active engine may; a core that writes its own guard does not. -/
def State.maybeInFlight (s : State) (writer : Option Nat) (m : Nat) : Bool :=
  if m < 16 then !((s.guardMates m).contains (writer.getD 99)) &&
    (match s.coreLane m with
     | some (t, _) => if s.joined t then (s.ctx t).running else (s.ctx (16 + m)).running
     | none => (s.ctx (16 + m)).running)
  else if 24 ≤ m then (List.range 16).any fun c => s.chanGuard c == m && s.rdF (Reg.DMA_CH_STAT c) 0 3 == 1 && (s.chan c).loaded
  else 16 ≤ m && m ≤ 21

/-- `GRD.CTRL` as written (R177). A write that sets LOCK and clears EN of an enabled guard at once locks it first, and EN stays
(DESIGN CHOICE, notes/assumptions/63.md). -/
def State.guardCtrlWrite (writer : Option Nat) (m : Nat) (v : W32) (s : State) : State :=
  let s1 := if bit v 31 then s.guardLock m else s
  if s.rdB (Reg.GRD_CTRL m) 31 then s1
  else if bit v 0 then if s.rdB (Reg.GRD_CTRL m) 0 then s1 else s1.guardEnable m
  else if bit v 31 && s.guardState m == 0 then s1
  else s1.guardDisable m (s.maybeInFlight writer m)

def execGuardDrainDone (m : Fin 48) (s : State) : Host.Outcome State Fault Refusal :=
  .next (if guardMaster m then s.guardDrained m else s)

/-- The 1 ms test of a guard's end comparator (R174): a failing one falls back, in every window that acts as one with its own
(R169). A failing core guard, or a failing copy of a migration guard (`lane` names it), schedules its lane's core for
replacement. -/
def execGuardSelfTest (m : Fin 48) (lane : Fin 3) (pass : Bool) (s : State) : Host.Outcome State Fault Refusal :=
  if pass || !guardMaster m then .next s
  else
    let s1 := ((s.guardMates m).foldl (fun s m => s.wrB (Reg.GRD_CTRL m) 16 true) s).fire 7
    if m.val < 16 then
      match s1.coreLane m with
      | some (t, k) => .next (s1.replaceLane t k)
      | none => .next s1
    else if 24 ≤ m.val ∧ m.val ≤ 27 then .next (s1.replaceLane (m.val - 24) lane)
    else .next s1

/-! ### TIC registers (R168, R465) -/

/-- A write of `TIC.SRC_CFG[n]` (R168): clearing EN discards a pending activation; setting it fires a level source whose
condition holds. -/
def State.srcCfgWrite (n : Nat) (v : W32) (s : State) : State :=
  let s1 := s.wr (Reg.TIC_SRC_CFG n) (v &&& 0x85FF0000#32)
  if bit v 31 then if s1.levelCond n then s1.fire n else s1
  else { s1 with tic := serase s1.tic n }

/-- `TIC.SWTRIG` (R168). -/
def State.swtrig (v : W32) (s : State) : State := s.fire (192 + getF v 0 6)

def execSwtrig (v : W32) (s : State) : Host.Outcome State Fault Refusal := .next (s.atBlock Reg.TIC_SWTRIG fun s => s.swtrig v)

/-- `TIC.PEND[k]` as it reads. -/
def State.pendWord (s : State) (k : Nat) : W32 :=
  (List.range 32).foldl (fun w i => if s.isPending (32 * k + i) then setB w i else w) 0

/-- `TIC.TGT_STATE[x]` as it reads (R168): of a target that exists VALID and TIERS, WAITING while nothing runs, and else the home
tier, TIER and mode of what runs. -/
def State.tgtState (s : State) (x : Nat) : W32 :=
  let c := s.ctx x
  if s.exists x then
    if c.running then
      BitVec.ofNat 32 (2 ^ 31 + c.home.toNat * 2 ^ 24 + c.tier.toNat * 2 ^ 20 + b2n (bit c.st 8) * 2 ^ 19 + c.tiers.toNat)
    else BitVec.ofNat 32 (2 ^ 31 + 2 ^ 30 + c.tiers.toNat)
  else 0

end Sys2Proof.Machine
end

