-- ==== Sys2Proof/Machine/Backup.lean ====
section
/-!
DEFINITION. The backup domain (14, R393 to R401, R403). A write of a BKD register acts within the command that makes it, and BUSY
stays set for a free time of at most 100 µs (notes/assumptions/10.md). -/
namespace Sys2Proof.Machine

/-- A backup domain replaced. -/
def State.setBackup (b : Backup) (s : State) : State := { s with backup := b }

/-- The trim pulses of a window by its `raw`th pulse: one every 125 ms from its start, up to |TRIM| (R398). -/
def trimPulses (trim : BitVec 9) (raw : Nat) : Nat := min (min 255 trim.toInt.natAbs) (raw / 4096)

/-- The count of the RTC after n pulses of 32.768 kHz, trimmed (R397, R398). -/
def Backup.counted (b : Backup) (n : Nat) : Nat :=
  let d := trimPulses b.trim (b.raw + n) - trimPulses b.trim b.raw
  b.sec.toNat * 32768 + b.sub.toNat + (if b.trim.msb then n - d else n + d)

/-- The RTC, and the operating seconds while main-valid is asserted, run on by n pulses of 32.768 kHz (R397 to R399). -/
def State.rtcRun (n : Nat) (s : State) : State :=
  let total := s.backup.counted n
  let run := s.backup.pulses + n
  let b := { s.backup with
             sec := BitVec.ofNat 48 (total / 32768), sub := BitVec.ofNat 15 (total % 32768), raw := s.backup.raw + n }
  if s.power.mainValid then
    s.setBackup { b with opsec := BitVec.ofNat 40 (b.opsec.toNat + run / 32768), pulses := run % 32768 }
  else s.setBackup b

/-- The counters saved to MRAM (R396). -/
def State.saveCounters (s : State) : State :=
  s.setBackup { s.backup with savedOpsec := s.backup.opsec, savedPwrcyc := s.backup.pwrcyc }

/-- `BKD.CTRL` or a write ignored (R403). -/
def State.bkdCmdErr (s : State) : State := s.wrB Reg.BKD_STAT 21 true

/-- The BKD registers back at their Reset values (R396, R403). -/
def bkdRegs (a : Nat) : Bool := 0x10090000 ≤ a && a < 0x100A0000

/-- A backup-domain reset (R396): Reset values, PWR_ON_REQ released, and the saved counters reloaded. -/
def State.bkdReset (s : State) : State :=
  { s with
    regs := skeep (fun a => !bkdRegs a) s.regs
    backup := { s.backup with
                sub := 0, sec := 0, opsec := s.backup.savedOpsec, pwrcyc := s.backup.savedPwrcyc, trim := 0, raw := 0,
                stopped := false, req := .released, lossKnown := false } }

/-- The number of days to a civil date of the proleptic Gregorian calendar: year, month, day (R397). -/
def civilDate (days : Nat) : Nat × Nat × Nat :=
  let z := days + 719468
  let era := z / 146097
  let doe := z % 146097
  let yoe := (doe - doe / 1460 + doe / 36524 - doe / 146096) / 365
  let doy := doe - (365 * yoe + yoe / 4 - yoe / 100)
  let mp := (5 * doy + 2) / 153
  let month := if mp < 10 then mp + 3 else mp - 9
  (yoe + era * 400 + b2n (month ≤ 2), month, doy - (153 * mp + 2) / 5 + 1)

/-- `BKD.CAL_DATE` of a second count. -/
def calDate (sec : Nat) : W32 :=
  let c := civilDate (sec / 86400)
  BitVec.ofNat 32 (c.1 % 65536 * 65536 + c.2.1 * 256 + c.2.2)

/-- `BKD.CAL_TIME` of a second count. -/
def calTime (sec : Nat) : W32 :=
  BitVec.ofNat 32 (sec % 86400 / 3600 * 65536 + sec % 3600 / 60 * 256 + sec % 60)

/-- A read of `BKD.RTC_SUB` captures the seconds and the calendar (R403). -/
def State.rtcCapture (s : State) : State :=
  let sec := s.backup.sec
  (((s.wr Reg.BKD_RTC_SEC_LO (sec.setWidth 32)).wr Reg.BKD_RTC_SEC_HI (BitVec.ofNat 32 (sec.toNat / 2 ^ 32))).wr
    Reg.BKD_CAL_DATE (calDate sec.toNat)).wr Reg.BKD_CAL_TIME (calTime sec.toNat)

def execRtcSubRead (pulses : W32) (s : State) : Host.Outcome State Fault Refusal :=
  let s1 := s.rtcRun pulses.toNat
  .next (s1.rtcCapture.okResp (s1.backup.sub.setWidth 64))

/-- A read of `BKD.OPSEC_LO` captures OPSEC_HI (R403). -/
def State.opsecCapture (s : State) : State :=
  s.wr Reg.BKD_OPSEC_HI (BitVec.ofNat 32 (s.backup.opsec.toNat / 2 ^ 32))

def execOpsecLoRead (pulses : W32) (s : State) : Host.Outcome State Fault Refusal :=
  let s1 := s.rtcRun pulses.toNat
  .next (s1.opsecCapture.okResp ((s1.backup.opsec.setWidth 32).setWidth 64))

/-- `BKD.CTRL.BRESET` with its key (R396): the counters are saved before the reset. -/
def State.bkdBreset (s : State) : State := s.raising [146] fun s => s.saveCounters.bkdReset

/-- `BKD.CTRL.RTC_SET` with its key (R397). -/
def State.rtcSet (s : State) : State :=
  let sec := s.rd Reg.BKD_RTC_SET_LO
  let hi := s.rdF Reg.BKD_RTC_SET_HI 0 16
  (s.setBackup { s.backup with
    sec := BitVec.ofNat 48 (hi * 2 ^ 32 + sec.toNat), sub := 0, raw := sec.toNat % 32 * 32768 }).wrB Reg.BKD_STAT 29 false

/-- `BKD.CTRL.STORE` with its key (R401): accepted while Unassigned or Out of service. -/
def State.bkdStore (s : State) : State :=
  if s.pair.role = .unassigned ∨ s.pair.role = .outOfService then
    (s.setBackup { s.backup with req := .released }).wrB Reg.BKD_STAT 22 true
  else s.bkdCmdErr

/-- `BKD.CTRL.UNSTORE` with its key (R401). -/
def State.bkdUnstore (s : State) : State :=
  if s.rdB Reg.BKD_STAT 22 then (s.setBackup { s.backup with req := .sinking }).wrB Reg.BKD_STAT 22 false else s

/-- A write is on its way to the domain for a free time of at most 100 µs (R403). -/
def State.bkdTransfer (s : State) : State :=
  s.drawn.setBackup { s.backup with busyTill := BitVec.ofNat 64 (s.now.toNat + s.draw.toNat % 100001) }

/-- A write of the domain, with no effect during the lockout (R394), and ignored with CMD_ERR while another is in transfer
(R403). -/
def State.bkdGuarded (f : State → State) (s : State) : State :=
  if s.backup.lockout then s else if s.bkdBusy then s.bkdCmdErr else (f s).bkdTransfer

def execBreset (s : State) : Host.Outcome State Fault Refusal := .next (s.bkdGuarded State.bkdBreset)
def execRtcSet (s : State) : Host.Outcome State Fault Refusal := .next (s.bkdGuarded State.rtcSet)
def execStore (s : State) : Host.Outcome State Fault Refusal := .next (s.bkdGuarded State.bkdStore)
def execUnstore (s : State) : Host.Outcome State Fault Refusal := .next (s.bkdGuarded State.bkdUnstore)

/-- `BKD.CTRL` as written (R403). -/
def State.bkdCtrlWrite (v : W32) (s : State) : State :=
  if getF v 24 8 = 0xA5 then
    if 1 < b2n (bit v 0) + b2n (bit v 1) + b2n (bit v 2) + b2n (bit v 3) then s.bkdCmdErr
    else if bit v 3 then s.bkdBreset
    else if bit v 2 then s.rtcSet
    else if bit v 1 then s.bkdStore
    else if bit v 0 then s.bkdUnstore
    else s
  else s

/-- A write within the BKD block (R394, R403). -/
def State.bkdWrite (a : Nat) (v : W32) (s : State) : State :=
  s.bkdGuarded (fun s =>
    if a = Reg.BKD_CTRL then s.bkdCtrlWrite v
    else if a = Reg.BKD_STAT then s.wrL a (s.rd a &&& ~~~(v &&& 0x0C200000#32))
    else if a = Reg.BKD_CFG then s.wr a (v &&& 0x83FF01FF#32)
    else if a = Reg.BKD_RTC_SET_LO then s.wr a v
    else if a = Reg.BKD_RTC_SET_HI then s.wr a (v &&& 0xFFFF#32)
    else s)

/-- The pulses of 32.768 kHz that are left of a window (R398): TRIM pulses fewer than 1,048,576 make it up. -/
def Backup.windowLeft (b : Backup) : Nat := (1048576 - max (-255) b.trim.toInt).toNat - b.raw

/-- The 32 s window boundary (R397, R398): `meas` is the signed count of the closing window in 1/16 pulse, `when` the
plant time of the boundary. A new TRIM takes effect. -/
def execRtcWindow (meas : W16) (when : W64) (s : State) : Host.Outcome State Fault Refusal :=
  let u := s.atTime when
  let s0 := u.rtcRun u.backup.windowLeft
  let next := (u.backup.sec.toNat / 32 + 1) * 32
  let trim := getF (s0.rd Reg.BKD_CFG) 0 9
  let s1 := s0.setBackup { s0.backup with sec := BitVec.ofNat 48 next, sub := 0, trim := BitVec.ofNat 9 trim, raw := 0 }
  if s1.rdB Reg.BKD_CFG 31 && s1.rdB Reg.NET_PTP_STAT 31 then
    let t := s1.now.toNat
    let s2 := s1.setBackup
      { s1.backup with
        sec := BitVec.ofNat 48 (t / 1000000000), sub := BitVec.ofNat 15 (t % 1000000000 * 32768 / 1000000000),
        raw := t % 32000000000 * 32768 / 1000000000 }
    .next ((s2.wr Reg.BKD_TRIM_MEAS (BitVec.ofNat 32 (2 ^ 31 + meas.toNat))).wrL Reg.BKD_STAT
      (clrB (s2.rd Reg.BKD_STAT) 29))
  else .next s1

/-- Every 60 s the counters are saved to MRAM (R396). -/
def execCounterSave (pulses : W32) (s : State) : Host.Outcome State Fault Refusal :=
  .next (s.rtcRun pulses.toNat).saveCounters

/-- The carrier's pull-up supply is gone (R401): the output goes high-impedance and watches the line. -/
def execPullupLost (s : State) : Host.Outcome State Fault Refusal :=
  if !s.power.mainValid && s.backup.req == .sinking then .next (s.setBackup { s.backup with req := .watching }) else .next s

/-- The line has stayed above 2.0 V for 10 ms while watching (R401): the restart delay runs, or is over at once when it is
under 10 ms. -/
def execPullupReturn (s : State) : Host.Outcome State Fault Refusal :=
  if s.backup.req = .watching then
    .next (s.setBackup { s.backup with req := if s.rdF Reg.BKD_CFG 16 10 = 0 then .sinking else .delay })
  else .next s

/-- The restart delay runs out (R401). -/
def execRestartDelayExpire (s : State) : Host.Outcome State Fault Refusal :=
  if s.backup.req = .delay then .next (s.setBackup { s.backup with req := .sinking }) else .next s

/-- The line has stayed below 0.8 V for 1 s with main-valid deasserted (R401): STORE ends, unless the domain has stopped. -/
def execStoreReleaseDone (s : State) : Host.Outcome State Fault Refusal :=
  if s.rdB Reg.BKD_STAT 22 && !s.power.mainValid && !s.backup.stopped then
    .next ((s.setBackup { s.backup with req := .watching }).wrB Reg.BKD_STAT 22 false)
  else .next s

/-- The estimated hold-up and the cell as measured (R393): below 168 h sets CELL_LOW, a failed cell
CELL_FAIL, each recorded when it sets. -/
def execCellLow (hours : W16) (mv : W16) (failed : Bool) (s : State) : Host.Outcome State Fault Refusal :=
  let s1 := s.setBackup { s.backup with holdup := hours, cellMv := mv }
  let v := s1.rd Reg.BKD_STAT
  let v1 := if hours.toNat < 168 then setB v 27 else v
  let s2 := s1.wrL Reg.BKD_STAT (if failed then setB v1 26 else v1)
  let s3 := if hours.toNat < 168 ∧ bit v 27 = false then s2.rec0B 27 else s2
  .next (if failed = true ∧ bit v 26 = false then s3.rec0B 26 else s3)

/-- The domain stops (R395): it keeps nothing, and PWR_ON_REQ is released (R401). -/
def State.domainStop (s : State) : State :=
  s.setBackup { s.backup with stopped := true, req := .released }

/-- Main power returns while the cell fails (R395): the first of main-valid and the brownout detector decides. -/
def execBrownoutArbitration (mainFirst : Bool) (s : State) : Host.Outcome State Fault Refusal :=
  if mainFirst then .next (s.setBackup { s.backup with onCell := false }) else .next s.domainStop

/-- The brownout detector trips: with main power absent the domain stops (R395, R401), and on main power the cell has failed
(R393). -/
def execCellExhausted (s : State) : Host.Outcome State Fault Refusal :=
  .next (if s.power.mainValid then
      let s1 := s.wrL Reg.BKD_STAT (setB (s.rd Reg.BKD_STAT) 26)
      if s.rdB Reg.BKD_STAT 26 then s1 else s1.rec0B 26
    else s.domainStop)

/-- 10 ms after main-valid asserts the lockout ends (R394). -/
def execBackupLockoutEnd (s : State) : Host.Outcome State Fault Refusal :=
  if s.power.mainValid then .next (s.setBackup { s.backup with lockout := false }) else .next s

end Sys2Proof.Machine
end

