-- ==== Sys2Proof/Machine/RecorderOps.lean ====
section
/-!
DEFINITION. The event recorder's own work and the EVR block (17, R447 to R464). -/
namespace Sys2Proof.Machine

/-! ### Writing records (R449, R450) -/

/-- One record written to Scree, and to Cairn for the first 4,096 sequence numbers (R450). -/
def State.writeRec (r : Rec) (s : State) : State :=
  let c := s.recorder
  let cairn := if r.seq < 4096 then sset (fun _ => none) c.cairn r.seq (some r) else c.cairn
  let s1 := s.setRecorder
    { c with cairn := cairn, scree := sset (fun _ => none) c.scree (r.seq % 65536) (some r),
             low := max c.low (r.seq + 1 - 65536) }
  let s2 := if 4095 ≤ r.seq then s1.wrB Reg.EVR_STAT 31 true else s1
  (if 65536 ≤ r.seq then s2.wrB Reg.EVR_STAT 30 true else s2).setEvt Reg.EVR_EVT 0

/-- The head record of the queue written (R449). -/
def State.writeHead (s : State) : State :=
  match s.recorder.queue with
  | [] => s
  | r :: rest => (s.setRecorder { s.recorder with queue := rest }).writeRec r

/-- The whole queue written, in order. -/
def State.writeAll : List Rec → State → State
  | [], s => s
  | r :: rest, s => State.writeAll rest ((s.setRecorder { s.recorder with queue := rest }).writeRec r)

/-- The last sequence number with a valid record in Scree or Cairn, plus 1. -/
def Recorder.written (r : Recorder) : Nat :=
  (r.scree ++ r.cairn).foldl (fun m e => match e.2 with | some x => max m (x.seq + 1) | none => m) 0

/-- The placeholder of a sequence number reserved in power cycle `cyc` (R451). -/
def State.placeholder (s : State) (n : Nat) (cyc : Nat) : Rec :=
  { seq := n, opsec := s.opsec, flags := BitVec.ofNat 8 (roleCode s.pair.role + 16 + 32), code := 0x0001,
    pwrcyc := BitVec.ofNat 32 cyc, ptime := 0, data := padTo 28 (toBytes 4 cyc) }

/-- Each reserved number without a valid record is written as a placeholder (R451). -/
def State.fillReserved (s : State) : State :=
  let lo := s.recorder.written
  let n := s.recorder.next - s.recorder.queue.length - lo
  if n = 0 then s
  else
    let s1 := (List.range n).foldl (fun s i =>
      s.writeRec (s.placeholder (lo + i) (sget (fun _ => s.backup.pwrcyc.toNat - 1) s.recorder.reserved (lo + i)))) s
    (s1.setRecorder { s1.recorder with reserved := [] }).setEvt Reg.EVR_EVT 4

/-- At start, each reserved number without a valid record is written as a placeholder (R451). -/
def execPlaceholderFill (s : State) : Host.Outcome State Fault Refusal := .next s.fillReserved

/-- Numbers reserved at a loss of power still wait for their placeholders, which come before the first new record (R451). -/
def State.unfilled (s : State) : Bool :=
  s.recorder.reserved != [] && decide (s.recorder.written + s.recorder.queue.length < s.recorder.next)

/-- The placeholders that are still due written. -/
def State.filled (s : State) : State := if s.unfilled then s.fillReserved else s

/-- The queue written, after the placeholders that are still due (R449, R451). -/
def State.flush (s : State) : State := State.writeAll s.filled.recorder.queue s.filled

def execRecordWrite (s : State) : Host.Outcome State Fault Refusal := .next (if s.unfilled then s else s.writeHead)

/-- The queue has fallen to 128 after drops (R449): one record of code 0x0003. -/
def execDropRecord (s : State) : Host.Outcome State Fault Refusal :=
  if s.recorder.dropCount ≠ 0 && s.recorder.queue.length ≤ 128 then
    let d := toBytes 4 s.recorder.dropCount ++ toBytes 2 s.recorder.dropFirst.toNat
    .next ((s.setRecorder { s.recorder with dropCount := 0, dropFirst := 0 }).record 0x0003 d)
  else .next s

/-- The power-loss record (R451): the queue and then the record are written, less the `lost` last ones that the hold-up
did not cover, and nothing more is accepted. -/
def State.powerLossRecord (paMv pbMv lost : Nat) (s : State) : State :=
  let data := toBytes 4 s.colStat.toNat ++ toBytes 2 paMv ++ toBytes 2 pbMv ++ toBytes 8 s.anvil.sealed.toNat
  let s0 := s.filled
  let all := s0.recorder.queue ++ [s0.mkRec 0x0101 data]
  let s1 := s0.setRecorder { s0.recorder with next := s0.recorder.next + 1 }
  let s2 := State.writeAll (all.take (all.length - lost)) s1
  s2.setRecorder
    { s2.recorder with
      queue := [], closed := true,
      reserved := (all.drop (all.length - lost)).foldl (fun m r => sput m r.seq r.pwrcyc.toNat) s2.recorder.reserved }

/-! ### Software records, clearing (R449, R452, R464) -/

/-- `EVR.SW_CTRL.WRITE` with its key (R449, R464). -/
def State.swWrite (s : State) : State :=
  if s.rdF Reg.EVR_SW_CODE 8 8 < 0xF0 then s.setEvt Reg.EVR_EVT 6
  else if 256 ≤ s.recorder.queue.length then s.setEvt Reg.EVR_EVT 5
  else s.record (s.rdF Reg.EVR_SW_CODE 0 16)
    ((List.range 7).foldl (fun l i => l ++ s.regBytes (Reg.EVR_SW_DATA i)) [])

def execSwWrite (s : State) : Host.Outcome State Fault Refusal := .next s.swWrite

/-- An accepted CLEAR token clears Scree (R452): LOW becomes the next free number m, record m of code 0x0002 holds the
range cleared and the signer's slot, and what was queued during the hold follows. -/
def State.clearScree (signer : Nat) (s : State) : State :=
  let m := s.recorder.next
  let lo := s.recorder.low
  let s1 := s.flush
  let s2 := s1.setRecorder { s1.recorder with low := m, scree := [] }
  ((s2.record 0x0002 (toBytes 6 lo ++ toBytes 6 (m - 1) ++ toBytes 1 signer)).writeHead).setEvt Reg.EVR_EVT 3

/-! ### Cursors (R453) -/

/-- The 64 bytes of a record (R447), CHECK included. -/
def Rec.toBytes (r : Rec) : List W8 :=
  let body := Machine.toBytes 8 (r.seq % 2 ^ 48) ++ Machine.toBytes 5 r.opsec ++ [r.flags] ++
    Machine.toBytes 2 r.code.toNat ++ Machine.toBytes 4 r.pwrcyc.toNat ++ Machine.toBytes 4 0 ++
    Machine.toBytes 8 r.ptime.toNat ++ padTo 28 r.data
  body ++ Machine.toBytes 4 (crc32 body).toNat

/-- The sixteen words of a record put into a cursor's window. -/
def State.window (c : Nat) (bytes : List W8) (s : State) : State :=
  (List.range 16).foldl (fun s i =>
    s.wr (Reg.EVR_WIN c i) (BitVec.ofNat 32 (ofBytes ((bytes.drop (4 * i)).take 4)))) s

/-- The record of a sequence number as a cursor finds it: the bytes and the status bits (R453). -/
def Recorder.find (r : Recorder) (n : Nat) : List W8 × Nat :=
  if r.next ≤ n then (List.replicate 64 0, 2 ^ 29)
  else if r.low ≤ n then
    match sget (fun _ => none) r.scree (n % 65536) with
    | some x => if x.seq = n then (x.toBytes, 2 ^ 31) else (List.replicate 64 0, 2 ^ 29)
    | none => (List.replicate 64 0, 2 ^ 29)
  else if n < 4096 then
    match sget (fun _ => none) r.cairn n with
    | some x => (x.toBytes, 2 ^ 31 + 2 ^ 27)
    | none => (List.replicate 64 0, 2 ^ 30)
  else (List.replicate 64 0, 2 ^ 30)

/-- The sequence number in a cursor (R464). -/
def State.cursor (s : State) (c : Nat) : Nat := s.rdF (Reg.EVR_CUR_HI c) 0 16 * 2 ^ 32 + (s.rd (Reg.EVR_CUR_LO c)).toNat

/-- The record under a cursor loaded into its window (R453). -/
def State.curLoad (c : Nat) (s : State) : State :=
  let f := s.recorder.find (s.cursor c)
  (s.window c f.1).wr (Reg.EVR_CUR_STAT c) (BitVec.ofNat 32 f.2)

/-- A write of `EVR.CUR_LO` starts the load (R464). -/
def State.curLoWrite (c : Nat) (v : W32) (s : State) : State := (s.wr (Reg.EVR_CUR_LO c) v).curLoad c

def execCursorLoad (c : Fin 2) (v : W32) (s : State) : Host.Outcome State Fault Refusal := .next (s.curLoWrite c v)

/-- A cursor put on a sequence number and loaded. -/
def State.curTo (c n : Nat) (s : State) : State :=
  ((s.wr (Reg.EVR_CUR_LO c) (BitVec.ofNat 32 n)).wr (Reg.EVR_CUR_HI c) (BitVec.ofNat 32 (n / 2 ^ 32 % 2 ^ 16))).curLoad c

/-- A record put into a list that rises by SEQ. -/
def insertRec (r : Rec) : List Rec → List Rec
  | [] => [r]
  | x :: l => if r.seq ≤ x.seq then r :: x :: l else x :: insertRec r l

/-- The records that a search examines, in SEQ order from the lowest available (R453). -/
def Recorder.ordered (r : Recorder) : List Rec :=
  (r.cairn.filterMap fun e => match e.2 with
    | some x => if x.seq < r.low then some x else none
    | none => none) ++
  ((r.scree.filterMap fun e => e.2).filter (fun x => r.low ≤ x.seq)).foldr insertRec []

/-- The first record at or after the search value; `byOpsec` is BASE (R453). -/
def Recorder.search (r : Recorder) (byOpsec : Bool) (v : Nat) : Option Rec :=
  r.ordered.find? fun x =>
    if byOpsec then decide (v ≤ x.opsec) else !bit x.flags 4 && decide (v ≤ x.ptime.toNat)

/-- `EVR.CUR_CTRL.FIND` (R453). -/
def State.curFind (c : Nat) (byOpsec : Bool) (s : State) : State :=
  match s.recorder.search byOpsec (s.rd64 (Reg.EVR_FIND_LO c) (Reg.EVR_FIND_HI c)).toNat with
  | some x => s.curTo c x.seq
  | none => s.wr (Reg.EVR_CUR_STAT c) 0x04000000#32

/-- `EVR.CUR_CTRL` as written (R464). -/
def State.curCtrlWrite (c : Nat) (v : W32) (s : State) : State :=
  if getF v 24 8 = 0xA5 then
    let s1 := s.wr (Reg.EVR_CUR_CTRL c) (v &&& 0x100#32)
    if bit v 1 then s1.curFind c (bit v 2) else s1
  else s

def execFind (c : Fin 2) (byOpsec : Bool) (s : State) : Host.Outcome State Fault Refusal := .next (s.curFind c byOpsec)

/-- A read of window word 15 with AUTO = 1 advances the cursor (R453); the read returns the word as it was. -/
def State.win15 (c : Nat) (s : State) : State :=
  let v := s.rd (Reg.EVR_WIN c 15)
  (if s.rdB (Reg.EVR_CUR_CTRL c) 8 then s.curTo c (s.cursor c + 1) else s).okResp (v.setWidth 64)

def execWindowWord15Read (c : Fin 2) (s : State) : Host.Outcome State Fault Refusal := .next (s.win15 c)

/-- A read of `EVR.NEXT_LO` captures NEXT_HI (R464). -/
def State.nextRead (s : State) : State :=
  (s.wr Reg.EVR_NEXT_HI (BitVec.ofNat 32 (s.recorder.next / 2 ^ 32 % 2 ^ 16))).okResp
    (BitVec.ofNat 64 (s.recorder.next % 2 ^ 32))

/-- A read of `EVR.LOW_LO` captures LOW_HI (R464). -/
def State.lowRead (s : State) : State :=
  (s.wr Reg.EVR_LOW_HI (BitVec.ofNat 32 (s.recorder.low / 2 ^ 32 % 2 ^ 16))).okResp
    (BitVec.ofNat 64 (s.recorder.low % 2 ^ 32))

def execNextLoRead (low : Bool) (s : State) : Host.Outcome State Fault Refusal :=
  .next (if low then s.lowRead else s.nextRead)

/-! ### Proof tests, pools (R458 to R463) -/

/-- A bit of `EVR.PT_EN` cleared sets PT_OFF and is recorded (R459). -/
def State.ptEnWrite (v : W32) (s : State) : State :=
  let old := s.rd Reg.EVR_PT_EN
  let s1 := s.wr Reg.EVR_PT_EN (v &&& 0x1FF#32)
  if old &&& ~~~v &&& 0x1FF#32 ≠ 0 then (s1.setEvt Reg.EVR_EVT 13).rec0A 13 0xFF else s1

def execPtEnClear (v : W32) (s : State) : Host.Outcome State Fault Refusal := .next (s.ptEnWrite v)

def execSparesForecast (s : State) : Host.Outcome State Fault Refusal :=
  .next ((List.range 9).foldl (fun s p => s.forecastPool p) s)

/-- A power-stage phase off its share (R456): a spare phase takes its place; without one, eight phases carry the load, and
losing another affects control. -/
def execPhaseCurrentFault (phase : Fin 10) (s : State) : Host.Outcome State Fault Refusal :=
  let s1 := s.setPower { s.power with phases := s.power.phases - 1 }
  let s2 := s1.rec0A 10 8
  if s.poolLeft 8 ≠ 0 then
    .next (s2.ledgerEntry 8 0 1 10 (BitVec.ofNat 32 phase) (BitVec.ofNat 32 (10 - s.poolLeft 8)) (s2.recorder.next - 1) 1)
  else
    .next ((s2.ledgerEntry 8 0 2 10 (BitVec.ofNat 32 phase) 0xFFFFFFFF#32 (s2.recorder.next - 1) 0).affectsControl)

/-- At start the newer valid state block is taken, and the entries it lacks are replayed (R462). `lostA` and `lostB` tell
which copies are not valid. -/
def execLedgerRebuild (lostA lostB : Bool) (s : State) : Host.Outcome State Fault Refusal :=
  let a := if lostA then 0 else s.ledger.blockA
  let b := if lostB then 0 else s.ledger.blockB
  if max a b < s.ledger.count then
    .next ((s.setLedger { s.ledger with blockA := s.ledger.count, blockB := max a b }).wrB Reg.EVR_LEDGER 31 true)
  else .next s

/-- A write within the EVR block (R464). -/
def State.evrWrite (a : Nat) (v : W32) (s : State) : State :=
  if a = Reg.EVR_DROP then s.wr a (s.rd a &&& ~~~(v &&& 0xFFFF#32))
  else if a = Reg.EVR_EVT then s.wr a (s.rd a &&& ~~~(v &&& 0x377F#32))
  else if a = Reg.EVR_EVT_EN then s.wrL a (v &&& 0x3FFF#32)
  else if a = Reg.EVR_SW_CTRL then if getF v 24 8 = 0xA5 && bit v 0 then s.swWrite else s
  else if a = Reg.EVR_CUR_LO 0 then s.curLoWrite 0 v
  else if a = Reg.EVR_CUR_LO 1 then s.curLoWrite 1 v
  else if a = Reg.EVR_CUR_CTRL 0 then s.curCtrlWrite 0 v
  else if a = Reg.EVR_CUR_CTRL 1 then s.curCtrlWrite 1 v
  else if a = Reg.EVR_PT_EN then s.ptEnWrite v
  else if a = Reg.EVR_PT_STAT then s.wr a (s.rd a &&& ~~~(v &&& 0x80000000#32))
  else if a = Reg.EVR_SW_CODE ∨ a = Reg.EVR_CUR_HI 0 ∨ a = Reg.EVR_CUR_HI 1 then s.wr a (v &&& 0xFFFF#32)
  else if (0x100A0024 ≤ a ∧ a < 0x100A0040) ∨ a = Reg.EVR_FIND_LO 0 ∨ a = Reg.EVR_FIND_HI 0 ∨ a = Reg.EVR_FIND_LO 1 ∨
      a = Reg.EVR_FIND_HI 1 then s.wr a v
  else s

end Sys2Proof.Machine
end

