-- ==== Sys2Proof/Machine/Reset.lean ====
section
/-!
DEFINITION. Power-on and module reset (16, R428 to R430; R7). -/
namespace Sys2Proof.Machine

/-- The lane fields of `TRI.MISCNT` and the occupation of lanes and slots are restored from the ledger (R185, R206). -/
def ledgerRegs (a : Nat) : Bool :=
  (0x10030000 ≤ a && a < 0x10034000 && (a % 0x1000 == 8 || a % 0x1000 == 0x100)) ||
    (0x11000000 ≤ a && a < 0x11100000 && a % 0x8000 == 0x7010)

/-- The configuration registers of a slice window, and TRIMMED (R264, R296). -/
def sliceConfig (a : Nat) : Bool :=
  0x11000000 ≤ a && a < 0x11100000 && a % 0x8000 < 0x4400 &&
    (let o := a % 0x8000 % 0x400
     o == 0 || o == 4 || o == 8 || o == 0x100 || o == 0x104 || (0x110 ≤ o && o < 0x140) || o == 0x17C || o == 0x180 ||
       o == 0x184)

/-- Registers restored from MRAM or from the configuration in MRAM (R327, R351, R379, R427, R464), and the measured trims
of the slices (R289). -/
def mramRegs (a : Nat) : Bool :=
  a == Reg.NET_NODE || a == Reg.NET_FRAME || a == Reg.NET_RING || a == Reg.NET_SCHED ||
    a == Reg.NET_PTP_CTRL || a == Reg.NET_PTP_DS || a == Reg.ANV_CFG || a == Reg.EVR_PT_EN || a == Reg.EVR_LEDGER ||
    a == Reg.EVR_STAT ||
    (0x100A0300 ≤ a && a < 0x100A0324) || (0x100B0020 ≤ a && a < 0x100B0080) || a == Reg.TRU_OWNER || a == Reg.TRU_FUSE ||
    sliceConfig a

/-- What a reset keeps of the registers: the backup domain, what MRAM, the ledger and the fuses hold, and `keep`. -/
def resetKeeps (keep : Nat → Bool) (a : Nat) : Bool := bkdRegs a || ledgerRegs a || mramRegs a || keep a

/-- Memory kept over a reset: Hearth and MRAM (R428). -/
def keptMem (a : Nat) : Bool := a < 0x40000 || (0x40000000 ≤ a && a < 0x43C00000)

/-- The state on leaving a power-on or module reset (R428, R430): Reset values but for what is kept; every triad joined and
in triple mode; T0 at PC 0 in S mode at TIER 15; every other target waiting. What a substitution, a proof test, a slice's failure
and a seal have left over stays for `afterReset`. -/
def State.restart (keep : Nat → Bool) (s : State) : State :=
  { State.reset with
    pending := s.pending
    free := s.free + 1
    resp := s.resp
    regs := skeep (resetKeeps keep) s.regs
    mem := skeep keptMem s.mem
    sent := s.sent
    recorder := { s.recorder with dropFirst := 0, dropCount := 0 }
    ledger := s.ledger
    triads := (List.range 4).foldl (fun m t => sset (fun _ => {}) m t
      { voterMasked := (s.triad t).voterMasked, repair := (s.triad t).repair.filter fun r => r.core.isSome }) []
    slices := s.slices.foldl (fun m e => sset (fun _ => {}) m e.1 e.2.outlast) []
    backup := s.backup
    trims := s.trims
    trust := { State.reset.trust with
               chal := s.free, owners := s.trust.owners, counters := s.trust.counters, store := s.trust.store,
               sealing := s.trust.sealing }
    critical := s.critical
    power := { s.power with lampTest := false }
    pair := { State.reset.pair with sparesWarning := s.pair.sparesWarning }
    start := { s.start with
               stage := .hearth, timeKnown := false, timeSource := 0, startReq := false, waiting := false,
               waited := false, ptpWaited := false, listening := false, probing := false, backoff := false,
               finding := 0, recoverWhy := 0, recoverKind := 0, starting := false, loopDiag := false,
               noApp := false, hearthBad := false, peerMerit := 0, peerSerial := 0, starterGone := false } }

/-- The bits of a kept register that a reset clears: RUN of `TRU.SLOT`, the window of `TRU.TRIAL`, DEBUG_USED (R427), all of
`EVR.STAT` but its two marks (R464), PEND of `FCH.CFG`, all but TRIMMED of `FCH.AO_TRIM_CTRL`, and READY and TESTING of
`FCH.SPARE` (R264, R265, R296). -/
def resetClears (a : Nat) : W32 :=
  if 0x100B0020 ≤ a ∧ a < 0x100B0040 then 0x08000000#32
  else if a = Reg.TRU_TRIAL then 0xFFFFF800#32
  else if a = Reg.TRU_FUSE then 0x40000000#32
  else if a = Reg.EVR_STAT then 0x3FFFFFFF#32
  else if 0x11000000 ≤ a ∧ a < 0x11100000 then
    if a % 0x8000 = 0x7010 then 0x3000#32
    else if a % 0x8000 < 0x4400 then
      if a % 0x400 = 0 then 0x80000000#32 else if a % 0x400 = 0x17C then 0xFFFFFFFB#32 else 0
    else 0
  else 0

/-- What outlives a reset besides registers and memory is put back: a spare that was under test, the lanes and their counts
(R185, R203), SLICE of a slice that has failed (R254), and a seal that had begun to blow (R426). -/
def State.afterReset (s : State) : State :=
  let s0 := s.regs.foldl (fun s e => if resetClears e.1 = 0 then s else s.wr e.1 (e.2 &&& ~~~(resetClears e.1))) s
  let s1 := match s.ledger.tested with
    | some (i, st) => (s0.wrF (Reg.TRI_POOL 0) (8 * i + 4) 4 st).setLedger { s0.ledger with tested := none }
    | none => s0
  let s2 := (List.range 4).foldl (fun s t => s.lanesFill t (s.triad t).repair) s1
  let s3 := s2.slices.foldl (fun s e => if e.2.failed then s.wr (Reg.FCH_STATUS (e.1 / 17) (e.1 % 17)) 0x20800000#32 else s) s2
  if s.trust.sealing then { s3.wrB Reg.TRU_FUSE 31 true with trust := { s3.trust with sealing := false } } else s3

/-- The reset record of R429 (code 0x0102): `SYS.RESET_CTRL` as written, or the trigger under R428. -/
def State.resetRecord (what : Nat) (s : State) : State := s.record 0x0102 (toBytes 4 what)

/-- A module reset (R428, R429): the claim goes first, then the record, then the reset. `sw` marks a request through
`SYS.RESET_CTRL`. -/
def State.moduleReset (what : Nat) (sw : Bool) (s : State) : State :=
  let s2 := ((s.release.resetRecord what).saveCounters).flush
  let cause := s2.rd Reg.SYS_RESET_CAUSE
  let s3 := s2.restart fun a => a == Reg.BEL_WAKE_CAUSE
  (s3.wr Reg.SYS_RESET_CAUSE (if sw then setB (setB cause 1) 2 else setB cause 1)).afterReset

/-- A power-on reset (R428, R432): `bkd` says that the backup domain was found reset (R395). -/
def State.powerOnReset (bkd : Bool) (s : State) : State :=
  let s1 := s.restart fun _ => false
  let s2 := { s1 with power := { s1.power with lampTest := true, lampTill := 500000000 }, recorder := { s1.recorder with closed := false } }
  (s2.wr Reg.SYS_RESET_CAUSE (if bkd then 9 else 1)).afterReset

/-- The loss snapshot (R394). -/
def State.lossSnapshot (s : State) : State :=
  let b := s.backup
  let s1 := (s.wr Reg.BKD_LOSS_SEC_LO (b.sec.setWidth 32)).wr Reg.BKD_LOSS_SEC_HI
    (BitVec.ofNat 32 (2 ^ 31 + b.sub.toNat * 2 ^ 16 + b.sec.toNat / 2 ^ 32))
  (s1.wr64 Reg.BKD_LOSS_PT_LO Reg.BKD_LOSS_PT_HI s.now).setBackup { b with lossKnown := s.start.timeKnown }

/-- Main-valid deasserts (R32): snapshot and lockout, claim and slices released, counters saved, the power-loss record
written but for its `lost` last ones, and the logic off. -/
def State.powerDown (pulses paMv pbMv lost : Nat) (s : State) : State :=
  let s0 := (s.rtcRun pulses).lossSnapshot
  let s1 := (s0.release.saveCounters).powerLossRecord paMv pbMv lost
  let s2 := s1.restart fun _ => false
  { s2 with
    cores := []
    islandsOff := BitVec.allOnes 48
    start := { s2.start with stage := .stopped }
    power := { s2.power with mainValid := false, paMv := paMv, pbMv := pbMv, remove := .off }
    backup := { s2.backup with lockout := true, onCell := true } }

/-- `SYS.RESET_CTRL` as written (R77): MOD overrides TRI. -/
def State.resetCtrlWrite (v : W32) (s : State) : State :=
  if getF v 24 8 = 0xA5 then
    if bit v 0 then s.moduleReset v.toNat true
    else (List.range 4).foldl (fun s t => if bit v (1 + t) then s.triadReset t else s) s
  else s

def execModuleResetRequest (v : W32) (s : State) : Host.Outcome State Fault Refusal :=
  .next (if getF v 24 8 = 0xA5 && bit v 0 then s.resetCtrlWrite v else s)

def execTriadResetRequest (v : W32) (s : State) : Host.Outcome State Fault Refusal :=
  .next (if bit v 0 then s else s.resetCtrlWrite v)

/-! ### SYS and CLK blocks (R77, R78) -/

/-- The reference in use by each island after island by island selection (R59). -/
def State.selectRefs (hi : Bool) (v : W32) (s : State) : State :=
  let act := if hi then Reg.CLK_ACT_HI else Reg.CLK_ACT_LO
  let n := if hi then 16 else 32
  let xa := s.rdB Reg.CLK_REFSTAT 0
  let xb := s.rdB Reg.CLK_REFSTAT 1
  s.wr act ((List.range n).foldl (fun w i =>
    if bit v i then if xb then setB w i else w else if xa then clrB w i else w) (s.rd act))

/-- A write of `CLK.SEL_LO` or `CLK.SEL_HI` (R59, R78), frozen by the configuration lock. -/
def State.clkSelWrite (hi : Bool) (v : W32) (s : State) : State :=
  if s.rdB Reg.SYS_LOCK 0 then s
  else if hi then (s.wr Reg.CLK_SEL_HI (v &&& 0xFFFF#32)).selectRefs true (v &&& 0xFFFF#32)
  else (s.wr Reg.CLK_SEL_LO v).selectRefs false v

def execClockSelectWrite (hi : Bool) (v : W32) (s : State) : Host.Outcome State Fault Refusal :=
  .next (s.clkSelWrite hi v)

/-- A write within the SYS or CLK block. AUTO_SWITCH set while the reference in use is already declared lost switches nothing
(DESIGN CHOICE, notes/assumptions/71.md). -/
def State.sysWrite (a : Nat) (v : W32) (s : State) : State :=
  let lock := s.rdB Reg.SYS_LOCK 0
  if a = Reg.SYS_RESET_CAUSE then s.wr a (s.rd a &&& ~~~(v &&& 0xFF#32))
  else if a = Reg.SYS_RESET_CTRL then s.resetCtrlWrite v
  else if a = Reg.SYS_LOCK then s.wr a (s.rd a ||| (v &&& 1#32))
  else if a = Reg.SYS_SCRUB then if lock then s else s.wr a (v &&& 0xFFFF#32)
  else if a = Reg.SYS_MEMERR_CNT then s.wr a (s.rd a &&& ~~~v)
  else if a = Reg.SYS_FABERR then s.wr a (s.rd a &&& ~~~(v &&& 0x80000000#32))
  else if a = Reg.SYS_SCRATCH then s.wr a v
  else if a = Reg.CLK_REFSTAT then s.wr a (s.rd a &&& ~~~(v &&& 0x1C#32))
  else if a = Reg.CLK_AUTO then if lock then s else s.wr a (v &&& 1#32)
  else if a = Reg.CLK_SEL_LO then s.clkSelWrite false v
  else if a = Reg.CLK_SEL_HI then s.clkSelWrite true v
  else s

end Sys2Proof.Machine
end

