-- ==== Sys2Proof/Machine/TimeOps.lean ====
section
/-!
DEFINITION. The time base, its commands and the alarms (12, R341 to R347, R352), and the instants of the grid (08, R207 to
R209). -/
namespace Sys2Proof.Machine

/-! ### Grid instants -/

/-- G in nanoseconds (R207). -/
def State.gridNs (s : State) : Nat := s.rdF Reg.SCN_GRID 0 16 * 1000
/-- Win in nanoseconds (R209). -/
def State.winNs (s : State) : Nat := s.rdF Reg.SCN_WIN 0 16 * 1000
/-- Wout in nanoseconds (R209). -/
def State.woutNs (s : State) : Nat := s.rdF Reg.SCN_WIN 16 16 * 1000
/-- E in nanoseconds (R357). -/
def State.epochNs (s : State) : Nat := s.rdF Reg.ANV_CFG 0 16 * 1000
/-- RUN (R235). -/
def State.run (s : State) : Bool := s.rdB Reg.SCN_GRID 31

/-- The instant is a base tick (R207). -/
def State.isTick (s : State) (t : Nat) : Bool := decide (0 < s.gridNs) && t % s.gridNs == 0

/-- Line j is enabled (R208). -/
def State.lineOn (s : State) (j : Nat) : Bool := s.rdB (Reg.SCN_LINE j) 31

/-- The multiplier N of a line. -/
def State.lineN (s : State) (j : Nat) : Nat := s.rdF (Reg.SCN_LINE j) 0 10

/-- The period of a line in nanoseconds. -/
def State.linePeriod (s : State) (j : Nat) : Nat := s.lineN j * s.gridNs

/-- Line j ticks at base tick t (R208). -/
def State.lineTicks (s : State) (j t : Nat) : Bool :=
  s.lineOn j && s.isTick t && decide (0 < s.lineN j) &&
    (t / s.gridNs + s.lineN j * 1024 - s.rdF (Reg.SCN_LINE j) 16 10) % s.lineN j == 0

/-- The instant is an epoch boundary (R357). -/
def State.isBoundary (s : State) (t : Nat) : Bool := s.isTick t && decide (0 < s.epochNs) && t % s.epochNs == 0

/-- Every enabled line ticks at t (R293, R373). -/
def State.allTick (s : State) (t : Nat) : Bool := (List.range 12).all fun j => !s.lineOn j || s.lineTicks j t

/-- The instant lies within a phase of R209, by the bounds of R212. -/
def State.inPhase (s : State) (t : Nat) : Bool :=
  if s.run && decide (0 < s.gridNs) then
    let nin := max (s.rdF (Reg.SCN_ENG 0) 0 11) (s.rdF (Reg.SCN_ENG 1) 0 11)
    let nout := max (s.rdF (Reg.SCN_ENG 0) 16 11) (s.rdF (Reg.SCN_ENG 1) 16 11)
    let o := t % s.gridNs
    decide (o < 4000 + 25 * nin) || (decide (s.gridNs - s.woutNs ≤ o) && decide (o < s.gridNs - s.woutNs + 3000 + 25 * nout))
  else false

/-! ### The counter -/

/-- NS with its fraction, in units of 2^-24 ns. -/
def TimeBase.fix (b : TimeBase) : Nat := b.ns.toNat * 2 ^ 24 + b.frac.toNat

/-- The time base with NS and fraction replaced. -/
def TimeBase.setFix (b : TimeBase) (x : Nat) : TimeBase :=
  { b with ns := BitVec.ofNat 32 (x / 2 ^ 24), frac := BitVec.ofNat 24 x }

/-- TIME.INC (R341). -/
def State.inc (s : State) : Nat := (s.rd Reg.TIME_INC).toNat

/-- NS wraps (R341): WRAP_PENDING and WRAP are set, EPOCH is unchanged. -/
def State.wrapTo (x : Nat) (s : State) : State :=
  (s.setTime { s.time.setFix x with wrapPending := true }).setEvt Reg.TIME_EVT 0

/-- NS has reached 2^31 with WRAP_PENDING set (R343). -/
def State.lateTo (x : Nat) (s : State) : State :=
  ((s.setTime { s.time.setFix x with wrapPending := false, epoch := s.time.epoch + 1 }).setEvt Reg.TIME_EVT 9).rec05 9 []

/-- One tick of the 125 MHz time-base clock (R341). -/
def State.tick (s : State) : State :=
  let x := s.time.fix + s.inc
  if 2 ^ 56 ≤ x then s.wrapTo (x - 2 ^ 56)
  else if s.time.wrapPending && decide (2 ^ 55 ≤ x) then s.lateTo x
  else s.setTime (s.time.setFix x)

/-- The time base runs on to the tick at which NS wraps (R341). A wrap still pending is taken in first (R343). -/
def execNsWrap (s : State) : Host.Outcome State Fault Refusal :=
  if s.time.wrapPending || s.inc == 0 then .next s
  else
    let x := s.time.fix
    .next (s.wrapTo (x + (2 ^ 56 - x + s.inc - 1) / s.inc * s.inc - 2 ^ 56))

/-- NS comes to 2^31 with WRAP_PENDING still set (R343). -/
def execEpochLate (s : State) : Host.Outcome State Fault Refusal :=
  if s.time.wrapPending && s.inc != 0 then
    let x := s.time.fix
    .next (s.lateTo (x + (2 ^ 55 - x + s.inc - 1) / s.inc * s.inc))
  else .next s

/-- A command of `TIME.CTRL` is ignored (R352). -/
def State.timeCmdErr (s : State) : State := s.wrB Reg.TIME_CTRL 11 true

/-- `TIME.CTRL.EPOCH_ADV` (R341, R343). -/
def State.epochAdv (s : State) : State :=
  if s.time.wrapPending then s.setTime { s.time with epoch := s.time.epoch + 1, wrapPending := false } else s.timeCmdErr

def execEpochAdv (s : State) : Host.Outcome State Fault Refusal := .next s.epochAdv

/-- A write of `TIME.INC` (R341). -/
def State.incWrite (v : W32) (s : State) : State :=
  if 0x07FDF3B6 ≤ v.toNat ∧ v.toNat ≤ 0x08020C4A then s.wr Reg.TIME_INC v else s.setEvt Reg.TIME_EVT 3

def execIncWrite (v : W32) (s : State) : Host.Outcome State Fault Refusal := .next (s.incWrite v)

/-- The time base has been moved by `v`: the lamp test still ends after its 500 ms (R53), and a transfer to the backup domain
when it would have (R403). -/
def State.lampMoves (v : W64) (s : State) : State :=
  (s.setPower { s.power with lampTill := s.power.lampTill + v }).setBackup { s.backup with busyTill := s.backup.busyTill + v }

/-- Extended time set (R344). -/
def State.setNow (t : W64) (s : State) : State :=
  (s.lampMoves (t - s.now)).setTime { s.time with ns := t.setWidth 32, frac := 0, epoch := (t >>> 32).setWidth 32, wrapPending := false }

/-- `TIME.CTRL.SET` (R344), recorded with the source of R437. -/
def State.timeSet (s : State) : State :=
  if s.run then s.timeCmdErr
  else
    let s1 := (s.setNow (s.rd64 Reg.TIME_SET_LO Reg.TIME_SET_HI)).setEvt Reg.TIME_EVT 2
    ({ s1 with start := { s1.start with timeKnown := true } }).rec05 0x80 (toBytes 1 s.start.timeSource)

def execTimeSet (s : State) : Host.Outcome State Fault Refusal := .next s.timeSet

/-- The magnitude of a signed 64-bit step (R345). -/
def stepSize (v : W64) : Nat := if v.getLsbD 63 then 2 ^ 64 - v.toNat else v.toNat

/-- `TIME.CTRL.STEP` (R345). -/
def State.timeStep (s : State) : State :=
  let v := s.rd64 Reg.TIME_STEP_LO Reg.TIME_STEP_HI
  if s.time.step.isSome then s.timeCmdErr
  else if (s.rd Reg.TIME_STEP_LIMIT).toNat < stepSize v then (s.setEvt Reg.TIME_EVT 8).rec05 8 []
  else s.setTime { s.time with step := some v }

def execTimeStep (s : State) : Host.Outcome State Fault Refusal := .next s.timeStep

/-- `TIME.CTRL.CANCEL` (R345). -/
def State.stepCancel (s : State) : State := s.setTime { s.time with step := none }

def execStepCancel (s : State) : Host.Outcome State Fault Refusal := .next s.stepCancel

/-! ### Alarms (R347) -/

/-- The target V of an alarm. -/
def State.alarmAt (s : State) (a : Nat) : Nat := (s.rd64 (Reg.TIME_ALM_LO a) (Reg.TIME_ALM_HI a)).toNat

/-- An alarm fires at the present time: FIRED (and LATE at a forward step) is set; a one-shot alarm clears EN, a periodic
one takes its next target after the present time. -/
def State.alarmFire (a : Nat) (late : Bool) (s : State) : State :=
  let v := s.alarmAt a
  let per := (s.rd (Reg.TIME_ALM_PER a)).toNat
  let c := setB (s.rd (Reg.TIME_ALM_CTRL a)) 29
  let c1 := if late then setB c 28 else c
  let s1 :=
    if bit c 30 then
      (s.wr (Reg.TIME_ALM_CTRL a) c1).wr64 (Reg.TIME_ALM_LO a) (Reg.TIME_ALM_HI a)
        (BitVec.ofNat 64 (v + ((s.now.toNat - v) / max 1 per + 1) * per))
    else s.wr (Reg.TIME_ALM_CTRL a) (clrB c1 31)
  s1.fire (28 + a)

/-- The first time-base tick at which extended time is at or after an armed alarm's target. -/
def execAlarmFire (a : Fin 3) (when : W64) (s : State) : Host.Outcome State Fault Refusal :=
  let s1 := s.atTime when
  if s1.rdB (Reg.TIME_ALM_CTRL a) 31 && decide (s1.alarmAt a ≤ s1.now.toNat) then .next (s1.alarmFire a false) else .next s1

/-- A write of `TIME.ALM_CTRL[a]` (R347, R352): a periodic alarm with a PER below 1,000 ns is not armed. -/
def State.almCtrlWrite (a : Nat) (v : W32) (s : State) : State :=
  let old := s.rd (Reg.TIME_ALM_CTRL a)
  let kept := old &&& ~~~(v &&& 0x30000000#32) &&& 0x30000000#32
  if bit v 31 && bit v 30 && decide ((s.rd (Reg.TIME_ALM_PER a)).toNat < 1000) then
    (s.wr (Reg.TIME_ALM_CTRL a) (kept ||| (old &&& 0x80000000#32) ||| 0x40000000#32)).timeCmdErr
  else s.wr (Reg.TIME_ALM_CTRL a) (kept ||| (v &&& 0xC0000000#32))

def execAlarmArm (a : Fin 3) (v : W32) (s : State) : Host.Outcome State Fault Refusal := .next (s.almCtrlWrite a v)

/-! ### A step of plant time -/

/-- Base ticks in [from, to) (R8, R214). -/
def State.ticksIn (s : State) (a b : Nat) : Nat :=
  if s.gridNs = 0 then 0 else (b + s.gridNs - 1) / s.gridNs - (a + s.gridNs - 1) / s.gridNs

/-- What a step does to the grid (R214). -/
def State.gridStep (before after : Nat) (s : State) : State :=
  if !s.run then s
  else if before < after then
    let n := s.ticksIn before after
    if n = 0 then s
    else
      let old := s.rdF Reg.SCN_GRIDSTAT 0 16
      { (s.wrF Reg.SCN_GRIDSTAT 0 16 (min 0xFFFF (old + n))).wrB Reg.SCN_GRIDSTAT 31 true with
        grid := { s.grid with
          dueFrom := BitVec.ofNat 64 after
          skippedFrom := some (BitVec.ofNat 64 (min before (s.grid.skippedFrom.elim before fun x => x.toNat))) } }
  else if after < before then
    { s.wrB Reg.SCN_GRIDSTAT 30 true with grid := { s.grid with held := true } }
  else s

/-- The pending step is applied (R345): NS and EPOCH move together, the grid and the alarms follow. -/
def State.stepApply (s : State) : State :=
  match s.time.step with
  | none => s
  | some v =>
    if s.time.wrapPending || s.inPhase s.now.toNat then s
    else
      let before := s.now.toNat
      let t := s.now + v
      let s1 := ((s.lampMoves v).setTime { s.time with
        ns := t.setWidth 32, epoch := (t >>> 32).setWidth 32, step := none, rephase := BitVec.allOnes 32,
        refStep := BitVec.allOnes 9 }).setEvt Reg.TIME_EVT 1
      let s2 := s1.gridStep before t.toNat
      (List.range 3).foldl (fun s a =>
        if s.rdB (Reg.TIME_ALM_CTRL a) 31 && decide (before < s.alarmAt a) && decide (s.alarmAt a ≤ t.toNat) then
          s.alarmFire a true else s) s2

def execStepApply (when : W64) (s : State) : Host.Outcome State Fault Refusal := .next (s.atTime when).stepApply

/-! ### Reads that capture, and writes of the block (R342, R352) -/

/-- A read of `TIME.NS` (R342). -/
def State.nsRead (s : State) : State :=
  ((s.wr Reg.TIME_RAW_EP s.time.epoch).wr Reg.TIME_RAW_WP (BitVec.ofNat 32 (b2n s.time.wrapPending))).okResp
    (s.time.ns.setWidth 64)

def execNsRead (s : State) : Host.Outcome State Fault Refusal := .next s.nsRead

/-- A read of `TIME.NOW_LO` (R342, R352). -/
def State.nowRead (s : State) : State :=
  (s.wr Reg.TIME_NOW_HI ((s.now >>> 32).setWidth 32)).okResp ((s.now.setWidth 32).setWidth 64)

def execNowLoRead (s : State) : Host.Outcome State Fault Refusal := .next s.nowRead

/-- `TIME.CTRL` as it reads (R352). -/
def State.timeCtrl (s : State) : W32 :=
  BitVec.ofNat 32 (b2n s.time.wrapPending * 2 ^ 15 + b2n s.time.step.isSome * 2 ^ 14 + b2n (s.rdB Reg.TIME_EVT 8) * 2 ^ 13 +
    b2n (s.rdB Reg.TIME_EVT 9) * 2 ^ 12 + b2n (s.rdB Reg.TIME_CTRL 11) * 2 ^ 11)

/-- `TIME.CTRL` as written (R352): the w1c bits and at most one command, with the key. -/
def State.timeCtrlWrite (v : W32) (s : State) : State :=
  if getF v 24 8 = 0xA5 then
    if 1 < b2n (bit v 0) + b2n (bit v 1) + b2n (bit v 2) + b2n (bit v 3) then s.timeCmdErr
    else
      let e := s.rd Reg.TIME_EVT
      let e1 := if bit v 13 then clrB e 8 else e
      let s1 := s.wr Reg.TIME_EVT (if bit v 12 then clrB e1 9 else e1)
      let s2 := if bit v 11 then s1.wrB Reg.TIME_CTRL 11 false else s1
      if bit v 0 then s2.timeStep
      else if bit v 1 then s2.timeSet
      else if bit v 2 then s2.epochAdv
      else if bit v 3 then s2.stepCancel
      else s2
  else s

/-- A write within the TIME block (R352). -/
def State.timeWrite (a : Nat) (v : W32) (s : State) : State :=
  if a = Reg.TIME_CTRL then s.timeCtrlWrite v
  else if a = Reg.TIME_INC then s.incWrite v
  else if a = Reg.TIME_STEP_LIMIT then if s.rdB Reg.TIME_LOCK 0 then s.timeCmdErr else s.wr a v
  else if a = Reg.TIME_LOCK then s.wr a (s.rd a ||| (v &&& 1#32))
  else if a = Reg.TIME_EVT then s.wr a (s.rd a &&& ~~~v)
  else if a = Reg.TIME_EVT_EN then s.wrL a (v &&& 0x31F#32)
  else if a = Reg.TIME_STEP_LO ∨ a = Reg.TIME_STEP_HI ∨ a = Reg.TIME_SET_LO ∨ a = Reg.TIME_SET_HI then s.wr a v
  else if 0x10080080 ≤ a ∧ a < 0x100800B0 then
    let i := (a - 0x10080080) / 16
    if a % 16 = 12 then s.almCtrlWrite i v
    else if s.rdB (Reg.TIME_ALM_CTRL i) 31 then s.timeCmdErr
    else s.wr a v
  else s

end Sys2Proof.Machine
end

