-- ==== Sys2Proof/Machine/Islands.lean ====
section
/-!
DEFINITION. References, crossings, island power, and the errors of the memories (03, R56 to R76). -/
namespace Sys2Proof.Machine

/-! ### References (R57 to R60, R455) -/

/-- The bit of `CLK.REFSTAT` that says a reference is good. -/
def refOk : Ref → Nat
  | .xa => 0
  | .xb => 1

/-- Every island runs from one reference. -/
def State.allOn (r : Ref) (s : State) : State :=
  match r with
  | .xa => (s.wr Reg.CLK_ACT_LO 0).wr Reg.CLK_ACT_HI 0
  | .xb => (s.wr Reg.CLK_ACT_LO 0xFFFFFFFF#32).wr Reg.CLK_ACT_HI 0xFFFF#32

/-- A frequency error as `CLK.REFERR` holds it, saturated at ±3,276.7 ppm (R78). -/
def refPpm (v : W16) : Nat := if v = 0x8000#16 then 0x8001 else v.toNat

/-- The frequency error of a reference, in units of 0.1 ppm, put into `CLK.REFERR` (R78). -/
def State.refErr (r : Ref) (ppm : W16) (s : State) : State :=
  (s.setTime { s.time with refAt := s.now }).wrF Reg.CLK_REFERR (match r with | .xa => 0 | .xb => 16) 16 (refPpm ppm)

/-- `CLK.REFERR` is read (R78): the measurements of the last update, or, when an update has been due since, new ones, whose values
the manual cannot give. -/
def State.refErrRead (s : State) : State :=
  let s1 :=
    if s.now.toNat < s.time.refAt.toNat + 10000000 then s
    else
      (s.drawn.setTime { s.time with refAt := s.now }).wr Reg.CLK_REFERR
        (BitVec.ofNat 32 (refPpm (s.draw.setWidth 16) + refPpm ((s.draw >>> 16).setWidth 16) * 2 ^ 16))
  s1.okResp ((s1.rd Reg.CLK_REFERR).setWidth 64)

/-- A reference is declared lost (R58), its error standing at `ppm`: with AUTO_SWITCH the islands on it go over to the other
one if that is good. -/
def execReferenceLost (r : Ref) (ppm : W16) (s : State) : Host.Outcome State Fault Refusal :=
  if s.rdB Reg.CLK_REFSTAT (refOk r) then
    let s := s.refErr r ppm
    let s1 := (s.wrB Reg.CLK_REFSTAT (refOk r) false).wrB Reg.CLK_REFSTAT (refOk r + 2) true
    let s2 := if s1.rdB Reg.CLK_AUTO 0 && s1.rdB Reg.CLK_REFSTAT (refOk r.other) then s1.allOn r.other else s1
    .next ((s2.fire 3).rec05 (match r with | .xa => 0x81 | .xb => 0x82) [])
  else .next s

/-- A lost reference has stayed within 100 ppm for 10 ms (R57, R60), its error standing at `ppm`: islands that held over
return to it. After the loss of both every island takes the first one that is good again, also with AUTO_SWITCH = 0 (DESIGN
CHOICE, notes/assumptions/70.md). -/
def execReferenceGood (r : Ref) (ppm : W16) (s : State) : Host.Outcome State Fault Refusal :=
  if s.rdB Reg.CLK_REFSTAT (refOk r) || decide (1000 < ppm.toInt.natAbs) then .next s
  else
    let s1 := (s.refErr r ppm).wrB Reg.CLK_REFSTAT (refOk r) true
    let s2 := if s.holdover then { s1.allOn r with holdover := false } else s1
    .next (s2.rec05 0x84 [])

/-- Both references stand lost. -/
def State.bothLost (s : State) : Bool := !s.rdB Reg.CLK_REFSTAT 0 && !s.rdB Reg.CLK_REFSTAT 1

/-- Both references are declared lost (R60). -/
def execBothReferencesLost (s : State) : Host.Outcome State Fault Refusal :=
  if s.bothLost then
    .next ((({ s with holdover := true }.wrB Reg.CLK_REFSTAT 4 true).fire 4).rec05 0x83 [])
  else .next s

/-- Both are still lost after 1 s (R60). -/
def execHoldoverTimeout (s : State) : Host.Outcome State Fault Refusal :=
  .next (if s.holdover && s.bothLost then s.affectsControl else s)

/-- Both were lost within 10 µs of each other while they agreed within 100 ppm (R455): the time base itself has failed. -/
def execTimeBaseFault (s : State) : Host.Outcome State Fault Refusal :=
  .next (if s.bothLost then (s.rec05 0x85 []).affectsControl else s)

/-! ### Island power (R65, R66) -/

/-- The crossings of an island back to their restart state. -/
def State.dropCrossings (i : Nat) (s : State) : State :=
  { s with crossings := skeep (fun k => k / 64 != i && k % 64 != i) s.crossings }

/-- The islands that share the control power rail (R66). -/
def controlRail (i : Nat) : Bool := i < 4 || i == 8 || i == 9 || i == 10

/-- The spare core of a slot ceases what it runs. -/
def State.spareHalts (i : Nat) (s : State) : State :=
  if s.slotState i = 4 then s.abandonAll (16 + s.slotCore i) else s

/-- An island loses power without an orderly sleep (R66): what its crossings held is discarded, accesses in flight end in bus
errors, the core of a spare slot ceases what it runs, and losing the control rail stops the module as R32 gives, with the
feeds as last measured. Every command's access has ended before this one, so that no store is ever both written and answered
with a bus error (DESIGN CHOICE, notes/assumptions/118.md). -/
def execIslandPowerLoss (i : Fin 48) (s : State) : Host.Outcome State Fault Refusal :=
  let s0 := if 4 ≤ i.val ∧ i.val < 8 then s.spareHalts (i.val - 4) else s
  let s1 := ({ s0 with islandsOff := setB s0.islandsOff i }.dropCrossings i).busErr
  if controlRail i && s.power.mainValid then .next (s1.powerDown 0 s.power.paMv s.power.pbMv 0) else .next s1

/-- A powered-down island is powered up (R65). -/
def execIslandPowerUp (i : Fin 48) (s : State) : Host.Outcome State Fault Refusal :=
  .next ({ s with islandsOff := clrB s.islandsOff i }.dropCrossings i)

/-! ### Memory errors (R73 to R76) -/

/-- The field of `SYS.MEMERR_CNT` and of `SYS.SCRUB` for a place: their low bits; none for Hearth, which has no counter. -/
def memKind (a : Nat) : Option (Nat × Nat) :=
  if (0x04000000 ≤ a ∧ a < 0x05400000) ∨ 2 ^ 32 ≤ a then some (0, 0)
  else if inWS a then some (8, 4)
  else if 0x40000000 ≤ a ∧ a < 0x43C00000 then some (16, 8)
  else if 0x80000000 ≤ a then some (24, 12)
  else none

/-- The triad whose store holds a global-view address. -/
def viewTriad (a : Nat) : Nat := if a < 0x05000000 then (a - 0x04000000) / 0x400000 else (a - 0x05000000) / 0x100000

/-- The address that `SYS.MEMERR_ADDR` records for a place: that of the global view, and for the tightly coupled data that a core
holds alone, which no global view shows, that of the core's own (DESIGN CHOICE, notes/assumptions/124.md). -/
def errAddr (k : Nat) : W32 := BitVec.ofNat 32 (if k < 2 ^ 32 then k else 0x01800000 + k % 0x100000)

/-- An uncorrectable error at a place (R75). -/
def State.memUncorrectable (a : Nat) (s : State) : State :=
  let s1 := ((s.wr Reg.SYS_MEMERR_ADDR (errAddr a)).fire 1).rec04 0x80
  if (0x04000000 ≤ a && a < 0x05400000) || inWS a then s1.affectsControl else s1

/-- A corrected error at a place (R75, R76): counted, reported through source 0, kept for the thresholds of its controller
(a double-bit error of an MRAM bank, any error of a DRAM row) for 24 h, and recorded as a masked fault (R21). -/
def State.memCorrected (a : Nat) (double : Bool) (device bank row : Nat) (s : State) : State :=
  let e : Option MemError :=
    if 0x80000000 ≤ a ∧ a < 2 ^ 32 then some { device := device, bank := bank, row := row, second := s.opsec }
    else if 0x40000000 ≤ a ∧ a < 0x80000000 ∧ double = true then
      some { device := 11, bank := (a - 0x40000000) / 0x100000, row := 0, second := s.opsec }
    else none
  let s0 := match memKind a with
    | some (cnt, _) => s.incF Reg.SYS_MEMERR_CNT cnt 8
    | none => s
  let s1 := s0.fire 0
  ({ s1 with memErrors := (s1.memErrors.filter fun (x : MemError) => decide (s.opsec < x.second + 86400)) ++ e.toList }).recMasked 0x04
    (s1.regBytes Reg.SYS_FABERR ++ s1.regBytes Reg.SYS_MEMERR_ADDR ++ s1.regBytes Reg.SYS_MEMERR_CNT)

/-- The corrected errors of the last 24 h that satisfy p (R76). -/
def State.memRecent (s : State) (p : MemError → Bool) : List MemError :=
  s.memErrors.filter fun (x : MemError) => decide (s.opsec < x.second + 86400) && p x

/-- The errors that satisfy p are no longer counted: their element has been replaced. -/
def State.memForget (p : MemError → Bool) (s : State) : State :=
  { s with memErrors := s.memErrors.filter fun x => !p x }

/-- What a read of the memory at a place finds (R75): a corrected error is counted, a single lane copy of tightly coupled data in
error is masked as a mismatch of its lane, and an uncorrectable error is recorded, the read then failing. -/
def State.readFinds (q : Nat) (f : Finding) (s : State) : Bool × State :=
  if (memKind q).isNone && decide (0x40000 ≤ q) then (true, s)
  else
    match f with
    | .clean => (true, s)
    | .corrected double device bank row => (true, s.memCorrected q double device bank row)
    | .uncorrectable => (false, s.memUncorrectable q)
    | .laneCopy lane =>
      let t := viewTriad q
      if 0x05000000 ≤ q ∧ q < 0x05400000 ∧ s.laneOk t lane = true then
        (true, (((s.wr Reg.SYS_MEMERR_ADDR (BitVec.ofNat 32 q)).fire 1).rec04 0x80).mismatch t lane 7 (s.ctx t).icnt.toNat
          (BitVec.ofNat 32 q))
      else (true, s)

/-- A scrubber reads one word (R74, R75): a correctable error is counted and written back, which changes no content and
sets no dirty bit. -/
def execScrubWord (a : W32) (f : Finding) (s : State) : Host.Outcome State Fault Refusal :=
  match memKind a.toNat with
  | none => .next s
  | some (_, scrub) => .next (if s.rdF Reg.SYS_SCRUB scrub 4 = 0 then s else (s.readFinds a.toNat f).2)

/-- A memory element replaced by a spare of a pool (R76): entered in the ledger, and copied; with the pool empty the element
stays in service and a spares warning is raised. -/
def State.memReplace (pool sub : Nat) (old new : W32) (s : State) : State :=
  if (poolShape pool).2 ≤ s.poolUsed pool sub then s.setPair { s.pair with sparesWarning := true }
  else
    let s1 := s.rec0A 10 pool
    let s2 := s1.ledgerEntry pool sub 1 10 old new (s1.recorder.next - 1) 1
    s2.setLedger { s2.ledger with copying := s2.ledger.copying ++ [(pool, old)] }

/-- The errors of one DRAM row: a row spans all devices (R73). -/
def rowError (bank row : Nat) (x : MemError) : Bool := x.device < 11 && x.bank == bank && x.row == row

/-- A DRAM row is replaced after 3 corrected errors in it within 24 h (R76). -/
def execDramRowReplace (device : Fin 11) (bank : Fin 16) (row : Fin 16384) (s : State) : Host.Outcome State Fault Refusal :=
  if 3 ≤ (s.memRecent (rowError bank row)).length then
    .next ((s.memForget (rowError bank row)).memReplace 2 bank
      (BitVec.ofNat 32 (device.val * 2 ^ 24 + bank.val * 2 ^ 16 + row.val))
      (BitVec.ofNat 32 (device.val * 2 ^ 24 + bank.val * 2 ^ 16 + 16384 + s.poolUsed 2 bank)))
  else .next s

/-- A DRAM device is replaced after corrected symbols of it in 16 distinct rows within 24 h (R76): device 10 is the spare. -/
def execDramDeviceReplace (device : Fin 11) (s : State) : Host.Outcome State Fault Refusal :=
  if 16 ≤ ((s.memRecent fun x => x.device == device.val).map fun x => (x.bank, x.row)).eraseDups.length then
    .next ((s.memForget fun x => x.device == device.val).memReplace 3 0 (BitVec.ofNat 32 device) 10#32)
  else .next s

/-- An MRAM bank is replaced after 8 corrected double-bit errors in it within 24 h (R76): banks 60 to 63 are the spares. -/
def execMramBankReplace (bank : Fin 64) (s : State) : Host.Outcome State Fault Refusal :=
  if 8 ≤ (s.memRecent fun x => x.device == 11 && x.bank == bank.val).length then
    .next ((s.memForget fun x => x.device == 11 && x.bank == bank.val).memReplace 4 0 (BitVec.ofNat 32 bank)
      (BitVec.ofNat 32 (60 + s.poolUsed 4 0)))
  else .next s

/-- The copy of a replaced element completes (R76). -/
def execReplacementCopyDone (pool : Fin 9) (element : W32) (s : State) : Host.Outcome State Fault Refusal :=
  .next (s.setLedger { s.ledger with copying := s.ledger.copying.erase (pool.val, element) })

/-- The background zeroing of the DRAM ends (R428). -/
def execDramZeroDone (s : State) : Host.Outcome State Fault Refusal := .next { s with dramReady := true }

end Sys2Proof.Machine
end

