-- ==== Sys2Proof/Machine/AnvilLink.lean ====
section
/-!
DEFINITION. The Anvil link: lanes, heartbeats, release orders (13, R353 to R356, R370, R371). -/
namespace Sys2Proof.Machine

/-- `ANV.STAT` as it reads (R379): HBMISS is held in the register. -/
def State.anvStat (s : State) : W32 :=
  let v := s.anvil
  let ready := if s.pair.role = .active then s.pair.peer == some .standby && s.pair.peerReady
    else s.pair.role == .standby && s.ready
  BitVec.ofNat 32 (b2n (v.link != .lost) * 2 ^ 31 + b2n (v.link == .full) * 2 ^ 30 + b2n ready * 2 ^ 29 +
    b2n (s.rdB Reg.ANV_COPY 31 || s.rdB Reg.ANV_COPY 30) * 2 ^ 28 + s.rdF Reg.ANV_STAT 16 8 * 2 ^ 16 +
    v.lock.toNat * 2 ^ 8 + v.spare.toNat * 2 ^ 4)

/-- A Joining module whose copy cannot be completed returns to Unassigned, its slices high-impedance (R10, R377). -/
def State.joinFails (s : State) : State :=
  let s1 := (s.setAnvil { s.anvil with rxLines := [], copyDone := false }).wr Reg.ANV_COPY 0
  (s1.setPair { s1.pair with drive := .highZ }).setRole .unassigned

/-- What follows when the link ceases to be FULL (R357, R371, R377): a full copy is over; an Active module raises the pair alarm
of lost checkpointing (R23), and seals no epoch unless the link is FULL again at its boundary; a Joining module returns to
Unassigned, its slices high-impedance (R10). -/
def State.leftFull (s : State) : State :=
  let s1 := s.setAnvil { s.anvil with flight := s.anvil.flight.filter fun e => e.frame.cls != 5 }
  if s1.pair.role = .joining then s1.joinFails
  else if s1.pair.role = .active then (s1.wr Reg.ANV_COPY 0).raisePairAlarm
  else s1.wr Reg.ANV_COPY 0

/-- A Standby that has missed any epoch passes to Joining when the link is FULL again (R371). -/
def State.backFull (s : State) : State :=
  if s.pair.role = .standby && s.anvil.missed then
    (s.setAnvil { s.anvil with copyDone := false, rxLines := [] }).setRole .joining
  else s

/-- The frames that no lane has carried go out (R354). -/
def State.heldGo (s : State) : State :=
  if s.anvil.lanes = [] then s else (s.anvil.flight.filter fun e => e.lane.isNone).foldl (fun s e => s.again e) s

/-- The link state that follows from the lanes, LOST being entered only by LINK_LOST (R353, R379). -/
def State.linkFrom (s : State) : State :=
  let n := s.anvil.inService
  let new : Link := if 2 ≤ n then .full else if 0 < n then .degraded else if s.anvil.link = .lost then .lost else .degraded
  let s1 := s.setAnvil { s.anvil with link := new }
  let s2 := if s.anvil.link = .lost && new != .lost then s1.setEvt Reg.ANV_EVT 3 else s1
  let s3 := if s.anvil.link = .full && new != .full then s2.leftFull
    else if s.anvil.link != .full && new = .full then s2.backFull
    else s2
  s3.heldGo

/-- The frames in flight on a lane that has failed are sent again (R354). -/
def State.laneAgain (lane : Nat) (s : State) : State :=
  (s.inFlight.filter fun e => e.lane == some lane).foldl (fun s e => s.again e) s

/-- A lane fails (R354): the spare lane, if there is one, takes its traffic, and the substitution is entered in the
ledger. -/
def State.laneFail (lane : Nat) (s : State) : State :=
  let v := s.anvil
  let s1 := (s.setAnvil { v with failed := setB v.failed lane }).setEvt Reg.ANV_EVT 0
  if bit v.service lane then
    let out := clrB v.service lane
    if v.spare.toNat < 3 && bit v.lock v.spare.toNat then
      let s2 := (s1.setAnvil { s1.anvil with service := setB out v.spare.toNat, spare := 3 }).setEvt Reg.ANV_EVT 1
      let s3 := s2.rec0A 10 6
      (s3.ledgerEntry 6 0 1 10 (BitVec.ofNat 32 lane) (v.spare.setWidth 32) (s3.recorder.next - 1) 1).linkFrom.laneAgain lane
    else (s1.setAnvil { s1.anvil with service := out }).linkFrom.laneAgain lane
  else if v.spare.toNat = lane then
    let s2 := (s1.setAnvil { s1.anvil with spare := 3 }).rec0A 10 6
    s2.ledgerEntry 6 0 3 10 (BitVec.ofNat 32 lane) 0xFFFFFFFF#32 (s2.recorder.next - 1) 1
  else s1

/-- A lane loses block lock (R353, R354). -/
def execLaneLockLost (lane : Fin 3) (s : State) : Host.Outcome State Fault Refusal :=
  if bit s.anvil.lock lane then
    .next ((s.setAnvil { s.anvil with lock := clrB s.anvil.lock lane }).laneFail lane)
  else .next s

/-- No lane has been in block lock for 20 µs (R353, R371): the link carries nothing any more. -/
def execLinkLost (s : State) : Host.Outcome State Fault Refusal :=
  if s.anvil.inService = 0 && s.anvil.link != .lost then
    let s1 := (s.setAnvil { s.anvil with link := .lost, flight := [] }).setEvt Reg.ANV_EVT 2
    let s2 := s1.leftFull
    .next (if s2.pair.role = .active || (s2.pair.role == .standby && s2.pair.sense) then s2.raisePairAlarm else s2)
  else .next s

/-- The lasers of the Anvil lanes and of the network cages are on (R50): the module has power, and the image that runs, or the
recovery of R435, has enabled the ports. -/
def State.lasersOn (s : State) : Bool :=
  s.power.mainValid && !s.bellows.ember &&
    (s.start.stage == .system || s.start.stage == .recovery ||
      (s.start.stage == .stopped && s.pair.role == .outOfService))

/-- Lanes come into block lock (R353), once the lasers are on (R50): the two lowest carry traffic, and a third is held as the
spare. -/
def execLinkUp (lanes : BitVec 3) (s : State) : Host.Outcome State Fault Refusal :=
  let on := (List.range 3).filter fun k => bit lanes k
  let svc := (on.take 2).foldl (fun w k => setB w k) (0 : BitVec 3)
  let s1 := s.setAnvil
    { s.anvil with
      lock := lanes, service := svc, failed := s.anvil.failed &&& ~~~lanes,
      spare := if on.length = 3 then 2 else 3 }
  if on = [] || !s.lasersOn then .next s
  else .next s1.linkFrom

/-- The frame with a sequence number has not been acknowledged within 4 µs, or is refused for its CRC (R354): it is sent
again, which no heartbeat or release order is; a lane that needs more than 16 retransmissions in 1 ms fails. -/
def execFrameAckTimeout (seq : W32) (when : W64) (s : State) : Host.Outcome State Fault Refusal :=
  let s0 := s.atTime when
  match s0.inFlight.find? fun e => e.seq == seq.toNat with
  | some e =>
    match e.lane with
    | some lane =>
      let recent := (s0.anvil.retries.filter fun r => decide (s0.now.toNat < r.2 + 1000000)) ++ [(lane, s0.now.toNat)]
      let s1 := ((s0.setAnvil { s0.anvil with retries := recent }).incF Reg.ANV_LANEERR (8 * lane) 8).again e
      if 16 < (recent.filter fun r => r.1 == lane).length && !bit s1.anvil.failed lane then .next (s1.laneFail lane)
      else .next s1
    | none => .next s0
  | none => .next s0

/-- A failed lane retrained (R354): after 60 s of clean idle it is the spare again, or takes traffic that no lane
carries. -/
def execLaneRetrain (lane : Fin 3) (ok : Bool) (s : State) : Host.Outcome State Fault Refusal :=
  if ok && bit s.anvil.failed lane then
    let v := { s.anvil with lock := setB s.anvil.lock lane, failed := clrB s.anvil.failed lane }
    let s1 := (s.setAnvil (if v.inService < 2 then { v with service := setB v.service lane }
      else { v with spare := BitVec.ofNat 2 lane })).rec0A 10 6
    .next ((s1.ledgerEntry 6 0 4 10 (BitVec.ofNat 32 lane) 0xFFFFFFFF#32 (s1.recorder.next - 1) 2).linkFrom)
  else .next s

/-! ### Heartbeats (R356, R370) -/

/-- The first multiple of p after x. -/
def nextDue (p x : Nat) : Nat := (x / p + 1) * p

/-- A base tick has been due for more than 125 µs without being processed, or an epoch seal without starting (R356): the earliest
that is due counts. -/
def State.stalled (s : State) : Bool :=
  let late (p last : Nat) : Bool := decide (0 < p) && decide (nextDue p (max last (s.grid.dueFrom.toNat - 1)) + 125000 < s.now.toNat)
  s.run && (late s.gridNs s.grid.last.toNat || (s.anvil.sealing && late s.epochNs s.anvil.endTime.toNat))

/-- The first 2 µs of a heartbeat window: HBMISS counts the window before when no heartbeat came in it, whatever the state of the
link (R379), and the module sends its own unless its grid or its seal is stalled (R356). Without light nothing is sent (R50). -/
def execHeartbeatSend (when : W64) (s : State) : Host.Outcome State Fault Refusal :=
  let s0 := s.atTime when
  let s1 := if s0.now.toNat / 125000 ≤ s0.anvil.hbWin.toNat then s0 else s0.incF Reg.ANV_STAT 16 8
  if !s1.lasersOn || (s1.pair.role = .active && s1.stalled) then .next s1
  else
    .next (s1.send (.heartbeat s1.pair.role s1.pair.claim (s1.pair.role == .standby && s1.ready)
      (s1.rdB Reg.TRU_TRIAL 31) (BitVec.ofNat 32 s1.start.recoverWhy) s1.formats.1 s1.formats.2
      s1.merit s1.anvil.sealed s1.anvil.committed s1.now))

/-- A full copy is in progress (`ANV.STAT.COPY`). -/
def State.copyRuns (s : State) : Bool := s.rdB Reg.ANV_COPY 31 || s.rdB Reg.ANV_COPY 30

/-- A full copy ends with the partner's Joining role (R357, R377). -/
def State.copyStops (r : Role) (s : State) : State :=
  if s.pair.role = .active ∧ s.copyRuns = true ∧ r ≠ .joining ∧ r ≠ .standby then
    (s.wr Reg.ANV_COPY 0).setAnvil { s.anvil with sealing := false, owed := [] }
  else s

/-- A partner that is not Standby holds no change READY (R226, code 0x14). -/
def State.partnerLeft (r : Role) (s : State) : State :=
  if r = .standby then s else { s with change := { s.change with partnerReady := none } }

/-- A heartbeat of the partner arrives at `when`, and counts for the half-open window that holds this instant (R8, R356,
R380): `ofs` is the partner's time less the own, `recovering` the mark that the partner seeks an image (R435), `trial` that
its image is in trial (R423), `fmt` and `acc` its formats (R421), `merit` and `serial` what R439 compares. -/
def execHeartbeatReceived (role : Fin 5) (claim ready recovering trial : Bool) (fmt acc : W8) (merit : W64)
    (serial : BitVec 128) (ofs : W32) (when : W64) (s : State) : Host.Outcome State Fault Refusal :=
  if s.anvil.link = .lost then .next (s.atTime when)
  else
    let s := (s.atTime when).heard
    let r : Role := match role.val with
      | 0 => .unassigned
      | 1 => .joining
      | 2 => .standby
      | 3 => .active
      | _ => .outOfService
    let lostReady := s.pair.role = .active && s.pair.peer == some .standby && (r == .outOfService || (r == .standby && !ready))
    let s1 := ((s.setAnvil { s.anvil with
      hbWin := BitVec.ofNat 64 (s.now.toNat / 125000 + 1) }).wrF Reg.ANV_STAT 16 8 0).wr Reg.ANV_TOFS ofs
    let changed := s.pair.peer != some r
    let s2 := (s1.setPair { s1.pair with
      peer := some r, peerReady := ready, peerClaim := claim, peerTrial := trial, peerRecovering := recovering, peerFmt := fmt,
      peerAcc := acc }).setStart { s1.start with peerMerit := merit, peerSerial := serial }
    let s3 := (State.partnerLeft r (if changed then (s2.setEvt Reg.COL_EVT 7).rec02 7 else s2)).copyStops r
    if s3.pair.role = .active then
      if lostReady || recovering || (r == .unassigned && !s3.sharesFormat) then .next s3.raisePairAlarm
      else if r = .standby && ready && s3.anvil.link == .full then .next (s3.setPair { s3.pair with pairAlarm := false })
      else .next s3
    else if s3.pair.role = .joining && r != .active then .next s3.joinFails
    else .next s3

/-- Seven heartbeat windows have ended without a heartbeat (R370): a Standby whose lanes are in block lock sends the release
order three times; an Active module treats its partner as not ready and raises a pair alarm. -/
def execPartnerSilent (s : State) : Host.Outcome State Fault Refusal :=
  if s.rdF Reg.ANV_STAT 16 8 < 7 then .next s
  else
    let s1 := s.setEvt Reg.ANV_EVT 4
    if s1.pair.role = .standby && s1.pair.peer == some .active && s1.anvil.lock != 0 then
      .next ((((s1.send .releaseOrder).send .releaseOrder).send .releaseOrder).setEvt Reg.ANV_EVT 10)
    else if s1.pair.role = .active then
      .next ((s1.setPair { s1.pair with peerReady := false }).raisePairAlarm)
    else .next s1

/-- A release order arrives (R370): the claim goes within 2 µs, without cores or engine, and the module resigns with leave
code 5. -/
def execReleaseOrderReceived (s : State) : Host.Outcome State Fault Refusal := .next (s.heard.resign 5)

/-- The claim is still seen 10 µs after the last order (R370). -/
def execReleaseFail (s : State) : Host.Outcome State Fault Refusal :=
  if s.pair.role = .standby && s.pair.sense then .next ((s.setEvt Reg.ANV_EVT 11).raisePairAlarm) else .next s

/-- The module sees its partner's claim for 1 µs outside the overlap of a yield (R366). -/
def execClaimConflict (s : State) : Host.Outcome State Fault Refusal :=
  let s1 := s.setPair { s.pair with sense := true }
  if s1.pair.role = .active && s1.pair.yield != .overlap then .next ((s1.setEvt Reg.COL_EVT 3).resign 4) else .next s1

/-- The return current of the claim falls below 2 mA (R34, R366), outside a claim probe. -/
def execClaimReleasedByWire (s : State) : Host.Outcome State Fault Refusal :=
  let s1 := s.setPair { s.pair with returned := false }
  if s1.pair.claim && !s1.start.probing then .next (s1.resign 3) else .next s1

/-- A command of COL is ignored (R380). -/
def State.colCmdErr (s : State) : State := s.setEvt Reg.COL_EVT 6

/-- `COL.CTRL.RESIGN` with its key (R368, R380), or a fault that affects control. -/
def State.colResign (s : State) : State := if s.pair.role = .active then s.resign 2 else s.colCmdErr

/-- RESIGN by software's request (`fault` false) or for a fault that affects control (R368). -/
def execResign (fault : Bool) (s : State) : Host.Outcome State Fault Refusal :=
  .next (if fault then s.affectsControl else s.colResign)

/-! ### Reads that capture (R379, R380) -/

/-- A read of `ANV.SEALED_LO` or `ANV.COMMIT_LO` captures the high word. -/
def State.sealedRead (commit : Bool) (s : State) : State :=
  let v := if commit then s.anvil.committed else s.anvil.sealed
  (s.wr (if commit then Reg.ANV_COMMIT_HI else Reg.ANV_SEALED_HI) ((v >>> 32).setWidth 32)).okResp ((v.setWidth 32).setWidth 64)

def execSealedLoRead (commit : Bool) (s : State) : Host.Outcome State Fault Refusal := .next (s.atBlock Reg.ANV_SEALED_LO fun s => s.sealedRead commit)

/-- A read of `COL.YTS_LO` captures the high word. -/
def State.ytsRead (s : State) : State :=
  (s.wr Reg.COL_YTS_HI ((s.pair.yts >>> 32).setWidth 32)).okResp ((s.pair.yts.setWidth 32).setWidth 64)

/-- `COL.CURR` is read (R380): the currents as measured, values that the manual gives bounds for at most. The module's own claim
returns 8 to 12 mA on an intact loop (R33); while it does not claim, RETURN stays below 0.3 mA. -/
def State.currRead (s : State) : State :=
  let w := s.draw.setWidth 32
  let v := if !s.pair.claim then setF w 16 16 (getF w 16 16 % 3)
    else if s.pair.returned then setF w 16 16 (80 + getF w 16 16 % 41)
    else w
  (s.drawn.wr Reg.COL_CURR v).okResp (v.setWidth 64)

/-- `ANV.COPY` is read (R379): while the pass goes on in the Active module, a free amount of what is left has been sent since. -/
def State.copyRead (s : State) : State :=
  if s.pair.role == .active && s.rdB Reg.ANV_COPY 31 then
    let k := s.rdF Reg.ANV_COPY 0 16
    let s1 := s.drawn.wrF Reg.ANV_COPY 0 16 (k + s.draw.toNat % (65536 - k))
    s1.okResp ((s1.rd Reg.ANV_COPY).setWidth 64)
  else s.okResp ((s.rd Reg.ANV_COPY).setWidth 64)

def execYtsLoRead (s : State) : Host.Outcome State Fault Refusal := .next s.ytsRead

/-- A write within the ANV block (R379). -/
def State.anvWrite (a : Nat) (v : W32) (s : State) : State :=
  if a = Reg.ANV_CFG then
    let s1 := s.wrB a 31 (bit v 31)
    if s.run then s1 else s1.wrF a 0 16 (getF v 0 16)
  else if a = Reg.ANV_XFER then s.wr a (s.rd a &&& ~~~(v &&& 0xFFFF0000#32))
  else if a = Reg.ANV_EVT then s.wr a (s.rd a &&& ~~~v)
  else if a = Reg.ANV_EVT_EN then s.wrL a (v &&& 0x3FFF#32)
  else if a = Reg.ANV_LANEERR then s.wr a (s.rd a &&& ~~~v)
  else s

end Sys2Proof.Machine
end

