-- ==== Sys2Proof/Machine/Bellows.lean ====
section
/-!
DEFINITION. Bellows: performance levels, sleep states and wakes (14, R381 to R392, R402). -/
namespace Sys2Proof.Machine

def State.setBellows (b : Bellows) (s : State) : State := { s with bellows := b }

/-! ### Islands and targets (R56, R381, R385) -/

/-- The triad in whose lane a target runs: itself, or that of a core of a split triad. -/
def State.ownTriad (s : State) (x : Nat) : Option Nat :=
  if x < 4 then some x else (s.coreLane (x - 16)).map fun p => p.1

/-- The island, 0 to 7, that a target runs in. -/
def State.islandOf (s : State) (x : Nat) : Nat :=
  match s.ownTriad x with
  | some t => t
  | none => 4 + ((List.range 4).findIdx fun i => s.slotCore i == x - 16)

/-- The targets of an island: a joined triad, the three cores of a split one, or an independent spare. -/
def State.islandTargets (s : State) (i : Nat) : List Nat :=
  if i < 4 then
    if s.triMode i = 3 then (List.range 3).map fun k => 16 + s.laneCore i k else [i]
  else if s.slotState (i - 4) = 4 then [16 + s.slotCore (i - 4)] else []

/-- A target of the island has an enabled source at tiers 1 to 14 (R383, R386). -/
def State.islandControl (s : State) (i : Nat) : Bool := (s.islandTargets i).any fun x => s.hasControl x

/-! ### Performance levels (R382 to R384) -/

/-- The frequency level in effect in an island. -/
def State.freq (s : State) (i : Nat) : Nat := s.rdF (Reg.BEL_PL i) 0 2
/-- The voltage level in effect in an island. -/
def State.volt (s : State) (i : Nat) : Nat := s.rdF (Reg.BEL_PL i) 8 2

/-- The value of a list of pairs at a key. -/
def look {α : Type} (k : Nat) : List (Nat × α) → Option α
  | [] => none
  | (j, v) :: m => if k = j then some v else look k m

/-- The pair (FREQ, VOLT) that the accepted writes of an island lead to. -/
def State.plGoal (s : State) (i : Nat) : Nat × Nat := (look i s.bellows.goal).getD (s.freq i, s.volt i)

/-- A frequency change of the island must wait out the 1 ms of R383. -/
def State.plHeld (s : State) (i : Nat) : Bool := s.bellows.holdoff.contains i && s.islandControl i

/-- What an island's levels are and where they go (R382): in effect, the goal of the writes taken, and the two stalled values. -/
structure Plan where
  freq : Nat
  volt : Nat
  f : Nat
  v : Nat
  sf : Option Nat
  sv : Option Nat
  deriving DecidableEq, Repr

/-- A value for the frequency alone: taken when it keeps FREQ ≥ VOLT against the voltage in effect, else stalled (R382). -/
def Plan.putF (p : Plan) (f : Nat) : Plan := if p.volt ≤ f then { p with f := f, sf := none } else { p with sf := some f }

/-- A value for the voltage alone, against the frequency in effect. -/
def Plan.putV (p : Plan) (v : Nat) : Plan := if v ≤ p.freq then { p with v := v, sv := none } else { p with sv := some v }

/-- Stalled values taken as soon as the other field permits (R382). -/
def Plan.settle (p : Plan) : Plan :=
  let p1 := match p.sf with
    | some f => p.putF f
    | none => p
  match p1.sv with
    | some v => p1.putV v
    | none => p1

/-- Both fields change to a pair that breaks FREQ ≥ VOLT: each is handled alone, the frequency first when it moves to a higher
level number; the second is held against what the first has come to (R382). -/
def Plan.each (p : Plan) (f v : Nat) : Plan :=
  if p.freq < f then { p.putF f with sv := some v }
  else if v ≤ p.freq then { p with v := v, sv := none, sf := some f }
  else ({ p with sv := some v }).putF f

/-- A write of the fields that differ from what is in effect (R382). -/
def Plan.write (p : Plan) (f v : Nat) : Plan :=
  if f ≠ p.freq ∧ v ≠ p.volt then if v ≤ f then { p with f := f, v := v, sf := none, sv := none } else p.each f v
  else if f ≠ p.freq then p.putF f
  else if v ≠ p.volt then p.putV v
  else p

/-- A list of pairs with the key put at an optional value. -/
def putOpt {α : Type} (k : Nat) (v : Option α) (m : List (Nat × α)) : List (Nat × α) :=
  match v with
  | some x => sput m k x
  | none => serase m k

/-- The plan of an island kept. -/
def State.setPlan (i : Nat) (p : Plan) (s : State) : State :=
  let b := s.bellows
  s.setBellows
    { b with
      goal := if p.f = s.freq i ∧ p.v = s.volt i then serase b.goal i else sput b.goal i (p.f, p.v),
      stallF := putOpt i p.sf b.stallF, stallV := putOpt i p.sv b.stallV }

/-- The plan of an island. -/
def State.plan (s : State) (i : Nat) : Plan :=
  { freq := s.freq i, volt := s.volt i, f := (s.plGoal i).1, v := (s.plGoal i).2, sf := look i s.bellows.stallF,
    sv := look i s.bellows.stallV }

/-- PEND follows the stalled values, a goal that can be reached only after a later write, and a frequency change that waits
(R382, R383, R402). -/
def State.plPend (i : Nat) (s : State) : State :=
  let p := s.plan i
  s.wrB (Reg.BEL_PL i) 31 (p.sf.isSome || p.sv.isSome || decide (p.f < p.v) || (s.plHeld i && p.f != p.freq))

/-- A write of `BEL.PL[i]` (R382, R384): a frequency beyond MINLVL is ignored with LVL_ERR; a field that stalls sets
SEQ_ERR. -/
def State.plWrite (i : Nat) (w : W32) (s : State) : State :=
  let p := s.plan i
  let slow := decide (s.rdF (Reg.BEL_PL i) 16 2 < getF w 0 2)
  let f := if slow then p.freq else getF w 0 2
  let v := getF w 8 2
  let q := p.write f v
  let s1 := if slow then (s.setEvt Reg.BEL_EVT 1).rec0B 1 else s
  let s2 := if (f ≠ p.freq ∧ q.sf.isSome) ∨ (v ≠ p.volt ∧ q.sv.isSome) then (s1.setEvt Reg.BEL_EVT 0).rec0B 0 else s1
  (s2.setPlan i q).plPend i

def execPlWrite (i : Fin 8) (w : W32) (s : State) : Host.Outcome State Fault Refusal := .next (s.plWrite i w)

/-- The next change that Bellows makes in an island (R382): a raised voltage first, then the frequency, then a lowered
voltage. -/
def State.levelStep (i : Nat) (s : State) : State :=
  let p := s.plan i
  let v := s.volt i
  let f := s.freq i
  if p.v < v then s.wrF (Reg.BEL_PL i) 8 2 p.v
  else if p.f ≠ f ∧ v ≤ p.f ∧ !s.plHeld i then
    let s1 := s.wrF (Reg.BEL_PL i) 0 2 p.f
    if s1.islandControl i then s1.setBellows { s1.bellows with holdoff := i :: s1.bellows.holdoff.erase i } else s1
  else if p.v ≠ v ∧ p.v ≤ f then s.wrF (Reg.BEL_PL i) 8 2 p.v
  else s

/-- A ramp or a frequency change completes, and a stalled value that it permits is taken (R382, R383). -/
def execLevelChangeDone (i : Fin 8) (s : State) : Host.Outcome State Fault Refusal :=
  let p := s.plan i
  let s1 := s.levelStep i
  .next ((s1.setPlan i ({ p with freq := s1.freq i, volt := s1.volt i }).settle).plPend i)

def execLevelChangeHoldoffEnd (i : Fin 8) (s : State) : Host.Outcome State Fault Refusal :=
  let s1 := s.setBellows { s.bellows with holdoff := s.bellows.holdoff.erase i }
  .next ((s1.setPlan i (s1.plan i).settle).plPend i)

/-! ### Sleep states (R385 to R392) -/

/-- How a target sleeps. -/
def State.nap (s : State) (x : Nat) : Nap := (look x s.bellows.asleep).getD .awake

/-- A target put to sleep or awake. -/
def State.setNap (x : Nat) (n : Nap) (s : State) : State :=
  s.setBellows { s.bellows with
    asleep := if n = .awake then serase s.bellows.asleep x else sput s.bellows.asleep x n }

/-- The code of an island in `BEL.STATE` (R402). -/
def napCode : List Nap → Nat
  | [] => 0
  | l =>
    if l.any (fun n => n == .entering || n == .wakesIdle || n == .wakesBanked) then 3
    else if l.all (fun n => n == .banked) then 2
    else if l.all (fun n => n == .idle || n == .waits) then 1
    else 0

/-- `BEL.STATE` brought up to the naps of an island's targets; a spare that is not in service rests as its slot says (R385). -/
def State.belState (i : Nat) (s : State) : State :=
  if 4 ≤ i ∧ s.slotState (i - 4) ≠ 4 then s else s.wrF Reg.BEL_STATE (2 * i) 2 (napCode ((s.islandTargets i).map fun x => s.nap x))

/-- `BEL.SLP_STAT` of the last entry (R402). -/
def State.slpStat (outcome mode target block cause : Nat) (s : State) : State :=
  s.wr Reg.BEL_SLP_STAT
    (BitVec.ofNat 32 (outcome * 2 ^ 30 + mode * 2 ^ 28 + target * 2 ^ 24 + block * 2 ^ 16 + cause))

/-- An entry is refused (R386, R388, R389), and recorded but where a control core's WAIT only costs its cycle (R386). -/
def State.slpRefuse (mode target block cause : Nat) (s : State) : State :=
  let s1 := (s.slpStat 2 mode target block cause).setEvt Reg.BEL_EVT 2
  if cause = 1 then s1 else s1.rec0B 2

/-- An island's crossings restarted (R65). -/
def State.crossingsOf (target : Nat) (s : State) : State := if target = 15 then { s with crossings := [] } else s.dropCrossings target

/-- An entry ends without the state entered (R389, R391): the blocks stopped and their crossings restart, and its targets run
on at the instruction after WAIT. -/
def State.slpResume (e : SleepEntry) (s : State) : State :=
  let s1 := (s.setBellows { s.bellows with entries := s.bellows.entries.erase e }).crossingsOf e.target
  e.cores.foldl (fun s x => (s.setNap x .awake).belState (s.islandOf x)) s1

/-- The entry in progress into a target, 8 being the module. -/
def State.entryOf (s : State) (i : Nat) : Option SleepEntry :=
  s.bellows.entries.find? fun e => e.target == if i = 8 then 15 else i

/-- A source that targets `x` is pending at a tier above its TIER (R387). -/
def State.ticWakes (s : State) (x : Nat) : Bool :=
  s.tic.any fun e => s.srcTarget e.1 == x &&
    (!(s.ctx x).running || decide ((s.ctx x).tier.toNat < s.srcTier e.1))

/-- WAIT in S mode on a target (R386 to R389). -/
def State.sleepWait (x : Nat) (s : State) : State :=
  let i := s.islandOf x
  let sel := s.rdF (Reg.BEL_SLEEP i) 0 2
  let mode := if sel = 3 then 0 else sel
  if s.hasControl x then s.slpRefuse mode (if mode = 2 then 15 else i) 63 1
  else if mode = 0 then
    if s.ticWakes x then s.slpStat 1 0 i 63 0 else ((s.slpStat 1 0 i 63 0).setNap x .idle).belState i
  else if mode = 2 ∧ s.pair.role ≠ .unassigned ∧ s.pair.role ≠ .outOfService then s.slpRefuse 2 15 63 2
  else
    let others := (s.islandTargets i).filter fun y => y != x
    if mode = 1 ∧ !others.all (fun y => s.nap y == .waits) then (s.setNap x .waits).belState i
    else if s.bellows.entries.any fun e => mode == 2 || e.mode == 2 || e.target == i then
      s.slpRefuse mode (if mode = 2 then 15 else i) 48 7
    else
      let xs := if mode = 1 then x :: others else [x]
      let e : SleepEntry := { target := if mode = 2 then 15 else i, mode := mode, cores := xs, commit := false }
      (xs.foldl (fun s y => s.setNap y .entering) (s.setBellows { s.bellows with entries := s.bellows.entries ++ [e] })).belState i

/-- An address lies in memory that an entry takes the power from (R385, R389). -/
def State.losesPower (s : State) (e : SleepEntry) (a : Nat) : Bool :=
  if e.mode = 2 then !(0x40000000 ≤ a && a < 0x43C00000) && !(a < 0x40000)
  else if e.target < 4 then
    let r := s.rd (Reg.BEL_SLEEP e.target)
    let b := 0x04000000 + e.target * 0x400000
    (b ≤ a && a < b + 0x200000 && !bit r 8) || (b + 0x200000 ≤ a && a < b + 0x400000 && !bit r 9) ||
      (tcdBase e.target ≤ a && a < tcdBase e.target + 0x80000 && !bit r 10)
  else false

/-- Cause 4 of R389: a channel that is not IDLE works in such memory. -/
def State.dmaInTheWay (s : State) (e : SleepEntry) : Bool :=
  (List.range 16).any fun c => s.rdF (Reg.DMA_CH_STAT c) 0 3 != 0 &&
    (s.losesPower e (s.rd (Reg.DMA_CH_DESC c)).toNat || s.losesPower e (s.rd (Reg.DMA_CH_SRC c)).toNat ||
      s.losesPower e (s.rd (Reg.DMA_CH_DST c)).toNat)

/-- Cause 5 of R389: an epoch commit or a full copy is in progress. -/
def State.copying (s : State) : Bool :=
  s.anvil.rxLines != [] || s.rdB Reg.ANV_COPY 31 || s.rdB Reg.ANV_COPY 30 ||
    (s.pair.role == .active && s.anvil.sealing && s.anvil.sealed != s.anvil.committed)

/-- The block and the cause that end a phase: those reported (causes 3 and 6), or causes 4 and 5 as the module finds
them. -/
def State.slpCause (s : State) (e : SleepEntry) (block cause : Nat) : Option (Nat × Nat) :=
  if cause = 3 ∨ cause = 6 then some (block, cause)
  else if s.dmaInTheWay e then some (8, 4)
  else if s.copying then some (12, 5)
  else none

/-- The prepare phase of the entry into island i, or of the module (i = 8), ends (R389). -/
def execSleepPrepareDone (i : Fin 9) (block : Fin 49) (cause : Fin 9) (s : State) : Host.Outcome State Fault Refusal :=
  match s.entryOf i with
  | some e =>
    if e.commit then .next s
    else
      match s.slpCause e block cause with
      | some (b, c) => .next ((s.slpRefuse e.mode e.target b c).slpResume e)
      | none =>
        .next (s.setBellows { s.bellows with
          entries := s.bellows.entries.map fun x => if x = e then { x with commit := true } else x })
  | none => .next s

/-- Prepare has exceeded its bound (R389, cause 8). -/
def execSleepPrepareTimeout (i : Fin 9) (block : Fin 49) (s : State) : Host.Outcome State Fault Refusal :=
  match s.entryOf i with
  | some e => if e.commit then .next s else .next ((s.slpRefuse e.mode e.target block 8).slpResume e)
  | none => .next s

/-- An island loses its power in an orderly way: its crossings are isolated (R65, R389). -/
def State.islandDown (i : Nat) (s : State) : State := ({ s with islandsOff := setB s.islandsOff i }).dropCrossings i

/-- The memories of a triad that Banked does not retain lose their contents (R385; notes/assumptions/11.md). -/
def State.loseUnretained (t : Nat) (s : State) : State :=
  let r := s.rd (Reg.BEL_SLEEP t)
  let b := 0x04000000 + t * 0x400000
  let s1 := if bit r 8 then s else s.dropMem b 0x200000
  let s2 := if bit r 9 then s1 else s1.dropMem (b + 0x200000) 0x200000
  if bit r 10 then
    if s2.triMode t = 3 then s2.copyMem (splitTcd (s2.laneCore t 0)) (tcdBase t) 0x80000 else s2
  else s2.dropMem (tcdBase t) 0x80000

/-- The commit phase ends: the target enters its state, or a block refuses (R389). -/
def execSleepCommitDone (i : Fin 9) (block : Fin 49) (cause : Fin 9) (s : State) : Host.Outcome State Fault Refusal :=
  match s.entryOf i with
  | some e =>
    if !e.commit then .next s
    else
      match s.slpCause e block cause with
      | some (b, c) => .next ((s.slpRefuse e.mode e.target b c).slpResume e)
      | none =>
        let s1 := (s.slpStat 1 e.mode e.target 63 0).setBellows { s.bellows with entries := s.bellows.entries.erase e }
        if e.mode = 2 then
          .next { s1 with
            bellows := { s1.bellows with ember := true }, islandsOff := BitVec.allOnes 48,
            pair := { s1.pair with drive := .highZ } }
        else
          let s2 := e.cores.foldl (fun s x => s.setNap x .banked) s1
          let s3 := if e.target < 4 then s2.loseUnretained e.target else s2
          .next ((s3.islandDown e.target).belState e.target)
  | none => .next s

/-- A wake recorded in `BEL.WAKE_CAUSE` (R391, R402); sources of one wake add up. -/
def State.wakeCause (more : Bool) (target src : Nat) (s : State) : State :=
  let old := if more then getF (s.rd Reg.BEL_WAKE_CAUSE) 0 10 else 0
  s.wr Reg.BEL_WAKE_CAUSE (BitVec.ofNat 32 (2 ^ 31 + target * 2 ^ 24 + old) ||| BitVec.ofNat 32 (2 ^ src))

/-- The wake source `src` acts for a target of island i: it is enabled in `BEL.WAKE_EN[i]`, source 0 holding while a TIC
source is pending for it; a TIC source above its TIER wakes a target in Idle in any case (R387, R390). -/
def State.wakes (s : State) (i src x : Nat) : Bool :=
  if src = 0 then
    (s.ticWakes x && (s.nap x == .idle || s.nap x == .waits)) ||
      (s.rdB (Reg.BEL_WAKE_EN i) 0 && s.tic.any fun e => s.srcTarget e.1 == x)
  else s.rdB (Reg.BEL_WAKE_EN i) src

/-- A wake source fires for island i, or for the module in Ember (i = 8) (R387, R390, R391). -/
def execWakeSource (i : Fin 9) (src : Fin 10) (s : State) : Host.Outcome State Fault Refusal :=
  let target := if i.val = 8 then 15 else i.val
  let xs := (s.islandTargets i).filter fun x => s.wakes i src x
  let acts := if i.val = 8 then decide (3 ≤ src.val) && s.rdB (Reg.BEL_WAKE_EN 8) src else xs != []
  match if acts then s.entryOf i else none with
  | some e =>
    .next (((((s.slpStat 3 e.mode target 63 0).setEvt Reg.BEL_EVT 3).wakeCause false target src).rec0B 3).slpResume e)
  | none =>
    if !acts then .next s
    else if i.val = 8 then
      if s.bellows.ember then
        .next ((s.wakeCause s.bellows.waking 15 src).setBellows { s.bellows with waking := true })
      else .next s
    else
      let sl := xs.filter fun x => s.nap x == .idle || s.nap x == .waits || s.nap x == .banked
      let wk := xs.filter fun x => s.nap x == .wakesIdle || s.nap x == .wakesBanked
      if sl = [] ∧ wk = [] then .next s
      else
        let all := if sl.any (fun x => s.nap x == .banked) then s.islandTargets i else sl
        let s1 := s.wakeCause (sl == []) target src
        let s2 := all.foldl
          (fun s x => s.setNap x (if s.nap x = .banked then .wakesBanked else .wakesIdle)) s1
        .next (if sl = [] then s1 else s2.belState i)

/-- An island out of Banked (R387): a triad as after a triad reset, with what is retained kept; a spare as when it was
placed in service. -/
def State.outOfBanked (i : Nat) (s : State) : State :=
  let xs := s.islandTargets i
  let s1 := ({ s with islandsOff := clrB s.islandsOff i }).dropCrossings i
  let s2 := xs.foldl (fun s x => (s.abandonAll x).setNap x .awake) s1
  let s3 := if i < 4 then s2.lanesFresh i true else s2
  s3.wrF Reg.BEL_STATE (2 * i) 2 0

/-- A sleeping island has woken, or the module leaves Ember through a module reset (R387, R388). -/
def execWakeDone (i : Fin 9) (s : State) : Host.Outcome State Fault Refusal :=
  if i.val = 8 then
    if s.bellows.ember && s.bellows.waking then
      let cause := s.rd Reg.SYS_RESET_CAUSE
      let s1 := s.restart fun a => a == Reg.BEL_WAKE_CAUSE
      .next ((s1.wr Reg.SYS_RESET_CAUSE (setB cause 1)).afterReset.wrB Reg.BEL_WAKE_CAUSE 30 true)
    else .next s
  else
    let xs := s.islandTargets i
    if xs.any (fun x => s.nap x == .wakesBanked) then .next (s.outOfBanked i)
    else
      .next ((xs.filter fun x => s.nap x == .wakesIdle).foldl (fun s x => (s.setNap x .awake).belState i) s)

/-- A write within the BEL block (R402). -/
def State.belWrite (a : Nat) (v : W32) (s : State) : State :=
  if a < 0x10020020 then if a % 4 = 0 then s.plWrite ((a - 0x10020000) / 4) v else s
  else if 0x10020040 ≤ a ∧ a < 0x10020060 then
    s.wr a (if (a - 0x10020040) / 4 < 4 then v &&& 0x703#32 else v &&& 3#32)
  else if 0x10020060 ≤ a ∧ a < 0x10020084 then s.wr a (v &&& 0x3FF#32)
  else if a = Reg.BEL_WAKE_CAUSE then s.wr a (s.rd a &&& ~~~(v &&& 0x80000000#32))
  else if a = Reg.BEL_EVT then s.wr a (s.rd a &&& ~~~(v &&& 0xF#32))
  else if a = Reg.BEL_EVT_EN then s.wrL a (v &&& 0xF#32)
  else s

end Sys2Proof.Machine
end

