-- ==== Sys2Proof/Machine/Slices.lean ====
section
/-!
DEFINITION. Slices: readiness, status word, configuration, and the digital input modes (09, R236 to R249, R254, R256). -/
namespace Sys2Proof.Machine

def State.slice (s : State) (g i : Nat) : Slice := sget (fun _ => {}) s.slices (17 * g + i)
def State.setSlice (g i : Nat) (v : Slice) (s : State) : State :=
  { s with slices := sset (fun _ => {}) s.slices (17 * g + i) v }

/-! ### The status word (R242) -/

/-- `FCH.STATUS.MODE`, the mode in effect. -/
def State.fmode (s : State) (g i : Nat) : Nat := s.rdF (Reg.FCH_STATUS g i) 0 4

/-- A status word with VALID as its other bits make it: ready, and no bit of 23:16 set. -/
def validWord (w : W32) : W32 := putB w 31 (!bit w 29 && w &&& 0x00FF0000#32 == 0)

/-- An event of a slice: latched in `FCH.DIAG`, raising source 96 + g where enabled, and recorded (R264, R448). -/
def State.diagEvt (g i b : Nat) (s : State) : State := (s.setEvt (Reg.FCH_DIAG g i) b).rec06 g i b

/-- A FAULT or SW trigger of the injected sequence: it merges into a run that is pending or in progress (R270). -/
def State.trigger (g i : Nat) (s : State) : State :=
  let v := s.slice g i
  let merges := v.held.isSome || (match v.inj with | some (gr, _) => !gr | none => false)
  if merges then s else s.setSlice g i { v with trig := true }

/-- A value in effect: that of a register whose write awaits confirmation is still the old one (R241). -/
def State.inEffect (s : State) (g i off : Nat) : W32 := (look off (s.slice g i).eff).getD (s.rd (Reg.FCH_CFG g i + off))

/-- A status bit rises: it is latched and recorded, and a fault bit or OVR triggers the injected sequence where
TRIG_FAULT is set (R242, R264, R270). -/
def State.statSet (g i b : Nat) (s : State) : State :=
  let w := s.rd (Reg.FCH_STATUS g i)
  if bit w b then s
  else
    let s1 := s.wr (Reg.FCH_STATUS g i) (validWord (setB w b))
    let s2 := if 8 ≤ b && b ≤ 23 then s1.diagEvt g i b else s1
    let analog := decide (5 ≤ getF w 0 4)
    if analog && bit (s.inEffect g i 0x104) 9 && (16 ≤ b && b ≤ 23 || b == 8 && decide (getF w 0 4 < 8)) then s2.trigger g i
    else s2

/-- A status bit falls. -/
def State.statClr (g i b : Nat) (s : State) : State :=
  s.wr (Reg.FCH_STATUS g i) (validWord (clrB (s.rd (Reg.FCH_STATUS g i)) b))

/-- A status bit follows a condition. -/
def State.statPut (g i b : Nat) (on : Bool) (s : State) : State := if on then s.statSet g i b else s.statClr g i b

/-- A bit of the status word. -/
def State.stat (s : State) (g i b : Nat) : Bool := s.rdB (Reg.FCH_STATUS g i) b

/-! ### The event queue (R249) -/

/-- LEVEL and the stamp of the head as the registers show them (R265). -/
def State.evtShow (g : Nat) (s : State) : State :=
  let q := (s.group g).queue
  let s1 := match q with
    | [] => s.wr64 (Reg.FCH_EVT_TIME_LO g) (Reg.FCH_EVT_TIME_HI g) 0
    | e :: _ => s.wr64 (Reg.FCH_EVT_TIME_LO g) (Reg.FCH_EVT_TIME_HI g) e.stamp
  s1.wrL (Reg.FCH_EVT_STAT g) (setF (s1.rd (Reg.FCH_EVT_STAT g)) 0 7 q.length)

/-- A queue put into a group. -/
def State.setQueue (g : Nat) (q : List EdgeEvent) (s : State) : State :=
  (s.setGroup g { s.group g with queue := q }).evtShow g

/-- An entry enters the queue (R249): a full queue drops the new entry in the Active module, its oldest in other roles. -/
def State.pushEvent (g : Nat) (e : EdgeEvent) (s : State) : State :=
  let q := (s.group g).queue
  if q.length < 64 then s.setQueue g (q ++ [e])
  else if s.pair.role = .active then
    (s.incF (Reg.FCH_EVT_STAT g) 16 8).wrB (Reg.FCH_EVT_STAT g) 31 true
  else s.setQueue g (q.drop 1 ++ [e])

/-- The head of the queue as `FCH.EVT_INFO` shows it (R265). -/
def EdgeEvent.info (e : EdgeEvent) : W32 :=
  BitVec.ofNat 32 (2 ^ 31 + b2n e.stby * 2 ^ 30 + b2n e.level * 2 ^ 8 + b2n e.subst * 2 ^ 7 + e.slice)

/-- The collector owns the queue of group g (R349). -/
def State.collects (s : State) (g : Nat) : Bool := s.rdB Reg.NET_SOE_CTRL 31 && s.rdB Reg.NET_SOE_GRP g

/-- A read of `FCH.EVT_INFO` (R265, R349). -/
def State.evtInfoRead (g : Nat) (s : State) : State :=
  if s.collects g then s.okResp 0
  else
    match (s.group g).queue with
    | [] => s.okResp 0
    | e :: q => (s.setQueue g q).okResp (e.info.setWidth 64)

def execEvtInfoRead (g : Fin 32) (s : State) : Host.Outcome State Fault Refusal :=
  .next (s.atBlock (Reg.FCH_EVT_INFO g) fun s => s.evtInfoRead g)

/-- The window is that of a spare that serves a terminal: what is written there has no effect (R263). -/
def State.shut (s : State) (g i : Nat) : Bool := i == 16 && s.rdB (Reg.FCH_SPARE g) 15

/-- The channel that a slice window shows (R263). -/
def State.shows (s : State) (g i : Nat) : Nat := if s.shut g i then s.rdF (Reg.FCH_SPARE g) 0 4 else i

/-- A read of `FCH.EDGE_LO` captures the high word (R264). -/
def State.edgeLoRead (g i : Nat) (s : State) : State :=
  let e := (s.slice g i).edge
  (s.wr (Reg.FCH_EDGE_HI g i) ((e >>> 32).setWidth 32)).okResp ((e.setWidth 32).setWidth 64)

def execEdgeLoRead (g : Fin 32) (i : Fin 17) (s : State) : Host.Outcome State Fault Refusal :=
  .next (s.atBlock (Reg.FCH_CFG g i) fun s => s.edgeLoRead g (s.shows g i))

/-! ### The debounce filter (R246, R247) -/

/-- The debounce time D in nanoseconds (R246). -/
def State.debounce (s : State) (g i : Nat) : Nat := max 1 (getF (s.inEffect g i 4) 0 16) * 1000

/-- The filter runs (R247, R257): a ready digital input, in line-monitored mode only while the source is on. -/
def State.filterRuns (s : State) (g i : Nat) : Bool :=
  (s.slice g i).ready &&
    (s.fmode g i == 1 || s.fmode g i == 2 || (s.fmode g i == 3 && s.pair.drive == .driving))

/-- The filter accepts no change (R244, R254). -/
def State.filterStops (s : State) (g i : Nat) : Bool :=
  s.rd (Reg.FCH_STATUS g i) &&& 0x00FF0000#32 != 0 || (s.fmode g i == 3 && s.stat g i 8)

/-- The filter starts with a level and a last edge, and with no window open (R247). -/
def State.filterStart (g i : Nat) (level : Bool) (edge : W64) (s : State) : State :=
  (s.setSlice g i { s.slice g i with raw := level, level := level, edge := edge, waiting := false }).wr (Reg.FCH_VALUE g i)
    (BitVec.ofNat 32 (b2n level))

/-- The open window completes (R246): the level and last_edge change, and an event is queued where enabled. -/
def State.filterAccept (g i : Nat) (s : State) : State :=
  let v := s.slice g i
  let s1 := (s.setSlice g i { v with level := v.new, edge := v.start, waiting := false }).wr (Reg.FCH_VALUE g i)
    (BitVec.ofNat 32 (b2n v.new))
  if bit (s.inEffect g i 4) (if v.new then 16 else 17) then
    s1.pushEvent g
      { stamp := v.start, slice := i, level := v.new, subst := s.stat g i 30, stby := s.pair.role != .active }
  else s1

/-- The window that is open has completed by the sample stamped `stamp`. -/
def State.windowDone (s : State) (g i : Nat) (stamp : Nat) : Bool :=
  let v := s.slice g i
  v.waiting && decide (v.start.toNat + s.debounce g i ≤ stamp)

/-- One sample through the filter, in the order of R246; samples before the filter's first are none of its (R258). -/
def State.filterSample (g i : Nat) (stamp : W64) (raw : Bool) (s : State) : State :=
  if stamp.toNat < (s.slice g i).filterFrom.toNat then s
  else
  let s1 := if s.windowDone g i stamp.toNat then s.filterAccept g i else s
  let v := s1.slice g i
  let v1 := if v.waiting && raw != v.new then { v with waiting := false } else v
  let v2 := if !v1.waiting && raw != v1.level then { v1 with waiting := true, new := raw, start := stamp } else v1
  s1.setSlice g i { v2 with raw := raw }

/-- The terminal of channel i is between its failed slice and the spare, which takes at most 20 µs (R260). -/
def State.replacing (s : State) (g i : Nat) : Bool := (s.group g).work == some (i, .replacing)

/-- A sample whose raw level differs from the one before (R245, R246), 375 ns after its stamp. While TEST is set it counts as
a copy of the sample before the stimulus (R256), and while the spare takes the terminal it is not stamped (R260). -/
def State.inputEdge (g i : Nat) (stamp : W64) (raw : Bool) (s : State) : State :=
  if s.stat g i 28 || s.replacing g i then s
  else if s.filterRuns g i && !s.filterStops g i then s.filterSample g i stamp raw
  else s.setSlice g i { s.slice g i with raw := raw }

/-- The instant at which the sample with a stamp is taken (R245). -/
def sampleTime (stamp : W64) : W64 := stamp + 375

/-- A stamp is a multiple of 125 ns (R245); no sample has another. -/
def isStamp (stamp : W64) : Bool := stamp.toNat % 125 == 0

def execDigitalInputEdge (g : Fin 32) (i : Fin 17) (stamp : W64) (raw : Bool) (s : State) :
    Host.Outcome State Fault Refusal :=
  .next (if isStamp stamp then (s.atTime (sampleTime stamp)).inputEdge g i stamp raw else s)

/-- The sample stamped start + D comes with no change of level before it. -/
def execDebounceAccept (g : Fin 32) (i : Fin 17) (s : State) : Host.Outcome State Fault Refusal :=
  let v := s.slice g i
  if v.waiting && s.filterRuns g i && !s.filterStops g i then
    .next ((s.atTime (sampleTime (v.start + BitVec.ofNat 64 (s.debounce g i)))).filterAccept g i)
  else .next s

/-- What stopped the filter has gone: it goes on from the present raw level with the next sample, whose stamp lies 375 ns
before its instant (R245). -/
def State.filterResume (g i : Nat) (s : State) : State :=
  let t := BitVec.ofNat 64 ((s.now.toNat + 124) / 125 * 125 - 375)
  if s.filterRuns g i && !s.filterStops g i then s.filterSample g i t (s.slice g i).raw else s

/-- A fault bit stands: an open window is given up, since no change is accepted (R254). -/
def State.filterHalt (g i : Nat) (s : State) : State :=
  if s.filterStops g i then s.setSlice g i { s.slice g i with waiting := false } else s

/-! ### Readiness and configuration (R239 to R241) -/

/-- Slice 16 serves channel i of group g (R260, R263). -/
def State.served (s : State) (g i : Nat) : Bool :=
  s.rdB (Reg.FCH_SPARE g) 15 && s.rdF (Reg.FCH_SPARE g) 0 4 == i && decide (i < 16)

/-- A channel's slice is retired and no spare serves its terminal. -/
def State.unserved (s : State) (g i : Nat) : Bool :=
  decide (i < 16) && s.rdB (Reg.FCH_SPARE g) (16 + i) && !s.served g i

/-- The mode that a MODE field gives: a reserved one behaves as MODE 0 (R240). -/
def modeOf (n : Nat) : Nat := if n ≤ 8 then n else 0

/-- A slice becomes ready in the mode it is configured for (R239, R241, R247). -/
def State.becomeReady (g i : Nat) (s : State) : State :=
  let n := s.rdF (Reg.FCH_CFG g i) 0 4
  let w := s.rd (Reg.FCH_STATUS g i)
  let s1 := s.wr (Reg.FCH_STATUS g i) (validWord (putB (setF (clrB w 29) 0 4 (modeOf n)) 30 (s.served g i)))
  let v := s1.slice g i
  let s2 := s1.setSlice g i
    { v with ready := true, conv := false, count := 0, edge := 0, waiting := false, band := 1, bandAt := s.now,
             filterFrom := 0 }
  let s3 := if 8 < n then s2.statSet g i 23 else if v.failed then s2 else s2.statClr g i 23
  if s3.filterRuns g i then s3.filterStart g i v.raw 0 else s3

/-- A slice's supply, self-test, configuration and frame check are done (R239); `raw` is the level of its first sample. An
isolated slice stays so (R254, R259). -/
def execSliceReady (g : Fin 32) (i : Fin 17) (raw : Bool) (s : State) : Host.Outcome State Fault Refusal :=
  let v := s.slice g i
  if v.ready || v.failed || s.unserved g i then .next s
  else
    let s1 := (s.setSlice g i { v with raw := raw, eff := [] }).wrB (Reg.FCH_CFG g i) 31 false
    let s2 := s1.becomeReady g i
    if i.val = 16 && !s2.rdB (Reg.FCH_SPARE g) 14 && !s2.rdB (Reg.FCH_SPARE g) 15 then
      .next (s2.wrB (Reg.FCH_SPARE g) 12 true)
    else .next s2

/-- An offset within a slice window is that of a register written under R241 (R264, R296). -/
def isSliceConfig (off : Nat) : Bool :=
  off == 0 || off == 4 || off == 8 || off == 0x100 || off == 0x104 || (0x110 ≤ off && off < 0x140 && off % 4 == 0) ||
    off == 0x180 || off == 0x184

/-- A configuration write of a slice (R241): PEND is set until the slice confirms; a change of MODE makes the terminals
high-impedance at once. The window of a spare that serves a terminal takes no writes (R263). -/
def State.sliceConfigWrite (g i off : Nat) (v : W32) (s : State) : State :=
  if !isSliceConfig off || (i == 16 && s.rdB (Reg.FCH_SPARE g) 15) then s
  else
    let a := Reg.FCH_CFG g i + off
    let mask : W32 := match regRow a with
      | some r => BitVec.ofNat 32 r.rw
      | none => 0
    let old := s.rd a
    let new := v &&& mask
    let sl := s.slice g i
    let s1 := s.setSlice g i { sl with
      eff := if (look off sl.eff).isSome then sl.eff else sput sl.eff off (if off = 0 then clrB old 31 else old) }
    let s2 := (s1.wr a (if off = 0 then setB new 31 else new)).wrB (Reg.FCH_CFG g i) 31 true
    if off = 0 ∧ getF old 0 4 ≠ getF new 0 4 then
      let s3 := s2.setSlice g i { s2.slice g i with ready := false, conv := true, closed := false, dac := 0, waiting := false }
      s3.wr (Reg.FCH_STATUS g i) (validWord (setB (s3.rd (Reg.FCH_STATUS g i)) 29))
    else s2

/-- The slice confirms (R241). A new mode starts without the status bits and the values of
the old one: an output with the command 0, a counter with the count 0 (R284, R290). -/
def execSliceConfigConfirm (g : Fin 32) (i : Fin 17) (s : State) : Host.Outcome State Fault Refusal :=
  if s.rdB (Reg.FCH_CFG g i) 31 then
    let v := s.slice g i
    let s1 := (s.setSlice g i { v with eff := [] }).wrB (Reg.FCH_CFG g i) 31 false
    if v.conv then
      let m := modeOf (s1.rdF (Reg.FCH_CFG g i) 0 4)
      let w := s1.rd (Reg.FCH_STATUS g i) &&& (if v.failed then 0x60A00000#32 else 0x60200000#32)
      let s2 := s1.setSlice g i { v.outlast with conv := true, raw := v.raw, zero := v.zero }
      .next (((s2.wr (Reg.FCH_STATUS g i) (setF w 0 4 m)).wr (Reg.FCH_VALUE g i) 0).wr (Reg.FCH_RDBK g i) 0)
    else .next s1
  else .next s

/-! ### Line monitoring (R244) -/

/-- The band of a loop resistance in ohms: 0 short, 1 ON, 2 gap, 3 OFF, 4 gap, 5 wire broken. -/
def lineBand (ohms : Nat) : Nat :=
  if ohms < 300 then 0
  else if ohms < 3000 then 1
  else if ohms < 6000 then 2
  else if ohms < 25000 then 3
  else if ohms ≤ 50000 then 4
  else 5

/-- Both gaps are one finding, LINE_INVALID; ON and OFF clear the report. -/
def bandFinding (b : Nat) : Nat := if b = 0 then 16 else if b = 5 then 17 else if b = 2 ∨ b = 4 then 8 else 0

/-- The 1 ms measurement (R244), suspended while the source is off (R257). -/
def execLineBandMeasure (g : Fin 32) (i : Fin 17) (ohms : W32) (when : W64) (s : State) :
    Host.Outcome State Fault Refusal :=
  let s0 := s.atTime when
  if s0.filterRuns g i && s0.fmode g i == 3 then
    let v := s0.slice g i
    let b := lineBand ohms.toNat
    .next (s0.setSlice g i { v with band := b, bandAt := if bandFinding b = bandFinding v.band then v.bandAt else when })
  else .next s0

/-- A finding has held for 10 ms (R244); reports are suppressed for 20 ms after a catch or a yield (R257). -/
def execLineBandReport (g : Fin 32) (i : Fin 17) (when : W64) (s : State) : Host.Outcome State Fault Refusal :=
  let s0 := s.atTime when
  let v := s0.slice g i
  let t := s0.now.toNat
  if s0.filterRuns g i && s0.fmode g i == 3 && decide (v.bandAt.toNat + 10000000 ≤ t) && decide (v.quiet.toNat ≤ t) then
    let f := bandFinding v.band
    let s1 := ((s0.statPut g i 16 (f == 16)).statPut g i 17 (f == 17)).statPut g i 8 (f == 8)
    .next (if f = 0 then s1.filterResume g i else s1.filterHalt g i)
  else .next s0

end Sys2Proof.Machine
end

