-- ==== Sys2Proof/Machine/SliceFaults.lean ====
section
/-!
DEFINITION. Digital outputs, channel faults, stimuli, slice failures and substitution (09, R250 to R264). -/
namespace Sys2Proof.Machine

/-! ### The output's protection and retry policy (R251, R252) -/

/-- OVL_TIME in nanoseconds (R251). -/
def State.ovlTime (s : State) (g i : Nat) : Nat := min 100 (max 1 (getF (s.inEffect g i 8) 0 8)) * 1000000

/-- RETRY_INT in nanoseconds (R264). -/
def State.retryInt (s : State) (g i : Nat) : Nat := min 1000 (max 1 (getF (s.inEffect g i 8) 16 12)) * 10000000

/-- The protection has opened the switch at the present time (R252). -/
def State.protOpen (g i : Nat) (s : State) : State :=
  let most := getF (s.inEffect g i 8) 8 8
  let s1 := (s.setSlice g i { s.slice g i with closed := false, limitAt := none }).statClr g i 11
  if most = 0 ∨ (most ≠ 255 ∧ s.rdF (Reg.FCH_RETRY g i) 0 8 = most) then s1.statSet g i 9
  else (s1.setSlice g i { s1.slice g i with offAt := some s.now }).statSet g i 10

/-- LATCHED and the attempt count cleared (R252). -/
def State.rearm (g i : Nat) (s : State) : State := (s.statClr g i 9).wrF (Reg.FCH_RETRY g i) 0 8 0

/-- What holds the switch open against a command of 1: LATCHED, RETRY_WAIT, a reversed terminal, lost field energy, a
failed slice, and a terminal that the spare is still taking over (R252, R254, R259, R260). -/
def State.heldOpen (s : State) (g i : Nat) : Bool :=
  s.stat g i 9 || s.stat g i 10 || s.stat g i 18 || s.stat g i 21 || s.stat g i 23 || !(s.slice g i).ready || s.replacing g i

/-- A command applied to a digital output at the present tick, `period` being the period of its line (R252, R253). A command of 0
that has been held for a period re-arms, also where a 1 follows it at this tick. -/
def State.doApply (g i : Nat) (cmd : W32) (period : Nat) (s : State) : State :=
  let on := bit cmd 0
  let v := s.slice g i
  let held := match v.zeroSince with
    | some z => decide (z.toNat + period ≤ s.now.toNat)
    | none => !on && decide (period = 0)
  let s1 := (s.setSlice g i { v with cmd := cmd, zeroSince := if on then none else some (v.zeroSince.getD s.now) }).wr
    (Reg.FCH_VALUE g i) (BitVec.ofNat 32 (b2n on))
  let s2 := if held then s1.rearm g i else s1
  let close := on && !s2.heldOpen g i
  s2.setSlice g i { s2.slice g i with closed := close, heldAt := if close && !v.closed then s.now else v.heldAt }

/-- The output has been held at its limit for the overload time (R251). -/
def State.overTime (s : State) (g i : Nat) : Bool :=
  s.stat g i 11 && (s.slice g i).closed &&
    (match (s.slice g i).limitAt with
     | some t => decide (t.toNat + s.ovlTime g i ≤ s.now.toNat)
     | none => false)

/-- The protection trips once the overload time is over (R251). -/
def execOverloadTrip (g : Fin 32) (i : Fin 17) (when : W64) (s : State) : Host.Outcome State Fault Refusal :=
  let s0 := s.atTime when
  if s0.fmode g i == 4 && s0.overTime g i then .next ((s0.protOpen g i).statSet g i 19) else .next s0

/-- The switch is hotter than 165 °C (R251). -/
def execThermalShutdown (g : Fin 32) (i : Fin 17) (when : W64) (s : State) : Host.Outcome State Fault Refusal :=
  let s0 := s.atTime when
  if s0.fmode g i == 4 && (s0.slice g i).ready then
    let s1 := (s0.statSet g i 20).statSet g i 19
    .next (if (s0.slice g i).closed then s1.protOpen g i else s1)
  else .next s0

/-- The first base tick at or after switch-off plus the retry interval (R252); a Standby's switch stays open (R257). -/
def execRetryAttempt (g : Fin 32) (i : Fin 17) (tick : W64) (s : State) : Host.Outcome State Fault Refusal :=
  let s0 := s.atTime tick
  let v := s0.slice g i
  match v.offAt with
  | some off =>
    if s0.stat g i 10 && s0.isTick tick.toNat && decide (off.toNat + s0.retryInt g i ≤ tick.toNat) then
      let s1 := (s0.setSlice g i { v with offAt := none }).statClr g i 10
      if bit v.cmd 0 && !s1.heldOpen g i && s1.pair.drive != .standby then
        .next ((s1.setSlice g i { s1.slice g i with closed := true, heldAt := s1.now }).incF (Reg.FCH_RETRY g i) 0 8)
      else .next s1
    else .next s0
  | none => .next s0

/-- `FCH.RETRY` as written (R252, R264). -/
def State.retryWrite (g i : Nat) (v : W32) (s : State) : State := if bit v 16 then s.rearm g i else s

def execRetryRearm (g : Fin 32) (i : Fin 17) (s : State) : Host.Outcome State Fault Refusal :=
  .next (s.atBlock (Reg.FCH_RETRY g i) fun s => if s.shut g i then s else s.rearm g i)

/-! ### Field energy (R44, R45, R254) -/

/-- A slice loses its field energy or its output is shed: SUPPLY, the switch opens under the retry policy, and the stage of a
current output is off (R288). SUPPLY clears by FAULT_CLEAR, once the energy has been back for 10 ms. -/
def State.supplyLost (g i : Nat) (s : State) : State :=
  let m := s.fmode g i
  if m = 0 || s.stat g i 21 then s
  else
    let s1 := (s.statSet g i 21).filterHalt g i
    if m = 4 && (s1.slice g i).closed then s1.protOpen g i
    else if m = 7 then s1.setSlice g i { s1.slice g i with dac := 0 }
    else s1

/-! ### The stage of a current output (R284, R289) -/

/-- The current after the user trim (R289), cut to the stage's 0 to 24 mA. -/
def State.trimmed (s : State) (g i c : Nat) : Nat :=
  match look (17 * g + i) s.trims with
  | some (lo, hi) => (max 0 (min 24000000 (4000000 + ((c : Int) - lo.toInt) * 16000000 / (hi.toInt - lo.toInt)))).toNat
  | none => c

/-- A current rounded to the DAC step of 91.55 nA, to the nearest (R284). -/
def dacCode (c : Nat) : W32 := BitVec.ofNat 32 ((c * 100 + 4577) / 9155)

/-- What keeps the stage off: no ready slice, a reversed terminal, heat, lost field energy, a failed slice, a terminal that
the spare is still taking over (R241, R259, R260, R288). -/
def State.stageBarred (s : State) (g i : Nat) : Bool :=
  !(s.slice g i).ready || s.stat g i 18 || s.stat g i 20 || s.stat g i 21 || s.stat g i 23 || s.replacing g i

/-- The stage driven at a level of `c` nA. -/
def State.drive (g i c : Nat) (s : State) : State :=
  let s1 := s.setSlice g i { s.slice g i with
    applied := BitVec.ofNat 32 c, dac := if s.stageBarred g i then 0 else dacCode (s.trimmed g i c) }
  if s1.stat g i 10 then s1 else s1.wr (Reg.FCH_VALUE g i) (BitVec.ofNat 32 c)

/-- The stage at its share of the applied current, all of it or half (R292). -/
def State.driveShare (g i : Nat) (half : Bool) (s : State) : State :=
  let v := s.slice g i
  let c := s.trimmed g i v.applied.toNat
  s.setSlice g i { v with dac := if s.stageBarred g i then 0 else dacCode (if half then c / 2 else c) }

/-- The loop source of mode 5 is on (R257, R282, R291): loop power is configured, the module drives its slices, and the
terminal is not reversed. -/
def State.loopSource (s : State) (g i : Nat) : Bool :=
  s.fmode g i == 5 && bit (s.inEffect g i 0x100) 0 && (s.slice g i).ready && s.pair.drive == .driving && !s.stat g i 18 &&
    !s.stat g i 21 && !s.stat g i 23 && !s.replacing g i

/-- COMPLY is over: the applied current that FCH_VALUE reports is the command again (R285). -/
def State.complyEnds (g i : Nat) (s : State) : State :=
  if s.stat g i 10 then (s.statClr g i 10).wr (Reg.FCH_VALUE g i) (s.slice g i).applied else s

/-! ### Detecting and clearing faults (R254, R282, R286, R288) -/

/-- The status bits that a detection time ends in, by mode; the others follow measurements or have a command of their
own. -/
def detects (mode b : Nat) : Bool :=
  match mode with
  | 1 => b == 18
  | 2 => b == 18
  | 3 => b == 18
  | 4 => b == 11 || b == 17 || b == 18
  | 5 => b == 16 || b == 18
  | 7 => b == 16 || b == 17 || b == 18 || b == 20
  | _ => false

/-- The mode's own condition for a fault: LIMIT needs a closed switch, an open load with the switch open needs OL_OFF, a
short in mode 5 needs the loop source, and in mode 7 an open loop needs 1 mA applied and a short 4 mA. -/
def State.detectable (s : State) (g i b : Nat) : Bool :=
  match s.fmode g i with
  | 4 => if b = 11 then (s.slice g i).closed else b != 17 || (s.slice g i).closed || bit (s.inEffect g i 8) 28
  | 5 => b != 16 || s.loopSource g i
  | 7 => if b = 17 then decide (1000000 ≤ (s.slice g i).applied.toNat)
    else b != 16 || decide (4000000 ≤ (s.slice g i).applied.toNat)
  | _ => true

/-- A fault has persisted for its detection time, and the slice acts as its mode says. -/
def execFaultDetect (g : Fin 32) (i : Fin 17) (b : Fin 32) (when : W64) (s : State) : Host.Outcome State Fault Refusal :=
  let s0 := s.atTime when
  let m := s0.fmode g i
  if (s0.slice g i).ready && detects m b && s0.detectable g i b then
    let s1 := (s0.statSet g i b).filterHalt g i
    if m = 4 && b.val = 18 then .next (s1.setSlice g i { s1.slice g i with closed := false })
    else if m = 4 && b.val = 11 then
      .next (s1.setSlice g i { s1.slice g i with limitAt := some ((s1.slice g i).limitAt.getD s1.now) })
    else if m = 7 && b.val = 17 then .next (s1.complyEnds g i)
    else if m = 7 && (b.val = 18 || b.val = 20) then .next (s1.setSlice g i { s1.slice g i with dac := 0 })
    else .next s1
  else .next s0

/-- The status bits that clear by an absence of the condition, by mode. -/
def clears (mode b : Nat) : Bool :=
  match mode with
  | 1 => b == 18
  | 2 => b == 18
  | 3 => b == 18
  | 4 => b == 11 || b == 17 || b == 18 || b == 19 || b == 20 || b == 22
  | 5 => b == 16 || b == 18
  | 7 => b == 10 || b == 12 || b == 16 || b == 17 || b == 18 || b == 20 || b == 22
  | 8 => b == 8
  | _ => false

/-- A condition has been absent for its clearing time. OVERLOAD clears only with the switch held closed for OVL_TIME
without LIMIT (R251), SUPPLY only while the group has field energy and sheds nothing (R44, R45). -/
def execFaultClear (g : Fin 32) (i : Fin 17) (b : Fin 32) (when : W64) (s : State) : Host.Outcome State Fault Refusal :=
  let s0 := s.atTime when
  let m := s0.fmode g i
  let energy := b.val == 21 && !s0.rdB (Reg.FCH_GRP_STAT g) 31 && !s0.rdB (Reg.FCH_GRP_STAT g) 27
  let v := s0.slice g i
  let held := v.closed && !s0.stat g i 11 && decide (v.heldAt.toNat + s0.ovlTime g i ≤ s0.now.toNat)
  if s0.stat g i b && (energy || clears m b) && (b.val != 19 || held) then
    if m = 7 && b.val = 10 then .next (s0.complyEnds g i)
    else if m = 4 && b.val = 11 then
      .next ((s0.setSlice g i { v with limitAt := none, heldAt := s0.now }).statClr g i 11)
    else .next ((s0.statClr g i b).filterResume g i)
  else .next s0

/-- P stands more than 4.0 V above M for 10 ms while the pair's command is 0 (R255). -/
def execBackfeed (g : Fin 32) (i : Fin 17) (s : State) : Host.Outcome State Fault Refusal :=
  let m := s.fmode g i
  let v := s.slice g i
  if (m == 4 && !bit v.cmd 0 || m == 7 && v.cmd == 0) && v.ready && !bit (s.inEffect g i 0) 8 then
    .next (s.statSet g i 22)
  else .next s

/-! ### Slice failure and substitution (R259 to R263) -/

/-- A yield is under way, and a substitution that falls due waits (R261). -/
def State.yielding (s : State) : Bool := s.pair.yield != .none

/-- The substitution of slice i by slice 16 is committed (R260, R261): ledger, `FCH.SPARE`, DIAG and source 96 + g. -/
def State.commitSub (g i : Nat) (w : SpareWork) (s : State) : State :=
  let p := s.rd (Reg.FCH_SPARE g)
  let s1 := s.wr (Reg.FCH_SPARE g) (setF (clrB (setB (setB p (16 + i)) 15) 12) 0 4 i)
  let s2 := (s1.setGroup g { s1.group g with work := some (i, w) }).diagEvt g i 25
  s2.ledgerEntry 7 g 1 25 (BitVec.ofNat 32 (32 * g + i)) (BitVec.ofNat 32 (32 * g + 16)) (s2.recorder.next - 1) 1

/-- The slice is isolated (R259): SLICE is set, where a reserved MODE has not set it already (R240), and VALID clear; on a
critical channel that affects control (R22, R23). -/
def State.isolate (g i : Nat) (s : State) : State :=
  if (s.slice g i).failed then s
  else
    let s0 := s.setSlice g i { s.slice g i with closed := false, dac := 0, waiting := false, failed := true }
    let s1 := if s0.stat g i 23 then s0.diagEvt g i 23 else s0.statSet g i 23
    let s2 := s1.ledgerEntry 7 g 2 23 (BitVec.ofNat 32 (32 * g + (if s.served g i then 16 else i))) 0xFFFFFFFF#32
      (s1.recorder.next - 1) 0
    if s.critical.contains (16 * g + i) then s2.affectsControl else s2

/-- Slice 16 has failed (R262): it is entered in the ledger as a spare lost. -/
def State.spareFailed (g cause : Nat) (s : State) : State :=
  let p := s.rd (Reg.FCH_SPARE g)
  let s1 := s.wr (Reg.FCH_SPARE g) (clrB (clrB (setB p 14) 13) 12)
  s1.ledgerEntry 7 g 3 cause (BitVec.ofNat 32 (32 * g + 16)) 0xFFFFFFFF#32 (s1.recorder.next - 1) (if bit p 15 then 0 else 1)

/-- A slice is declared failed (R259): the spare takes its terminal, leaving its own proof test if one runs (R262), the wire being
undriven meanwhile (R260), also where it tracks for a planned substitution, which is dropped (R262); a spare that fails while it
tracks is no longer committed. -/
def State.sliceFail (g i : Nat) (s : State) : State :=
  let p := s.rd (Reg.FCH_SPARE g)
  if i = 16 then
    if bit p 14 then s
    else if bit p 15 then (s.isolate g (getF p 0 4)).wrB (Reg.FCH_SPARE g) 14 true
    else
      let s1 := match (s.group g).work with
        | some (_, .tracking) => s.setGroup g { s.group g with work := none }
        | _ => s
      (s1.diagEvt g 16 23).spareFailed g 23
  else if (s.slice g i).failed || bit p (16 + i) && !s.served g i then s
  else if s.served g i then (s.isolate g i).wrB (Reg.FCH_SPARE g) 14 true
  else if bit (s.inEffect g i 0) 30 && (bit p 12 || bit p 13) then
    ((s.wrB (Reg.FCH_SPARE g) 13 false).setSlice g i { s.slice g i with waiting := false, closed := false, dac := 0 }).commitSub g i
      .replacing
  else s.isolate g i

def execSliceFailure (g : Fin 32) (i : Fin 17) (s : State) : Host.Outcome State Fault Refusal := .next (s.sliceFail g i)

/-- The spare has taken a terminal: SUBST is set, the grid result under way carries DISC (R260, R278), the results are
corrected by the spare's own zero (R268), and an output drives the command that the slice held, where the module drives its
outputs. -/
def State.takeTerminal (g i : Nat) (s : State) : State :=
  let v := s.slice g i
  let w := s.slice g 16
  let s1 := (s.setSlice g i { v with disc := true, waiting := false, zero := w.zero, refBad := w.refBad }).wrB (Reg.FCH_STATUS g i) 30 true
  if s.pair.drive != .driving then s1
  else if s.fmode g i = 4 then s1.setSlice g i { s1.slice g i with closed := bit v.cmd 0 && !s1.heldOpen g i }
  else if s.fmode g i = 7 then s1.driveShare g i false
  else s1

/-- In the overlap of a planned substitution the slice and the spare share the loop of a current output (R261, R292). -/
def State.shareLoop (g i : Nat) (s : State) : State :=
  if s.fmode g i = 7 ∧ s.pair.drive = .driving then
    let s1 := s.driveShare g i true
    s1.setSlice g 16 { s1.slice g 16 with dac := (s1.slice g i).dac }
  else s

/-- Slice 16 closes its spare switch (R260); a planned substitution is committed and its overlap begins (R261). -/
def execSubstitutionComplete (g : Fin 32) (s : State) : Host.Outcome State Fault Refusal :=
  if s.yielding then .next s
  else
    match (s.group g).work with
    | some (i, .replacing) => .next ((s.setGroup g { s.group g with work := none }).takeTerminal g i)
    | some (i, .tracking) => .next (((s.commitSub g i .overlap).takeTerminal g i).shareLoop g i)
    | _ => .next s

/-- `FCH.CTRL.SUBST` with its key (R261): the spare, which serves no terminal yet, stays READY (R262). A further request takes the
place of one that is still tracking (DEDUCED, notes/assumptions/108.md). -/
def State.planSub (g i : Nat) (s : State) : State :=
  let p := s.rd (Reg.FCH_SPARE g)
  if !bit p 12 || i = 16 || bit p (16 + i) || s.fmode g i = 0 then s.diagEvt g i 26
  else s.setGroup g { s.group g with work := some (i, .tracking) }

def execSubst (g : Fin 32) (i : Fin 17) (s : State) : Host.Outcome State Fault Refusal :=
  .next (s.atBlock (Reg.FCH_CTRL g i) fun s => if s.shut g i then s else s.planSub g i)

/-- The terminal switch of the replaced slice opens (R261), and the spare carries the whole current of an output (R292). -/
def State.overlapEnds (g i : Nat) (s : State) : State :=
  let s1 := s.setGroup g { s.group g with work := none }
  if s1.fmode g i = 7 ∧ s1.pair.drive = .driving then
    (s1.setSlice g 16 { s1.slice g 16 with dac := 0 }).driveShare g i false
  else s1

def execSubstitutionOverlapEnd (g : Fin 32) (s : State) : Host.Outcome State Fault Refusal :=
  match (s.group g).work with
  | some (i, .overlap) => .next (s.overlapEnds g i)
  | _ => .next s

/-- What a reset of slice i makes of a substitution (R261): one still tracking is dropped, also where slice 16 is reset; any other
one of slice i completes, an overlap with the spare's share of a loop current gone. -/
def State.resetWork (g i : Nat) (s : State) : State :=
  match (s.group g).work with
  | some (j, .tracking) => if j = i ∨ i = 16 then s.setGroup g { s.group g with work := none } else s
  | some (j, w) =>
    if j = i then
      let s1 := (s.setGroup g { s.group g with work := none }).wrB (Reg.FCH_STATUS g i) 30 true
      if w = .overlap then s1.setSlice g 16 { s1.slice g 16 with dac := 0 } else s1
    else s
  | none => s

/-- A reset of one slice (R261, R264, R296). A slice isolated for a hardware fault stays so (R254). -/
def State.sliceReset (g i : Nat) (s : State) : State :=
  let s1 := s.resetWork g i
  let clearing : List Nat := [0x14, 0x34, 0x28, 0x2C, 0x20, 0x24, 0x108] ++ (List.range 8).map (fun k => 0x140 + 4 * k) ++
    (List.range 4).map (fun k => 0x160 + 4 * k)
  let s2 := clearing.foldl (fun s o => s.wr (Reg.FCH_CFG g i + o) 0) s1
  let v := s2.slice g i
  let kept : W32 := if v.failed then 0x40A00000#32 else 0x40200000#32
  let s3 := (s2.setSlice g i v.outlast).wr (Reg.FCH_STATUS g i)
    (0x20000000#32 ||| (s2.rd (Reg.FCH_STATUS g i) &&& kept))
  if i = 16 then (s3.wrB (Reg.FCH_SPARE g) 12 false).wrB (Reg.FCH_SPARE g) 13 false else s3

/-- `FCH.CTRL.SRESET` with its key; in the window of a spare that serves a terminal it has no effect (R263). -/
def State.sreset (g i : Nat) (s : State) : State :=
  if s.shut g i then s else s.sliceReset g i

def execSreset (g : Fin 32) (i : Fin 17) (s : State) : Host.Outcome State Fault Refusal :=
  .next (s.atBlock (Reg.FCH_CTRL g i) fun s => s.sreset g i)

/-- The test of slice 16 begins (R262): it is under test, and not READY; none begins while it tracks a command. -/
def State.spareTest (g : Nat) (s : State) : State :=
  let p := s.rd (Reg.FCH_SPARE g)
  if bit p 12 && (s.group g).work.isNone then s.wr (Reg.FCH_SPARE g) (setB (clrB p 12) 13) else s

/-- The test of slice 16 ends (R262). -/
def State.spareTested (g : Nat) (s : State) : State :=
  let p := s.rd (Reg.FCH_SPARE g)
  if bit p 13 then s.wr (Reg.FCH_SPARE g) (setB (clrB p 13) 12) else s

/-- The daily test of slice 16 against an internal load (R262, R458), when it serves no terminal; a failure of a slice ends it
before its result. -/
def execSpareSliceTest (g : Fin 32) (phase : TestPhase) (s : State) : Host.Outcome State Fault Refusal :=
  if !s.rdB Reg.EVR_PT_EN 4 then .next s
  else
    match phase with
    | .begins => .next (s.spareTest g)
    | .passed => .next (s.spareTested g)
    | .failed =>
      if s.rdB (Reg.FCH_SPARE g) 13 then .next (((s.spareTested g).ptFail 4 (32 * g + 16) 7).spareFailed g 12) else .next s

/-! ### Stimuli (R256, R283) -/

/-- A result is the saturated code (R276). -/
def isSat (v : W32) : Bool := v == 0x7FFFFFFF#32 || v == 0x80000000#32

/-- A signed number cut to the signed range of n bits. -/
def satS (n : Nat) (x : Int) : Int := max (-(2 ^ (n - 1) : Int)) (min ((2 ^ (n - 1) : Int) - 1) x)

/-- A loop-current or terminal-voltage result less the latest zero result (R268): that is in units of 0.0001 % of span, which is
24 nA of current and 20 µV of voltage. A saturated code stays. -/
def State.corrected (s : State) (g i input : Nat) (v : W32) : W32 :=
  let volt := input == 1 || (input == 7 && (s.fmode g i == 6 || s.fmode g i == 8))
  let cur := input == 0 || (input == 7 && !volt)
  if (cur || volt) && !isSat v then
    BitVec.ofInt 32 (satS 32 (v.toInt - (s.slice g i).zero.toInt * (if volt then 20 else 24)))
  else v

/-- A stimulus conversion that waits for a gap of the line runs while no grid run does, with TEST set (R283). -/
def State.stimRuns (g i : Nat) (s : State) : State :=
  let v := s.slice g i
  if v.stim && (match v.inj with | some (gr, _) => !gr | none => true) then s.statSet g i 28 else s

/-- `FCH.CTRL.STIM` with its key: at once in modes 1 to 3 and 8, in the next gap of the line in modes 5 to 7. -/
def State.stimulus (g i : Nat) (s : State) : State :=
  let m := s.fmode g i
  if m = 0 || m = 4 || !(s.slice g i).ready then s.diagEvt g i 26
  else if m ≤ 3 || m = 8 then s.statSet g i 28
  else (s.setSlice g i { s.slice g i with stim := true }).stimRuns g i

def execStim (g : Fin 32) (i : Fin 17) (s : State) : Host.Outcome State Fault Refusal :=
  .next (s.atBlock (Reg.FCH_CTRL g i) fun s => if s.shut g i then s else s.stimulus g i)

/-- A stimulus has failed: a second failure within 24 h is a slice fault (R256). -/
def State.stimFailed (g i : Nat) (s : State) : State :=
  let s1 := (s.setSlice g i { s.slice g i with stimFail := some s.opsec }).diagEvt g i 24
  match (s.slice g i).stimFail with
  | some t => if s.opsec < t + 86400 then s1.sliceFail g i else s1
  | none => s1

def execStimulusEnd (g : Fin 32) (i : Fin 17) (pass : Bool) (s : State) : Host.Outcome State Fault Refusal :=
  if s.stat g i 28 && !(s.slice g i).stim then
    let s1 := s.statClr g i 28
    .next (if pass then s1 else s1.stimFailed g i)
  else .next s

/-- The magnitude of a difference. -/
def diff (a b : Int) : Nat := (a - b).natAbs

/-- The stimulus conversion of modes 5 to 7, of the primary input and less the zero result as any other (R268), judged against the
latest grid result within 0.05 % of span (R283). -/
def execAnalogStimulus (g : Fin 32) (i : Fin 17) (raw : W32) (s : State) : Host.Outcome State Fault Refusal :=
  let v := s.slice g i
  if v.stim && s.stat g i 28 then
    let m := s.fmode g i
    let value := s.corrected g i 7 raw
    let good := if m = 6 then decide (diff value.toInt 5000000 ≤ 10000)
      else decide (diff (value.toInt - v.grid.toInt) 1000000 ≤ 12000)
    let s1 := (s.setSlice g i { v with stim := false }).statClr g i 28
    .next (if good then s1 else s1.stimFailed g i)
  else .next s

/-- `FCH.CTRL` as written (R264). -/
def State.sliceCtrlWrite (g i : Nat) (v : W32) (s : State) : State :=
  if s.shut g i then s
  else if getF v 24 8 = 0xA5 then
    if 1 < b2n (bit v 0) + b2n (bit v 1) + b2n (bit v 2) then s.diagEvt g i 26
    else if bit v 0 then s.sreset g i
    else if bit v 1 then s.stimulus g i
    else if bit v 2 then s.planSub g i
    else s
  else s

/-! ### The slices of a Standby (R257, R291) -/

/-- Every slice takes its Standby state: stages and sources off, commands preloaded. -/
def State.stagesOff (s : State) : State :=
  let s1 := s.setPair { s.pair with drive := .standby }
  (List.range 512).foldl (fun s c =>
    let g := c / 16
    let i := c % 16
    match s.fmode g i with
    | 3 => s.setSlice g i { s.slice g i with waiting := false }
    | 4 => (s.statClr g i 10).setSlice g i { (s.statClr g i 10).slice g i with closed := false, offAt := none }
    | 7 => s.setSlice g i { s.slice g i with dac := 0 }
    | _ => s) s1

end Sys2Proof.Machine
end

