-- ==== Sys2Proof/Machine/Analog.lean ====
section
/-!
DEFINITION. The converter and its sequences, the analog modes, the current output, the pulse counter and HART (10, R266 to
R297). A result is given with the factory trim of its chain applied (R268), whose contents the manual does not give
(notes/assumptions/77.md). -/
namespace Sys2Proof.Machine

/-! ### Results (R271, R275 to R282) -/

/-- The terminal measurement of R248 from a current in nA and a voltage in µV, cut toward zero. -/
def measWord (cur volt : Int) : W32 :=
  BitVec.ofNat 32 ((min 65535 (max 0 (cur / 100000))).toNat * 65536 +
    (BitVec.ofInt 8 (satS 8 (volt.tdiv 500000))).toNat * 256 + b2n (decide (12000000 < volt)))

/-- 108 % of nominal, in nA or µV (R276). -/
def nominal108 (mode : Nat) : Nat := if mode = 6 then 10800000 else 25920000

/-- OVR and SAT follow a result (R276, R277). -/
def State.rangeBits (g i : Nat) (v : W32) (s : State) : State :=
  let ovr := isSat v || decide (nominal108 (s.fmode g i) < v.toInt.natAbs)
  (s.statPut g i 9 (isSat v)).statPut g i 8 ovr

/-- The NE 43 classification of a mode 5 result (R281). -/
def State.ne43 (g i : Nat) (v : W32) (s : State) : State :=
  let on := bit (s.inEffect g i 0x100) 1 && !bit (s.inEffect g i 0x180) 1
  let x := v.toInt
  let lo := on && decide (x ≤ 3600000)
  let hi := on && decide (21000000 ≤ x)
  let rng := on && (decide (3600000 < x ∧ x < 3800000) || decide (20500000 < x ∧ x < 21000000))
  ((s.statPut g i 10 lo).statPut g i 11 hi).statPut g i 12 rng

/-- The open-wire test of mode 5 by grid results (R282); none with HART multi-drop (R294). -/
def State.openGrid (g i : Nat) (v : W32) (s : State) : State :=
  if bit (s.inEffect g i 0x100) 2 && !bit (s.inEffect g i 0x180) 1 then
    if v.toInt < 500000 then s.statSet g i 17
    else if 1000000 ≤ v.toInt then s.statClr g i 17
    else s
  else s

/-- A grid result: entry 0 of a GRID run (R270, R275, R278, R285). -/
def State.gridResult (g i : Nat) (v : W32) (s : State) : State :=
  let m := s.fmode g i
  let sl := s.slice g i
  let s1 := (s.setSlice g i { sl with grid := v, disc := false }).statPut g i 14 sl.disc
  match m with
  | 5 => (((s1.wr (Reg.FCH_VALUE g i) v).rangeBits g i v).ne43 g i v).openGrid g i v
  | 6 => (s1.wr (Reg.FCH_VALUE g i) v).rangeBits g i v
  | 7 =>
    let s2 := (s1.wr (Reg.FCH_RDBK g i) v).rangeBits g i v
    if s2.stat g i 10 then s2.wr (Reg.FCH_VALUE g i) v else s2
  | _ => s1

/-- The checks on a reference-check or zero result (R268); a zero result is kept. -/
def State.chainCheck (g i input : Nat) (v : W32) (s : State) : State :=
  let s := if input = 5 then s.setSlice g i { s.slice g i with zero := v } else s
  let sl := s.slice g i
  if input = 4 then
    let bad := decide (200 < v.toInt.natAbs)
    let s1 := s.setSlice g i { sl with refBad := bad }
    if bad && sl.refBad then s1.sliceFail g i else s1
  else if input = 5 ∧ 1000 < v.toInt.natAbs then s.sliceFail g i
  else s

/-- The open-wire test of mode 6 by a TEST_I entry (R282). -/
def State.openTest (g i : Nat) (ent v : W32) (s : State) : State :=
  if bit ent 31 && s.fmode g i == 6 && bit (s.inEffect g i 0x100) 2 then
    s.statPut g i 17 (decide (1000000 < diff v.toInt (s.slice g i).grid.toInt))
  else s

/-! ### Sequences (R269 to R272) -/

/-- REG_LEN and INJ_LEN in effect. -/
def State.regLen (s : State) (g i : Nat) : Nat := max 1 (getF (s.inEffect g i 0x104) 0 4)
def State.injLen (s : State) (g i : Nat) : Nat := getF (s.inEffect g i 0x104) 4 3

/-- One conversion of the fixed sequence of modes 0 to 4 (R271): current and voltage in turn three times, then two of supply,
temperature, reference check and zero in rotation. -/
def State.fixedConv (g i : Nat) (v : W32) (s : State) : State :=
  let sl := s.slice g i
  let next := (sl.reg + 1) % 8
  if sl.reg < 6 then
    if sl.reg % 2 = 0 then s.setSlice g i { sl with reg := next, cur := s.corrected g i 0 v }
    else (s.setSlice g i { sl with reg := next }).wr (Reg.FCH_RDBK g i) (measWord sl.cur.toInt (s.corrected g i 1 v).toInt)
  else (s.setSlice g i { sl with reg := next, rot := (sl.rot + 1) % 4 }).chainCheck g i (2 + sl.rot) v

/-- A regular entry of modes 5 to 8 completes (R269, R271). -/
def State.regConv (g i : Nat) (raw : W32) (s : State) : State :=
  let sl := s.slice g i
  let k := sl.reg % 8
  let ent := s.inEffect g i (0x110 + 4 * k)
  let v := s.corrected g i (getF ent 28 3) raw
  let wrap := decide (s.regLen g i ≤ k + 1)
  let s1 := (s.wr (Reg.FCH_REG_RES g i k) v).setSlice g i { sl with reg := if wrap then 0 else k + 1 }
  let s2 := if wrap then s1.wrF (Reg.FCH_SEQ_STAT g i) 0 16 (s1.rdF (Reg.FCH_SEQ_STAT g i) 0 16 + 1) else s1
  let s3 := if k = 0 && s2.fmode g i != 7 then s2.wr (Reg.FCH_RDBK g i) v else s2
  (s3.openTest g i ent v).chainCheck g i (getF ent 28 3) v

/-- An injected entry completes (R270): the last one ends the run, and a run that a grid run interrupted goes on. -/
def State.injConv (g i : Nat) (isGrid : Bool) (k : Nat) (raw : W32) (s : State) : State :=
  let sl := s.slice g i
  let ent := s.inEffect g i (0x130 + 4 * (k % 4))
  let v := s.corrected g i (getF ent 28 3) raw
  let done := decide (s.injLen g i ≤ k + 1)
  let next : Option (Bool × Nat) := if done then (if isGrid then sl.held.map (fun j => (false, j)) else none) else some (isGrid, k + 1)
  let s1 := (s.wr (Reg.FCH_INJ_RES g i (k % 4)) v).setSlice g i
    { sl with inj := next, held := if done && isGrid then none else sl.held }
  let s2 := if done then s1.wrF (Reg.FCH_SEQ_STAT g i) 16 16 (s1.rdF (Reg.FCH_SEQ_STAT g i) 16 16 + 1) else s1
  let s3 := (s2.openTest g i ent v).chainCheck g i (getF ent 28 3) v
  if isGrid && k == 0 then s3.gridResult g i v else s3

/-- The conversion in progress of a slice completes with a result (R267 to R271). The first one after a change of mode
makes the slice ready (R241). -/
def State.conversion (g i : Nat) (v : W32) (s : State) : State :=
  let sl := s.slice g i
  if !sl.ready && !sl.conv then s
  else
    let s1 :=
      if s.fmode g i ≤ 4 then s.fixedConv g i v
      else
        match sl.inj with
        | some (gr, k) => (s.injConv g i gr k v).stimRuns g i
        | none => s.regConv g i v
    if sl.conv && !s1.rdB (Reg.FCH_CFG g i) 31 then s1.becomeReady g i else s1

def execConversionDone (g : Fin 32) (i : Fin 17) (value : W32) (s : State) : Host.Outcome State Fault Refusal :=
  .next (s.conversion g i value)

/-- The two references of a slice disagree (R268). -/
def execReferenceMonitorFailure (g : Fin 32) (i : Fin 17) (s : State) : Host.Outcome State Fault Refusal :=
  .next (s.sliceFail g i)

/-- A backward step holds the grid: plant time has not passed the last tick processed (R214). -/
def State.gridHeld (s : State) : Bool := s.grid.held && decide (s.now.toNat ≤ s.grid.last.toNat)

/-- A grid run starts, interrupting any regular entry and any FAULT or SW run (R270); none while a backward step holds
the grid (R274). -/
def execGridRunStart (g : Fin 32) (i : Fin 17) (when : W64) (s : State) : Host.Outcome State Fault Refusal :=
  let s0 := s.atTime when
  let v := s0.slice g i
  if 5 ≤ s0.fmode g i && v.ready && bit (s0.inEffect g i 0x104) 8 && decide (0 < s0.injLen g i) && !s0.gridHeld && s0.run then
    .next (s0.setSlice g i { v with
      inj := some (true, 0), disc := false,
      held := match v.inj with
        | some (false, k) => some k
        | _ => v.held })
  else .next s0

/-- A waiting FAULT or SW trigger starts its run at a conversion boundary, not during a grid run (R270). -/
def execFaultRunStart (g : Fin 32) (i : Fin 17) (s : State) : Host.Outcome State Fault Refusal :=
  let v := s.slice g i
  if v.trig && v.inj.isNone && decide (0 < s.injLen g i) && decide (5 ≤ s.fmode g i) && v.ready then
    .next (s.setSlice g i { v with inj := some (false, 0), trig := false })
  else .next s

/-- `FCH.SEQ_CFG.INJ_SW` written with TRIG_SW enabled (R270). -/
def State.injSw (g i : Nat) (s : State) : State :=
  if bit (s.inEffect g i 0x104) 10 && decide (5 ≤ s.fmode g i) then s.trigger g i else s

def execInjSw (g : Fin 32) (i : Fin 17) (s : State) : Host.Outcome State Fault Refusal :=
  .next (s.atBlock (Reg.FCH_CFG g i) fun s => if s.shut g i then s else s.injSw g i)

/-- The grid results under way in a group carry DISC (R274, R278). -/
def State.discMark (g : Nat) (s : State) : State :=
  (List.range 17).foldl (fun s i =>
    let v := s.slice g i
    match v.inj with
    | some (true, 0) => s.setSlice g i { v with disc := true }
    | _ => s) s

/-- A group re-phases its modulator clock after an accepted step (R274). -/
def execRePhase (g : Fin 32) (s : State) : Host.Outcome State Fault Refusal :=
  if bit s.time.rephase g then .next ((s.setTime { s.time with rephase := clrB s.time.rephase g }).discMark g) else .next s

/-! ### Current output (R284 to R289) -/

/-- The NE 43 failure level of a channel in nA (R287). -/
def State.failLevel (s : State) (g i : Nat) : Nat := if bit (s.inEffect g i 0x100) 4 then 21000000 else 3600000

/-- COMPLY or DEV drives the failure level (R287). -/
def State.alarmHeld (s : State) (g i : Nat) : Bool :=
  (s.stat g i 10 && bit (s.inEffect g i 0x100) 8) || (s.stat g i 12 && bit (s.inEffect g i 0x100) 9)

/-- A command applied to a current output at a tick (R284, R287). -/
def State.aoApply (g i : Nat) (cmd : W32) (s : State) : State :=
  let s0 := s.setSlice g i { s.slice g i with cmd := cmd }
  if cmd = 0x80000000#32 then (s0.statSet g i 13).drive g i (s0.failLevel g i)
  else
    let x := cmd.toInt
    let s1 := s0.statPut g i 11 (decide (x < 0 ∨ 24000000 < x))
    if s1.alarmHeld g i then (s1.statSet g i 13).drive g i (s1.failLevel g i)
    else (s1.statClr g i 13).drive g i (max 0 (min 24000000 x)).toNat

/-- The headroom has stayed below 0.5 V for 1 ms (R286): the measured current is reported. -/
def execComplySet (g : Fin 32) (i : Fin 17) (measured : W32) (s : State) : Host.Outcome State Fault Refusal :=
  if s.fmode g i == 7 && (s.slice g i).ready && !s.stat g i 17 then
    let s1 := (s.statSet g i 10).wr (Reg.FCH_VALUE g i) measured
    .next (if s1.alarmHeld g i then (s1.statSet g i 13).drive g i (s1.failLevel g i) else s1)
  else .next s

/-- The readback differs from the applied current by more than DEV_LIM, outside COMPLY (R285). -/
def State.deviates (s : State) (g i : Nat) : Bool :=
  let lim := getF (s.inEffect g i 0x100) 16 8
  decide (0 < lim) && !s.stat g i 10 &&
    decide (lim * 2400 < diff (s.rd (Reg.FCH_RDBK g i)).toInt (s.rd (Reg.FCH_VALUE g i)).toInt)

def execDevSet (g : Fin 32) (i : Fin 17) (s : State) : Host.Outcome State Fault Refusal :=
  if s.fmode g i == 7 && (s.slice g i).ready && s.deviates g i then
    let s1 := s.statSet g i 12
    .next (if s1.alarmHeld g i then (s1.statSet g i 13).drive g i (s1.failLevel g i) else s1)
  else .next s

/-- APPLY may compute a trim from these two currents (R289). -/
def trimOk (lo hi : Int) : Bool :=
  let d := hi - lo
  decide (0 < d) && decide (995 * d ≤ 16000000 * 1000) && decide (16000000 * 1000 ≤ 1005 * d) &&
    decide (diff lo 4000000 ≤ 120000)

/-- `FCH.AO_TRIM_CTRL.APPLY` with its key (R289). -/
def State.trimApply (g i : Nat) (s : State) : State :=
  let lo := s.rd (Reg.FCH_AO_TRIM_LO g i)
  let hi := s.rd (Reg.FCH_AO_TRIM_HI g i)
  let a := Reg.FCH_AO_TRIM_CTRL g i
  if trimOk lo.toInt hi.toInt then ({ s with trims := sput s.trims (17 * g + i) (lo, hi) }).wrB a 2 true
  else s.wrB a 3 true

/-- `FCH.AO_TRIM_CTRL.CLEAR` with its key (R289). -/
def State.trimClear (g i : Nat) (s : State) : State :=
  ({ s with trims := serase s.trims (17 * g + i) }).wrB (Reg.FCH_AO_TRIM_CTRL g i) 2 false

def execAoTrimApply (g : Fin 32) (i : Fin 17) (s : State) : Host.Outcome State Fault Refusal :=
  .next (s.atBlock (Reg.FCH_CFG g i) fun s => if s.shut g i then s else s.trimApply g i)

def execAoTrimClear (g : Fin 32) (i : Fin 17) (s : State) : Host.Outcome State Fault Refusal :=
  .next (s.atBlock (Reg.FCH_CFG g i) fun s => if s.shut g i then s else s.trimClear g i)

/-- `FCH.AO_TRIM_CTRL` as written (R296). APPLY and CLEAR together do nothing. -/
def State.trimCtrlWrite (g i : Nat) (v : W32) (s : State) : State :=
  if getF v 24 8 = 0xA5 then
    let s1 := if bit v 3 then s.wrB (Reg.FCH_AO_TRIM_CTRL g i) 3 false else s
    if bit v 0 && bit v 1 then s1
    else if bit v 0 then s1.trimApply g i
    else if bit v 1 then s1.trimClear g i
    else s1
  else s

/-! ### Pulse counter (R290) -/

/-- The direction of an edge is the one counted. -/
def countsEdge (cfg : Nat) (rising : Bool) : Bool := if cfg = 0 then rising else if cfg = 1 then !rising else cfg == 2

/-- An edge of the counter's input, by the stamp of its first sample, whose new level holds for `n` consecutive samples: it is
accepted when these are at least MINW + 1 (R290), at the last of them that this takes. -/
def execCounterEdge (g : Fin 32) (i : Fin 17) (stamp : W64) (rising : Bool) (n : W16) (s : State) :
    Host.Outcome State Fault Refusal :=
  let need := getF (s.inEffect g i 0x184) 8 8 + 1
  let s0 := s.atTime (sampleTime (stamp + BitVec.ofNat 64 (125 * (min n.toNat need - 1))))
  let v := s0.slice g i
  if isStamp stamp && decide (need ≤ n.toNat) && s0.fmode g i == 8 && v.ready && !s0.stat g i 28 && !s0.replacing g i then
    if countsEdge (getF (s0.inEffect g i 0x184) 0 2) rising then
      let s1 := (s0.setSlice g i { v with
        count := v.count + 1, edge := stamp, raw := rising,
        edges := if s0.pair.role = .active then [] else v.edges ++ [stamp] }).wr (Reg.FCH_VALUE g i)
        (v.count + 1)
      if decide (0 < v.edge.toNat) && decide (stamp.toNat < v.edge.toNat + 9500) then .next (s1.statSet g i 8) else .next s1
    else .next (s0.setSlice g i { v with raw := rising })
  else .next s0

/-! ### HART (R294, R295, R297) -/

/-- Why a START is refused, or 0 (R295, R297). -/
def State.hartRefusal (s : State) (g m : Nat) : Nat :=
  let q := s.rd (Reg.FCH_HM_REQ g m)
  let i := getF q 24 4
  let md := s.fmode g i
  if 253 < getF q 16 8 && 255 < getF q 0 16 then 7
  else if s.pair.role ≠ .active then 5
  else if !bit (s.inEffect g i 0x180) 0 || !(md == 5 || md == 7) then 3
  else if (s.group g).modems.any (fun e => e.2 == i) then 4
  else 0

/-- A transaction ends in failure (R295): ERR with a code, and a slice attached shows HART. -/
def State.hartFail (g m code : Nat) (s : State) : State :=
  let st := s.rd (Reg.FCH_HM_STAT g m)
  let s1 := s.wr (Reg.FCH_HM_STAT g m) (setF (setF (setB (clrB st 31) 29) 16 8 code) 8 8 0)
  match look m (s.group g).modems with
  | some i => (s1.setGroup g { s1.group g with modems := serase (s1.group g).modems m }).statSet g (i % 16) 15
  | none => s1

/-- The command byte and the data of a request: a command number above 255 is carried in command 31, ahead of the data and most
significant byte first as HART sends it (R1, R294). -/
def State.hartCommand (s : State) (g m : Nat) : W8 × List W8 :=
  let q := s.rd (Reg.FCH_HM_REQ g m)
  let cmd := getF q 0 16
  let data := (List.range (getF q 16 8)).map fun k =>
    BitVec.ofNat 8 (getF (s.rd (Reg.FCH_HM_CTRL g m + 0x100 + k / 4 * 4)) (8 * (k % 4)) 8)
  if 255 < cmd then (31, beBytes 2 cmd ++ data) else (BitVec.ofNat 8 cmd, data)

/-- The delimiter and the address of a request (R294, R297): command 0 with LONG = 0 goes in a short frame to POLL, everything
else in a long frame with the unique address; the modem marks the primary master and no burst. -/
def State.hartAddress (s : State) (g m : Nat) : List W8 :=
  let lo := s.rd (Reg.FCH_HM_ADDR_LO g m)
  let hi := s.rd (Reg.FCH_HM_ADDR_HI g m)
  if !bit hi 31 && s.rdF (Reg.FCH_HM_REQ g m) 0 16 == 0 then [0x02, BitVec.ofNat 8 (0x80 + getF hi 8 6)]
  else [0x82, BitVec.ofNat 8 (0x80 + getF lo 0 6), BitVec.ofNat 8 (getF lo 8 8), BitVec.ofNat 8 (getF lo 16 8),
    BitVec.ofNat 8 (getF lo 24 8), BitVec.ofNat 8 (getF hi 0 8)]

/-- The request as it goes out: PREAMBLE bytes, values outside 5 to 20 acting as the nearer end (R297), then delimiter, address,
command, byte count, data, and the check byte (the layout is that of HART 7, notes/assumptions/78.md). -/
def State.hartRequest (s : State) (g m : Nat) : List W8 :=
  let c := s.hartCommand g m
  let body := s.hartAddress g m ++ [c.1, BitVec.ofNat 8 c.2.length] ++ c.2
  List.replicate (min 20 (max 5 (s.rdF (Reg.FCH_HM_CFG g m) 8 5))) 0xFF ++ body ++ [body.foldl (fun x b => x ^^^ b) 0]

/-- `FCH.HM_CTRL.START` with its key (R295). -/
def State.hartStart (g m : Nat) (s : State) : State :=
  if s.rdB (Reg.FCH_HM_STAT g m) 31 then s
  else
    let c := s.hartRefusal g m
    if c ≠ 0 then s.hartFail g m c
    else
      let i := s.rdF (Reg.FCH_HM_REQ g m) 24 4
      let st := s.rd (Reg.FCH_HM_STAT g m)
      let s1 := s.setGroup g { s.group g with modems := sput (s.group g).modems m i }
      (s1.wr (Reg.FCH_HM_STAT g m) (setF (setF (setB st 31) 16 8 0) 8 8 0)).emit (.hart g m (s.hartRequest g m))

def execHartStart (g : Fin 32) (m : Fin 4) (s : State) : Host.Outcome State Fault Refusal :=
  .next (s.atBlock (Reg.FCH_HM_CTRL g m) fun s => s.hartStart g m)

/-- `FCH.HM_CTRL.ABORT` with its key (R297). -/
def State.hartAbort (g m : Nat) (s : State) : State := if s.rdB (Reg.FCH_HM_STAT g m) 31 then s.hartFail g m 6 else s

def execHartAbort (g : Fin 32) (m : Fin 4) (s : State) : Host.Outcome State Fault Refusal :=
  .next (s.atBlock (Reg.FCH_HM_CTRL g m) fun s => s.hartAbort g m)

/-- `FCH.HM_CTRL` as written (R297): ABORT and START together abort. -/
def State.hmCtrlWrite (g m : Nat) (v : W32) (s : State) : State :=
  if getF v 24 8 = 0xA5 then if bit v 1 then s.hartAbort g m else if bit v 0 then s.hartStart g m else s else s

/-- Bytes put into a mailbox buffer. -/
def State.mailbox (a : Nat) (bytes : List W8) (s : State) : State :=
  (List.range ((bytes.length + 3) / 4)).foldl (fun s k =>
    s.wr (a + 4 * k) (BitVec.ofNat 32 (ofBytes ((bytes.drop (4 * k)).take 4)))) s

/-- A counter field that saturates, raised by n. -/
def State.addF (a lo n k : Nat) (s : State) : State := s.wrF a lo n (min (2 ^ n - 1) (s.rdF a lo n + k))

/-- A transaction ends after `retried` retries: a response (`err` 0), no response (1), or a parity or checksum error (2);
`burst` frames were discarded meanwhile (R294, R295). -/
def execHartDone (g : Fin 32) (m : Fin 4) (err : Fin 3) (bytes : List W8) (retried : Fin 4) (burst : W8) (s : State) :
    Host.Outcome State Fault Refusal :=
  if s.rdB (Reg.FCH_HM_STAT g m) 31 then
    let tries := min retried.val (s.rdF (Reg.FCH_HM_CFG g m) 0 2)
    let s1 := (s.addF (Reg.FCH_HM_CNT g m) 16 16 tries).addF (Reg.FCH_HM_CNT g m) 0 16 burst.toNat
    if err.val ≠ 0 then .next (s1.hartFail g m err)
    else
      let data := bytes.take 255
      let s2 := s1.mailbox (Reg.FCH_HM_CTRL g m + 0x200) data
      let st := s2.rd (Reg.FCH_HM_STAT g m)
      let s3 := s2.wr (Reg.FCH_HM_STAT g m) (setF (setB (clrB st 31) 30) 8 8 data.length)
      match look m (s3.group g).modems with
      | some i => .next ((s3.setGroup g { s3.group g with modems := serase (s3.group g).modems m }).statClr g (i % 16) 15)
      | none => .next s3
  else .next s

/-! ### Writes of a slice window and of a mailbox (R264, R265, R296, R297) -/

/-- A write within a group's mailboxes. -/
def State.mailboxWrite (a g m : Nat) (v : W32) (s : State) : State :=
  let o := a % 0x400
  if o = 0 then s.hmCtrlWrite g m v
  else if o = 4 then s.wr a (v &&& 0x0FFFFFFF#32)
  else if o = 8 ∨ (0x100 ≤ o ∧ o < 0x200) then s.wr a v
  else if o = 0xC then s.wr a (v &&& 0x80003FFF#32)
  else if o = 0x10 then s.wr a (s.rd a &&& ~~~(v &&& 0x60000000#32))
  else if o = 0x14 then s.wr a (v &&& 0x1F03#32)
  else if o = 0x18 then
    let old := s.rd a
    s.wr a (old &&& ~~~v)
  else s

/-- A write of a group register (R265). -/
def State.groupWrite (a : Nat) (v : W32) (s : State) : State :=
  let o := a % 0x8000 - 0x7000
  if o = 0 then s.wr a (s.rd a &&& ~~~(v &&& 0x10000000#32))
  else if o = 0x20 then s.wrL a ((s.rd a &&& ~~~(v &&& 0x80FF0000#32) &&& 0xFFFF7FFF#32) ||| (v &&& 0x8000#32))
  else s

/-- What the group logic hands its slices of a slice-window write, less the direct commands of R253. -/
def State.sliceWrite (g i off : Nat) (v : W32) (s : State) : State :=
  let a := Reg.FCH_CFG g i + off
  if off = 0x104 then
    let s1 := s.sliceConfigWrite g i off v
    if bit v 16 && !s.shut g i then s1.injSw g i else s1
  else if isSliceConfig off then s.sliceConfigWrite g i off v
  else if s.shut g i then s
  else if off = 0x14 then s.wr a (s.rd a &&& ~~~(v &&& 0x07FFFF00#32))
  else if off = 0x18 then s.wrL a (v &&& 0x07FFFF00#32)
  else if off = 0x34 then s.retryWrite g i v
  else if off = 0x40 then s.sliceCtrlWrite g i v
  else if off = 0x174 ∨ off = 0x178 then s.wr a v
  else if off = 0x17C then s.trimCtrlWrite g i v
  else s

end Sys2Proof.Machine
end

