-- ==== Sys2Proof/Machine/PowerEntry.lean ====
section
/-!
DEFINITION. Logic power, presence, position, and the field feeds (02, R30 to R46). -/
namespace Sys2Proof.Machine

/-! ### Main-valid (R31, R32, R394, R395, R399, R400) -/

/-- Main-valid deasserts (R32), the last `lost` records being beyond the hold-up. `paMv` and `pbMv` are the feeds as measured,
`pulses` the RTC pulses since the domain was last looked at. -/
def execMainValidDeassert (pulses : W32) (paMv pbMv : W16) (lost : Fin 256) (s : State) :
    Host.Outcome State Fault Refusal :=
  if s.power.mainValid then .next (s.powerDown pulses.toNat paMv.toNat pbMv.toNat lost) else .next s

/-- `BKD.GAP` captured and RP set, while the domain's time is valid and a snapshot was taken (R400). -/
def State.gapCapture (s : State) : State :=
  if s.rdB Reg.BKD_STAT 29 || !s.rdB Reg.BKD_LOSS_SEC_HI 31 then s
  else
    let at0 := (s.rdF Reg.BKD_LOSS_SEC_HI 0 16 * 2 ^ 32 + (s.rd Reg.BKD_LOSS_SEC_LO).toNat) * 32768 +
      s.rdF Reg.BKD_LOSS_SEC_HI 16 15
    let gap := s.backup.sec.toNat * 32768 + s.backup.sub.toNat - at0
    ((s.wr Reg.BKD_GAP_LO (BitVec.ofNat 32 gap)).wr Reg.BKD_GAP_HI (BitVec.ofNat 32 (gap / 2 ^ 32 % 2 ^ 16))).wrB
      Reg.BKD_STAT 28 true

/-- Main-valid asserts (R31): a domain that had stopped is reset first (R395); PWRCYC counts, the gap is captured, and a
power-on reset begins the start path. -/
def execMainValidAssert (pulses : BitVec 48) (s : State) : Host.Outcome State Fault Refusal :=
  if s.power.mainValid then .next s
  else
    let dead := s.backup.stopped
    let s1 := if dead then s.bkdReset else s.rtcRun pulses.toNat
    let b := s1.backup
    let s2 := s1.setBackup { b with
      pwrcyc := if b.pwrcyc = BitVec.allOnes 32 then b.pwrcyc else b.pwrcyc + 1, lockout := true, onCell := false,
      req := if s1.rdB Reg.BKD_STAT 22 then b.req else .sinking }
    let s3 := s2.gapCapture
    .next (State.powerOnReset dead { s3 with
      power := { s3.power with mainValid := true, paLost := false, pbLost := false, remove := .steady } })

/-! ### Logic feeds and temperature (R25, R31) -/

/-- A feed has been below 17.0 V for 100 µs while main-valid holds (R31): the other feed masks it, which is recorded (R21).
R448 gives the record no format: its DATA are `COL.STAT` and both feeds in mV as last latched (DESIGN CHOICE,
notes/assumptions/64.md). -/
def execFeedLost (f : Feed) (s : State) : Host.Outcome State Fault Refusal :=
  if s.power.mainValid then
    .next ((s.setPower (match f with
      | .pa => { s.power with paLost := true }
      | .pb => { s.power with pbLost := true })).recMasked 0x01
        (toBytes 4 s.colStat.toNat ++ toBytes 2 s.power.paMv ++ toBytes 2 s.power.pbMv))
  else .next s

/-- A feed above 33.0 V (R31). The manual does not say when the diagnostic ends: it stays, over resets too (DESIGN CHOICE,
notes/assumptions/65.md). -/
def execFeedOvervoltage (f : Feed) (s : State) : Host.Outcome State Fault Refusal :=
  .next (s.setPower (match f with
    | .pa => { s.power with paOver := true }
    | .pb => { s.power with pbOver := true }))

def execLogicFeedReturn (f : Feed) (s : State) : Host.Outcome State Fault Refusal :=
  .next (s.setPower (match f with
    | .pa => { s.power with paLost := false }
    | .pb => { s.power with pbLost := false }))

/-- 90 °C at the base plate (R25). The warning stays, over resets too (DESIGN CHOICE, notes/assumptions/65.md). -/
def execThermalWarning (s : State) : Host.Outcome State Fault Refusal :=
  .next (s.setPower { s.power with thermal := true })

/-! ### Presence and position (R36, R37) -/

/-- The presence loop has been open for more than 0.5 µs (R37): claim and slices are released, and what the release ends is
over. An Active module has left its role by removal (R11). -/
def execPresenceLoopOpen (s : State) : Host.Outcome State Fault Refusal :=
  let s1 := s.setPower { s.power with loop := false }
  let active := s1.pair.role == .active
  let s2 := s1.release
  .next (if active then s2.setRole .outOfService else s2)

/-- The presence loop has been closed for 10 ms and the position contacts are sampled (R36, R51). -/
def execPositionSample (pos : BitVec 2) (peer : Bool) (s : State) : Host.Outcome State Fault Refusal :=
  if s.start.stage = .hearth then
    .next (s.setPower { s.power with loop := true, pos := pos, peerPres := peer, posInvalid := pos == 0 || pos == 3 })
  else .next (s.setPower { s.power with loop := true, peerPres := peer })

/-- `SYS.POSITION` as it reads (R77). -/
def State.position (s : State) : W32 :=
  BitVec.ofNat 32 (b2n s.power.lever * 16 + b2n s.power.peerPres * 8 + b2n s.power.loop * 4 + s.power.pos.toNat)

/-! ### Field feeds (R44 to R46) -/

/-- The groups of connector c (R42). -/
def connGroups (c : Nat) : List Nat := (List.range 8).map fun k => 8 * c + k

/-- A GRP_STAT bit of every group of a connector. -/
def State.connBit (c b : Nat) (on : Bool) (s : State) : State :=
  (connGroups c).foldl (fun s g => s.wrB (Reg.FCH_GRP_STAT g) b on) s

/-- A measured feed voltage in units of 10 mV put into `FCH.GRP_FEED` of a connector's groups. -/
def State.connFeed (c : Nat) (feedB : Bool) (v : W16) (s : State) : State :=
  (connGroups c).foldl (fun s g => s.wrF (Reg.FCH_GRP_FEED g) (if feedB then 16 else 0) 16 v.toNat) s

/-- A feed of a connector lies below 19.2 V or is reversed (R44); `volts` is signed, in units of 10 mV. The
record quotes `GRP_STAT` of the connector's first group (DESIGN CHOICE, notes/assumptions/66.md). -/
def execConnectorFeedDiagnostic (c : Fin 4) (feedB : Bool) (volts : W16) (s : State) : Host.Outcome State Fault Refusal :=
  if volts.toInt < 1920 then
    .next (((s.connFeed c feedB volts).connBit c (if feedB then 29 else 30) true).rec06 (8 * c) 0 (if feedB then 0x82 else 0x81))
  else .next s

/-- The combined feed lies below 18.0 V (R44): every channel of the connector raises SUPPLY. -/
def execConnectorFeedLow (c : Fin 4) (s : State) : Host.Outcome State Fault Refusal :=
  let s1 := (s.connBit c 31 true).rec06 (8 * c) 0 0x80
  .next ((connGroups c).foldl (fun s g => (List.range 16).foldl (fun s i => s.supplyLost g i) s) s1)

/-- The highest-numbered digital output of a group that is not shed; one that is commanded off counts too (DESIGN CHOICE,
notes/assumptions/67.md). -/
def State.shedNext (s : State) (g : Nat) : Option Nat :=
  (List.range 16).reverse.find? fun i => s.fmode g i == 4 && !s.stat g i 21

/-- A group's draw in mA as judged by R45: above 6.0 A one output is shed, within the limit shedding stops. -/
def execGroupShed (g : Fin 32) (draw : W16) (s : State) : Host.Outcome State Fault Refusal :=
  let s0 := s.wrF (Reg.FCH_GRP_DRAW g) 0 16 draw.toNat
  if 6000 < draw.toNat then
    let s1 := if s0.rdB (Reg.FCH_GRP_STAT g) 27 then s0
      else (s0.wrB (Reg.FCH_GRP_STAT g) 27 true).rec06 g 0 0x84
    match s1.shedNext g with
    | some i => .next (s1.supplyLost g i)
    | none => .next s1
  else .next (s0.wrB (Reg.FCH_GRP_STAT g) 27 false)

/-- A connector's draw, in units of 10 mA, has exceeded 24 A for 100 ms (R46). -/
def execConnectorOverBudget (c : Fin 4) (draw : W16) (s : State) : Host.Outcome State Fault Refusal :=
  let s0 := (connGroups c).foldl (fun s g => s.wrF (Reg.FCH_GRP_DRAW g) 16 16 draw.toNat) s
  if 2400 < draw.toNat then .next ((s0.connBit c 28 true).rec06 (8 * c) 0 0x83) else .next s0

/-- A feed of a connector is back above its threshold (R44): feed A (0), feed B (1), or the combined feed (2), which
brings field energy back; SUPPLY clears when it has been back for 10 ms (R254, FAULT_CLEAR). -/
def execFieldFeedReturn (c : Fin 4) (what : Fin 3) (volts : W16) (s : State) : Host.Outcome State Fault Refusal :=
  if what.val = 2 then .next (s.connBit c 31 false)
  else .next ((s.connFeed c (what.val == 1) volts).connBit c (if what.val = 1 then 29 else 30) false)

end Sys2Proof.Machine
end

