-- ==== Sys2Proof/Machine/ScanLists.lean ====
section
/-!
DEFINITION. Scan lists and the force table (08, R215 to R223, R232). -/
namespace Sys2Proof.Machine

/-! ### Scan entries (R215, R216) -/

/-- The address of list bank `b` of engine `e` (R235). -/
def listBase (e : Nat) (b : Bool) : Nat := 0x12008000 + e * 0x4000 + b2n b * 0x2000

/-- The active list bank of an engine: false A, true B. -/
def State.listBank (s : State) (e : Nat) : Bool := s.rdB (Reg.SCN_ENG e) 31

/-- Word k of entry i of a list bank. -/
def State.scanWord (s : State) (e : Nat) (b : Bool) (i k : Nat) : W32 :=
  BitVec.ofNat 32 (s.peek (listBase e b + 8 * i + 4 * k) 4)

/-- The image base that goes with a list bank. -/
def State.imgBase (s : State) (b : Bool) : Nat := (s.rd (Reg.SCN_IMG_BASE (b2n b))).toNat

/-- The size of the item of a scan entry. -/
def itemSize (w0 : W32) : Nat := if !bit w0 30 && getF w0 24 2 == 3 then 8 else 4

/-- The fields of a scan entry obey R216 for engine `e` and an image base. -/
def scanOk (e base : Nat) (w0 w1 : W32) : Bool :=
  let n := itemSize w0
  let o := getF w1 0 24
  bit w0 31 && getF w0 9 5 == 0 && getF w1 24 8 == 0 && getF w0 0 9 / 256 == e && getF w0 26 4 < 12 &&
    (!bit w0 30 || getF w0 24 2 == 0) && o % n == 0 && inWS (base + o) && inWS (base + o + n - 1)

/-- Entry i of engine e's active list is valid. -/
def State.scanValid (s : State) (e i : Nat) : Bool :=
  let b := s.listBank e
  scanOk e (s.imgBase b) (s.scanWord e b i 0) (s.scanWord e b i 1)

/-- The valid entries of one direction in a list bank. -/
def State.scanCount (s : State) (e : Nat) (b out : Bool) : Nat :=
  ((List.range 1024).filter fun i =>
    scanOk e (s.imgBase b) (s.scanWord e b i 0) (s.scanWord e b i 1) && bit (s.scanWord e b i 0) 30 == out).length

/-- A channel has a valid output entry in an active list bank (R253). -/
def State.outputListed (s : State) (ch : Nat) : Bool :=
  let e := ch / 256
  decide (0 < s.rdF (Reg.SCN_ENG e) 16 11) &&
    (List.range 1024).any fun i =>
      s.scanValid e i && bit (s.scanWord e (s.listBank e) i 0) 30 && getF (s.scanWord e (s.listBank e) i 0) 0 9 == ch

/-! ### The force table (R219) -/

def State.forceBase (s : State) : Nat := (s.rd Reg.SCN_FORCE_BASE).toNat
def State.forceAddr (s : State) (i : Nat) : Nat := s.forceBase + 64 + 32 * i
/-- LOC of a force entry. -/
def State.forceLoc (s : State) (i : Nat) : W32 := BitVec.ofNat 32 (s.peek (s.forceAddr i + 4) 4)
/-- V of a force entry. -/
def State.forceV (s : State) (i : Nat) : Bool := bit (s.forceLoc i) 31
/-- The low word of the forced value. -/
def State.forceValue (s : State) (i : Nat) : W32 := BitVec.ofNat 32 (s.peek (s.forceAddr i + 0x10) 4)

/-- Some force stands. -/
def State.forced (s : State) : Bool := decide (0 < s.rdF Reg.SCN_FORCE_CNT 0 10)

/-- The entry that forces a variable. -/
def State.forceOf (s : State) (varid : W32) : Option Nat :=
  if s.forced then (List.range 512).find? fun i => s.forceV i && s.peek (s.forceAddr i) 4 == varid.toNat else none

/-- The forced value of remote point p (R317). -/
def State.forcedPoint (s : State) (p : Nat) : Option W32 :=
  if s.forced then
    ((List.range 512).find? fun i =>
      let l := s.forceLoc i
      bit l 31 && getF l 28 2 == 2 && getF l 0 16 == p).map fun i => s.forceValue i
  else none

/-! ### The variable directory (R224) -/

/-- The directory entry of a variable among `n` at `base`: TYPE and the word with WHERE, DIR and ENTRY. -/
def State.dirFind (s : State) (base n : Nat) (varid : W32) : Option (W32 × W32) :=
  ((List.range n).find? fun i => s.peek (base + 16 * i) 4 == varid.toNat).map fun i =>
    (BitVec.ofNat 32 (s.peek (base + 16 * i + 4) 4), BitVec.ofNat 32 (s.peek (base + 16 * i + 8) 4))

/-- A word of the change descriptor. -/
def State.desc (s : State) (o : Nat) : Nat := s.peek ((s.rd Reg.SCN_CHG_DESC).toNat + o) 4

/-- The prepared change deletes or re-types a variable of the given type (R226, code 0x13; R232). -/
def State.changeBreaks (s : State) (varid type : W32) : Bool :=
  match s.dirFind (s.desc 0x10) (s.desc 0x14) varid with
  | some (t, w) => t != type || getF w 30 2 == 3
  | none => true

/-! ### Force commands (R220 to R223) -/

/-- F and FIDX of a scan entry. -/
def State.scanForce (e : Nat) (b : Bool) (i : Nat) (f : Option Nat) (s : State) : State :=
  let w := s.scanWord e b i 0
  let w' := match f with
    | some n => setF (setB w 23) 14 9 n
    | none => setF (clrB w 23) 14 9 0
  s.poke (listBase e b + 8 * i) 4 w'.toNat

/-- F and FIDX where a force entry's LOC points, for WHERE 0 and 1. -/
def State.markForce (loc : W32) (f : Option Nat) (s : State) : State :=
  let e := getF loc 28 2
  if e < 2 then s.scanForce e (s.listBank e) (getF loc 0 16) f else s

/-- The record of a force event (R223). -/
def State.rec08Force (ev : Nat) (varid : W32) (value : Nat) (node : Nat) (tick : Nat) (s : State) : State :=
  s.rec08 ev (toBytes 4 varid.toNat ++ toBytes 8 value ++ toBytes 4 node ++ toBytes 8 tick)

/-- A force command ends: DONE, or ERR with a code; source 13. -/
def State.forceEnd (code : Nat) (s : State) : State :=
  let st := s.rd Reg.SCN_FORCE_STAT
  ((({ s with force := none }).wr Reg.SCN_FORCE_STAT (setF (setB (clrB st 31) (if code = 0 then 30 else 29)) 16 8 code))).fire 13

/-- COUNT and `SCN.FORCE_CNT` set, and the header's sequence number raised. -/
def State.forceCount (n : Nat) (s : State) : State :=
  let b := s.forceBase
  ((s.store b (toBytes 4 n)).store (b + 4) (toBytes 4 (s.peek (b + 4) 4 + 1))).wrF Reg.SCN_FORCE_CNT 0 10 n

/-- What SCAN0's guard refuses of the force logic's load and store of the table's lines at `l`, as master 16 (R220). -/
def State.forceBarred (s : State) (l : List Nat) : Option Refused := s.refusedIn 16 3 (l.map fun a => (a / 64 * 64, 64))

/-- The pair has a force table that lies wholly in the working store. -/
def State.forceTable (s : State) : Bool :=
  decide (s.forceBase ≠ 0) && inWS s.forceBase && inWS (s.forceBase + 64 + 32 * 512 - 1)

/-- A force command that the guard refuses ends with code 8, the refusal being recorded in the guard (R172, R220); the writes `f`
are made only when it permits every line. -/
def State.forceUnder (l : List Nat) (f : State → State) (s : State) : State :=
  match s.forceBarred l with
  | some r => (s.guardRefused 16 3 r).forceEnd 8
  | none => f s

/-- A variable may be forced: it is bound to ITEM 0 of a valid scan entry, or to a remote point (R218). -/
def State.forceable (s : State) (w : W32) : Bool :=
  let e := getF w 30 2
  if e = 2 then getF w 0 16 < 32768
  else if e < 2 then getF w 0 16 < 1024 && s.scanValid e (getF w 0 16) && getF (s.scanWord e (s.listBank e) (getF w 0 16) 0) 24 2 == 0
  else false

/-- The value of force i modified (R219, R220). -/
def State.forceModify (c : ForceCmd) (t i : Nat) (s : State) : State :=
  let v := c.value.toNat % 2 ^ 32
  let s1 := s.store (s.forceAddr i + 0xC) (toBytes 4 c.node ++ toBytes 8 v ++ toBytes 8 t)
  ((s1.forceCount (s1.rdF Reg.SCN_FORCE_CNT 0 10)).rec08Force 0x81 c.id v c.node t).forceEnd 0

/-- A new force in entry i, of the type and location of its variable (R219, R220). -/
def State.forceInsert (c : ForceCmd) (t i : Nat) (type w : W32) (s : State) : State :=
  let v := c.value.toNat % 2 ^ 32
  let loc : W32 := BitVec.ofNat 32 (2 ^ 31 + getF w 29 1 * 2 ^ 30 + getF w 30 2 * 2 ^ 28 + getF w 0 16)
  let s1 := s.store (s.forceAddr i) (toBytes 4 c.id.toNat ++ toBytes 4 loc.toNat ++ toBytes 4 type.toNat ++ toBytes 4 c.node ++
    toBytes 8 v ++ toBytes 8 t)
  let s2 := s1.markForce loc (some i)
  ((s2.forceCount (s2.rdF Reg.SCN_FORCE_CNT 0 10 + 1)).rec08Force 0x80 c.id v c.node t).forceEnd 0

/-- APPLY at the output phase for tick t. -/
def State.forceApply (c : ForceCmd) (t : Nat) (s : State) : State :=
  match s.dirFind (s.rd Reg.SCN_DIR_BASE).toNat (s.rd Reg.SCN_DIR_N).toNat c.id with
  | none => s.forceEnd 1
  | some (type, w) =>
    if !s.forceable w then s.forceEnd 2
    else if (s.chgState == 3 || s.chgState == 4) && s.changeBreaks c.id type then s.forceEnd 4
    else
      match s.forceOf c.id with
      | some i =>
        s.forceUnder [s.forceAddr i] (State.forceModify c t i)
      | none =>
        match (List.range 512).find? fun i => !s.forceV i with
        | none => s.forceEnd 3
        | some i => s.forceUnder [s.forceAddr i] (State.forceInsert c t i type w)

/-- One entry freed: F cleared, then V. -/
def State.forceFree (i : Nat) (s : State) : State :=
  let loc := s.forceLoc i
  (s.markForce loc none).store (s.forceAddr i + 4) (toBytes 4 (clrB loc 31).toNat)

/-- Force i released (R220). -/
def State.forceDelete (c : ForceCmd) (t i : Nat) (s : State) : State :=
  let v := (s.forceValue i).toNat
  let s1 := s.forceFree i
  ((s1.forceCount (s1.rdF Reg.SCN_FORCE_CNT 0 10 - 1)).rec08Force 0x82 c.id v c.node t).forceEnd 0

/-- RELEASE. -/
def State.forceRelease (c : ForceCmd) (t : Nat) (s : State) : State :=
  match s.dirFind (s.rd Reg.SCN_DIR_BASE).toNat (s.rd Reg.SCN_DIR_N).toNat c.id with
  | none => s.forceEnd 1
  | some _ =>
    match s.forceOf c.id with
    | none => s.forceEnd 6
    | some i => s.forceUnder [s.forceAddr i] (State.forceDelete c t i)

/-- Every force entry freed. -/
def State.freeAll (s : State) : State :=
  (List.range 512).foldl (fun s i => if s.forceV i then s.forceFree i else s) s

/-- Every force released (R220). -/
def State.forceDeleteAll (c : ForceCmd) (t : Nat) (s : State) : State :=
  ((s.freeAll.forceCount 0).rec08Force 0x83 0 0 c.node t).forceEnd 0

/-- RELEASE_ALL. -/
def State.forceReleaseAll (c : ForceCmd) (t : Nat) (s : State) : State :=
  s.forceUnder (((List.range 512).filter s.forceV).map s.forceAddr) (State.forceDeleteAll c t)

/-- A force command by its operation. -/
def State.forceDo (c : ForceCmd) (t : Nat) (s : State) : State :=
  if c.op = 0 then s.forceApply c t else if c.op = 1 then s.forceRelease c t else s.forceReleaseAll c t

/-- The pending force command at the start of the output phase for tick t (R220); while SCAN0's guard is not enabled the
force logic stalls (R175). -/
def State.forceExec (t : Nat) (s : State) : State :=
  match s.force with
  | none => s
  | some c =>
    if s.pair.role ≠ .active ∨ s.yieldHolds = true then s.forceEnd 5
    else if s.now.toNat < c.since.toNat + 1000 || !s.guardOn 16 then s
    else if !s.forceTable then s.forceEnd 8
    else s.forceUnder [s.forceBase] (State.forceDo c t)

/-- A force command that is refused at the write. -/
def State.forceErr (code : Nat) (s : State) : State :=
  (s.wr Reg.SCN_FORCE_STAT (setF (setB (s.rd Reg.SCN_FORCE_STAT) 29) 16 8 code)).fire 13

/-- `SCN.FORCE_CMD` with its key: operation and node (R220, R222, R235). Before the first swap no directory is in force, and
APPLY and RELEASE are refused. -/
def State.forceCmd (op node : Nat) (s : State) : State :=
  if s.force.isSome || op == 3 then s.forceErr 7
  else if s.pair.role ≠ .active ∨ s.yieldHolds = true then s.forceErr 5
  else if !s.run && op < 2 then s.forceErr 1
  else
    let c : ForceCmd := { op := op, node := node, id := s.rd Reg.SCN_FORCE_ARG_ID,
                          value := s.rd64 Reg.SCN_FORCE_ARG_LO Reg.SCN_FORCE_ARG_HI, since := s.now }
    ({ s with force := some c }).wr Reg.SCN_FORCE_STAT (setF (setB (s.rd Reg.SCN_FORCE_STAT) 31) 16 8 0)

def State.forceCmdWrite (v : W32) (s : State) : State :=
  if getF v 24 8 = 0xA5 then s.forceCmd (getF v 16 2) (getF v 0 16) else s

def execForceApply (node : W16) (s : State) : Host.Outcome State Fault Refusal :=
  .next (s.atBlock Reg.SCN_FORCE_CMD fun s => s.forceCmd 0 node.toNat)

def execForceRelease (node : W16) (s : State) : Host.Outcome State Fault Refusal :=
  .next (s.atBlock Reg.SCN_FORCE_CMD fun s => s.forceCmd 1 node.toNat)

def execForceReleaseAll (node : W16) (s : State) : Host.Outcome State Fault Refusal :=
  .next (s.atBlock Reg.SCN_FORCE_CMD fun s => s.forceCmd 2 node.toNat)

/-- A write of `SCN.FORCE_CMD` that is malformed, OP 3, or comes while BUSY is set. -/
def execForceCmdMalformed (v : W32) (s : State) : Host.Outcome State Fault Refusal :=
  .next (s.atBlock Reg.SCN_FORCE_CMD fun s => if getF v 16 2 = 3 ∨ s.force.isSome then s.forceCmdWrite v else s)

/-- The output phase for tick t begins. -/
def execForceCommandExecute (t : W64) (s : State) : Host.Outcome State Fault Refusal :=
  if s.run && s.isTick t.toNat && decide (s.grid.last.toNat < t.toNat) then
    .next ((s.atTime (t - BitVec.ofNat 64 s.woutNs)).forceExec t.toNat)
  else .next s

/-- F and FIDX cleared in an entry of the active list bank of engine e, if it has F set. -/
def State.unmarkEntry (e i : Nat) (s : State) : State :=
  if bit (s.scanWord e (s.listBank e) i 0) 23 then s.scanForce e (s.listBank e) i none else s

/-- F and FIDX cleared in the entries of the active list bank of engine e. -/
def State.unmarkBank (e : Nat) (s : State) : State := (List.range 1024).foldl (fun s i => s.unmarkEntry e i) s

/-- F and FIDX cleared in every entry of the active list banks that has F set. -/
def State.unmarkForces (s : State) : State := (s.unmarkBank 0).unmarkBank 1

/-- F and FIDX rebuilt in the active list banks from the force table (R222, R232), and the count. -/
def State.rebuildForces (s : State) : State :=
  let n := if s.forceBase = 0 then 0 else ((List.range 512).filter fun i => s.forceV i).length
  let s1 := s.unmarkForces.wrF Reg.SCN_FORCE_CNT 0 10 n
  if n = 0 then s1 else (List.range 512).foldl (fun s i => if s.forceV i then s.markForce (s.forceLoc i) (some i) else s) s1

/-- Every force bound anew in the directory in force at a swap (R232). -/
def State.rebindForces (base n : Nat) (s : State) : State :=
  if !s.forced then s
  else
    (List.range 512).foldl (fun s i =>
      if s.forceV i then
        let id : W32 := BitVec.ofNat 32 (s.peek (s.forceAddr i) 4)
        match s.dirFind base n id with
        | some (_, w) =>
          let loc : W32 := BitVec.ofNat 32 (2 ^ 31 + getF w 29 1 * 2 ^ 30 + getF w 30 2 * 2 ^ 28 + getF w 0 16)
          ((s.store (s.forceAddr i + 4) (toBytes 4 loc.toNat)).markForce loc (some i)).rec08Force 0x84 id
            (s.forceValue i).toNat (s.peek (s.forceAddr i + 0xC) 4) s.now.toNat
        | none => s
      else s) s

/-- The force table cleared at a cold start, recorded with the number of forces (R222, R444). -/
def State.clearForces (s : State) : State :=
  let n := if s.forceBase = 0 then 0 else ((List.range 512).filter fun i => s.forceV i).length
  let s1 := if n = 0 then s else s.freeAll.forceCount 0
  s1.rec08 0x85 (toBytes 4 n)

end Sys2Proof.Machine
end

