-- ==== Sys2Proof/Machine/Rinfa.lean ====
section
/-!
DEFINITION. Rinfa frames on the plant network: their bytes, and what a module originates (12, R329 to R333). -/
namespace Sys2Proof.Machine

/-! ### The bytes of a frame (R332) -/

/-- The header of a Rinfa frame. -/
structure RinfaHead where
  bcast : Bool
  kind : Nat
  src : Nat
  dst : Nat
  seq : Nat
  frag : W8
  tag : W8
  deriving DecidableEq, Repr

/-- A header and its data as they lie in the frame, after the EtherType. -/
def RinfaHead.bytes (h : RinfaHead) (d : List W8) : List W8 :=
  [BitVec.ofNat 8 (16 + b2n h.bcast), BitVec.ofNat 8 h.kind] ++ toBytes 2 h.src ++ toBytes 2 h.dst ++ toBytes 2 h.seq ++
    [h.frag, h.tag] ++ toBytes 2 d.length ++ toBytes 4 0 ++ d

/-- What stands before the header as `NET.FRAME` has it: the IEEE 802.1Q tag with PCP and VID, and the EtherType, in the byte
order of IEEE 802.3. -/
def State.rinfaTop (s : State) : List W8 :=
  (if s.rdB Reg.NET_FRAME 31 then beBytes 2 0x8100 ++ beBytes 2 (s.rdF Reg.NET_FRAME 28 3 * 8192 + s.rdF Reg.NET_FRAME 16 12) else []) ++
    beBytes 2 (s.rdF Reg.NET_FRAME 0 16)

/-- A received frame is a Rinfa frame by its tag, whose priority counts for nothing, and its EtherType (R332). -/
def State.isRinfa (s : State) (b : List W8) : Bool :=
  let etype := beBytes 2 (s.rdF Reg.NET_FRAME 0 16)
  if s.rdB Reg.NET_FRAME 31 then
    b.take 2 == beBytes 2 0x8100 && ofBytes ((b.drop 2).take 2).reverse % 4096 == s.rdF Reg.NET_FRAME 16 12 && (b.drop 4).take 2 == etype
  else b.take 2 == etype

/-- Header and data of a Rinfa frame, from its header on: none with another version, a reserved field that is not zero, or LEN
above 1,024 or beyond the frame (R332). -/
def rinfaParse (b : List W8) : Option (RinfaHead × List W8) :=
  let n := objN b 0xA 2
  if b.length < 16 ∨ objN b 0 1 / 2 ≠ 8 ∨ objN b 0xC 4 ≠ 0 ∨ 1024 < n ∨ b.length < 16 + n then none
  else
    some ({ bcast := objN b 0 1 % 2 == 1, kind := objN b 1 1, src := objN b 2 2, dst := objN b 4 2, seq := objN b 6 2,
            frag := b.getD 8 0, tag := b.getD 9 0 }, (b.drop 16).take n)

/-! ### Frames that the module originates (R329 to R331) -/

/-- A frame leaves a network port whose link is up (R351). -/
def State.portSent (p : Nat) (s : State) : State :=
  if s.rdB (Reg.NET_PSTAT p) 31 then s.wr (Reg.NET_PTX p) (s.rd (Reg.NET_PTX p) + 1) else s

/-- The ring ports whose links are up: N0 (bit 0) and N1 (bit 1). -/
def State.ringPorts (s : State) : Nat := b2n (s.rdB (Reg.NET_PSTAT 0) 31) + 2 * b2n (s.rdB (Reg.NET_PSTAT 1) 31)

/-- A Rinfa frame originated on the network (R329, R330): on N0 and N1, as far as their links are up, with one SEQ; with EN = 1 a
frame sent on one ring port is owed on the other (R331). -/
def State.rinfaSend (kind : Nat) (bcast : Bool) (dst : Nat) (frag tag : W8) (d : List W8) (s : State) : State :=
  if s.rdB Reg.NET_NODE 31 && s.ringPorts != 0 then
    let q := s.net.seq
    let owed := ([0, 1].filter fun p => s.rdB (Reg.NET_PSTAT p) 31).map fun p => (q.toNat, 1 - p, s.now)
    let s1 := (({ s with net := { s.net with
      seq := q + 1, owed := if s.rdB Reg.NET_RING 0 then s.net.owed ++ owed else s.net.owed } }).portSent 0).portSent 1
    let h : RinfaHead :=
      { bcast := bcast, kind := kind, src := s.rdF Reg.NET_NODE 0 16, dst := dst, seq := q.toNat, frag := frag, tag := tag }
    s1.emit (.rinfa s.ringPorts (s.rinfaTop ++ h.bytes d))
  else s

end Sys2Proof.Machine
end

