-- ==== Sys2Proof/Machine/Stations.lean ====
section
/-!
DEFINITION. Station buses: ports, transmit slots, references, the exchange with stations, acyclic messages (11, R298 to
R327). The network's Rinfa exchange shares the tables and the phases (R326, R335): it has port number 8 here. -/
namespace Sys2Proof.Machine

def State.station (s : State) (n : Nat) : Station := sget (fun _ => {}) s.stations n
def State.setStation (n : Nat) (v : Station) (s : State) : State :=
  { s with stations := sset (fun _ => {}) s.stations n v }

/-- `STB.STATE` as it reads: a port with ON = 1 of a module that is not Active is in MONITOR (R302, R323). -/
def State.stbState (s : State) (k : Nat) : W32 :=
  let w := s.rd (Reg.STB_STATE k)
  if s.portState k != 0 && s.rdB (Reg.STB_CFG k) 0 && s.pair.role != .active && !(s.port k).draining then setF w 0 3 6 else w

/-- `STB.SLOTS` as it reads (R305): the frames of a port that does not transmit have been withdrawn. -/
def State.stbSlots (s : State) (k : Nat) : W32 :=
  let p := s.port k
  if s.portUp k then
    let on := b2n p.onbus.isSome
    let q := min p.queue.length (32 - on)
    BitVec.ofNat 32 ((32 - q - on) * 2 ^ 16 + q * 2 ^ 8 + on)
  else BitVec.ofNat 32 (32 * 2 ^ 16)

/-- The port state that the error counters give (R302), with its events. -/
def State.portCounters (k tec rcv : Nat) (s : State) : State :=
  let a := Reg.STB_STATE k
  let w := s.rd a
  let warn := 96 ≤ tec || 96 ≤ rcv
  let s1 := s.wr a (putB (setF (setF w 16 9 (min 256 tec)) 8 8 (min 255 rcv)) 4 warn)
  let s2 := if warn && !bit w 4 then s1.stbEvt k 2 else s1
  if 255 < tec then ((s2.wrF a 0 3 4).portDrop k).stbEvt k 0
  else if 128 ≤ tec || 128 ≤ rcv then
    if getF w 0 3 = 2 then (s2.wrF a 0 3 3).stbEvt k 1 else s2
  else if getF w 0 3 = 3 then s2.wrF a 0 3 2
  else s2

/-! ### On and off (R300, R302) -/

/-- The conditions that ON := 1 checks (R300). -/
def State.portConfigOk (s : State) (k : Nat) : Bool :=
  let n := s.rd (Reg.STB_NBT k)
  let d := s.rd (Reg.STB_DBT k)
  let ns1 := getF n 24 8 + 1
  let ns2 := getF n 17 7 + 1
  let ds1 := getF d 16 5 + 1
  let ds2 := getF d 8 4 + 1
  let nq := (getF n 0 9 + 1) * (1 + ns1 + ns2)
  let dq := (getF d 24 5 + 1) * (1 + ds1 + ds2)
  decide (2 ≤ ns1 ∧ getF n 10 7 + 1 ≤ ns2 ∧ getF d 0 4 + 1 ≤ ds2 ∧ 80 ≤ nq ∧ 10 ≤ dq ∧ dq ≤ nq) &&
    (decide (80 ≤ dq) || s.rdB (Reg.STB_TDC k) 31)

/-- ON := 1 (R300). -/
def State.portOn (k : Nat) (s : State) : State :=
  if s.portState k ≠ 0 then s
  else if s.portConfigOk k then ((s.wrB (Reg.STB_CFG k) 0 true).wrF (Reg.STB_STATE k) 0 3 1).setPort k (s.port k).kept
  else (s.wrB (Reg.STB_CFG k) 0 false).stbEvt k 6

/-- ON := 0 (R302): at the end of a frame on the bus; queued frames are withdrawn. -/
def State.portOff (k : Nat) (s : State) : State :=
  let s1 := s.wrB (Reg.STB_CFG k) 0 false
  if s.portState k = 0 then s1
  else if (s.port k).onbus.isSome && s.portUp k then
    let s2 := if (s.port k).queue.any TxFrame.acyclic then s1.acEnd k 2 else s1
    s2.setPort k { s2.port k with queue := [], stopping := true }
  else s1.portStopped k

/-- The books of the slots do not balance (R305): the port is reset to OFF with its slots, and SLOT_ERR is its diagnostic
(R23). -/
def State.portFail (k : Nat) (s : State) : State := ((s.wrB (Reg.STB_CFG k) 0 false).portStopped k).stbEvt k 7

/-- Eleven recessive bits: the port has integrated after ON (R302), or after a recessive res bit (R298). -/
def execIntegrationDone (k : Fin 8) (s : State) : Host.Outcome State Fault Refusal :=
  if s.portState k = 1 then .next (((s.wrF (Reg.STB_STATE k) 0 3 2).setPort k { s.port k with refGood := false }).portNext k)
  else if (s.port k).excepted then .next ((s.setPort k { s.port k with excepted := false }).portNext k)
  else .next s

/-- `STB.CTRL.RECOVER` with its key (R304): in any other state than BUS_OFF, MONITOR among them (R302), it is an error. -/
def State.recover (k : Nat) (s : State) : State :=
  if getF (s.stbState k) 0 3 = 4 then s.wrF (Reg.STB_STATE k) 0 3 5 else s.stbEvt k 5

def execRecover (k : Fin 8) (s : State) : Host.Outcome State Fault Refusal :=
  .next (s.atBlock (Reg.STB_CTRL k) fun s => s.recover k)

/-- 128 occurrences of 11 recessive bits (R302): both counters start again at 0. -/
def execRecoveryDone (k : Fin 8) (s : State) : Host.Outcome State Fault Refusal :=
  if s.portState k = 5 then
    .next (((s.wr (Reg.STB_STATE k) 2).setPort k { s.port k with refGood := false }).stbEvt k 3)
  else .next s

/-- A transmitter held dominant for 2.0 ms is switched off until its controller releases it (R299). -/
def execDominantTimeout (k : Fin 8) (s : State) : Host.Outcome State Fault Refusal :=
  if s.portState k = 0 then .next s else .next ((s.setPort k { s.port k with txOff := true }).stbEvt k 4)

/-- The controller has released the transmitter: its frame, or the flag that it was sending, is over (R299; DEDUCED,
notes/assumptions/83.md), and a frame that waits goes on the bus (R305). -/
def State.txReleased (k : Nat) (s : State) : State := (s.setPort k { s.port k with txOff := false }).portNext k

/-- An error while receiving (R302, ISO 11898-1): the receive counter rises by 1, or by 8 where a dominant bit follows
the error flag. MONITOR freezes it. -/
def execCanErrorDetected (k : Fin 8) (big : Bool) (s : State) : Host.Outcome State Fault Refusal :=
  if s.portUp k then
    .next ((s.txReleased k).portCounters k (s.rdF (Reg.STB_STATE k) 16 9) (s.rdF (Reg.STB_STATE k) 8 8 + if big then 8 else 1))
  else .next s

/-! ### Tables (R314, R315) -/

/-- The address of entry n of the station table in force. -/
def State.stEntry (s : State) (n : Nat) : Nat := (s.rd (Reg.STB_ST_BASE 0 (b2n (s.listBank 0)))).toNat + 32 * n
/-- The address of entry q of the point table in force. -/
def State.ptEntry (s : State) (q : Nat) : Nat := (s.rd (Reg.STB_PT_BASE 0 (b2n (s.listBank 0)))).toNat + 16 * q
/-- A word of a station entry. -/
def State.stWord (s : State) (n o : Nat) : W32 := BitVec.ofNat 32 (s.peek (s.stEntry n + o) 4)
/-- A word of a point entry. -/
def State.ptWord (s : State) (q o : Nat) : W32 := BitVec.ofNat 32 (s.peek (s.ptEntry q + o) 4)
/-- A station table is in force. -/
def State.stTable (s : State) : Bool := s.rd (Reg.STB_ST_BASE 0 (b2n (s.listBank 0))) != 0
/-- V of station n. -/
def State.stOn (s : State) (n : Nat) : Bool := s.stTable && bit (s.stWord n 0) 31
/-- The line of station n. -/
def State.stLine (s : State) (n : Nat) : Nat := getF (s.stWord n 0) 26 4
/-- NET of station n. -/
def State.stNet (s : State) (n : Nat) : Bool := bit (s.stWord n 0) 30
/-- The port of station n; 8 is the network. -/
def State.stPort (s : State) (n : Nat) : Nat := if s.stNet n then 8 else getF (s.stWord n 0) 8 3
/-- The bus address, or the node number, of station n. -/
def State.stAddr (s : State) (n : Nat) : Nat := if s.stNet n then getF (s.stWord n 0) 0 16 else getF (s.stWord n 0) 0 6
/-- The points of station n. -/
def State.stPoints (s : State) (n : Nat) : List Nat :=
  (List.range (getF (s.stWord n 4) 0 16)).map fun i => getF (s.stWord n 4) 16 16 + i
/-- The engine that exchanges station n (R169). -/
def State.stMaster (s : State) (n : Nat) : Nat := if s.stNet n then 19 else 18

/-- The lag of a port in nanoseconds (R310, R335). -/
def State.lag (s : State) (p : Nat) : Nat :=
  (if p = 8 then s.rdF Reg.NET_SCHED 0 7 else s.rdF (Reg.STB_SCHED p) 0 7) * s.gridNs

/-- A store by an engine under its guard (R169, R175): a refused one is recorded and writes nothing, and an engine whose guard is
not enabled waits. -/
def State.engineStore (m a : Nat) (bs : List W8) (s : State) : State :=
  if s.guardOn m then
    match s.guardCheck m false a bs.length 2 with
    | none => s.store a bs
    | some r => s.guardRefused m 2 r
  else s.stall m (.store a bs)

/-- TAG of a tick (R307). -/
def State.tagOf (s : State) (t : Nat) : Nat := t / max 1 s.gridNs % 256

/-! ### Points (R316) -/

/-- n bits of a station's data from bit `pos`. -/
def dataBits (d : List W8) (pos n : Nat) : Nat := ofBytes ((d.drop (pos / 8)).take 5) / 2 ^ (pos % 8) % 2 ^ n

/-- The image word of an input point from a station's data. -/
def pointIn (fmt pos : Nat) (d : List W8) : W32 :=
  if fmt = 0 then BitVec.ofNat 32 (dataBits d pos 1)
  else if fmt = 1 then sext 32 16 (dataBits d pos 16)
  else BitVec.ofNat 32 (dataBits d pos 32)

/-- The fail value of a format. -/
def failValue (fmt : Nat) : W32 := if fmt = 0 then 0 else 0x80000000#32

/-- An output point put into a station's data. -/
def pointOut (fmt pos : Nat) (v : W32) (d : List W8) : List W8 :=
  if fmt = 0 then
    d.set (pos / 8) (putB (d.getD (pos / 8) 0) (pos % 8) (bit v 0))
  else
    let n := if fmt = 1 then 2 else 4
    d.take (pos / 8) ++ toBytes n v.toNat ++ d.drop (pos / 8 + n)

/-- The input points of a station written, forced values in their place (R317). `value` gives what stands for a point:
live, or a substitute; none leaves the word. -/
def State.writePoints (n : Nat) (value : W32 → Nat → Option W32) (s : State) : State :=
  (s.stPoints n).foldl (fun s q =>
    let w := s.ptWord q 0
    if bit w 31 then s
    else
      let v := match s.forcedPoint q with
        | some f => some f
        | none => value w q
      match v with
      | some v => s.engineStore (s.stMaster n) (s.imgBase (s.listBank 0) + getF (s.ptWord q 8) 0 24) (toBytes 4 v.toNat)
      | none => s) s

/-- The station status word written (R316). -/
def State.writeStatus (n : Nat) (inService stale subst : Bool) (s : State) : State :=
  let b := ((s.station n).data.getD 0 0).toNat
  s.engineStore (s.stMaster n) (s.imgBase (s.listBank 0) + getF (s.stWord n 0xC) 0 24)
    (toBytes 4 (b2n inService * 2 ^ 31 + b2n stale * 2 ^ 30 + b2n subst * 2 ^ 29 + b))

/-- The substitute of an input point (R315, R318); the last value held is that of the last complete set in service. -/
def State.substitute (s : State) (n : Nat) (w : W32) (q : Nat) : Option W32 :=
  let d := (s.station n).hold
  match getF w 27 2 with
  | 1 => some (s.ptWord q 4)
  | 2 => some (failValue (getF w 29 2))
  | _ => if d = [] then none else some (pointIn (getF w 29 2) (getF w 0 16) d)

/-! ### The input phase of a station (R313, R318, R319) -/

/-- The fragments of a station for a tick, joined, when the set is complete (R307, R313). -/
def State.stationSet (s : State) (n tag : Nat) : Option (List W8) :=
  let fs := (s.port (s.stPort n)).frags.filter fun f => f.station == s.stAddr n && f.tag == tag
  match fs with
  | [] => none
  | f :: _ =>
    if (List.range (f.last + 1)).all fun i => fs.any fun x => x.index == i then
      some (padTo (getF (s.stWord n 0x10) 16 16)
        ((List.range (f.last + 1)).foldl (fun l i => l ++ ((fs.find? fun x => x.index == i).map (fun x => x.data)).getD []) []))
    else none

/-- The fragments of a station for a tick taken out of the buffer. -/
def State.dropSet (n tag : Nat) (s : State) : State :=
  let k := s.stPort n
  s.setPort k { s.port k with frags := (s.port k).frags.filter fun f => !(f.station == s.stAddr n && f.tag == tag) }

/-- The bit of a station in LIVE or LOST. -/
def State.stBit (n : Nat) (lost on : Bool) (s : State) : State :=
  if s.stNet n then
    let m := n - 512
    s.wrB (if lost then Reg.NET_LOST (m / 32) else Reg.NET_LIVE (m / 32)) (m % 32) on
  else
    let k := s.stPort n
    let a := s.stAddr n
    let r := if lost then (if a < 32 then Reg.STB_LOST_LO k else Reg.STB_LOST_HI k)
      else (if a < 32 then Reg.STB_LIVE_LO k else Reg.STB_LIVE_HI k)
    s.wrB r (a % 32) on

/-- STN_LOST or STN_RETURN, recorded (R318, R319, R337). -/
def State.stEvent (n : Nat) (back : Bool) (s : State) : State :=
  if s.stNet n then
    (s.setEvt Reg.NET_EVT (if back then 1 else 0)).rec07 Reg.NET_EVT 8 (s.stAddr n) (if back then 1 else 0)
  else
    let k := s.stPort n
    (s.stbEvt k (if back then 17 else 16)).rec07 (Reg.STB_EVT k) k (s.stAddr n) (if back then 17 else 16)

/-- An incomplete set counted (R313, R337). -/
def State.lateSet (n : Nat) (s : State) : State :=
  if s.stNet n then (s.incF Reg.NET_CNT 16 16).setEvt Reg.NET_EVT 8
  else (s.incF (Reg.STB_CNT_A (s.stPort n)) 16 16).stbEvt (s.stPort n) 8

/-- The watchdog of a station has run out at tick t (R318). -/
def State.outside (s : State) (n t : Nat) : Bool :=
  let st := s.station n
  decide ((match st.seen with | some c => c.toNat | none => st.since.toNat) + getF (s.stWord n 8) 16 16 * 1000000 ≤ t)

/-- A station is lost at tick t (R318). -/
def State.stationLost (n : Nat) (s : State) : State :=
  let s1 := s.setStation n { s.station n with lost := true, runs := 0 }
  let s2 := (s1.writePoints n fun w q => s1.substitute n w q).writeStatus n false true true
  ((s2.stBit n false false).stBit n true true).stEvent n false

/-- What the engine loads for a station's inputs: the station's entry and its points' entries. -/
def State.stationReads (s : State) (n : Nat) : List (Nat × Nat) := (s.stEntry n, 32) :: (s.stPoints n).map fun q => (s.ptEntry q, 16)

/-- What one station's input phase for tick t does once the tables are read. -/
def State.stationTake (n t : Nat) (s : State) : State :=
  let tag := s.tagOf t
  let st := s.station n
  match s.stationSet n tag with
  | some d =>
    let runs := st.runs + 1
    let counting := st.lost && decide (runs < getF (s.stWord n 8) 8 8)
    let s1 := (s.dropSet n tag).setStation n
      { st with seen := some (BitVec.ofNat 64 t), phase := BitVec.ofNat 64 t, data := d, hold := if counting then st.hold else d,
                runs := runs, lost := counting }
    if counting then (s1.writePoints n fun w q => s1.substitute n w q).writeStatus n false false true
    else
      let s2 := (s1.writePoints n fun w _ => some (pointIn (getF w 29 2) (getF w 0 16) d)).writeStatus n true false false
      if st.lost then (s2.stBit n false true).stEvent n true else s2
  | none =>
    let s1 := (s.dropSet n tag).setStation n { st with phase := BitVec.ofNat 64 t, runs := 0 }
    let s2 := s1.lateSet n
    if st.lost then (s2.writePoints n fun w q => s2.substitute n w q).writeStatus n false true true
    else if s.outside n t then s2.stationLost n
    else (s2.writePoints n fun _ _ => none).writeStatus n true true false

/-- One station's part of the input phase for tick t, in an Active module, once for the tick. The engine reads its tables
under its guard (R172): a refused load is recorded, and the station's words stay as they are (DESIGN CHOICE,
notes/assumptions/80.md); while the guard is not enabled it waits (R175). -/
def State.stationPhase (n t : Nat) (s : State) : State :=
  if t ≤ (s.station n).phase.toNat then s
  else if !s.guardOn (s.stMaster n) then s.stall (s.stMaster n) (.stationIn n t)
  else match s.refusedIn (s.stMaster n) 1 (s.stationReads n) with
  | some r => s.guardRefused (s.stMaster n) 1 r
  | none => s.stationTake n t

/-- What a Standby does instead (R323), and an Active module that is not yet running: LIVE tracks the complete sets seen. -/
def State.stationWatch (n t : Nat) (s : State) : State :=
  let tag := s.tagOf t
  match s.stationSet n tag with
  | some d =>
    ((s.dropSet n tag).setStation n { s.station n with seen := some (BitVec.ofNat 64 t), data := d, hold := d }).stBit n false true
  | none => let s1 := s.dropSet n tag; if s.outside n t then s1.stBit n false false else s1

/-- The stations of the lines that tick at t. -/
def State.stationsAt (s : State) (t : Nat) : List Nat :=
  if s.stTable then (List.range 4608).filter fun n => s.stOn n && s.lineTicks (s.stLine n) t else []

/-- The station engine writes input images (R323, R337, R374): the module is Active and running, and no hold of a yield forbids
images. -/
def State.stationsRun (s : State) : Bool := s.pair.role == .active && s.pair.running && !s.yieldHolds

/-- The station engine's input phase for tick t (R310). -/
def State.stationInputs (t : Nat) (s : State) : State :=
  if s.stationsRun then (s.stationsAt t).foldl (fun s n => s.stationPhase n t) s
  else if s.pair.role = .standby || s.pair.role = .active && !s.pair.running then (s.stationsAt t).foldl (fun s n => s.stationWatch n t) s
  else s

/-- The first input phase outside a station's window (R318), for one station. -/
def execStationLost (n : Fin 4608) (t : W64) (s : State) : Host.Outcome State Fault Refusal :=
  if s.stOn n && s.lineTicks (s.stLine n) t.toNat && s.stationsRun && !(s.station n).lost && s.outside n t.toNat &&
      (s.stationSet n (s.tagOf t.toNat)).isNone then
    .next (s.stationPhase n t.toNat)
  else .next s

/-- A lost station completes RETURN sets in a row (R319). -/
def execStationReturn (n : Fin 4608) (t : W64) (s : State) : Host.Outcome State Fault Refusal :=
  if s.stOn n && s.lineTicks (s.stLine n) t.toNat && s.stationsRun && (s.station n).lost &&
      decide (getF (s.stWord n 8) 8 8 ≤ (s.station n).runs + 1) && (s.stationSet n (s.tagOf t.toNat)).isSome then
    .next (s.stationPhase n t.toNat)
  else .next s

/-! ### The output phase of a station (R310, R317) -/

/-- The next valid FD data length (R307). -/
def fdLen (n : Nat) : Nat :=
  if n ≤ 8 then n else if n ≤ 12 then 12 else if n ≤ 16 then 16 else if n ≤ 20 then 20 else if n ≤ 24 then 24
  else if n ≤ 32 then 32 else if n ≤ 48 then 48 else 64

/-- The output data of a station from its image, forced values in their place. -/
def State.stationData (s : State) (n : Nat) : List W8 :=
  (s.stPoints n).foldl (fun d q =>
    let w := s.ptWord q 0
    if bit w 31 then
      let v := match s.forcedPoint q with
        | some f => f
        | none => BitVec.ofNat 32 (s.peek (s.imgBase (s.listBank 0) + getF (s.ptWord q 8) 0 24) 4)
      pointOut (getF w 29 2) (getF w 0 16) v d
    else d) (List.replicate (getF (s.stWord n 0x10) 0 16) 0)

/-- The fragments of a station's data (R307): the last one padded, where FD frames carry it. -/
def fragmentsOf (chunk tag : Nat) (pad : Bool) (d : List W8) : List (List W8) :=
  let n := (d.length + chunk - 1) / chunk
  (List.range n).map fun i =>
    let body := (d.drop (chunk * i)).take chunk
    let full := BitVec.ofNat 8 (i * 16 + (n - 1)) :: BitVec.ofNat 8 tag :: body
    if pad then padTo (fdLen full.length) full else full

/-- The output frame of a network station goes out, its data led by TAG; it waits while neither ring link is up (R313, R333). -/
def State.netOutput (f : TxFrame) (s : State) : State :=
  if s.ringPorts = 0 then s.setPort 8 { s.port 8 with waits := (s.port 8).waits ++ [f] }
  else s.rinfaSend 1 false f.id 0 (f.data.headD 0) (f.data.drop 1)

/-- A ring link has come up: the output frames that waited go out. -/
def State.netOutputs (s : State) : State :=
  if s.ringPorts = 0 then s
  else (s.port 8).waits.foldl (fun s f => s.netOutput f) (s.setPort 8 { s.port 8 with waits := [] })

/-- What the engine loads for a station's outputs: the station's entry, its points' entries, and the image words of the output
points that are not forced. -/
def State.stationLoads (s : State) (n : Nat) : List (Nat × Nat) :=
  (s.stEntry n, 32) :: ((s.stPoints n).map fun q => (s.ptEntry q, 16)) ++
    ((s.stPoints n).filter fun q => bit (s.ptWord q 0) 31 && (s.forcedPoint q).isNone).map fun q =>
      (s.imgBase (s.listBank 0) + getF (s.ptWord q 8) 0 24, 4)

/-- One station's part of the output phase whose application tick is t (R310, R317), under the engine's guard: a refused load
is recorded, and the station is sent nothing for the tick (DESIGN CHOICE, notes/assumptions/80.md); an engine whose guard is
not enabled waits (R172, R175). -/
def State.stationOut (n t : Nat) (s : State) : State :=
  let d := s.stationData n
  let k := s.stPort n
  if d = [] then s
  else if !s.guardOn (s.stMaster n) then s.stall (s.stMaster n) (.station n t)
  else match s.refusedIn (s.stMaster n) 1 (s.stationLoads n) with
  | some r => s.guardRefused (s.stMaster n) 1 r
  | none =>
    if s.stNet n then s.netOutput { id := s.stAddr n, data := BitVec.ofNat 8 (s.tagOf t) :: d, tries := 0, release := s.now, cyclic := true }
    else if s.portUp k then
      let fd := s.rdB (Reg.STB_CFG k) 8
      (fragmentsOf (if fd then 62 else 6) (s.tagOf t) fd d).foldl (fun s f =>
        s.portQueue k { id := 0x040 + s.stAddr n, data := f, tries := 0, release := s.now, cyclic := true }) s
    else s

/-- The output phase of the engines for application tick t, on lines whose images are sent (R369). -/
def State.stationOutputs (lines : Nat → Bool) (t : Nat) (s : State) : State :=
  if s.stTable then
    (List.range 4608).foldl (fun s n => if s.stOn n && lines (s.stLine n) then s.stationOut n t else s) s
  else s

/-! ### References (R308, R335) -/

/-- The data of a reference message (R308). -/
def State.refData (s : State) (k : Nat) : List W8 :=
  let p := s.port k
  let flags := b2n p.refGood + 2 * b2n (bit s.time.refStep k) + 4 * b2n (!s.rdB Reg.NET_PTP_STAT 31) +
    8 * b2n (s.power.pos == 2)
  [p.refSeq, BitVec.ofNat 8 flags] ++ toBytes 6 (if p.refGood then p.refStamp.toNat else 0)

/-- A reference message has gone out with a stamp: the next one counts one more and tells of this one (R308). -/
def State.refSent (k : Nat) (stamp : W64) (s : State) : State :=
  let p := s.port k
  (s.setPort k { p with refSeq := p.refSeq + 1, refGood := true, refStamp := stamp, ref := stamp }).setTime
    { s.time with refStep := clrB s.time.refStep k }

/-- A base tick that is a multiple of the reference period of a port, or of the network (8). What a reference says is formed
as it goes on the bus for the last time (DEDUCED, notes/assumptions/109.md); on the network its stamp is a free value of 8 ns
resolution at the reference plane of N0 (R335, R348; notes/assumptions/102.md). -/
def execReferenceRelease (k : Fin 9) (t : W64) (s : State) : Host.Outcome State Fault Refusal :=
  let per := if k.val = 8 then s.rdF Reg.NET_SCHED 12 10 else s.rdF (Reg.STB_SCHED k) 16 10
  if s.pair.role = .active && s.isTick t.toNat && decide (0 < per) && t.toNat % (per * s.gridNs) == 0 &&
      (k.val == 8 || s.portUp k) then
    let s0 := s.atTime t
    if k.val = 8 then
      if s0.rdB Reg.NET_NODE 31 && s0.ringPorts != 0 then
        let s1 := s0.rinfaSend 0 true 0 0 (BitVec.ofNat 8 (s0.tagOf t.toNat)) (s0.refData 8)
        if s0.rdB (Reg.NET_PSTAT 0) 31 then .next (s1.drawn.refSent 8 (s1.draw &&& ~~~7#64))
        else .next ((s1.refSent 8 0).setPort 8 { (s1.refSent 8 0).port 8 with refGood := false })
      else .next s0
    else .next (s0.portQueue k { id := 0, data := [], tries := 0, release := t, cyclic := false })
  else .next s

/-! ### Frames (R303, R306, R313, R325) -/

/-- The frame goes in FD base format with bit-rate switching; a reference message, and every frame while FD_EN = 0, in
classical base format (R298). -/
def State.fdFrame (s : State) (k : Nat) (f : TxFrame) : Bool := f.id != 0 && s.rdB (Reg.STB_CFG k) 8

/-- A frame has been sent (R302, R303): an FD frame with TDC enabled leaves the measured transmitter delay in TDCV (R300), and the
port waits for the answer to an acyclic request whose transaction goes on (R321). -/
def State.frameSent (k : Nat) (f : TxFrame) (delay : BitVec 7) (stamp : W64) (s : State) : State :=
  let d := if f.id = 0 then s.refData k else f.data
  let s1 := (s.portCounters k (s.rdF (Reg.STB_STATE k) 16 9 - 1) (s.rdF (Reg.STB_STATE k) 8 8)).emit (.can k f.id (s.fdFrame k f) d)
  let s2 := if s.fdFrame k f && s.rdB (Reg.STB_TDC k) 31 then s1.wrF (Reg.STB_TDC k) 16 7 delay.toNat else s1
  if f.id = 0 then s2.refSent k stamp
  else if f.acyclic then
    s2.setPort k { s2.port k with acTill := some (stamp + BitVec.ofNat 64 (s.rdF (Reg.STB_AC_REQ k) 0 16 * 1000000)) }
  else s2

/-- A frame that lost arbitration or met an error, its slot being free: withdrawn at its limit, by a bus-off or with its
transaction aborted, else released again (R302, R303, R321). -/
def State.frameMissed (k : Nat) (f : TxFrame) (error : Bool) (s : State) : State :=
  let stopping := (s.port k).stopping
  let s1 := if error then s.portCounters k (s.rdF (Reg.STB_STATE k) 16 9 + 8) (s.rdF (Reg.STB_STATE k) 8 8) else s
  if s1.portState k = 4 then
    let s2 := if f.acyclic then s1.acEnd k 2 else s1
    if stopping then s2.portStopped k else s2.portEmptied k
  else if !s.rdB (Reg.STB_CFG k) 21 && decide (s.rdF (Reg.STB_CFG k) 16 5 ≤ f.tries) then
    let s2 := (s1.incF (Reg.STB_CNT_A k) 0 16).stbEvt k 9
    (if f.acyclic then s2.acEnd k 2 else s2).portSettle k
  else if stopping || f.aborted then s1.portSettle k
  else
    let s2 := s1.incF (Reg.STB_CNT_B k) 16 16
    (s2.setPort k { s2.port k with queue := insertFrame { f with tries := f.tries + 1 } (s2.port k).queue }).portSettle k

/-- A frame on the bus is sent (0), loses arbitration (1) or meets an error (2), or the check of the slots' books fails at its
change of state (3, R305). `delay` is the transmitter delay measured. A transmitter that is switched off sends no frame. -/
def execCanFrameTransmitted (k : Fin 8) (result : Fin 4) (delay : BitVec 7) (stamp : W64) (s : State) :
    Host.Outcome State Fault Refusal :=
  match (s.port k).onbus with
  | none => .next s
  | some f =>
    if !s.portUp k || ((s.port k).txOff && result.val < 2) then .next s
    else
      let s0 := s.setPort k { s.port k with onbus := none, txOff := false }
      if result.val = 3 then .next (s.portFail k)
      else if result.val = 0 then .next ((s0.frameSent k f delay stamp).portSettle k)
      else .next (s0.frameMissed k f (result.val = 2))

/-- Output frames that have not left their slots by release plus Λ − 10 µs, on a port or on the network (R313, R335):
withdrawn and counted in LATE. -/
def execFrameDeadlineWithdraw (k : Fin 9) (when : W64) (s : State) : Host.Outcome State Fault Refusal :=
  let s0 := s.atTime when
  let p := s0.port k
  let due (f : TxFrame) : Bool := f.cyclic && decide (f.release.toNat + s0.lag k ≤ s0.now.toNat + 10000)
  let gone := ((p.onbus.toList ++ p.queue ++ p.waits).filter due).length
  if gone = 0 then .next s0
  else
    let s1 := s0.setPort k { p with
      queue := p.queue.filter (fun f => !due f), waits := p.waits.filter (fun f => !due f), onbus := p.onbus.filter (fun f => !due f) }
    if k.val = 8 then .next (s1.addF Reg.NET_CNT 16 16 gone)
    else .next (((s1.addF (Reg.STB_CNT_A k) 16 16 gone).stbEvt k 8).portSettle k)

/-- A frame counted as FOREIGN. -/
def State.foreign (k : Nat) (s : State) : State := (s.incF (Reg.STB_CNT_B k) 0 16).stbEvt k 10

/-- A fragment is for a tick that has not passed: one within the lag from now (R310, R313). -/
def State.tagAhead (s : State) (p tag : Nat) : Bool :=
  let g := max 1 s.gridNs
  (List.range (s.lag p / g + 1)).any fun i => s.tagOf ((s.now.toNat / g + 1 + i) * g) == tag

/-- A fragment of a station's input data kept (R307). -/
def State.keepFragment (p station : Nat) (d : List W8) (s : State) : State :=
  match d with
  | h :: tag :: body =>
    if s.tagAhead p tag.toNat then
      let f : Fragment := { station := station, tag := tag.toNat, index := getF h 4 4, last := getF h 0 4, data := body }
      s.setPort p { s.port p with frags := (s.port p).frags.filter (fun x =>
        !(x.station == f.station && x.tag == f.tag && x.index == f.index)) ++ [f] }
    else s
  | _ => s

/-- The response of an acyclic transaction placed in its buffer (R321). -/
def State.acResponse (k : Nat) (d : List W8) (s : State) : State :=
  let n := min 64 d.length
  ((s.mailbox (Reg.STB_CFG k + 0x140) (d.take 64)).wrF (Reg.STB_AC_STAT k) 8 8 n).acEnd k 0

/-- The receive counter after a frame without error (ISO 11898-1). -/
def recGood (n : Nat) : Nat := if n = 0 then 0 else if n < 128 then n - 1 else 127

/-- An Active module receives a frame that only a module sends (R325). Until the queue-empty report, the outgoing module of a
yield still sends its own (R324). -/
def State.foreignMaster (k a : Nat) (s : State) : State :=
  if (s.port k).held then s else (s.stbEvt k 11).rec07 (Reg.STB_EVT k) k a 11

/-- The records of a KIND 3 frame, which the station engine passes to the collector while that runs (R322, R349, R350): whole
records of the collector's own layout (DEDUCED, notes/assumptions/110.md), from a bus station, whose port and address stand in
ORIGIN, or from a node. -/
def State.keepRecords (node : Nat) (bus : Option Nat) (d : List W8) (s : State) : State :=
  if s.pair.role = .active && s.pair.running && s.rdB Reg.NET_SOE_CTRL 31 then
    { s with net := { s.net with
      records := s.net.records ++ (List.range (d.length / 16)).map fun i =>
        let r := (d.drop (16 * i)).take 16
        (node, 32768 + (bus.getD (objN r 0xA 2)) % 32768, r) } }
  else s

/-- A whole frame is received (R298, R306, R325): `form` is 0 for a data frame in base format, 1 for a remote frame or one in
extended format, 2 for one with a recessive res bit, after which the port waits for bus integration. -/
def execCanFrameReceived (k : Fin 8) (id : Fin 2048) (form : Fin 3) (data : List W8) (stamp : W64) (s : State) :
    Host.Outcome State Fault Refusal :=
  if !(s.portState k == 2 || s.portState k == 3) || (s.port k).excepted then .next s
  else
    let s0 := (s.atTime stamp).txReleased k
    let s1 := if s0.portUp k then
        s0.portCounters k (s0.rdF (Reg.STB_STATE k) 16 9) (recGood (s0.rdF (Reg.STB_STATE k) 8 8))
      else s0
    let a := id.val % 64
    let active := s1.pair.role == .active
    if form.val = 2 then .next ((s1.foreign k).setPort k { (s1.foreign k).port k with excepted := true })
    else if form.val = 1 then .next (s1.foreign k)
    else
      match id.val / 64 with
      | 0 =>
        if active then .next (s1.foreignMaster k a)
        else if a ≠ 0 then .next (s1.foreign k)
        else .next (s1.setPort k { s1.port k with ref := stamp })
      | 1 => .next (if active then s1.foreignMaster k a else s1)
      | 2 => .next (s1.keepFragment k a data)
      | 3 => .next (s1.keepRecords 0xFFFF (some (256 * k + a)) data)
      | 4 => .next (if active then s1.foreignMaster k a else s1)
      | 5 =>
        if (s1.port k).acTill.isSome && s1.rdF (Reg.STB_AC_REQ k) 24 6 == a then .next (s1.acResponse k data) else .next s1
      | _ => .next (s1.foreign k)

/-! ### Acyclic messages (R321) -/

/-- Why a START is refused, or 0 (`STB.AC_STAT.CODE`). -/
def State.acRefusal (s : State) (k : Nat) : Nat :=
  let q := s.rd (Reg.STB_AC_REQ k)
  let len := getF q 16 8
  let most := if s.rdB (Reg.STB_CFG k) 8 then 64 else 8
  if s.pair.role ≠ .active then 4
  else if !s.portUp k then 3
  else if len = 0 || most < len || getF q 0 16 = 0 || 1000 < getF q 0 16 then 5
  else 0

/-- `STB.AC_CTRL.START` with its key. -/
def State.acStart (k : Nat) (s : State) : State :=
  let a := Reg.STB_AC_STAT k
  if s.rdB a 31 then s.wr a (setF (setB (s.rd a) 29) 16 8 7)
  else
    let c := s.acRefusal k
    if c ≠ 0 then s.acEnd k c
    else
      let q := s.rd (Reg.STB_AC_REQ k)
      let d := (List.range (getF q 16 8)).map fun i =>
        BitVec.ofNat 8 (getF (s.rd (Reg.STB_CFG k + 0x100 + i / 4 * 4)) (8 * (i % 4)) 8)
      (s.wr a (setF (setF (setB (s.rd a) 31) 16 8 0) 8 8 0)).portQueue k
        { id := 0x100 + getF q 24 6, data := d, tries := 0, release := s.now, cyclic := false }

def execAcyclicStart (k : Fin 8) (s : State) : Host.Outcome State Fault Refusal :=
  .next (s.atBlock (Reg.STB_AC_CTRL k) fun s => s.acStart k)

/-- `STB.AC_CTRL.ABORT` with its key (R321, R327): the request is withdrawn, or the wait ends; one on the bus belongs to no
transaction any more. -/
def State.acAbort (k : Nat) (s : State) : State :=
  if s.rdB (Reg.STB_AC_STAT k) 31 then
    let s1 := s.acVoid k
    let p := s1.port k
    (s1.setPort k { p with queue := p.queue.filter fun f => !f.aborted, waits := p.waits.filter fun f => !f.aborted }).acEnd k 6
  else s

def execAcyclicAbort (k : Fin 8) (s : State) : Host.Outcome State Fault Refusal :=
  .next (s.atBlock (Reg.STB_AC_CTRL k) fun s => s.acAbort k)

def execAcyclicResponse (k : Fin 8) (data : List W8) (s : State) : Host.Outcome State Fault Refusal :=
  .next (if (s.port k).acTill.isSome then s.acResponse k data else s)

/-- No response within TMO. -/
def execAcyclicTimeout (k : Fin 8) (when : W64) (s : State) : Host.Outcome State Fault Refusal :=
  let s0 := s.atTime when
  match (s0.port k).acTill with
  | some t => .next (if t.toNat ≤ s0.now.toNat then s0.acEnd k 1 else s0)
  | none => .next s0

/-- The incoming module of a yield receives the queue-empty report of a port, and queues what it has released meanwhile (R324). -/
def execQueueEmptyReport (k : Fin 8) (s : State) : Host.Outcome State Fault Refusal :=
  let s := s.heard
  let p := s.port k
  .next (p.waits.foldl (fun s f => s.portQueue k f) (s.setPort k { p with held := false, waits := [] }))

/-- A read of `STB.REF_LO` (R327): the last stamp, whose high word it captures for the next read of `STB.REF_HI`. -/
def State.refLoRead (k : Nat) (s : State) : State :=
  let t := (s.port k).ref
  (s.wr64 (Reg.STB_REF_LO k) (Reg.STB_REF_HI k) t).okResp ((t.setWidth 32).setWidth 64)

def execRefLoRead (k : Fin 8) (s : State) : Host.Outcome State Fault Refusal :=
  .next (s.atBlock (Reg.STB_CTRL k) fun s => s.refLoRead k)

/-! ### Roles (R323, R324) -/

/-- The module takes the claim (R323, R337): the ports leave MONITOR, the first reference has VALID 0, the watchdogs start,
service and substitution stand as committed, a substitute that holds the last value being what the image holds. `agreed` marks
the incoming module of a planned yield. -/
def State.portsActive (agreed : Bool) (s : State) : State :=
  let s1 := (List.range 9).foldl (fun s k =>
    let p := s.port k
    s.setPort k { refSeq := p.refSeq, ref := p.ref, frags := p.frags, held := agreed && k < 8 }) s
  let s2 := (List.range 8).foldl (fun s k => s.wrB (Reg.STB_AC_STAT k) 31 false) s1
  if s2.stTable then
    (List.range 4608).foldl (fun s n =>
      if s.stOn n then
        let a := s.imgBase (s.listBank 0) + getF (s.stWord n 0xC) 0 24
        let st := s.station n
        let live := bit (BitVec.ofNat 32 (s.peek a 4)) 31
        s.setStation n { st with
          since := s.now, seen := if agreed then st.seen else none, runs := 0, lost := !live, hold := if live then st.hold else [] }
      else s) s2
  else s2

/-- A write within a port's window (R327). -/
def State.stbWrite (a k : Nat) (v : W32) (s : State) : State :=
  let o := a % 0x1000
  let off := s.portState k == 0
  let ifOff (m : W32) (s : State) : State := if off then s.wr a (v &&& m) else s.stbEvt k 5
  if o = 0 then
    let s1 := if (v &&& 0x003F0100#32) = (s.rd a &&& 0x003F0100#32) then s
      else if off then s.wr a ((v &&& 0x003F0100#32) ||| (s.rd a &&& 1#32)) else s.stbEvt k 5
    if bit v 0 then s1.portOn k else s1.portOff k
  else if o = 4 then ifOff 0xFFFFFDFF#32 s
  else if o = 8 then ifOff 0x1F1F0F0F#32 s
  else if o = 0xC then if off then s.wr a ((s.rd a &&& 0x007F0000#32) ||| (v &&& 0x8000007F#32)) else s.stbEvt k 5
  else if o = 0x14 then s.wr a (s.rd a &&& ~~~v)
  else if o = 0x18 then s.wrL a (v &&& 0x30FFF#32)
  else if o = 0x1C then if getF v 24 8 = 0xA5 && bit v 0 then s.recover k else s
  else if o = 0x20 then if off && !s.run then s.wr a (v &&& 0x03FF007F#32) else s.stbEvt k 5
  else if o = 0x24 ∨ o = 0x28 ∨ o = 0x38 ∨ o = 0x3C then s.wr a (s.rd a &&& ~~~v)
  else if o = 0x80 then
    if getF v 24 8 = 0xA5 then if bit v 1 then s.acAbort k else if bit v 0 then s.acStart k else s else s
  else if o = 0x84 then s.wr a (v &&& 0x3FFFFFFF#32)
  else if o = 0x88 then s.wr a (s.rd a &&& ~~~(v &&& 0x60000000#32))
  else if 0x100 ≤ o ∧ o < 0x140 then s.wr a v
  else if 0x800 ≤ o ∧ o < 0x810 then
    if (o / 4 % 2 == 1) == s.listBank 0 then s.busErr else (s.wr (canonReg a) (v &&& 0xFFFFFFC0#32)).okResp 0
  else s

end Sys2Proof.Machine
end

