-- ==== Sys2Proof/Machine/Network.lean ====
section
/-!
DEFINITION. The plant network: ports, Rinfa frames, the time service and the sequence-of-events collector (12, R328 to
R340, R349 to R351). -/
namespace Sys2Proof.Machine

def State.setNet (v : Net) (s : State) : State := { s with net := v }

/-- An event of the network engine. -/
def State.netEvt (b : Nat) (s : State) : State := s.setEvt Reg.NET_EVT b

/-- The link of a network port is up. -/
def State.linkUp (s : State) (p : Nat) : Bool := s.rdB (Reg.NET_PSTAT p) 31

/-- The module's own node number. -/
def State.node (s : State) : Nat := s.rdF Reg.NET_NODE 0 16

/-- The node number is valid (R329). -/
def State.nodeValid (s : State) : Bool := s.rdB Reg.NET_NODE 31

/-- A frame discarded and counted in BADHDR (R332, R333, R338). -/
def State.badHeader (s : State) : State := s.incF Reg.NET_CNT 0 16

/-! ### Announces and the ring (R329 to R331) -/

/-- The announce frame: the node number is the frame's SRC, the data hold the serial. -/
def State.announceSend (s : State) : State := s.rinfaSend 9 true 0 0 0 (toBytes 16 Config.serial.toNat)

def execAnnounceSend (s : State) : Host.Outcome State Fault Refusal := .next s.announceSend

/-- An announce with a node number and a serial (R329). -/
def State.announceHeard (node : Nat) (serial : BitVec 128) (s : State) : State :=
  if s.nodeValid && node == s.node && serial != Config.serial then
    (s.netEvt 10).rec07 Reg.NET_EVT 8 node 10
  else s

def execAnnounceReceived (node : W16) (serial : BitVec 128) (s : State) : Host.Outcome State Fault Refusal :=
  .next (s.announceHeard node.toNat serial)

/-- An own frame comes back on ring port p (R330, R331): it is removed, and owed there no longer. -/
def State.ownReturned (seq p : Nat) (s : State) : State :=
  s.setNet { s.net with owed := s.net.owed.filter fun e => !(e.1 == seq && e.2.1 == p) }

/-- A fragment is the last one of its data (R307). -/
def lastFragment (frag : W8) : Bool := getF frag 4 4 == getF frag 0 4

/-- A tunnelled IEEE 802.3 frame kept, a later fragment behind those that came before it (R307, R333). -/
def State.keepTunnel (src : Nat) (frag : W8) (d : List W8) (s : State) : State :=
  let l := s.net.tunnels
  if getF frag 4 4 = 0 then s.setNet { s.net with tunnels := l ++ [(src, frag, d)] }
  else
    match l.findIdx? fun e => e.1 == src && !lastFragment e.2.1 && e.2.1 + 0x10 == frag with
    | some i => s.setNet { s.net with tunnels := l.eraseIdx i ++ [(src, frag, (l[i]?.getD (0, 0, [])).2.2 ++ d)] }
    | none => s

/-- An accepted frame acts by its KIND (R333, R334, R337). No register of the module starts an acyclic exchange with a network
station, so that no response (KIND 5) is awaited (notes/assumptions/111.md). -/
def State.rinfaAccept (h : RinfaHead) (d : List W8) (s : State) : State :=
  let mine := h.bcast || (s.nodeValid && h.dst == s.node) || h.dst == s.rdF Reg.NET_PARTNER 0 16
  if h.kind = 0 ∨ h.kind = 1 then
    if s.pair.role = .active ∧ h.src = s.rdF Reg.NET_PARTNER 0 16 then (s.netEvt 9).rec07 Reg.NET_EVT 8 h.src 9 else s
  else if h.kind = 2 then if mine then s.keepFragment 8 h.src (h.frag :: h.tag :: d) else s
  else if h.kind = 3 then if mine then s.keepRecords h.src none d else s
  else if h.kind = 8 then if mine then s.keepTunnel h.src h.frag d else s
  else if h.kind = 9 then s.announceHeard h.src (BitVec.ofNat 128 (ofBytes (d.take 16)))
  else s

/-- A management message reaches the module (R328): on N2 and N3 directly, on N0 and N1 only as a tunnelled frame, the first
that waits, from node `src` where that is known. None elsewhere, nor on N0 and N1 where a finding of the self-tests has
stopped the start (R433), nor anywhere where Hearth never runs (R431). -/
def State.managed (p : Nat) (src : Option Nat) (s : State) : Option State :=
  if s.start.hearthBad then none
  else if 2 ≤ p then if s.linkUp p then some s else none
  else if s.start.stage = .stopped then none
  else
    match s.net.tunnels.findIdx? fun e => lastFragment e.2.1 && src.all fun n => n == e.1 with
    | some i => some (s.setNet { s.net with tunnels := s.net.tunnels.eraseIdx i })
    | none => none

/-- A copy whose (SRC, SEQ) has been accepted within the last 4 ms (R330). -/
def State.duplicate (s : State) (src seq : Nat) : Bool :=
  s.net.accepted.any fun e => e.1 == src && e.2.1 == seq && decide (s.now.toNat < e.2.2.toNat + 4000000)

/-- A good Rinfa frame on a ring port (R330), `frame` being all of it: forwarded, removed, discarded as a second copy, or
accepted. Of an own frame that returns only an announce acts, which can show a second node of the same number (R329). -/
def State.rinfaFrame (p : Nat) (h : RinfaHead) (d frame : List W8) (s : State) : State :=
  if s.nodeValid && h.src == s.node then
    let s1 := s.ownReturned h.seq p
    if h.kind = 9 then s1.rinfaAccept h d else s1
  else
    let s1 := if s.rdB Reg.NET_RING 0 && s.linkUp (1 - p) then (s.portSent (1 - p)).emit (.rinfa (2 ^ (1 - p)) frame) else s
    if s1.duplicate h.src h.seq then s1
    else
      (s1.setNet { s1.net with
        accepted := (s1.net.accepted.filter fun e => decide (s1.now.toNat < e.2.2.toNat + 4000000)) ++
          [(h.src, h.seq, s1.now)] }).rinfaAccept h d

/-- A frame comes in on a port whose link is up (R351). -/
def State.portGot (p : Nat) (s : State) : State := s.wr (Reg.NET_PRX p) (s.rd (Reg.NET_PRX p) + 1)

/-- A kind that R333 reserves. -/
def reservedKind (k : Nat) : Bool := k == 6 || k == 7 || decide (10 ≤ k)

/-- A frame arrives on a port, `frame` being its bytes from the tag or the EtherType on; `fcs` says that it is received
without error. A Rinfa frame is taken apart (R332, R333), and acts on the ring ports (R328). -/
def execRinfaFrameReceived (p : Fin 4) (fcs : Bool) (frame : List W8) (when : W64) (s : State) :
    Host.Outcome State Fault Refusal :=
  if !s.linkUp p then .next s
  else
    let s0 := s.atTime when
    if !fcs then
      .next (((s0.wr (Reg.NET_PERR p) (BitVec.ofNat 32 (satInc 0xFFFFFFFF (s0.rd (Reg.NET_PERR p)).toNat)))).wrL
        (Reg.NET_PSTAT p) (setB (s0.rd (Reg.NET_PSTAT p)) 29))
    else
      let s1 := s0.portGot p
      if !s1.isRinfa frame then .next s1
      else
        match rinfaParse (frame.drop s1.rinfaTop.length) with
        | none => .next s1.badHeader
        | some (h, d) =>
          if reservedKind h.kind then .next s1.badHeader
          else if 2 ≤ p.val then .next s1
          else .next (s1.rinfaFrame p h d frame)

/-- Originated frames have not returned on the other ring port within 1 ms (R331): each is an occurrence of its own. -/
def execRingOpen (when : W64) (s : State) : Host.Outcome State Fault Refusal :=
  let s0 := s.atTime when
  let late := ((s0.net.owed.filter fun e => decide (e.2.2.toNat + 1000000 ≤ s0.now.toNat)).map fun e => e.1).eraseDups
  if s0.rdB Reg.NET_RING 0 then
    .next (late.foldl (fun s _ => (s.netEvt 11).rec07 Reg.NET_EVT 8 s.node 11)
      (s0.setNet { s0.net with owed := s0.net.owed.filter fun e => decide (s0.now.toNat < e.2.2.toNat + 1000000) }))
  else .next s0

/-! ### The time service (R338, R339; the best master clock algorithm is PRESUMED from IEEE 1588, notes/assumptions/26.md)

Port states: 4 LISTENING, 6 MASTER, 7 PASSIVE, 8 UNCALIBRATED, 9 SLAVE; 0 while the port takes no part. -/

/-- The state of a PTP port. -/
def State.ptpState (s : State) (p : Nat) : Nat := s.rdF (Reg.NET_PSTAT p) 16 4

/-- A PTP port enters a state. -/
def State.ptpEnter (p st : Nat) (s : State) : State :=
  if s.ptpState p = st then s else (s.wrF (Reg.NET_PSTAT p) 16 4 st).netEvt 24

/-- The port takes part in PTP (R339, `NET.PTP_CTRL`). -/
def State.ptpOn (s : State) (p : Nat) : Bool :=
  s.rdF Reg.NET_PTP_CTRL 30 2 != 0 && s.rdB Reg.NET_PTP_CTRL (20 + p) && s.linkUp p

/-- The rank of a clock in the comparison of data sets: a lower one is better. -/
def clockRank (prio1 cls : Nat) (quality : BitVec 24) (prio2 : Nat) (id : W64) : Nat :=
  (((prio1 * 256 + cls) * 2 ^ 24 + quality.toNat) * 256 + prio2) * 2 ^ 64 + id.toNat

/-- The rank of the module's own clock. -/
def State.ownRank (s : State) : Nat :=
  clockRank (s.rdF Reg.NET_PTP_DS 16 8) (s.rdF Reg.NET_PTP_DS 0 8) Config.clockQuality (s.rdF Reg.NET_PTP_DS 8 8)
    Config.clockId

/-- One announce is better than another: by the grandmaster, then by the steps removed. -/
def annBetter (a b : Nat × (Nat × Nat)) : Bool :=
  decide (a.2.1 < b.2.1) || (a.2.1 == b.2.1 && decide (a.2.2 < b.2.2))

/-- The best announce over all ports. -/
def State.bestAnnounce (s : State) : Option (Nat × (Nat × Nat)) :=
  s.net.announces.foldl (fun acc e => match acc with
    | none => some e
    | some b => if annBetter e b then some e else some b) none

/-- The state that the best master clock choice recommends for a port. -/
def State.ptpChoice (s : State) (p : Nat) : Nat :=
  let cur := s.ptpState p
  let own := s.net.announces.find? fun e => e.1 == p
  let slaveOnly := s.rdB Reg.NET_PTP_CTRL 29
  match s.bestAnnounce with
  | none => if slaveOnly || cur == 4 then 4 else 6
  | some b =>
    if decide (s.rdF Reg.NET_PTP_DS 0 8 < 128) && !slaveOnly then
      match own with
      | none => if cur = 4 then 4 else 6
      | some o => if s.ownRank < o.2.1 then 6 else 7
    else if decide (s.ownRank < b.2.1) && !slaveOnly then if cur = 4 ∧ own.isNone then 4 else 6
    else if b.1 = p then if cur = 9 then 9 else 8
    else if slaveOnly then 4
    else
      match own with
      | none => if cur = 4 then 4 else 6
      | some o => if o.2.1 = b.2.1 ∧ o.2.2 ≤ b.2.2 + 1 then 7 else 6

/-- `NET.PTP_STAT` follows the port states. -/
def State.ptpStat (s : State) : State :=
  let slave := (List.range 4).find? fun p => s.ptpState p == 9
  let master := (List.range 4).any fun p => s.ptpState p == 6
  let tracking := (List.range 4).any fun p => s.ptpState p == 8 || s.ptpState p == 9
  let steps := match s.bestAnnounce with | some b => if tracking then b.2.2 + 1 else 0 | none => 0
  ((s.wrF Reg.NET_PTP_STAT 24 4 (slave.getD 15)).wrB Reg.NET_PTP_STAT 29 (master && !tracking)).wrF
    Reg.NET_PTP_STAT 0 16 steps

/-- The best master clock choice made anew. -/
def State.ptpDecide (s : State) : State :=
  ((List.range 4).foldl (fun s p => if s.ptpOn p then s.ptpEnter p (s.ptpChoice p) else s) s).ptpStat

/-- Ports enter and leave the protocol with their links and their configuration. -/
def State.ptpRefresh (s : State) : State :=
  let s1 := (List.range 4).foldl (fun s p =>
    if s.ptpOn p then if s.ptpState p = 0 then s.ptpEnter p 4 else s
    else
      (s.ptpEnter p 0).setNet { s.net with announces := s.net.announces.filter fun e => e.1 != p }) s
  s1.ptpDecide

/-- LOCKED and HOLDOVER declared (R339): a change sets `TIME.EVT.LOCK_CHG` and `NET.EVT.LOCK_CHG` and is recorded. LOCKED
plant time ends the doubt that `BKD.STAT.RP` tells of (R400). -/
def State.lockDeclare (locked holdover : Bool) (s : State) : State :=
  if s.rdB Reg.NET_PTP_STAT 31 = locked ∧ s.rdB Reg.NET_PTP_STAT 30 = holdover then s
  else
    let s1 := (((s.wrB Reg.NET_PTP_STAT 31 locked).wrB Reg.NET_PTP_STAT 30 holdover).netEvt 25).setEvt Reg.TIME_EVT 4
    (if locked then s1.wrB Reg.BKD_STAT 28 false else s1).rec05 4 []

/-- `NET.PTP_OFS`: signed nanoseconds, saturated. -/
def ofsWord (o : Int) : W32 := BitVec.ofInt 32 (max (-(2 ^ 31 - 1)) (min (2 ^ 31 - 1) o))

def State.ptpPort (s : State) (p : Nat) : PtpPort := sget (fun _ => {}) s.net.ptp p
def State.setPtpPort (p : Nat) (v : PtpPort) (s : State) : State :=
  s.setNet { s.net with ptp := sset (fun _ => {}) s.net.ptp p v }

/-- A stamp at the reference plane of a port (R338, R348): its resolution is 8 ns. -/
def portStamp (t : W64) : W64 := t &&& ~~~7#64

/-- The identity of a port as a PTP port: that of the clock, and the port's number from 1 on (IEEE 1588). -/
def portIdentity (p : Nat) : BitVec 80 := BitVec.ofNat 80 (Config.clockId.toNat * 65536 + (p + 1))

/-- A mean path delay measured (R351). -/
def State.delayMeasured (p : Nat) (twice : Int) (s : State) : State :=
  (s.wr (Reg.NET_PMPD p) (BitVec.ofNat 32 (min 0xFFFFFFFF (twice / 2).toNat))).setPtpPort p { s.ptpPort p with asked := none, answer := none }

/-- A Sync with its origin and its receipt (R339): the offset from the master is what the mean path delay leaves of their
difference; the rate is corrected by a value that the manual leaves to the service, and LOCKED or HOLDOVER declared. -/
def State.syncMeasured (p : Nat) (origin receipt : W64) (s : State) : State :=
  if s.ptpState p = 8 ∨ s.ptpState p = 9 then
    let o := (receipt - origin - (s.rd (Reg.NET_PMPD p)).setWidth 64).toInt
    let s0 := s.setPtpPort p { s.ptpPort p with sync := some (origin, receipt), first := none }
    let s1 := (s0.ptpEnter p 9).ptpStat.wr Reg.NET_PTP_OFS (ofsWord o)
    let n := if -50 ≤ o ∧ o ≤ 50 then min 16 (s1.net.inRow + 1) else 0
    let s2 := (s1.setNet { s1.net with inRow := n }).drawn.incWrite
      (BitVec.ofNat 32 (0x07FDF3B6 + s1.draw.toNat % (0x08020C4A - 0x07FDF3B6 + 1)))
    if n = 16 then s2.lockDeclare true false
    else if o < -1000 ∨ 1000 < o then s2.lockDeclare false true
    else s2
  else s

/-- No Sync for 3 Sync intervals (R339). A grandmaster that is not locked to another clock awaits none. -/
def execSyncTimeout (s : State) : Host.Outcome State Fault Refusal :=
  if s.rdF Reg.NET_PTP_CTRL 30 2 = 0 ∨ (s.rdB Reg.NET_PTP_STAT 29 = true ∧ s.rdB Reg.NET_PTP_STAT 31 = false) then .next s
  else .next (((s.setNet { s.net with inRow := 0 }).netEvt 26).lockDeclare false true)

/-- A PTP message of a port's transport and domain (R338): `udp` says that it came in UDP over IPv6. -/
def State.ptpTakes (s : State) (udp : Bool) (domain : W8) : Bool :=
  udp == s.rdB Reg.NET_PTP_CTRL 27 && domain.toNat == s.rdF Reg.NET_PTP_DS 24 8

/-- A PTP general message acts (R338, R339). -/
def State.ptpGeneral (p : Nat) (m : PtpGeneral) (s : State) : State :=
  let v := s.ptpPort p
  match m with
  | .followUp origin =>
    match v.first with
    | some receipt => s.syncMeasured p origin receipt
    | none => s
  | .delayResp port receipt =>
    match v.sync, v.asked with
    | some (t1, t2), some t3 =>
      if port = portIdentity p ∧ s.rdB Reg.NET_PTP_CTRL 28 = false then
        s.delayMeasured p ((t2 - t1).toInt + (receipt - t3).toInt)
      else s
    | _, _ => s
  | .pdelayFollowUp port leaves =>
    match v.asked, v.answer with
    | some t1, some (t2, t4) =>
      if port = portIdentity p ∧ s.rdB Reg.NET_PTP_CTRL 28 = true then
        s.delayMeasured p ((t4 - t1).toInt - (leaves - t2).toInt)
      else s
    | _, _ => s
  | .announce prio1 cls quality prio2 id steps ptpScale =>
    if ptpScale = true ∧ id ≠ Config.clockId then
      (s.setNet { s.net with
        announces := (s.net.announces.filter fun e => e.1 != p) ++
          [(p, (clockRank prio1.toNat cls.toNat quality prio2.toNat id, steps.toNat))] }).ptpDecide
    else s
  | _ => s

/-- A PTP general message arrives (R338, R351): management and signaling messages are counted and discarded. -/
def execPtpGeneralMessageReceived (p : Fin 4) (udp : Bool) (domain : W8) (m : PtpGeneral) (s : State) :
    Host.Outcome State Fault Refusal :=
  if !s.linkUp p then .next s
  else
    let s0 := s.portGot p
    if !s0.ptpOn p then .next s0
    else
      match m with
      | .management => .next s0.badHeader
      | .signaling => .next s0.badHeader
      | _ => .next (if s0.ptpTakes udp domain then s0.ptpGeneral p m else s0)

/-- The fields of an announce that the module sends, in the order of IEEE 1588: its own data set (priority1, class, accuracy
and variance, priority2, identity) and the steps removed. -/
def State.announceData (s : State) : List W8 :=
  [BitVec.ofNat 8 (s.rdF Reg.NET_PTP_DS 16 8), BitVec.ofNat 8 (s.rdF Reg.NET_PTP_DS 0 8)] ++
    beBytes 3 Config.clockQuality.toNat ++ [BitVec.ofNat 8 (s.rdF Reg.NET_PTP_DS 8 8)] ++
    beBytes 8 Config.clockId.toNat ++ beBytes 2 (s.rdF Reg.NET_PTP_STAT 0 16)

/-- The origin timestamp of a Sync (IEEE 1588): 48 bits of seconds and 32 bits of nanoseconds. -/
def originStamp (t : Nat) : List W8 := beBytes 6 (t / 1000000000) ++ beBytes 4 (t % 1000000000)

/-- A PTP message goes out on a port, in the transport of `NET.PTP_CTRL` (R338). -/
def State.ptpSend (p kind : Nat) (d : List W8) (s : State) : State :=
  (s.portSent p).emit (.ptp p (s.rdB Reg.NET_PTP_CTRL 27) kind d)

/-- A PTP event message acts, its stamp being `t` (R338, R339): a Sync corrects the rate, or awaits its Follow_Up; a request is
answered by a master with its stamp, or under the peer-to-peer profile with a one-step Pdelay_Resp; an answer gives the mean path
delay. -/
def State.ptpEvent (p : Nat) (m : PtpEvent) (t : W64) (s : State) : State :=
  let peer := s.rdB Reg.NET_PTP_CTRL 28
  match m with
  | .sync origin twoStep =>
    if twoStep then s.setPtpPort p { s.ptpPort p with first := some t } else s.syncMeasured p origin t
  | .delayReq port =>
    if s.ptpState p = 6 ∧ peer = false then s.ptpSend p 9 (originStamp t.toNat ++ beBytes 10 port.toNat) else s
  | .pdelayReq port => if peer then s.ptpSend p 3 (List.replicate 10 0#8 ++ beBytes 10 port.toNat) else s
  | .pdelayResp port time twoStep =>
    match (s.ptpPort p).asked with
    | some t1 =>
      if port = portIdentity p ∧ peer = true then
        if twoStep then s.setPtpPort p { s.ptpPort p with answer := some (time, t) }
        else s.delayMeasured p ((t - t1).toInt - time.toInt)
      else s
    | none => s

/-- A PTP event message arrives at the reference plane of a port at `when` (R338, R348, R351). -/
def execSyncReceived (p : Fin 4) (udp : Bool) (domain : W8) (m : PtpEvent) (when : W64) (s : State) :
    Host.Outcome State Fault Refusal :=
  if !s.linkUp p then .next s
  else
    let s0 := (s.atTime when).portGot p
    .next (if s0.ptpOn p && s0.ptpTakes udp domain then s0.ptpEvent p m (portStamp s0.now) else s0)

/-- A PTP timer runs out at `when` (R338): the message due is sent, stamped at the port's reference plane, or the state of a
port that heard no announce changes. -/
def execPtpIntervalTimer (p : Fin 4) (t : PtpTimer) (when : W64) (s : State) : Host.Outcome State Fault Refusal :=
  let s0 := s.atTime when
  if !s0.ptpOn p then .next s0
  else
    let asks (s : State) : State := s.setPtpPort p { s.ptpPort p with asked := some (portStamp s.now), answer := none }
    match t with
    | .sync => .next (if s0.ptpState p = 6 then s0.ptpSend p 0 (originStamp (portStamp s0.now).toNat) else s0)
    | .announce => .next (if s0.ptpState p = 6 then s0.ptpSend p 11 s0.announceData else s0)
    | .pdelay =>
      .next (if s0.rdB Reg.NET_PTP_CTRL 28 then asks (s0.ptpSend p 2 [])
        else if s0.ptpState p = 8 ∨ s0.ptpState p = 9 then asks (s0.ptpSend p 1 []) else s0)
    | .announceReceipt =>
      let s1 := s0.setNet { s0.net with announces := s0.net.announces.filter fun e => e.1 != p.val }
      .next (if s1.rdB Reg.NET_PTP_CTRL 29 then s1.ptpEnter p 4 else if s1.ptpState p = 4 then s1.ptpEnter p 6 else s1).ptpDecide

/-! ### Ports (R328, R351) -/

/-- The link of a port goes up or down; output frames that waited for a ring link go out. -/
def State.linkSet (p : Nat) (up : Bool) (s : State) : State :=
  if s.linkUp p = up then s
  else (s.wrL (Reg.NET_PSTAT p) (setB (putB (s.rd (Reg.NET_PSTAT p)) 31 up) 30)).ptpRefresh.netOutputs

/-- A port's link changes, or the optical module of N0 or N1 is identified: media 0 none, 1 10GBASE-SR, 2 10GBASE-LR, 3
any other part. The cages give light once the ports are enabled (R50). N2 and N3 are 1000BASE-T. -/
def execPortLinkChange (p : Fin 4) (up : Bool) (media : Fin 4) (s : State) : Host.Outcome State Fault Refusal :=
  let en := s.rdB (Reg.NET_PCFG p) 0
  if p.val < 2 then
    let s1 := s.wrF (Reg.NET_PSTAT p) 24 4 media
    let s2 := if media.val = 3 then s1.netEvt 12 else s1
    .next (s2.linkSet p (up && en && s.lasersOn && (media.val == 1 || media.val == 2)))
  else .next ((s.wrF (Reg.NET_PSTAT p) 24 4 4).linkSet p (up && en))

/-! ### The sequence-of-events collector (R349, R350) -/

/-- A record of the collector (R349). -/
def State.soeRecord (s : State) (stamp node origin flags code : Nat) : List W8 :=
  toBytes 8 stamp ++ toBytes 2 node ++ toBytes 2 origin ++
    [BitVec.ofNat 8 (flags + 2 * b2n (decide (s.net.tkFrom.toNat ≤ stamp) && decide (stamp < s.net.tkTo.toNat))),
      BitVec.ofNat 8 code] ++ toBytes 2 s.net.count.toNat

/-- The number of records of the ring buffer. -/
def State.soeSize (s : State) : Nat := 2 ^ s.rdF Reg.NET_SOE_CTRL 16 5

/-- The buffer holds as many records as it can. -/
def State.soeFull (s : State) : Bool :=
  ((s.rd Reg.NET_SOE_WR).toNat + 1) % s.soeSize == (s.rd Reg.NET_SOE_RD).toNat % s.soeSize

/-- A record put into the buffer, and forwarded with FWD. -/
def State.soePut (r : List W8) (s : State) : State :=
  let n := s.soeSize
  let w := (s.rd Reg.NET_SOE_WR).toNat % n
  let s1 := s.engineStore 19 ((s.rd Reg.NET_SOE_BASE).toNat + 16 * w) r
  let s2 := (s1.wr Reg.NET_SOE_WR (BitVec.ofNat 32 ((w + 1) % n))).setNet { s1.net with count := s1.net.count + 1 }
  let fill := (w + 1 + n - (s.rd Reg.NET_SOE_RD).toNat % n) % n
  let s3 := if 2 * fill = n then s2.netEvt 16 else s2
  if s3.rdB Reg.NET_SOE_CTRL 30 then s3.rinfaSend 3 false (s3.rdF Reg.NET_SOE_CTRL 0 16) 0 0 r else s3

/-- The collector takes one event, in the Active module once that is running (R350, R369): the head of a group's queue, or of the
records that stations have sent (R349). -/
def execSoeCollect (src : SoeSource) (s : State) : Host.Outcome State Fault Refusal :=
  if s.pair.role = .active ∧ s.pair.running = true ∧ s.rdB Reg.NET_SOE_CTRL 31 = true then
    match src with
    | .group g =>
      match (s.group g).queue, s.rdB Reg.NET_SOE_GRP g with
      | e :: q, true =>
        if s.soeFull then .next (s.netEvt 17)
        else
          .next ((s.setQueue g q).soePut
            (s.soeRecord e.stamp.toNat s.node (16 * g.val + e.slice) (b2n e.level + 4 * b2n e.subst) 0))
      | _, _ => .next s
    | .station =>
      match s.net.records with
      | (node, origin, r) :: rest =>
        if s.soeFull then .next (s.netEvt 17)
        else
          .next ((s.setNet { s.net with records := rest }).soePut
            (s.soeRecord (objN r 0 8) node origin (objN r 0xC 1 % 2 + 4 * (objN r 0xC 1 / 4 % 2) + 8) (objN r 0xD 1)))
      | [] => .next s
  else .next s

/-! ### Writes of the block (R351) -/

/-- A write of `NET.FRAME`. -/
def State.netFrameWrite (v : W32) (s : State) : State :=
  let e := getF v 0 16
  if s.run || decide (e < 0x600) || e == 0x8100 || e == 0x86DD || e == 0x88F7 then s.netEvt 13 else s.wr Reg.NET_FRAME v

/-- A write of a field frozen while RUN = 1. -/
def State.netFrozen (a : Nat) (m v : W32) (s : State) : State := if s.run then s.netEvt 13 else s.wr a (v &&& m)

/-- A write of `NET.PTP_CTRL`: TYPE 3 is ignored, and so is TYPE 1 with other than one port. -/
def State.ptpCtrlWrite (v : W32) (s : State) : State :=
  let ports := b2n (bit v 20) + b2n (bit v 21) + b2n (bit v 22) + b2n (bit v 23)
  if getF v 30 2 = 3 ∨ (getF v 30 2 = 1 ∧ ports ≠ 1) then s.netEvt 13
  else (s.netFrozen Reg.NET_PTP_CTRL 0xF8F0FFF0#32 v).ptpRefresh

/-- A write within the NET block. -/
def State.netWrite (a0 : Nat) (v : W32) (s : State) : State :=
  let a := canonReg a0
  if a = Reg.NET_NODE then s.netFrozen a 0x8000FFFF#32 v
  else if a = Reg.NET_PARTNER then s.netFrozen a 0xFFFF#32 v
  else if a = Reg.NET_FRAME then s.netFrameWrite v
  else if a = Reg.NET_RING then s.netFrozen a 0xFF01#32 v
  else if a = Reg.NET_SCHED then s.netFrozen a 0xFFFFF07F#32 v
  else if a = Reg.NET_EVT ∨ a = Reg.NET_CNT then s.wr a (s.rd a &&& ~~~v)
  else if a = Reg.NET_EVT_EN then s.wrL a (v &&& 0x07033F03#32)
  else if a = Reg.NET_PTP_CTRL then s.ptpCtrlWrite v
  else if a = Reg.NET_PTP_DS then (s.netFrozen a 0xFFFFFFFF#32 v).ptpDecide
  else if a = Reg.NET_SOE_CTRL then
    let old := s.rd a
    if bit old 31 ∧ getF v 16 5 ≠ getF old 16 5 then
      (s.wr a ((v &&& 0xC000FFFF#32) ||| (old &&& 0x1F0000#32))).netEvt 13
    else s.wr a (v &&& 0xC01FFFFF#32)
  else if a = Reg.NET_SOE_BASE then
    if s.rdB Reg.NET_SOE_CTRL 31 then s.netEvt 13 else s.wr a (v &&& 0xFFFFF000#32)
  else if a = Reg.NET_SOE_GRP ∨ a = Reg.NET_SOE_RD then s.wr a v
  else if Reg.NET_LOST 0 ≤ a ∧ a < Reg.NET_LOST 128 then s.wr a (s.rd a &&& ~~~v)
  else if a % 0x4000 = 0x1000 then
    let p := (a - 0x10200000) / 0x4000
    let s1 := s.wrL a (v &&& 3#32)
    if bit v 0 then s1 else s1.linkSet p false
  else if a % 0x4000 = 0x1004 then s.wr a (s.rd a &&& ~~~(v &&& 0x60000000#32))
  else if a % 0x4000 = 0x1010 then s.wr a (s.rd a &&& ~~~v)
  else s

end Sys2Proof.Machine
end

