-- ==== Sys2Proof/Machine/Grid.lean ====
section
/-!
DEFINITION. The grid and the scan engines (08, R207 to R217), direct commands (R253, R284), and the request for a planned
yield (13, R373; 02, R52). -/
namespace Sys2Proof.Machine

def State.setGrid (v : Grid) (s : State) : State := { s with grid := v }
def State.setChange (v : Change) (s : State) : State := { s with change := v }

/-! ### Faults of the grid (R213) -/

/-- A fault of the grid that affects control: the bit and the line in `SCN.GRIDSTAT`, the record, source 14. -/
def State.gridFault (b line : Nat) (t : W64) (s : State) : State :=
  ((((s.wrB Reg.SCN_GRIDSTAT b true).wrF Reg.SCN_GRIDSTAT 20 4 line).rec0C b line t).fire 14).affectsControl

/-- A scan overrun. -/
def State.scanOverrun (line : Nat) (t : W64) (s : State) : State := s.gridFault 29 line t

/-- A phase has not ended by its bound (R213). -/
def execScanOverrun (line : Fin 12) (t : W64) (s : State) : Host.Outcome State Fault Refusal :=
  .next (if s.run && s.pair.role == .active then s.scanOverrun line t else s)

/-! ### Output phase (R209, R210, R213, R221) -/

/-- A tick of line j lies in (a, b]. -/
def State.lineTickIn (s : State) (j a b : Nat) : Bool :=
  let n := s.lineN j
  let k (x : Nat) : Nat := (x / s.gridNs + n * 1024 - s.rdF (Reg.SCN_LINE j) 16 10) / n
  s.lineOn j && decide (0 < n) && decide (0 < s.gridNs) && decide (k a < k b)

/-- The lines whose output images the output phase for tick t sends: those that tick at t, those whose tick a forward step
has skipped, and only those with an activation that has ended under this Active module (R209, R214, R369). -/
def State.outputLines (s : State) (t j : Nat) : Bool :=
  bit s.grid.live j &&
    (s.lineTicks j t || (match s.grid.skippedFrom with | some a => s.lineTickIn j a.toNat (t - 1) | none => false))

/-- A command held by a slice for the next tick. -/
def State.holdCommand (ch : Nat) (v : W32) (s : State) : State :=
  s.setSlice (ch / 16) (ch % 16) { s.slice (ch / 16) (ch % 16) with direct := some v }

/-- The force entry named by a forced scan entry. -/
def fidx (w0 : W32) : Nat := getF w0 14 9

/-- The output phase of engine e over entries `l`: the forced value, or the image's, goes to the slice; a refused image access
is a scan overrun and ends the phase (R213), and an engine whose guard is not enabled stalls before the access (R175). -/
def State.sendOutputs (e : Nat) (t : W64) : List Nat → State → State
  | [], s => s
  | i :: l, s =>
    let b := s.listBank e
    let w0 := s.scanWord e b i 0
    if s.scanValid e i && bit w0 30 && s.outputLines t.toNat (getF w0 26 4) then
      if bit w0 23 then State.sendOutputs e t l (s.holdCommand (getF w0 0 9) (s.forceValue (fidx w0)))
      else
        let a := s.imgBase b + getF (s.scanWord e b i 1) 0 24
        if !s.guardOn (16 + e) then s.stall (16 + e) (.outputs e t (i :: l) s.grid.skippedFrom)
        else match s.guardCheck (16 + e) false a 4 1 with
        | some r => (s.guardRefused (16 + e) 1 r).scanOverrun (getF w0 26 4) t
        | none => State.sendOutputs e t l (s.holdCommand (getF w0 0 9) (BitVec.ofNat 32 (s.peek a 4)))
    else State.sendOutputs e t l s

/-- Some target holds an activation of source n, running or saved. -/
def State.holdsSource (s : State) (n : Nat) : Bool := s.cores.any fun e => e.2.owners.contains n

/-- Some target holds a control activation of source n, at tier 1 to 14 (R153). -/
def State.holdsControl (s : State) (n : Nat) : Bool :=
  s.cores.any fun e => e.2.owner.any fun o => o.2 == n + 1 && 1 ≤ o.1 && o.1 ≤ 14

/-- A deadline miss on a line that ticks at t (R213): its control activation is still running. -/
def State.deadlineTest (t : W64) (j : Nat) (s : State) : State :=
  if s.pair.role == .active && s.lineTicks j t.toNat && s.holdsControl (16 + j) then s.gridFault 28 j t else s

/-- The command of every output slice at the next tick, forced values included, as a shadow record holds it (R364). -/
def State.shadowCommands (s : State) : List (Nat × W32) :=
  ((List.range 512).filter fun c => s.fmode (c / 16) (c % 16) == 4 || s.fmode (c / 16) (c % 16) == 7).map fun c =>
    (c, ((s.slice (c / 16) (c % 16)).direct).getD (s.slice (c / 16) (c % 16)).cmd)

/-- The output phase for tick t, at t − Wout: forces, the deadlines, the engines, the station engine, the shadow record
(R209, R213, R310, R364). -/
def execOutputPhase (t : W64) (s : State) : Host.Outcome State Fault Refusal :=
  if s.run && s.isTick t.toNat && decide (s.grid.last.toNat < t.toNat) then
    let s0 := s.atTime (t - BitVec.ofNat 64 s.woutNs)
    if s0.pair.role = .active then
      let s1 := s0.forceExec t.toNat
      let s2 := (List.range 12).foldl (fun s j => s.deadlineTest t j) s1
      if s2.pair.role = .active then
        let s3 := [0, 1].foldl (fun s e => s.sendOutputs e t (List.range 1024)) s2
        let s4 := s3.stationOutputs (s3.outputLines t.toNat) t.toNat
        .next ((s4.setGrid { s4.grid with skippedFrom := none }).send (.shadowRecord t s4.shadowCommands))
      else .next s2
    else .next s0
  else .next s

/-! ### Input phase (R209, R210, R213, R217, R221) -/

/-- The item of an input entry: its bytes (R210, R216). -/
def State.inputItem (s : State) (ch item : Nat) : List W8 :=
  let g := ch / 16
  let i := ch % 16
  match item with
  | 0 => toBytes 4 (s.rd (Reg.FCH_VALUE g i)).toNat
  | 1 => toBytes 4 (s.rd (Reg.FCH_STATUS g i)).toNat
  | 2 => toBytes 4 (s.rd (Reg.FCH_RDBK g i)).toNat
  | _ => toBytes 8 (s.slice g i).edge.toNat

/-- What the input phase of engine e writes for tick t, in the order of the entries: the line, the address and the item as it is
latched, or the forced value (R210, R221). -/
def State.latchedInputs (s : State) (e : Nat) (t : W64) : List (Nat × Nat × List W8) :=
  (List.range 1024).filterMap fun i =>
    let b := s.listBank e
    let w0 := s.scanWord e b i 0
    if s.scanValid e i && !bit w0 30 && s.lineTicks (getF w0 26 4) t.toNat then
      some (getF w0 26 4, s.imgBase b + getF (s.scanWord e b i 1) 0 24,
        if bit w0 23 then toBytes 4 (s.forceValue (fidx w0)).toNat else s.inputItem (getF w0 0 9) (getF w0 24 2))
    else none

/-- The items written under the engine's guard: a refused access is a scan overrun and ends the phase (R213), and an engine whose
guard is not enabled stalls before the access (R175). -/
def State.writeInputs (e : Nat) (t : W64) : List (Nat × Nat × List W8) → State → State
  | [], s => s
  | (j, a, d) :: l, s =>
    if !s.guardOn (16 + e) then s.stall (16 + e) (.inputs e t ((j, a, d) :: l))
    else match s.guardCheck (16 + e) false a d.length 2 with
    | some r => (s.guardRefused (16 + e) 2 r).scanOverrun j t
    | none => State.writeInputs e t l (s.store a d)

/-- The input phase of engine e for tick t (R209, R213). -/
def State.readInputs (e : Nat) (t : W64) (s : State) : State := State.writeInputs e t (s.latchedInputs e t) s

/-- Every debounce window that has completed by the sample stamped t (R246, R248). -/
def State.latchFilters (t : Nat) (s : State) : State :=
  (s.slices.filter fun e => e.2.waiting).foldl (fun s e =>
    let g := e.1 / 17 % 32
    let i := e.1 % 17
    if s.filterRuns g i && !s.filterStops g i && s.windowDone g i t then s.filterAccept g i else s) s

/-- The period of the line that a channel's output entry is on, in nanoseconds; G where there is none. -/
def State.outPeriod (s : State) (ch : Nat) : Nat :=
  let e := ch / 256
  match (List.range 1024).find? fun i =>
      s.scanValid e i && bit (s.scanWord e (s.listBank e) i 0) 30 && getF (s.scanWord e (s.listBank e) i 0) 0 9 == ch with
  | some i => s.linePeriod (getF (s.scanWord e (s.listBank e) i 0) 26 4)
  | none => s.gridNs

/-- A command applied by a slice. -/
def State.applyCommand (g i : Nat) (v : W32) (s : State) : State :=
  if s.fmode g i = 4 then s.doApply g i v (if i = 16 then s.gridNs else s.outPeriod (16 * g + i))
  else if s.fmode g i = 7 then s.aoApply g i v
  else s

/-- Every slice applies the command it holds for the tick (R209). -/
def State.applyHeld (s : State) : State :=
  s.slices.foldl (fun s e =>
    let g := e.1 / 17 % 32
    let i := e.1 % 17
    match (s.slice g i).direct with
    | some v =>
      (s.setSlice g i { s.slice g i with direct := none }).applyCommand g i v
    | none => s) s

/-! ### The request for a planned yield (R52, R373) -/

/-- The first epoch boundary at or after x, in nanoseconds. -/
def State.boundaryFrom (s : State) (x : Nat) : Nat := (x + s.epochNs - 1) / max 1 s.epochNs * s.epochNs

/-- The first of the epoch boundaries b, b + E, … before `till` that satisfies p. -/
def firstTick (p : Nat → Bool) (e till : Nat) : Nat → Nat → Option Nat
  | 0, _ => none
  | n + 1, b => if till ≤ b then none else if p b then some b else firstTick p e till n (b + e)

/-- The first epoch boundary in [from + 10 ms, from + 60 s) that satisfies p (R227, R373). -/
def State.searchTick (s : State) (p : Nat → Bool) (start : Nat) : Option Nat :=
  if s.epochNs = 0 then none
  else firstTick (fun b => s.isBoundary b && p b) s.epochNs (start + 60000000000) 120001 (s.boundaryFrom (start + 10000000))

/-- A yield is requested now (R373); a request while a change is MIGRATING waits. -/
def State.yieldTry (s : State) : State :=
  if s.pair.role ≠ .active ∨ s.pair.peer ≠ some .standby ∨ s.pair.peerReady = false ∨ s.anvil.link ≠ .full then s.yieldErr 1
  else if s.pair.yield ≠ .none ∨ s.rdB Reg.ANV_COPY 31 = true ∨ s.rdB Reg.ANV_COPY 30 = true then s.yieldErr 2
  else if s.chgState = 4 then s.setPair { s.pair with yieldWaits := true }
  else
    let s1 := s.setPair { s.pair with yieldWaits := false }
    match s1.searchTick s1.allTick s1.now.toNat with
    | none => s1.yieldErr 6
    | some ty =>
      let s2 := if s1.chgState = 3 then s1.chgAbandon 0x17 else s1
      let ts := ty - s2.epochNs
      (s2.setPair { s2.pair with yield := .preparing, yts := BitVec.ofNat 64 ty, hts := BitVec.ofNat 64 ts }).send
        (.control 4 [ty, ts])

/-- The lever asks for a yield (R52): one that is refused makes REMOVE flash. -/
def State.leverYield (s : State) : State :=
  let s1 := s.yieldTry
  if s.pair.yield = .none ∧ (s1.pair.yield = .preparing ∨ s1.pair.yieldWaits = true) then s1
  else s1.setPower { s1.power with remove := .flash4 }

/-- A yield that waited for a migration is taken up when the change has left MIGRATING (R233, R373); with the lever open its
refusal makes REMOVE flash (R52). -/
def State.yieldRetry (s : State) : State :=
  if s.pair.yieldWaits && s.chgState != 4 then
    let s1 := s.setPair { s.pair with yieldWaits := false }
    if s1.power.lever then s1.leverYield else s1.yieldTry
  else s

/-- Base tick t (R209, R363, R374): the filters stand as their samples up to t leave them; in the Active module every slice
applies its command and the engines write the input images of the lines that tick. The hold before a yield tick lets no
engine write an image. A Standby only keeps its grid aligned. -/
def execGridLatch (t : W64) (s : State) : Host.Outcome State Fault Refusal :=
  if s.run && s.isTick t.toNat && decide (s.grid.last.toNat < t.toNat) then
    let s0 := (s.atTime t).latchFilters t.toNat
    let s1 := ((s0.setGrid { s0.grid with
      last := t, held := false, holding := s0.grid.holding && !s0.isBoundary t.toNat }).wr Reg.SCN_TICK_LO (t.setWidth 32))
    if s1.pair.role = .active then
      let s2 := s1.applyHeld
      let s3 := if s2.yieldHolds then s2
        else [0, 1].foldl (fun s e => s.readInputs e t) s2
      .next (s3.stationInputs t.toNat).yieldRetry
    else .next (s1.stationInputs t.toNat)
  else .next s

/-- The holds of a change end at ts + Win (R229); a tier-15 source waits on while the migration routine of its triad has still to
end. -/
def State.holdsEnd (s : State) : State :=
  s.setChange { s.change with holding := [], routine := s.change.routine.filter fun t => s.isPending (8 + t) || s.holdsSource (8 + t) }

/-- The sources of the lines that tick at t fire at t + Win, with the snapshot t (R208, R209); what a change held for this
tick starts (R229). -/
def execLineTickFire (t : W64) (s : State) : Host.Outcome State Fault Refusal :=
  if s.run && s.grid.last == t then
    let s0 := s.atTime (t + BitVec.ofNat 64 s.winNs)
    let s1 := if s0.change.holdTill.toNat ≤ s0.now.toNat then s0.holdsEnd else s0
    .next ((List.range 12).foldl (fun s j =>
      if s.lineTicks j t.toNat then
        let was := s.isPending (16 + j)
        let s' := s.fire (16 + j)
        if s'.isPending (16 + j) && !was then { s' with tic := sput s'.tic (16 + j) t } else s'
      else s) s1)
  else .next s

/-- At b − H the module begins to hold pending its sources at tiers 1 to 14 that are not grid lines (R358). -/
def execEpochHoldBegin (b : W64) (s : State) : Host.Outcome State Fault Refusal :=
  if s.run && s.pair.role == .active && s.isBoundary b.toNat && decide (s.grid.last.toNat < b.toNat) then
    let s0 := s.atTime (b - BitVec.ofNat 64 s.change.inForce.hold)
    .next (s0.setGrid { s0.grid with holding := true })
  else .next s

/-- A read of `SCN.TICK_LO` (R235). -/
def State.tickLoRead (s : State) : State :=
  (s.wr Reg.SCN_TICK_HI ((s.grid.last >>> 32).setWidth 32)).okResp ((s.grid.last.setWidth 32).setWidth 64)

def execTickLoRead (s : State) : Host.Outcome State Fault Refusal := .next (s.atBlock Reg.SCN_TICK_LO State.tickLoRead)

/-! ### Direct commands (R253, R284) -/

/-- A write of `FCH.CMD` (`ao` false) or `FCH.AO_CMD`: applied at the next base tick, or at once while RUN = 0. -/
def State.directCommand (g i : Nat) (ao : Bool) (v : W32) (s : State) : State :=
  if i = 16 && s.rdB (Reg.FCH_SPARE g) 15 then s
  else if !s.run || (s.pair.claim && (i == 16 || !s.outputListed (16 * g + i))) then
    let a := if ao then Reg.FCH_AO_CMD g i else Reg.FCH_CMD g i
    let s1 := s.wr a (if ao then v else v &&& 1#32)
    if s1.fmode g i = (if ao then 7 else 4) then
      if s1.run then s1.setSlice g i { s1.slice g i with direct := some v } else s1.applyCommand g i v
    else s1
  else s.diagEvt g i 26

def execDirectCommand (g : Fin 32) (i : Fin 17) (ao : Bool) (v : W32) (s : State) : Host.Outcome State Fault Refusal :=
  .next (s.atBlock (Reg.FCH_CFG g i) fun s => s.directCommand g i ao v)

end Sys2Proof.Machine
end

