-- ==== Sys2Proof/Machine/Costs.lean ====
section
/-!
DEFINITION. What a core's access to each target costs (04, R92 to R94). -/
namespace Sys2Proof.Machine

/-- Where bank A or B of a triad lies in the global view (R67). -/
def bankBase (t : Nat) (b : Bool) : Nat := 0x04000000 + t * 0x400000 + b2n b * 0x200000

/-- The performance level of a target. -/
def State.level (s : State) (x : Nat) : Nat := s.freq (s.islandOf x)

/-- The miss bound of DRAM at a level (R94). -/
def dramMiss (l : Nat) : Nat := match l with | 0 => 640 | 1 => 480 | 2 => 320 | _ => 160

/-- The miss bound of the cached target that holds an address; 0 for what is not cached. -/
def missBound (l a : Nat) : Nat := if a < 0x40000 then 64 else if 0x80000000 ≤ a then dramMiss l else 0

/-- A fixed time of R92 in core cycles at a level: `q` at P3, twice, three and four times as many at P2, P1 and P0. -/
def fixedTime (l q : Nat) : Nat := (4 - min l 3) * q

/-- The cost of an access where R92 fixes it: none for the cached targets, and for a store through an alias of an
instruction bank, which R92 does not list. -/
def fixedCost (l a : Nat) (store : Bool) : Option Nat :=
  if 0x01800000 ≤ a ∧ a < 0x01880000 then some 2
  else if 0x01000000 ≤ a ∧ a < 0x01400000 then if store then none else some 3
  else if inWS a then some (fixedTime l 5)
  else if (0x04000000 ≤ a ∧ a < 0x05000000) ∨ (0x05000000 ≤ a ∧ a < 0x05400000 ∧ a % 0x100000 < 0x80000) then
    some (fixedTime l 10)
  else if 0x40000000 ≤ a ∧ a < 0x43C00000 then some (fixedTime l 40)
  else if a < 0x40000 then if store then some (fixedTime l 20) else none
  else if 0x80000000 ≤ a then none
  else some (fixedTime l 20)

/-- An address lies in a locked partition, of the instruction or the data cache, that holds its lines (R94, R206). -/
def State.inPartition (s : State) (x : Nat) (dcp : Bool) (a : Nat) : Bool :=
  match s.ownTriad x with
  | some t =>
    let r := s.rd (if dcp then Reg.TRI_DCP t else Reg.TRI_ICP t)
    let b := getF r 12 20 * 4096
    bit r 0 && bit r 1 && b ≤ a && a < b + partBytes (getF r 4 4)
  | none => false

end Sys2Proof.Machine
end

