-- ==== Sys2Proof/Machine/MigList.lean ====
section
/-!
DEFINITION. What a change descriptor names (08, R224), and the form of migration lists (05, R138, R139). -/
namespace Sys2Proof.Machine

/-! ### What the descriptor names (R224) -/

/-- Word o of entry i of the task table. -/
def State.taskWord (s : State) (i o : Nat) : W32 := BitVec.ofNat 32 (s.peek (s.desc 8 + 32 * i + o) 4)
/-- NTASKS. -/
def State.nTasks (s : State) : Nat := s.desc 0xC
/-- The migration list of a triad; 0 for none. -/
def State.mlist (s : State) (t : Nat) : Nat := s.desc (0x18 + 4 * t)

/-- The length in bytes of the migration list at an address, its end entry included (R138). -/
def State.mlistLen (s : State) (a : Nat) : Nat → Nat
  | 0 => 0
  | n + 1 =>
    let ops := s.peek (a + 0xF) 1
    if s.peek (a + 4) 4 = 0 ∧ ops = 0 then 16 else 16 * (1 + ops) + s.mlistLen (a + 16 * (1 + ops)) n

/-! ### Migration lists (R138, R139) -/

/-- The little-endian word at an offset of some bytes. -/
def wordAt (d : List W8) (o n : Nat) : Nat := ofBytes ((d.drop o).take n)

/-- A migration entry's header (R138). -/
structure MigEntry where
  old : Nat
  new : Nat
  ty : Nat
  ops : Nat
  size : Nat
  deriving DecidableEq, Repr

/-- A header from its 16 bytes; `size` is the new instance's in bytes. -/
def migEntry (d : List W8) : MigEntry :=
  { old := wordAt d 0 4, new := wordAt d 4 4, ty := wordAt d 8 4, ops := wordAt d 15 1, size := 64 * wordAt d 12 3 }

/-- The end entry. -/
def MigEntry.ends (e : MigEntry) : Bool := e.new == 0 && e.ops == 0

/-- The header breaks no rule of R140. -/
def MigEntry.ok (e : MigEntry) : Bool := 0 < e.size && e.size ≤ 64 * 262144 && e.old % 64 == 0 && e.new % 64 == 0

/-- An operation of an entry (R138). -/
structure MigOp where
  op : Nat
  param : Nat
  count : Nat
  dst : Nat
  src : Nat
  chi : Nat
  deriving DecidableEq, Repr

def migOp (d : List W8) : MigOp :=
  let w := wordAt d 0 4
  { op := w / 2 ^ 28, param := w / 2 ^ 24 % 16, count := w % 2 ^ 24, dst := wordAt d 4 4, src := wordAt d 8 4,
    chi := wordAt d 12 4 }

/-- The bytes of an element before and after a conversion (R139). -/
def cvtSizes (p : Nat) : Nat × Nat :=
  match p with
  | 0 => (1, 2)
  | 1 => (2, 4)
  | 2 => (4, 8)
  | 3 => (1, 2)
  | 4 => (2, 4)
  | 5 => (4, 8)
  | 6 => (4, 8)
  | 7 => (8, 4)
  | 8 => (4, 8)
  | _ => (2, 4)

/-- The size, the tag and the place of STATE of a cell that PARAM names (R127, R139). -/
def cellForm (p : Nat) : Nat × Nat × Nat :=
  match p with
  | 0 => (32, 0x544D, 16)
  | 1 => (16, 0x4354, 4)
  | _ => (4, 0x4547, 0)

/-- The bytes that one element takes from the old instance and puts into the new one; single bytes for COPY and ZERO. -/
def MigOp.sizes (o : MigOp) : Nat × Nat :=
  match o.op with
  | 0 => (1, 1)
  | 1 => (0, 1)
  | 2 => (0, 4 * 2 ^ o.param)
  | 3 => cvtSizes o.param
  | _ => ((cellForm o.param).1, (cellForm o.param).1)

/-- The operation is valid under R139. -/
def MigOp.ok (o : MigOp) : Bool :=
  let z := o.sizes
  match o.op with
  | 0 => o.param == 0 && o.chi == 0 && o.count % 4 == 0 && o.dst % 4 == 0 && o.src % 4 == 0
  | 1 => o.param == 0 && o.chi == 0 && o.count % 4 == 0 && o.dst % 4 == 0
  | 2 => o.param ≤ 1 && o.count == 1 && o.dst % z.2 == 0 && (o.param == 1 || o.chi == 0)
  | 3 => o.param ≤ 9 && o.chi == 0 && o.src % z.1 == 0 && o.dst % z.2 == 0
  | 4 => o.param ≤ 2 && o.chi == 0 && o.src % z.1 == 0 && o.dst % z.2 == 0
  | _ => false

/-- A unit of the operation reads the old instance. -/
def MigOp.reads (o : MigOp) : Bool := o.op == 0 || o.op == 3 || o.op == 4

/-- Its offsets lie within the new size, and within the old SIZE where that is read (R140). -/
def MigOp.inside (o : MigOp) (newSize : Nat) (oldSize : Option Nat) : Bool :=
  let z := o.sizes
  o.dst + o.count * z.2 ≤ newSize &&
    (match oldSize with
     | some n => !o.reads || o.src + o.count * z.1 ≤ n
     | none => true)

/-- The unit of a step: source place and bytes, destination place and bytes, and how far progress moves; for COPY and ZERO the
part that lies in one destination line. -/
structure MigUnit where
  sa : Nat
  sn : Nat
  da : Nat
  dn : Nat
  step : Nat
  deriving DecidableEq, Repr

def MigOp.unit (o : MigOp) (e : MigEntry) (prog : Nat) : MigUnit :=
  let z := o.sizes
  let sa := (e.old + o.src + prog * z.1) % 2 ^ 32
  let da := (e.new + o.dst + prog * z.2) % 2 ^ 32
  if o.op ≤ 1 then
    let n := min (64 - da % 64) (o.count - prog)
    { sa := sa, sn := n * z.1, da := da, dn := n, step := n }
  else { sa := sa, sn := z.1, da := da, dn := z.2, step := 1 }

/-- The lines that n bytes from a place span. -/
def linesSpanned (a n : Nat) : Nat := if n = 0 then 0 else (a + n - 1) / 64 - a / 64 + 1

/-- The cycles of a unit beside its accesses (R139). -/
def MigOp.extra (o : MigOp) : Nat := if o.op = 3 then 2 else if o.op = 4 then 1 else 0

end Sys2Proof.Machine
end

