-- ==== Sys2Proof/Machine/Words.lean ====
section
/-!
DEFINITION. Which instruction words decode (R85 to R88, R98, R99, R101, R104 to R116, R121 to R141): strict decoding, for the
command that raises ILLEGAL_INSTRUCTION and for the verification of control code. -/
namespace Sys2Proof.Machine

/-- The major opcode of a word. -/
def major (w : W32) : Nat := getF w 26 6
/-- Bits 25:21, 20:16 and 15:11. -/
def fRd (w : W32) : Nat := getF w 21 5
def fRa (w : W32) : Nat := getF w 16 5
def fRb (w : W32) : Nat := getF w 11 5

/-- A rounding field that is not reserved (R88). -/
def rmLegal (n : Nat) : Bool := n != 5 && n != 6

/-- OPR (R99). -/
def oprLegal (w : W32) : Bool :=
  let fn := getF w 0 9
  let f := bit w 9
  let d := bit w 10
  if fn = 0x00E then fRd w == 0 && !f
  else if fn ≤ 0x00D ∨ (0x010 ≤ fn ∧ fn ≤ 0x012) ∨ (0x014 ≤ fn ∧ fn ≤ 0x017) then true
  else if 0x020 ≤ fn ∧ fn ≤ 0x02E then !f
  else if 0x030 ≤ fn ∧ fn ≤ 0x03E then fRb w == 0 && !f
  else if 0x040 ≤ fn ∧ fn ≤ 0x042 then fRb w == 0 && !f
  else if (0x048 ≤ fn ∧ fn ≤ 0x04A) ∨ (0x04C ≤ fn ∧ fn ≤ 0x04E) then fRb w == 0 && !f && d
  else false

/-- LIMM, first word (R101). -/
def limmLegal (w : W32) : Bool :=
  let d := bit w 11
  getF w 0 11 == 0 &&
    (match getF w 12 4 with
     | 0 => fRa w == 0 && !d
     | 1 => true
     | 2 => true
     | 3 => true
     | 4 => true
     | 5 => fRa w == 0 && !d
     | 6 => !d
     | 7 => fRd w == 0
     | _ => false)

/-- FOP (R109). -/
def fopLegal (w : W32) : Bool :=
  let fn := getF w 0 7
  let rm := getF w 7 3
  let fb := fRb w
  fRd w < 16 && fRa w < 16 && fb < 16 &&
    (if fn ≤ 3 then rmLegal rm
     else if fn = 4 ∨ fn = 0x0C then fb == 0 && rmLegal rm
     else if fn = 5 ∨ fn = 6 then rm == 0
     else if fn ≤ 9 then fb == 0 && rm == 0
     else if fn = 0x0A ∨ fn = 0x0B then fRd w == 0 && rm == 0
     else false)

/-- ILS (R105). -/
def ilsLegal (w : W32) : Bool :=
  let kind := getF w 19 2
  let z := bit w 15
  if kind = 0 then true
  else if kind = 1 then !z
  else !z && 2 ≤ getF w 16 2 && !bit w 25

/-- A word decodes, as the first word of an instruction (R88, R116). -/
def wordLegal (w : W32) : Bool :=
  match major w with
  | 0x00 => oprLegal w
  | 0x01 => true
  | 0x02 => true
  | 0x03 => true
  | 0x04 => true
  | 0x05 => true
  | 0x06 => getF w 6 6 == 0 && (bit w 13 || !bit w 5)
  | 0x07 => getF w 22 4 == 0
  | 0x08 => fRa w == 0
  | 0x0F => limmLegal w
  | 0x10 => !(getF w 14 2 == 3 && bit w 13)
  | 0x11 => !bit w 13
  | 0x12 => getF w 0 7 == 0 && !(getF w 9 2 == 3 && bit w 8)
  | 0x13 => getF w 0 7 == 0 && !bit w 8
  | 0x14 => fRd w < 16 && getF w 13 2 == 0
  | 0x15 => fRd w < 16 && getF w 13 2 == 0
  | 0x16 => ilsLegal w
  | 0x18 => getF w 22 4 != 15
  | 0x19 => true
  | 0x1A => true
  | 0x1B => getF w 12 4 != 15
  | 0x1C => true
  | 0x1D => fRd w != 0
  | 0x20 => fopLegal w
  | 0x21 => fRd w < 16 && fRa w < 16 && fRb w < 16 && getF w 6 5 < 16 && rmLegal (getF w 2 3)
  | 0x22 => getF w 0 9 == 0 && rmLegal (getF w 13 3) && (if bit w 9 then fRd w < 16 else fRa w < 16)
  | 0x23 => getF w 0 14 == 0 && (if bit w 15 then fRd w < 16 else fRa w < 16)
  | 0x27 => fRd w < 16 && getF w 0 20 == 0
  | 0x28 => getF w 12 9 == 0
  | 0x29 =>
    fRa w == 0 && (getF w 12 4 == 1 || (getF w 12 4 == 0 && fRd w == 0 && getF w 0 12 == 0))
  | 0x2A => getF w 9 2 != 3 && getF w 0 9 != 0
  | 0x2B => fRb w == 0 && getF w 0 8 == 0 && (getF w 8 3 == 1 || (getF w 8 3 == 0 && fRa w == 0))
  | 0x2C => getF w 9 2 != 3 && getF w 0 9 != 0
  | 0x2D => getF w 14 2 != 3 && 4 ≤ getF w 0 14
  | 0x30 => getF w 0 9 == 0
  | 0x32 => getF w 0 11 == 0
  | 0x33 => getF w 0 6 == 0 && getF w 6 4 < 10
  | 0x38 => getF w 16 10 == 0
  | 0x39 => getF w 16 10 == 0
  | 0x3A => fRa w == 0 && getF w 0 11 == 0 && fRb w < 7
  | 0x3B => fRd w == 0 && getF w 0 11 == 0 && 1 ≤ fRb w && fRb w ≤ 4
  | 0x3C => getF w 0 26 == 0
  | 0x3D => getF w 0 26 == 0
  | 0x3E => fRd w == 0 && getF w 0 12 == 0 && getF w 12 4 < 5
  | _ => false

/-- A word begins a long-immediate instruction (R85): LIMM or FLI. -/
def wordLong (w : W32) : Bool := major w == 0x0F || major w == 0x27

end Sys2Proof.Machine
end

