-- ==== Sys2Proof/Machine/CodeCheck.lean ====
section
/-!
DEFINITION. The verification of control code (05, R142 to R147, R151; 06, R158): what a body may hold, how its control may
flow, its longest path and its longest step. -/
namespace Sys2Proof.Machine

/-- The first code that applies (R226): the lowest but 0; 0 when none does. -/
def firstCode (l : List Nat) : Nat :=
  l.foldl (fun m c => if c = 0 then m else if m = 0 then c else min m c) 0

/-- The code when a condition fails. -/
def failing (ok : Bool) (code : Nat) : Nat := if ok then 0 else code

/-! ### The charges of R146 -/

/-- What a data access is charged: a load, a store, and one that the guard checks for both. -/
structure Charge where
  load : Nat
  store : Nat
  both : Nat
  deriving DecidableEq, Repr

/-- The places at which a guard's decision, or the target, can change: the bounds of sub-regions, of the targets of R92 and of
the windows that R142 tells apart. -/
def State.guardPlaces (s : State) (m t : Nat) : List Nat :=
  [0, 0x40000, 0x01000000, 0x01200000, 0x01400000, 0x01800000, 0x01880000, 0x04000000, 0x05000000, 0x05080000, 0x05100000,
    0x05180000, 0x05200000, 0x05280000, 0x05300000, 0x05380000, 0x05400000, 0x10000000, 0x12010000, 0x20000000, 0x22000000,
    0x40000000, 0x43C00000, 0x80000000] ++
    ((List.range 16).flatMap fun n =>
      match regionSize (s.rd (Reg.GRD_RATR m n)) with
      | some k => (List.range 9).map fun i => (s.rd (Reg.GRD_RBAR m n)).toNat + i * 2 ^ (k - 3)
      | none => []) ++
    (let r := s.rd (Reg.TRI_DCP t)
     let b := getF r 12 20 * 4096
     [b, b + partBytes (getF r 4 4)])

/-- The fixed cost of a target that control code may use at an address (R92, R142), or none: its own locked partitions count
as locked lines. -/
def State.controlCost (s : State) (l t a kind : Nat) : Option Nat :=
  if s.inPartition t true a then some 2
  else if 0x01000000 ≤ a ∧ a < 0x01400000 then if kind = 1 then some 3 else none
  else if (0x01800000 ≤ a ∧ a < 0x01880000) ∨ inWS a ∨ (0x04000000 ≤ a ∧ a < 0x05000000) ∨
      (0x05000000 ≤ a ∧ a < 0x05400000 ∧ a % 0x100000 < 0x80000) ∨ (0x10000000 ≤ a ∧ a < 0x12010000) ∨
      (0x40000000 ≤ a ∧ a < 0x43C00000) then fixedCost l a (kind != 1)
  else none

/-- The places, of those that tell, to which a guard permits a kind of access. -/
def State.permits (s : State) (m t : Nat) (priv : Bool) (kind : Nat) : List Nat :=
  (s.guardPlaces m t).filter fun a => decide (a < 2 ^ 32) && (s.permitted m priv a kind).1

/-- The guard permits loads or stores outside what R142 allows. -/
def State.guardWide (s : State) (l m t : Nat) (priv : Bool) : Bool :=
  [1, 2].any fun kind => (s.permits m t priv kind).any fun a => (s.controlCost l t a kind).isNone

/-- The charge of one kind of access: the highest cost among what the guard permits, or the MRAM cost (R146). -/
def State.chargeOf (s : State) (l m t : Nat) (priv : Bool) (kind : Nat) : Nat :=
  ((s.permits m t priv kind).filterMap fun a => s.controlCost l t a kind).max?.getD (fixedTime l 40)

def State.charges (s : State) (l m t : Nat) (priv : Bool) : Charge :=
  { load := s.chargeOf l m t priv 1, store := s.chargeOf l m t priv 2, both := s.chargeOf l m t priv 3 }

/-! ### One instruction -/

/-- The cost of an OPR (R99). -/
def oprCost (w : W32) : Nat :=
  let fn := getF w 0 9
  let d := bit w 10
  if fn = 0x010 then if d then 4 else 3
  else if fn = 0x011 ∨ fn = 0x012 then if d then 5 else 4
  else if 0x014 ≤ fn ∧ fn ≤ 0x017 then if d then 34 else 18
  else 1

/-- The cost of a FOP (R109). -/
def fopCost (w : W32) : Nat :=
  let d := bit w 10
  match getF w 0 7 with
  | 0x00 => 4
  | 0x01 => 4
  | 0x02 => if d then 5 else 4
  | 0x03 => if d then 20 else 12
  | 0x04 => if d then 24 else 14
  | 0x05 => 4
  | 0x06 => 4
  | 0x0A => 2
  | 0x0B => 2
  | 0x0C => 3
  | _ => 1

/-- The cost of an instruction that does not branch, or branches always, with its accesses charged (R99 to R115, R121 to
R141, R146). -/
def wordCost (ch : Charge) (w : W32) : Nat :=
  match major w with
  | 0x00 => oprCost w
  | 0x0F => 2
  | 0x10 => ch.load
  | 0x11 => ch.store
  | 0x12 => ch.load
  | 0x13 => ch.store
  | 0x14 => ch.load
  | 0x15 => ch.store
  | 0x16 => if bit w 19 then ch.store else ch.load
  | 0x19 => 3
  | 0x1A => 4
  | 0x20 => fopCost w
  | 0x21 => if bit w 5 then 6 else 5
  | 0x22 => 3
  | 0x27 => 2
  | 0x28 => ch.load + 7
  | 0x29 => if getF w 12 4 = 0 then 4 else ch.load + 5
  | 0x2A => 2 * ch.both + 6
  | 0x2B => 2
  | 0x2C => 2 * ch.both + 4
  | 0x2D => 2 * ch.both + 3
  | 0x33 => 2 * ch.store + 2
  | 0x3B => 2
  | _ => 1

/-- The cost of one unit of BMOV (R137). -/
def moveCost (ch : Charge) (w : W32) : Nat := if bit w 9 then ch.store else ch.load + ch.store

/-- The instruction can raise an exception of its own: an access, a division, a return from a block, a jump, or what U mode
may not do. -/
def mayRaise (w : W32) : Bool :=
  let mj := major w
  (0x10 ≤ mj && mj ≤ 0x16) || mj == 0x1A || mj == 0x28 || mj == 0x29 || mj == 0x2A || mj == 0x2C || mj == 0x2D || mj == 0x30 ||
    mj == 0x33 || mj == 0x3B || (mj == 0 && 0x014 ≤ getF w 0 9 && getF w 0 9 ≤ 0x017)

/-- The general registers that an instruction writes; g0 aside. -/
def wordWrites (w : W32) : List Nat :=
  let l := match major w with
    | 0x00 => if getF w 0 9 = 0x00E then [] else [fRd w]
    | 0x0F => if getF w 12 4 = 7 then [] else [fRd w]
    | 0x10 => [fRd w]
    | 0x12 => [fRd w]
    | 0x16 => if getF w 19 2 = 0 then [fRd w] else []
    | 0x19 => [31]
    | 0x1A => [fRd w]
    | 0x1D => [fRd w]
    | 0x22 => if bit w 9 then [] else [fRd w]
    | 0x23 => if bit w 15 then [] else [fRd w]
    | 0x2A => [fRd w]
    | 0x2B => [fRd w]
    | 0x2C => [fRd w]
    | 0x2D => [fRd w]
    | 0x30 => if bit w 9 then [fRd w, fRb w] else [fRd w, fRa w, fRb w]
    | 0x33 => [fRd w]
    | 0x3A => [fRd w]
    | n => if (1 ≤ n ∧ n ≤ 6) ∨ n = 8 then [fRd w] else []
  l.filter fun r => r != 0

/-- The target of a branch by a displacement of n bits of words (R106). -/
def relTarget (a : Nat) (w : W32) (n : Nat) : Nat := (a + 4 * (sext 32 n (getF w 0 n)).toNat) % 2 ^ 32

/-- The target of a conditional branch. -/
def branchTarget (a : Nat) (w : W32) : Option Nat :=
  match major w with
  | 0x18 => some (relTarget a w 22)
  | 0x1B => some (relTarget a w 12)
  | 0x1C => some (relTarget a w 20)
  | 0x1D => some (relTarget a w 21)
  | _ => none

/-- One way on from an instruction: to an address, or back to the caller; at a cost; by a branch taken. -/
structure Edge where
  dest : Option Nat
  cost : Nat
  taken : Bool
  deriving DecidableEq, Repr

/-- An instruction returns: JALR, which R142 admits in one form only, and FBRET. -/
def returns (w : W32) : Bool := major w == 0x1A || (major w == 0x29 && getF w 12 4 == 0)

/-- The ways on from the instruction at a (R106, R147); none from a word that does not decode. -/
def edgesOf (ch : Charge) (a : Nat) (w : W32) : List Edge :=
  if !wordLegal w then []
  else if returns w then [{ dest := none, cost := wordCost ch w, taken := false }]
  else
    let nxt := a + if wordLong w then 8 else 4
    match branchTarget a w with
    | some d =>
      if major w = 0x18 ∧ getF w 22 4 = 14 then [{ dest := some d, cost := 3, taken := true }]
      else [{ dest := some d, cost := 3, taken := true }, { dest := some nxt, cost := 1, taken := false }]
    | none => [{ dest := some nxt, cost := wordCost ch w, taken := false }]

/-! ### One body: a task, a function or a block -/

/-- The word at an address of the active-bank alias, as the bank under test has it. -/
def State.codeWord (s : State) (base a : Nat) : W32 := BitVec.ofNat 32 (s.peek (base + (a - 0x01000000)) 4)

/-- An address is where code may lie (R120): both words of a long form below the type table. -/
def State.codePlace (s : State) (base a : Nat) : Bool :=
  0x01000000 ≤ a && a < 0x011F0000 && a % 4 == 0 && (!wordLong (s.codeWord base a) || decide (a + 4 < 0x011F0000))

/-- An address put into a rising list. -/
def insertAddr (a : Nat) : List Nat → List Nat
  | [] => [a]
  | b :: l => if a < b then a :: b :: l else if a = b then b :: l else b :: insertAddr a l

/-- The instructions that control reaches inside a body, from a list of addresses on. -/
def State.reach (s : State) (base : Nat) : Nat → List Nat → List Nat → List Nat
  | 0, _, seen => seen
  | _ + 1, [], seen => seen
  | n + 1, a :: todo, seen =>
    if seen.contains a || !s.codePlace base a then s.reach base n todo seen
    else
      s.reach base n ((edgesOf { load := 0, store := 0, both := 0 } a (s.codeWord base a)).filterMap Edge.dest ++ todo)
        (insertAddr a seen)

/-- An instruction of a body, with its ways on, and of the body that it calls: the worst case and the registers written. -/
structure Node where
  pc : Nat
  w : W32
  edges : List Edge
  extra : Nat
  writes : List Nat
  deriving DecidableEq, Repr

/-- What kind of body. -/
inductive BodyKind where
  | task
  | function
  | block
  deriving DecidableEq, Repr

/-- What the check of a body gives: the first failing code, its worst case, its longest step, the registers that it and what
it calls write, the depth of blocks below it, the instructions, with their lengths, of it and of what it calls, and the bodies
among these: kind, entry and the addresses that control reaches. -/
structure Body where
  code : Nat
  wcet : Nat
  step : Nat
  writes : List Nat
  depth : Nat
  insns : List (Nat × Nat)
  parts : List (BodyKind × Nat × List Nat)
  deriving DecidableEq, Repr

/-- The instruction before an address. -/
def before (ns : List Node) (a : Nat) : Option Node :=
  ns.find? fun n => n.pc + (if wordLong n.w then 8 else 4) == a

/-- K of the constant form (R144): ADDI r, g0, K or LIMM MOV r, K, K at least 1, immediately before an address. -/
def constBefore (imm : Nat → Nat) (ns : List Node) (a r : Nat) : Option Nat :=
  match before ns a with
  | some n =>
    let k : Int :=
      if major n.w = 0x01 ∧ fRa n.w = 0 ∧ fRd n.w = r then sextN 16 (getF n.w 0 16)
      else if major n.w = 0x0F ∧ getF n.w 12 4 = 0 ∧ fRd n.w = r then sextN 32 (imm n.pc)
      else 0
    if 1 ≤ k then some k.toNat else none
  | none => none

/-- The bound K of the loop with head h whose DBNZ, on register r, stands at d (R144). -/
def loopBound (imm : Nat → Nat) (ns : List Node) (h d r : Nat) : Option Nat :=
  match constBefore imm ns h r with
  | some k => some k
  | none =>
    match before ns h with
    | some z =>
      if major z.w = 0x1C ∧ fRd z.w = r ∧ !bit z.w 20 ∧ relTarget z.pc z.w 20 = d + 4 then
        match before ns z.pc with
        | some m =>
          if major m.w = 0x00 ∧ getF m.w 0 9 = 0x00C ∧ bit m.w 10 ∧ fRd m.w = r then constBefore imm ns m.pc (fRb m.w) else none
        | none => none
      else none
    | none => none

/-- A loop: head, DBNZ, counter register and bound. -/
structure Loop where
  head : Nat
  last : Nat
  reg : Nat
  bound : Nat
  deriving DecidableEq, Repr

/-- The back edges of a body (R143): from the address, to the address. -/
def backEdges (ns : List Node) : List (Node × Nat) :=
  ns.flatMap fun n => n.edges.filterMap fun e =>
    match e.dest with
    | some d => if e.taken ∧ d ≤ n.pc then some (n, d) else none
    | none => none

/-- The loops of a body; a back edge of another form is none. -/
def loopsOf (imm : Nat → Nat) (ns : List Node) : List Loop :=
  (backEdges ns).filterMap fun (n, h) =>
    if major n.w = 0x1D then (loopBound imm ns h n.pc (fRd n.w)).map fun k => { head := h, last := n.pc, reg := fRd n.w, bound := k }
    else none

/-- Two loops are the same, apart, or one inside the other (R143). -/
def Loop.nests (a b : Loop) : Bool :=
  a == b || decide (a.last < b.head) || decide (b.last < a.head) || (decide (a.head < b.head) && decide (b.last < a.last)) ||
    (decide (b.head < a.head) && decide (a.last < b.last))

/-- An address lies in a loop. -/
def Loop.holds (l : Loop) (a : Nat) : Bool := l.head ≤ a && a ≤ l.last

/-- The loop is entered only at its head, by falling through (R143). -/
def Loop.enteredWell (l : Loop) (entry : Nat) (ns : List Node) : Bool :=
  !l.holds entry && ns.all fun n => l.holds n.pc || n.edges.all fun e =>
    match e.dest with
    | some d => !l.holds d || (d == l.head && !e.taken)
    | none => true

/-- Nothing in the loop, and nothing called from it, writes its counter but the DBNZ (R143). -/
def Loop.counterKept (l : Loop) (ns : List Node) : Bool :=
  ns.all fun n => !l.holds n.pc || n.pc == l.last || !(wordWrites n.w ++ n.writes).contains l.reg

/-! ### The longest path (R147) -/

/-- A loop replaced by one node: its head, its DBNZ, its cost and where its out-edges lead. -/
structure Collapsed where
  head : Nat
  last : Nat
  cost : Nat
  exits : List (Option Nat)
  deriving DecidableEq, Repr

/-- The longest cost from a way on: beyond [lo, hi] it is the way's own cost. -/
def onward (bounds : Option (Nat × Nat)) (val : List (Nat × Nat)) (dest : Option Nat) (cost : Nat) : Option Nat :=
  match dest with
  | none => some cost
  | some d =>
    match bounds with
    | some (lo, hi) => if d < lo ∨ hi < d then some cost else (look d val).map fun v => v + cost
    | none => (look d val).map fun v => v + cost

/-- The longest path through nodes given in falling order, inner loops collapsed; within a loop's body up to its DBNZ, whose own
cost does not count, or to a return. -/
def longest (coll : List Collapsed) (bounds : Option (Nat × Nat)) : List Node → List (Nat × Nat) → List (Nat × Nat)
  | [], val => val
  | n :: ns, val =>
    let v :=
      if bounds.any (fun b => n.pc < b.1 || b.2 < n.pc) then none
      else if bounds.any (fun b => n.pc == b.2) then some 0
      else if coll.any (fun c => c.head < n.pc && n.pc ≤ c.last) then none
      else
        match coll.find? fun c => c.head == n.pc with
        | some c => (c.exits.filterMap fun d => onward bounds val d c.cost).max?
        | none => (n.edges.filterMap fun e => onward bounds val e.dest (e.cost + n.extra)).max?
    longest coll bounds ns (match v with
      | some v => (n.pc, v) :: val
      | none => val)

/-- A loop collapsed, those inside it being so already. -/
def collapse (down : List Node) (coll : List Collapsed) (l : Loop) : List Collapsed :=
  let b := (look l.head (longest coll (some (l.head, l.last)) down [])).getD 0
  let exits := (down.filter fun n => l.holds n.pc).flatMap fun n => (n.edges.map Edge.dest).filter fun d =>
    match d with
    | some a => !l.holds a
    | none => true
  { head := l.head, last := l.last, cost := l.bound * b + (l.bound - 1) * 3 + 1, exits := exits } :: coll

/-- A loop put among loops by its length, the shorter first: an inner loop before the one around it. -/
def insertLoop (l : Loop) : List Loop → List Loop
  | [] => [l]
  | m :: r => if l.last - l.head ≤ m.last - m.head then l :: m :: r else m :: insertLoop l r

/-- The worst case of a body from its entry to its return. -/
def worstCase (entry : Nat) (down : List Node) (loops : List Loop) : Nat :=
  let coll := (loops.foldr insertLoop []).foldl (collapse down) []
  (look entry (longest coll none down [])).getD 0

/-! ### The rules of a body -/

/-- An instruction that control code may not hold (R142). -/
def banned (w : W32) : Bool :=
  let mj := major w
  mj == 0x38 || mj == 0x39 || mj == 0x3C || mj == 0x3D || mj == 0x3E || mj == 0x32 ||
    (mj == 0x3B && 2 ≤ fRb w && fRb w ≤ 4) ||
    (mj == 0x1A && !(fRd w == 0 && fRa w == 31 && getF w 0 16 == 0))

/-- An instruction breaks the call rules of a kind of body (R145). -/
def breaksCalls (k : BodyKind) (w : W32) : Bool :=
  let mj := major w
  match k with
  | .task => mj == 0x29 && getF w 12 4 == 0
  | .function => mj == 0x19 || mj == 0x28 || (mj == 0x29 && getF w 12 4 == 0) || (wordWrites w).contains 31
  | .block => mj == 0x1A

/-- A place that control reaches and where no code may lie: in the type-table area (R142), or nowhere in the code (R143). -/
def State.placeCode (s : State) (base a : Nat) : Nat :=
  if s.codePlace base a then 0
  else if 0x01000000 ≤ a ∧ a < 0x01200000 ∧ a % 4 = 0 then 0x02
  else 0x03

/-- The entry of a type in the bank under test, when it is valid (R120, R145). -/
def State.typeEntry (s : State) (base n : Nat) : Option Nat :=
  let e := (s.codeWord base (0x011F0000 + 16 * n)).toNat
  if s.codeWord base (0x011F000C + 16 * n) = 1 ∧ e % 4 = 0 ∧ 0x01000000 ≤ e ∧ e ≤ 0x011EFFFC then some e else none

/-- The body that an instruction calls. -/
def State.callee (s : State) (base a : Nat) (w : W32) : Option (BodyKind × Nat) :=
  if major w = 0x19 then some (.function, relTarget a w 26)
  else if major w = 0x28 then (s.typeEntry base (getF w 0 12)).map fun e => (.block, e)
  else none

/-- The code of one instruction by itself (R142, R145). -/
def State.wordCode (s : State) (base : Nat) (k : BodyKind) (w : W32) : Nat :=
  firstCode [failing (wordLegal w) 0x01, failing (!banned w) 0x02, failing (!breaksCalls k w) 0x07,
    failing (major w != 0x28 || (s.typeEntry base (getF w 0 12)).isSome) 0x09]

/-- BMOV in the constant form of R144: the count, when it is. -/
def moveCount (imm : Nat → Nat) (ns : List Node) (n : Node) : Option Nat :=
  let u := if bit n.w 10 then 64 else 8
  match constBefore imm ns n.pc (fRb n.w) with
  | some k =>
    if k % u = 0 ∧ (ns.all fun m => m.edges.all fun e => !(e.taken && e.dest == some n.pc)) then some (k / u) else none
  | none => none

/-- The node of a BMOV charged for its whole move (R137). -/
def moveNode (imm : Nat → Nat) (ch : Charge) (ns : List Node) (n : Node) : Node :=
  if major n.w = 0x30 ∧ wordLegal n.w then
    { n with edges := [{ dest := some (n.pc + 4), cost := 2 + (moveCount imm ns n).getD 0 * moveCost ch n.w, taken := false }] }
  else n

/-- The longest step of an instruction, with exception entry where it can raise one (R158). -/
def stepCost (ch : Charge) (n : Node) : Nat :=
  let c := if major n.w = 0x30 then moveCost ch n.w else (n.edges.map Edge.cost).foldl max 0
  c + if mayRaise n.w then 10 else 0

/-- A body checked, callees first; beyond the depth that R145 allows the call rule is broken. -/
def State.checkBody (s : State) (base : Nat) (ch : Charge) : Nat → BodyKind → Nat → Body
  | 0, _, _ => { code := 0x07, wcet := 0, step := 0, writes := [], depth := 0, insns := [], parts := [] }
  | fuel + 1, kind, entry =>
    let at' := s.reach base (2 ^ 21) [entry] []
    let imm (a : Nat) : Nat := (s.codeWord base (a + 4)).toNat
    let calls := at'.filterMap fun a => (s.callee base a (s.codeWord base a)).map fun k => (a, k.1, s.checkBody base ch fuel k.1 k.2)
    let raw := at'.map fun a =>
      let w := s.codeWord base a
      match calls.find? fun c => c.1 == a with
      | some (_, _, b) => { pc := a, w := w, edges := edgesOf ch a w, extra := b.wcet, writes := b.writes : Node }
      | none => { pc := a, w := w, edges := edgesOf ch a w, extra := 0, writes := [] }
    let ns := raw.map (moveNode imm ch raw)
    let loops := loopsOf imm ns
    let code := firstCode
      (s.placeCode base entry ::
        ns.map (fun n => s.wordCode base kind n.w) ++
        ns.flatMap (fun n => n.edges.map fun e =>
          match e.dest with
          | some d => s.placeCode base d
          | none => 0) ++
        [failing ((backEdges ns).length == loops.length) 0x04,
          failing (loops.all fun a => loops.all fun b => a.nests b) 0x05,
          failing (loops.all fun l => l.enteredWell entry ns) 0x05,
          failing (loops.all fun l => l.counterKept ns) 0x06,
          failing (raw.all fun n => major n.w != 0x30 || (moveCount imm raw n).isSome) 0x08] ++
        calls.map fun c => c.2.2.code)
    { code := code
      wcet := worstCase entry ns.reverse loops
      step := (ns.map (stepCost ch) ++ calls.map fun c => c.2.2.step).foldl max 0
      writes := ns.flatMap (fun n => wordWrites n.w) ++ calls.flatMap fun c => c.2.2.writes
      depth := (calls.map fun c => c.2.2.depth + (if c.2.1 = .block then 1 else 0)).foldl max 0
      insns := ns.map (fun n => (n.pc, if wordLong n.w then 8 else 4)) ++ calls.flatMap fun c => c.2.2.insns
      parts := (kind, entry, at') :: calls.flatMap fun c => c.2.2.parts }

/-- No instruction is the second word of another (R143). -/
def wordsApart (l : List (Nat × Nat)) : Bool := l.all fun i => i.2 != 8 || l.all fun j => j.1 != i.1 + 4

/-- Functions are entered only by BL and blocks only by FBCALL (R145): no other body reaches their instructions. -/
def bodiesApart (l : List (BodyKind × Nat × List Nat)) : Bool :=
  l.all fun p => p.1 == .task || l.all fun q => (p.1 == q.1 && p.2.1 == q.2.1) || q.2.2.all fun a => !p.2.2.contains a

/-- The control code of a task checked from its entry (R142 to R147). -/
def State.checkTask (s : State) (base : Nat) (ch : Charge) (entry : Nat) : Body :=
  let b := s.checkBody base ch 19 .task entry
  { b with code := firstCode [b.code, failing (wordsApart b.insns) 0x03, failing (b.depth ≤ 16) 0x07] }

end Sys2Proof.Machine
end

