-- ==== Sys2Proof/Machine/LoadCheck.lean ====
section
/-!
DEFINITION. The checks of a configuration (08, R224 to R226): the task table and its response times (05, R148, R152; 06, R158;
13, R358), the write set (R149), migration lists (R150), scan lists, the grid and the slices (R207 to R216, R240, R273), and
stations (11, R309 to R315; 12, R336). Times are counted in 24ths of a nanosecond, in which a core cycle is whole at every
level. -/
namespace Sys2Proof.Machine

/-! ### Tasks (R224, R208, R211) -/

/-- One entry of the task table; `period` is U of R211 for a grid source, the minimum interval for any other. -/
structure Task where
  src : Nat
  tier : Nat
  target : Nat
  priv : Bool
  entry : Nat
  declared : Nat
  grid : Bool
  n : Nat
  phase : Nat
  period : Nat
  deriving DecidableEq, Repr

/-- A nanosecond, in 24ths. -/
def perNs : Nat := 24

/-- A core cycle at a level, in 24ths of a nanosecond (R381). -/
def perCycle (l : Nat) : Nat :=
  match l with
  | 0 => 15
  | 1 => 20
  | 2 => 30
  | _ => 60

/-- Entry i of the task table. -/
def State.task (s : State) (i : Nat) : Task :=
  let w := s.taskWord i 0
  let x := s.taskWord i 0xC
  let src := getF w 0 8
  let grid := 16 ≤ src && src < 28
  { src := src, tier := getF w 24 4, target := getF w 16 5, priv := bit w 31, entry := (s.taskWord i 4).toNat,
    declared := (s.taskWord i 0x10).toNat, grid := grid, n := getF x 0 10, phase := getF x 16 10,
    period := if grid then (getF x 0 10 * s.gridNs - s.winNs - s.woutNs) * perNs else x.toNat * 1000 * perNs }

/-- The tasks of the change. -/
def State.tasks (s : State) : List Task := (List.range (min 256 s.nTasks)).map s.task

/-- A control task: tiers 1 to 14 (R142). -/
def Task.control (k : Task) : Bool := 1 ≤ k.tier && k.tier ≤ 14

/-- The line of a change: N and Φ of its grid task, or of the line as it stands where its source is in neither table; none for a
line that does not tick then (R208, R231). -/
def State.newLine (s : State) (j : Nat) : Option (Nat × Nat) :=
  match s.tasks.find? fun k => k.src == 16 + j with
  | some k => some (k.n, k.phase)
  | none =>
    if (look (16 + j) s.change.inForce.resp).isNone && s.lineOn j then
      some (s.lineN j, s.rdF (Reg.SCN_LINE j) 16 10)
    else none

/-- The period of a line of the change in nanoseconds; 0 for one that does not tick. -/
def State.newPeriod (s : State) (j : Nat) : Nat :=
  match s.newLine j with
  | some (n, _) => n * s.gridNs
  | none => 0

/-! ### The task table and the directory (R224, R226 code 0x12) -/

/-- An entry of the task table is well formed. -/
def State.taskOk (s : State) (i : Nat) : Bool :=
  let w := s.taskWord i 0
  let x := s.taskWord i 0xC
  let k := s.task i
  getF w 28 3 == 0 && getF w 21 3 == 0 && getF w 8 8 == 0 && !(4 ≤ k.target && k.target ≤ 15) &&
    (0x01000000 ≤ k.entry && k.entry < 0x01200000 && k.entry % 4 == 0) &&
    (!k.grid || (getF x 26 6 == 0 && getF x 10 6 == 0 && 1 ≤ k.n && k.n ≤ 1000 && k.phase < k.n)) &&
    s.taskWord i 0x14 == 0 && s.taskWord i 0x18 == 0 && s.taskWord i 0x1C == 0

/-- An area lies in the working store. -/
def wsArea (a n : Nat) : Bool := 0x20000000 ≤ a && a + n ≤ 0x22000000

/-- The descriptor can be read, and names 1 to 256 tasks and a directory, in the working store. -/
def State.descReadable (s : State) : Bool :=
  wsArea (s.rd Reg.SCN_CHG_DESC).toNat 64 && 1 ≤ s.nTasks && s.nTasks ≤ 256 && wsArea (s.desc 8) (32 * s.nTasks) &&
    (s.desc 0x14 == 0 || wsArea (s.desc 0x10) (16 * s.desc 0x14))

/-- Word o of entry i of the new directory. -/
def State.dirWord (s : State) (i o : Nat) : W32 := BitVec.ofNat 32 (s.peek (s.desc 0x10 + 16 * i + o) 4)

/-- No two of a list are the same. -/
def allDistinct (l : List Nat) : Bool := l.eraseDups.length == l.length

/-- The descriptor, the task table and the directory keep their forms (R224). -/
def State.tablesOk (s : State) : Bool :=
  s.desc 4 < 16 && (List.range 5).all (fun i => s.desc (0x2C + 4 * i) == 0) &&
    (List.range s.nTasks).all s.taskOk && allDistinct (s.tasks.map Task.src) &&
    (List.range (s.desc 0x14)).all (fun i => getF (s.dirWord i 8) 16 13 == 0 && s.dirWord i 0xC == 0) &&
    allDistinct ((List.range (s.desc 0x14)).map fun i => (s.dirWord i 0).toNat)

/-! ### Response times (R148, R158) -/

/-- The least fixed point of R148 from `r` on, or none when the bound is passed. `base` is C + B, `others` the interfering
tasks with their periods and C + O, `limit` the period. -/
def respond (limit base : Nat) (others : List (Nat × Nat)) : Nat → Nat → Option Nat
  | 0, _ => none
  | n + 1, r =>
    let next := base + (others.map fun o => (r + o.1 - 1) / o.1 * o.2).sum
    if 499 * limit < 500 * next + 1000000 * perNs then none
    else if next = r then some r
    else respond limit base others n next

/-- Bu of R158: U mode or S mode. -/
def tierZero (l : Nat) (priv : Bool) : Nat :=
  match l with
  | 0 => if priv then 329344 else 1940
  | 1 => if priv then 247264 else 1460
  | 2 => if priv then 165184 else 980
  | _ => if priv then 83104 else 500

/-- The modes of the tier-0 sources that target a triad under the change: those of its task table, and enabled ones that are
in neither table (R158). A source that is not enabled starts nothing and is not counted, and without any tier-0 source there
is no tier-0 work to bound (DESIGN CHOICE, notes/assumptions/125.md). -/
def State.tierZeroModes (s : State) (t : Nat) : List Bool :=
  (s.tasks.filter fun k => k.target == t && k.tier == 0).map Task.priv ++
    ((List.range 256).filter fun n =>
      s.srcEn n && s.srcTarget n == t && s.srcTier n == 0 && (look n s.change.inForce.resp).isNone &&
        s.tasks.all fun k => k.src != n).map fun n => s.rdB (Reg.TIC_SRC_CFG n) 26

/-- A control task with the longest step of its code. -/
abbrev Stepped := Task × Nat

/-- B of R158 for a task, in cycles. -/
def State.blocking (s : State) (l : Nat) (all : List Stepped) (k : Task) : Nat :=
  let lower := (all.filter fun o => o.1.target == k.target && o.1.control && o.1.tier < k.tier).map Prod.snd
  let modes := s.tierZeroModes k.target
  let bu := if modes = [] then [] else [tierZero l (modes.contains true)]
  (lower ++ bu).foldl max 36

/-- The response bound of a control task (R148), with more blocking; none when it passes the period less its margin. -/
def State.response (s : State) (l : Nat) (all : List Stepped) (more : Nat) (k : Task) : Option Nat :=
  let c := perCycle l
  let others := (s.tasks.filter fun o => o.src != k.src && o.target == k.target && k.tier ≤ o.tier).map fun o =>
    (o.period, (o.declared + 72) * c)
  if k.period = 0 ∨ others.any (fun o => o.1 == 0) then none
  else
    let base := (k.declared + s.blocking l all k) * c + more
    respond k.period base others (k.period + 1) base

/-! ### The code of one triad at a level (R142 to R148, R152) -/

/-- What the check of a triad's tasks at a level gives: the first failing code up to 0x0B, its control tasks with their longest
steps, and their response bounds by source. -/
structure TriadCheck where
  code : Nat
  steps : List Stepped
  resp : List (Nat × Nat)
  deriving DecidableEq, Repr

/-- The bank under test of a triad: the inactive one where it swaps (R226). -/
def State.testBank (s : State) (t : Nat) : Nat := bankBase t ((s.triad t).bankB != (s.desc 4).testBit t)

/-- The tasks of a triad checked at a level. A triad that is split, or is to be, carries no control task (R200). -/
def State.checkTriad (s : State) (t l : Nat) : TriadCheck :=
  let m := s.targetMaster t
  let mine := s.tasks.filter fun k => k.target == t && k.control
  let bodies := mine.map fun k => (k, s.checkTask (s.testBank t) (s.charges l m t k.priv) k.entry)
  let steps := bodies.map fun b => (b.1, max 36 b.2.step)
  let resp := mine.map fun k => (k.src, s.response l steps 0 k)
  let code := firstCode
    (failing (mine == [] || (s.joined t && !s.rdB (Reg.TRI_STATE t) 30)) 0x02 ::
      failing (bodiesApart (bodies.flatMap fun b => b.2.parts)) 0x07 ::
      bodies.flatMap (fun b => [b.2.code, failing (!s.guardWide l m t b.1.priv) 0x02, failing (b.2.wcet ≤ b.1.declared) 0x0A]) ++
      resp.map fun r => failing r.2.isSome 0x0B)
  { code := code, steps := steps, resp := resp.filterMap fun r => r.2.map fun q => (r.1, q) }

/-! ### Write set (R149) -/

/-- A number put into a rising list. -/
def insertPlace (a : Nat) (l : List Nat) : List Nat := insertAddr a l

/-- The masters that R149 counts, with the mode of their accesses: control tasks, the engines, and every DMA channel, since
nothing in the module says which of them serve control (notes/assumptions/41.md). -/
def State.writers (s : State) : List (Nat × Bool) :=
  ((s.tasks.filter fun k => k.control && k.target < 4).map fun k => (s.targetMaster k.target, k.priv)) ++
    [16, 17, 18, 19].map (fun m => (m, false)) ++ (List.range 16).map fun c => (32 + c, false)

/-- The lines that intervals cover, those below `next` being counted already. -/
def countLines (may : Nat → Bool) : List Nat → Nat → Nat
  | a :: b :: l, next =>
    if may a then
      let lo := max next (a / 64)
      let hi := (b + 63) / 64
      hi - lo + countLines may (b :: l) (max next hi)
    else countLines may (b :: l) next
  | _, _ => 0

/-- The size of the write set in bytes. -/
def State.writeSet (s : State) : Nat :=
  let ws := s.writers
  let places := ((ws.flatMap fun (m : Nat × Bool) => s.guardPlaces m.1 0) ++ [0x20000000, 0x22000000]).filter fun a =>
    0x20000000 ≤ a && a ≤ 0x22000000
  64 * countLines (fun a => ws.any fun (m : Nat × Bool) => (s.permitted m.1 m.2 a 2).1) (places.foldr insertPlace []) 0

/-- The epoch limit in bytes (R149). -/
def State.epochLimit (s : State) : Nat := 5242880 * min s.epochNs 1000000 / 1000000

/-! ### Migration lists (R150) -/

/-- The cost of an operation's steps from a progress on, at the source's, the destination's and the list's access costs (R139,
R140). -/
def MigOp.total (o : MigOp) (e : MigEntry) (cs cd ad : Nat) (first : Bool) : Nat → Nat → Nat
  | 0, _ => 0
  | n + 1, prog =>
    let u := o.unit e prog
    let unitCost := if o.count = 0 then 0 else cs * linesSpanned u.sa u.sn + cd + o.extra
    let step := 2 + 2 * ad + (if o.reads ∨ (first ∧ prog = 0) then cs else 0) + unitCost
    if o.count ≤ prog + max 1 u.step then step else step + o.total e cs cd ad first n (prog + max 1 u.step)

/-- The source cells of a CELL operation carry the tag that PARAM names (R150). -/
def State.cellTags (s : State) (o : MigOp) (e : MigEntry) : Bool :=
  o.op != 4 ||
    (let f := cellForm o.param
     (List.range o.count).all fun i => s.peek (e.old + o.src + i * f.1 + f.2.2 + 2) 2 == f.2.1)

/-- The operations of an entry: valid, and their cost; none when one is not. -/
def State.migOps (s : State) (e : MigEntry) (oldSize a cs : Nat) (first : Bool) : Nat → Option Nat
  | 0 => some 0
  | n + 1 =>
    let o := migOp (s.bytes a 16)
    if o.ok && o.inside e.size (some oldSize) && s.cellTags o e then
      (s.migOps e oldSize (a + 16) cs false n).map fun c => c + o.total e cs cs cs first (o.count + 1) 0
    else none

/-- A migration list in the working store, of at most n entries: its cost in cycles with accesses at `cs`, and the bytes of its
new instances; none when it is invalid. `seen` holds the new instances so far. -/
def State.migList (s : State) (cs : Nat) : Nat → Nat → List (Nat × Nat) → Option (Nat × Nat)
  | 0, _, _ => none
  | n + 1, a, seen =>
    let e := migEntry (s.bytes a 16)
    if !(wsArea a 16 && a % 16 == 0) then none
    else if e.ends then some (2 + cs, 0)
    else
      let oldSize := s.peek (e.old + 4) 4
      if e.ok && wsArea e.new e.size &&
          (e.ops == 0 || wsArea e.old 16 && !(e.old < e.new + e.size && e.new < e.old + oldSize)) &&
          seen.all (fun i => !(i.1 < e.new + e.size && e.new < i.1 + i.2)) && wsArea a (16 * (1 + e.ops)) then
        match s.migOps e oldSize (a + 16) cs true e.ops, s.migList cs n (a + 16 * (1 + e.ops)) ((e.new, e.size) :: seen) with
        | some c, some (c', b) => some (c + (2 + 2 * cs) + c', e.size + b)
        | _, _ => none
      else none

/-- The new instances of a list of at most n entries, with their sizes. -/
def State.migPlaces (s : State) : Nat → Nat → List (Nat × Nat)
  | 0, _ => []
  | n + 1, a =>
    let e := migEntry (s.bytes a 16)
    if e.ends then [] else (e.new, e.size) :: s.migPlaces n (a + 16 * (1 + e.ops))

/-- No two of some places overlap. -/
def apart : List (Nat × Nat) → Bool
  | [] => true
  | p :: l => l.all (fun q => !(q.1 < p.1 + p.2 && p.1 < q.1 + q.2)) && apart l

/-- The list of triad t at a level. -/
def State.listOfTriad (s : State) (t l : Nat) : Option (Nat × Nat) := s.migList (fixedTime l 5) 2097152 (s.mlist t) []

/-- The triads whose lists the check reads: those that swap and migrate, under a running configuration (R227). -/
def State.listed (s : State) : List Nat := (List.range 4).filter fun t => (s.desc 4).testBit t && s.mlist t != 0 && s.run

/-- No two entries of the change's lists write the same new instance (R150). -/
def State.listsApart (s : State) : Bool := apart (s.listed.flatMap fun t => s.migPlaces 2097152 (s.mlist t))

/-- M of R228 in whole µs: the list's cycles, the routine's 77 and the other tier-15 sources', at a level. -/
def migMicros (cycles handlers l : Nat) : Nat :=
  let f := match l with | 0 => 1600 | 1 => 1200 | 2 => 800 | _ => 400
  (cycles + 77 + handlers + 2 * f + f - 1) / f

/-- The declared times of a triad's tier-15 sources beside its migration source, in the configuration in force. -/
def State.handlers (s : State) (t : Nat) : Nat := (look t s.change.inForce.handlers).getD 0

/-- The swap window of a triad in µs (R228): of the old configuration; 65,535 without a grid task. -/
def State.swapWindow (s : State) (t : Nat) : Nat := (look t s.change.inForce.window).getD 65535

/-- The list of a triad fits its swap window at a level. -/
def State.listFits (s : State) (t l : Nat) : Bool :=
  match s.listOfTriad t l with
  | some (c, _) => migMicros c (s.handlers t) l ≤ s.swapWindow t
  | none => true

/-! ### Scan lists, the grid and the slices (R207 to R216, R240, R273, R294) -/

/-- The list bank under test: the inactive one. -/
def State.newBank (s : State) : Bool := !s.listBank 0

/-- The base of the images under the change. -/
def State.newImage (s : State) : Nat := s.desc 0x28 / 64 * 64

/-- The configured mode of a channel; reserved modes are mode 0 (R240). -/
def State.cfgMode (s : State) (ch : Nat) : Nat :=
  s.rdF (Reg.FCH_CFG (ch / 16) (ch % 16)) 0 4

/-- The item of a scan entry exists in a mode (R240). -/
def itemExists (mode : Nat) (out : Bool) (item : Nat) : Bool :=
  if 8 < mode then false
  else if out then mode == 4 || mode == 7
  else
    match item with
    | 0 => (1 ≤ mode && mode ≤ 3) || mode == 5 || mode == 6 || mode == 8
    | 3 => (1 ≤ mode && mode ≤ 3) || mode == 8
    | _ => true

/-- The entries of the new lists whose V is set: engine and words. -/
def State.newEntries (s : State) : List (Nat × W32 × W32) :=
  [0, 1].flatMap fun e => (List.range 1024).filterMap fun i =>
    let w := s.scanWord e s.newBank i 0
    if bit w 31 then some (e, w, s.scanWord e s.newBank i 1) else none

/-- Every entry is valid (R216, R217, R240), and the engine's guard permits its image access (R213; the code is DEDUCED,
notes/assumptions/82.md). -/
def State.scansOk (s : State) : Bool :=
  s.newEntries.all fun e =>
    scanOk e.1 s.newImage e.2.1 e.2.2 && itemExists (s.cfgMode (getF e.2.1 0 9)) (bit e.2.1 30) (getF e.2.1 24 2) &&
      (s.guardCheck (16 + e.1) false (s.newImage + getF e.2.2 0 24) (itemSize e.2.1) (if bit e.2.1 30 then 1 else 2)).isNone

/-- Both phases of both engines end within their windows (R212). -/
def State.phasesFit (s : State) : Bool :=
  [0, 1].all fun e =>
    let mine := s.newEntries.filter fun x => x.1 == e
    let out := (mine.filter fun x => bit x.2.1 30).length
    4000 + 25 * (mine.length - out) ≤ s.winNs && 3000 + 25 * out ≤ s.woutNs

/-- G, the windows and the epoch (R207, R209, R379). -/
def State.gridSettingsOk (s : State) : Bool :=
  50000 ≤ s.gridNs && s.gridNs ≤ 10000000 && 5000 ≤ s.winNs && s.winNs ≤ 1000000 && 5000 ≤ s.woutNs && s.woutNs ≤ 1000000 &&
    2 * (s.winNs + s.woutNs) ≤ s.gridNs && 500000 ≤ s.epochNs && s.epochNs ≤ 10000000 && s.epochNs % s.gridNs == 0

/-- The window of a sequence entry in periods of 20.48 MHz (R267). -/
def seqWindow (w : W32) : Nat := getF w 24 3 * getF w 0 21

/-- The fields of a sequence entry (R273). -/
def seqEntryOk (mode : Nat) (w : W32) : Bool :=
  1 ≤ getF w 24 3 && getF w 24 3 ≤ 5 && 2560 ≤ getF w 0 21 && getF w 0 21 ≤ 2048000 && getF w 28 3 != 6 &&
    (!bit w 31 || (mode == 6 && (getF w 28 3 == 1 || getF w 28 3 == 7)))

/-- The settings of a channel (R273, R294, and EDGE of the pulse counter). -/
def State.channelOk (s : State) (ch : Nat) : Bool :=
  let g := ch / 16
  let i := ch % 16
  let mode := s.cfgMode ch
  let hart := s.rd (Reg.FCH_HART_CFG g i)
  let common := (!bit hart 0 || mode == 5 || mode == 7) && !(bit hart 1 && mode == 7) &&
    s.rdF (Reg.FCH_CNT_CFG g i) 0 2 != 3
  if mode < 5 || 8 < mode then common
  else
    let seq := s.rd (Reg.FCH_SEQ_CFG g i)
    let regLen := getF seq 0 4
    let injLen := getF seq 4 3
    let reg := (List.range (min 8 regLen)).map fun k => s.rd (Reg.FCH_REG_ENT g i k)
    let inj := (List.range (min 4 injLen)).map fun k => s.rd (Reg.FCH_INJ_ENT g i k)
    let trig := bit seq 8 && injLen != 0
    let mine := s.newEntries.filter fun e => getF e.2.1 0 9 == ch
    let lines := (mine.map fun e => getF e.2.1 26 4).eraseDups
    let items := mine.any fun e => !bit e.2.1 30 && (getF e.2.1 24 2 == 0 || getF e.2.1 24 2 == 2)
    let outs := mine.any fun e => bit e.2.1 30
    let run := (inj.map seqWindow).sum
    let room (p n : Nat) : Bool := decide (n * 100000 ≤ 2048 * p)
    common && 1 ≤ regLen && regLen ≤ 8 && injLen ≤ 4 && (reg ++ inj).all (seqEntryOk mode) &&
      (reg.any fun w => getF w 28 3 == 4) && (reg.any fun w => getF w 28 3 == 5) && lines.length ≤ 1 &&
      (mode == 8 || !(items || outs) || trig) &&
      (!bit seq 8 || s.rdF (Reg.FCH_INJ_ENT g i 0) 28 3 == 7) &&
      lines.all fun j =>
        let p := s.newPeriod j
        p == 0 || (60000 ≤ p && room (p - 60000) run && reg.all fun w => room p (run + seqWindow w))

/-- What code 0x12 covers: the grid, the task table, the directory and the channels. -/
def State.settingsOk (s : State) : Bool := s.gridSettingsOk && s.tablesOk && (List.range 512).all s.channelOk

end Sys2Proof.Machine
end

