-- ==== Sys2Proof/Machine/StationCheck.lean ====
section
/-!
DEFINITION. The checks of stations (11, R309 to R315; 12, R335, R336), the epoch-boundary check (13, R358), and the
verification as a whole (08, R226; 05, R152). -/
namespace Sys2Proof.Machine

/-! ### The tables of a change (R314, R315) -/

/-- The base of the new station table, or of the new point table. -/
def State.newTable (s : State) (points : Bool) : Nat :=
  (s.rd (if points then Reg.STB_PT_BASE 0 (b2n s.newBank) else Reg.STB_ST_BASE 0 (b2n s.newBank))).toNat
/-- Word o of entry n of the new station table. -/
def State.newSt (s : State) (n o : Nat) : W32 := BitVec.ofNat 32 (s.peek (s.newTable false + 32 * n + o) 4)
/-- Word o of entry q of the new point table. -/
def State.newPt (s : State) (q o : Nat) : W32 := BitVec.ofNat 32 (s.peek (s.newTable true + 16 * q + o) 4)

/-- The stations of the change; none without a table. -/
def State.newStations (s : State) : List Nat :=
  if s.newTable false = 0 then [] else (List.range 4608).filter fun n => bit (s.newSt n 0) 31

/-- The points of a station of the change. -/
def State.newPoints (s : State) (n : Nat) : List Nat :=
  (List.range (getF (s.newSt n 4) 0 16)).map fun i => getF (s.newSt n 4) 16 16 + i

/-- FD frames on the bus of a station; on the network a frame holds all of its data. -/
def State.longData (s : State) (n : Nat) : Bool := 512 ≤ n || s.rdB (Reg.STB_CFG (n / 64)) 8

/-- A station entry is valid and its watchdog can be set (R314). -/
def State.stationOk (s : State) (n : Nat) : Bool :=
  let w := s.newSt n 0
  let z := s.newSt n 8
  let p := s.newPeriod (getF w 26 4)
  let most := if s.longData n then 992 else 96
  (bit w 30 == decide (512 ≤ n)) && getF w 26 4 < 12 && getF w 16 10 == 0 &&
    (512 ≤ n || getF w 0 16 == n / 64 * 256 + n % 64) &&
    getF (s.newSt n 4) 16 16 + getF (s.newSt n 4) 0 16 ≤ 32768 &&
    5 ≤ getF z 16 16 && getF z 16 16 ≤ 1000 && 0 < p && 2 * p ≤ getF z 16 16 * 1000000 && 1 ≤ getF z 8 8 && getF z 0 8 == 0 &&
    getF (s.newSt n 0xC) 0 24 % 4 == 0 && getF (s.newSt n 0x10) 16 16 ≤ most && getF (s.newSt n 0x10) 0 16 ≤ most &&
    s.newSt n 0x14 == 0 && s.newSt n 0x18 == 0 && s.newSt n 0x1C == 0

/-- The bits that a point takes in its station's data. -/
def pointBits (fmt : Nat) : Nat := if fmt = 0 then 1 else if fmt = 1 then 16 else 32

/-- An entry of the point table is valid and lies in its station's data (R315). -/
def State.pointOk (s : State) (n q : Nat) : Bool :=
  let w := s.newPt q 0
  let fmt := getF w 29 2
  let pos := getF w 0 16
  let len := if bit w 31 then getF (s.newSt n 0x10) 0 16 else getF (s.newSt n 0x10) 16 16
  fmt != 3 && (if bit w 31 then getF w 27 2 == 0 else getF w 27 2 != 3 && 8 ≤ pos) && getF w 16 11 == 0 &&
    (fmt == 0 || pos % pointBits fmt == 0) && pos + pointBits fmt ≤ 8 * len && (s.newPt q 8).toNat < 2 ^ 24 &&
    (s.newPt q 8).toNat % 4 == 0 && s.newPt q 0xC == 0

/-- The stations and their points, with the reference periods of ports that have stations (R309, R314, R315). -/
def State.stationsOk (s : State) : Bool :=
  let ns := s.newStations
  let words := (ns.map fun n => getF (s.newSt n 0xC) 0 24) ++ ns.flatMap fun n => (s.newPoints n).map fun q => (s.newPt q 8).toNat
  (ns == [] || (wsArea (s.newTable false) (32 * 4608) && wsArea (s.newTable true) (16 * 32768))) &&
    ns.all s.stationOk && (ns.all fun n => (s.newPoints n).all fun q => s.pointOk n q) &&
    allDistinct (ns.flatMap s.newPoints) && allDistinct ((ns.filter fun n => 512 ≤ n).map fun n => getF (s.newSt n 0) 0 16) &&
    allDistinct words && (words.all fun o => wsArea (s.newImage + o) 4) &&
    (List.range 8).all fun k => !(ns.any fun n => n / 64 == k) || s.rdF (Reg.STB_SCHED k) 16 10 * s.gridNs ≤ 100000000

/-! ### What is released in a lag (R310 to R312, R336) -/

/-- Frames released at `at'`, and every `period` after it, with the charge of all of them. -/
structure Release where
  at' : Nat
  period : Nat
  charge : Nat
  deriving DecidableEq, Repr

/-- The releases before an instant. -/
def Release.sofar (r : Release) (y : Nat) : Nat := (y + r.period - 1 - r.at') / r.period

/-- The charge released in [x, x + lag). -/
def demand (rs : List Release) (x lag : Nat) : Nat :=
  (rs.map fun r => (r.sofar (x + lag) - r.sofar x) * r.charge).sum

/-- Every interval that begins at a release instant, over the least common period, keeps a limit. -/
def allIntervals (rs : List Release) (lag : Nat) (keeps : Nat → Bool) : Bool :=
  let all := (rs.map Release.period).foldl Nat.lcm 1
  rs.all fun r => (List.range (all / r.period)).all fun k => keeps (demand rs (r.at' + k * r.period) lag)

/-- The releases of a station of the change: inputs a lag before its ticks, outputs a window before them. -/
def State.stationReleases (s : State) (n lag inCharge outCharge : Nat) : List Release :=
  let j := getF (s.newSt n 0) 26 4
  let p := s.newPeriod j
  let t := match s.newLine j with
    | some (_, f) => f * s.gridNs
    | none => 0
  if p = 0 then []
  else
    [{ at' := (t + p * (lag / p + 1) - lag) % p, period := p, charge := inCharge },
      { at' := (t + p * (s.woutNs / p + 1) - s.woutNs) % p, period := p, charge := outCharge }]

/-- The reference messages of a period of `per` base ticks. -/
def State.refReleases (s : State) (per charge : Nat) : List Release :=
  if per * s.gridNs = 0 then [] else [{ at' := 0, period := per * s.gridNs, charge := charge }]

/-- A frame of n data bytes on a port, in periods of the 80 MHz clock (R300, R311). -/
def State.frameClocks (s : State) (k : Nat) (fd : Bool) (n : Nat) : Nat :=
  let b := s.rd (Reg.STB_NBT k)
  let d := s.rd (Reg.STB_DBT k)
  let nq := (getF b 0 9 + 1) * (3 + getF b 24 8 + getF b 17 7)
  let dq := (getF d 24 5 + 1) * (3 + getF d 16 5 + getF d 8 4)
  if fd then 33 * nq + (10 * n + if n ≤ 16 then 34 else 39) * dq else (55 + 10 * n) * nq

/-- The frames that carry n bytes of a station's data. -/
def State.dataClocks (s : State) (k n : Nat) : Nat :=
  let fd := s.rdB (Reg.STB_CFG k) 8
  ((fragmentsOf (if fd then 62 else 6) 0 fd (List.replicate n 0)).map fun f => s.frameClocks k fd f.length).sum

/-- What a port releases (R308, R310). -/
def State.portReleases (s : State) (k lag : Nat) : List Release :=
  (s.newStations.filter fun n => n < 512 && n / 64 == k).flatMap (fun n =>
      s.stationReleases n lag (s.dataClocks k (getF (s.newSt n 0x10) 16 16)) (s.dataClocks k (getF (s.newSt n 0x10) 0 16))) ++
    s.refReleases (s.rdF (Reg.STB_SCHED k) 16 10) (s.frameClocks k false 8)

/-- A port is used: it is on, or has stations. -/
def State.portUsed (s : State) (k : Nat) : Bool := s.rdB (Reg.STB_CFG k) 0 || s.newStations.any fun n => n / 64 == k

/-- R312 on every port in use: the blocking frame is the longest of the port's own format. -/
def State.busesOk (s : State) : Bool :=
  (List.range 8).all fun k =>
    let lag := s.rdF (Reg.STB_SCHED k) 0 7 * s.gridNs
    let fd := s.rdB (Reg.STB_CFG k) 8
    !s.portUsed k || (1 ≤ s.rdF (Reg.STB_SCHED k) 0 7 && s.rdF (Reg.STB_SCHED k) 0 7 ≤ 100 &&
      allIntervals (s.portReleases k lag) lag fun d =>
        25 * (d + s.frameClocks k fd (if fd then 64 else 8)) + 20000 ≤ 2 * lag)

/-- τ(n) of R336 in tenths of a nanosecond. -/
def State.netTime (s : State) (n : Nat) : Nat := (max 64 (38 + n + if s.rdB Reg.NET_FRAME 31 then 4 else 0) + 20) * 8

/-- What the network releases (R335). -/
def State.netReleases (s : State) (lag : Nat) : List Release :=
  (s.newStations.filter fun n => 512 ≤ n).flatMap (fun n =>
      let c (b : Nat) : Nat := if b = 0 then 0 else s.netTime b
      s.stationReleases n lag (c (getF (s.newSt n 0x10) 16 16)) (c (getF (s.newSt n 0x10) 0 16))) ++
    s.refReleases (s.rdF Reg.NET_SCHED 12 10) (s.netTime 8)

/-- R336, while the module takes part in the network. -/
def State.networkOk (s : State) : Bool :=
  let lag := s.rdF Reg.NET_SCHED 0 7 * s.gridNs
  let share := s.rdF Reg.NET_SCHED 22 10
  let used := s.rdB Reg.NET_NODE 31 || s.newStations.any fun n => 512 ≤ n
  !used || allIntervals (s.netReleases lag) lag fun d =>
    d * 1000 + (s.rdF Reg.NET_RING 8 8 * (12000 + s.netTime 992) + 200000) * share ≤ 10 * lag * share

/-! ### The directory against what it names (R226) -/

/-- An entry of the new directory names a valid entry of the new scan lists, or a point of the new stations, of its direction. -/
def State.dirEntryOk (s : State) (i : Nat) : Bool :=
  let w := s.dirWord i 8
  let e := getF w 30 2
  let n := getF w 0 16
  if e < 2 then
    let w0 := s.scanWord e s.newBank n 0
    n < 1024 && scanOk e s.newImage w0 (s.scanWord e s.newBank n 1) && bit w0 30 == bit w 29
  else if e = 2 then
    s.newStations.any (fun k => (s.newPoints k).contains n) && bit (s.newPt n 0) 31 == bit w 29
  else true

/-- What code 0x12 covers (R226). -/
def State.tablesConsistent (s : State) : Bool := s.settingsOk && (List.range (s.desc 0x14)).all s.dirEntryOk

/-! ### Epoch boundaries (R358) -/

/-- A bound in 24ths, in whole nanoseconds, rounded up. -/
def inNs (x : Nat) : Nat := (x + perNs - 1) / perNs

/-- Every activation of a grid task ends 2 µs before the boundary after its tick. -/
def State.endsInEpoch (s : State) (k : Task) (q : Nat) : Bool :=
  let p := k.n * s.gridNs
  let e := s.epochNs
  p == 0 || e == 0 || (List.range (e / Nat.gcd p e)).all fun i =>
    (s.winNs + 2000) * perNs + q ≤ (e - (k.phase * s.gridNs + i * p) % e) * perNs

/-- H in 24ths (R358): 2 µs more than the largest bound among control sources that are not grid lines; 0 without one. -/
def holdOf (resp : List (Task × Nat)) : Nat :=
  match ((resp.filter fun r => !r.1.grid).map Prod.snd).max? with
  | some q => q + 2000 * perNs
  | none => 0

/-! ### The whole verification -/

/-- The checks of the four triads at their present levels. -/
def State.triadChecks (s : State) : List TriadCheck := (List.range 4).map fun t => s.checkTriad t (s.level t)

/-- The control tasks on triads that have a response bound. -/
def State.bounds (s : State) (cs : List TriadCheck) : List (Task × Nat) :=
  s.tasks.filterMap fun k =>
    if k.control then (cs.findSome? fun c => look k.src c.resp).map fun q => (k, q) else none

/-- A task with its blocking raised keeps R148. -/
def State.holdsWith (s : State) (cs : List TriadCheck) (more : Nat) (k : Task) : Bool :=
  (s.response (s.level k.target) (cs.flatMap TriadCheck.steps) more k).isSome

/-- A control task on a core that is no triad, where R92 fixes no cost, has no target that R142 admits. -/
def State.offTriad (s : State) : Bool := s.tasks.any fun k => k.control && 16 ≤ k.target

/-- The slowest level at which the configuration of a triad still passes (R152). -/
def State.slowest (s : State) (t : Nat) : Nat :=
  if s.tasks.any (fun k => k.control && k.target == t) then
    ([3, 2, 1].find? fun l => decide (s.level t < l) && (s.checkTriad t l).code == 0 &&
      (!s.listed.contains t || s.listFits t l)).getD (s.level t)
  else 3

/-- The results that the module keeps (R358). -/
def State.results (s : State) (cs : List TriadCheck) : Verified :=
  let bs := s.bounds cs
  { resp := s.tasks.map fun k => (k.src, inNs ((bs.find? fun b => b.1.src == k.src).map Prod.snd |>.getD 0))
    hold := inNs (holdOf bs)
    window := (List.range 4).filterMap fun t =>
      ((bs.filter fun b => b.1.grid && b.1.target == t).map fun b =>
        (b.1.n * s.gridNs * perNs - s.winNs * perNs - b.2 - s.woutNs * perNs) / (1000 * perNs)).min?.map fun w => (t, w)
    need := s.listed.filterMap fun t => (s.listOfTriad t (s.level t)).map fun c => (t, c.1)
    minlvl := (List.range 4).map fun t => (t, s.slowest t)
    handlers := (List.range 4).map fun t =>
      (t, ((s.tasks.filter fun k => k.target == t && k.tier == 15 && k.src != 8 + t).map Task.declared).sum) }

/-- The first failing code of a change, 0 when it passes (R226). -/
def State.verifyCode (s : State) (cs : List TriadCheck) : Nat :=
  if !s.descReadable then 0x12
  else
    let bs := s.bounds cs
    let h := holdOf bs
    let lists := s.listed.map fun t => s.listOfTriad t (s.level t)
    let made := (lists.map fun l => (l.map Prod.snd).getD 0).sum
    firstCode (cs.map TriadCheck.code ++
      [failing (!s.offTriad) 0x02,
        failing (s.writeSet ≤ s.epochLimit) 0x0C,
        failing (lists.all Option.isSome && s.listsApart) 0x0D,
        failing (s.listed.all fun t => s.listFits t (s.level t)) 0x0E,
        failing (s.writeSet + made ≤ s.epochLimit) 0x0E,
        failing s.scansOk 0x10,
        failing s.phasesFit 0x11,
        failing s.tablesConsistent 0x12,
        failing s.busesOk 0x19,
        failing s.stationsOk 0x1A,
        failing s.networkOk 0x1B,
        failing (bs.all fun b => !b.1.grid || s.endsInEpoch b.1 b.2) 0x1C,
        failing (bs.all fun b => b.1.grid || s.holdsWith cs h b.1) 0x1C])

/-- The state as verification sees it: a module that is not Active has what belongs to its triads in the configuration shadow
(R378). -/
def State.underShadow (s : State) : State := s.anvil.shadow.foldl (fun s e => s.wr e.1 e.2) s

/-- At ARM, each control source of a migrating triad that is not a grid line keeps R148 with its blocking raised by the hold
(R229). -/
def State.heldSourcesOk (s : State) (t migrationNs : Nat) : Bool :=
  let cs := s.triadChecks
  s.tasks.all fun k => !(k.control && !k.grid && k.target == t) ||
    s.holdsWith cs ((migrationNs + s.winNs + s.woutNs) * perNs) k

end Sys2Proof.Machine
end

