-- ==== Sys2Proof/Machine/Change.lean ====
section
/-!
DEFINITION. The change between cycles (08, R224 to R235) and the writes of the SCN block. -/
namespace Sys2Proof.Machine

/-- A command of the change is ignored (R225). -/
def State.chgCmdErr (s : State) : State := s.wrB Reg.SCN_CHG_STAT 31 true

/-! ### What VERIFY and ARM look at -/

/-- The bytes whose digest VERIFY takes: the descriptor, the task table, the directory and the migration lists (R225). -/
def State.changeBytes (s : State) : List W8 :=
  s.bytes (s.rd Reg.SCN_CHG_DESC).toNat 64 ++ s.bytes (s.desc 8) (32 * min 256 s.nTasks) ++
    s.bytes (s.desc 0x10) (16 * min 2097152 (s.desc 0x14)) ++
    (List.range 4).flatMap (fun t =>
      if s.mlist t = 0 then [] else s.bytes (s.mlist t) (s.mlistLen (s.mlist t) 2097152))

/-- Triad t of the change migrates (R228). -/
def State.migrates (s : State) (t : Nat) : Bool := s.change.triads.testBit t && s.mlist t != 0 && s.run

/-- Every force stands with its type in the new directory (R226, code 0x13). -/
def State.forcesStand (s : State) : Bool :=
  if s.forced then
    (List.range 512).all fun i => !s.forceV i ||
      !s.changeBreaks (BitVec.ofNat 32 (s.peek (s.forceAddr i) 4)) (BitVec.ofNat 32 (s.peek (s.forceAddr i + 8) 4))
  else true

/-! ### VERIFY and CANCEL -/

/-- What carries out a Standby's verification (R226): the lowest-numbered READY spare, or else PARKED one, that no lane
has called on, started as an independent core, and T0 when there is none. -/
def State.verifierStarts (s : State) : State :=
  if s.pair.role ≠ .standby then s
  else
    let free (st : Nat) := (List.range 4).find? fun i => s.slotState i == st && !s.pledged (s.slotCore i)
    match (free 1).or (free 2) with
    | some i => (s.startIndep 0 i).setChange { (s.startIndep 0 i).change with runner := some i }
    | none => ((s.setNap 0 .awake).belState 0).setChange { s.change with runner := some 4 }

/-- The verification has ended: the spare goes back to PARKED (R199), T0 to Banked while the module is not Active (R226). -/
def State.verifierEnds (s : State) : State :=
  let s1 := s.setChange { s.change with runner := none }
  match s.change.runner with
  | some 4 => if s.pair.role = .active then s1 else ((s1.abandonAll 0).setNap 0 .banked).belState 0
  | some i => if s.slotState i = 4 then s1.stopIndep 0 i else s1
  | none => s1

/-- `SCN.CHG_CTRL.VERIFY` with its key (R225, R226): the digest is taken and verification starts. -/
def State.chgVerify (s : State) : State :=
  let st := s.chgState
  if st = 1 ∨ st = 3 ∨ st = 4 then s.chgCmdErr
  else
    let s1 := ((s.wrF Reg.SCN_CHG_STAT 24 4 0).chgEnter 1 0).verifierStarts
    s1.setChange { s1.change with
      id := BitVec.ofNat 32 (s1.desc 0), triads := s1.desc 4 % 16, taken := s1.changeBytes, starts := [] }

def execChangeVerify (s : State) : Host.Outcome State Fault Refusal := .next (s.atBlock Reg.SCN_CHG_CTRL State.chgVerify)

/-- `SCN.CHG_CTRL.CANCEL` with its key (R233). -/
def State.chgCancel (s : State) : State := if s.chgState = 3 then s.chgAbandon 0x18 else s.chgCmdErr

def execChangeCancel (s : State) : Host.Outcome State Fault Refusal := .next (s.atBlock Reg.SCN_CHG_CTRL State.chgCancel)

/-- MINLVL of every triad as the verification found it (R152, R384). -/
def State.recordLevels (v : Verified) (s : State) : State :=
  v.minlvl.foldl (fun s e => s.wrF (Reg.BEL_PL (e.1 % 8)) 16 2 e.2) s

/-! ### ARM (R227, R228) -/

/-- M of a triad in whole µs (R228): the cycles of its list under R140 at the present level, and 2 µs. -/
def State.migTime (s : State) (t : Nat) : Nat :=
  migMicros (((s.underShadow.listOfTriad t (s.level t)).map Prod.fst).getD 0) (s.handlers t) (s.level t)

/-- Every line that the task table in force enables ticks at b (R227). -/
def State.oldLinesTick (s : State) (b : Nat) : Bool :=
  (List.range 12).all fun j => !(s.change.inForce.resp.any fun e => e.1 % 256 == 16 + j) || s.lineTicks j b

/-- The line of entry i of the new task table, when its source is a grid line, ticks at b. -/
def State.newLineTicks (s : State) (i b : Nat) : Bool :=
  let src := getF (s.taskWord i 0) 0 8
  if 16 ≤ src ∧ src < 28 then
    let n := getF (s.taskWord i 0xC) 0 10
    decide (0 < n) && (b / s.gridNs + n * 1024 - getF (s.taskWord i 0xC) 16 10) % n == 0
  else true

/-- Why ARM refuses the change, or 0 (R226, R227, R376). -/
def State.armCode (s : State) : Nat :=
  if s.changeBytes ≠ s.change.taken ∨ s.underShadow.tablesConsistent = false then 0x12
  else if !s.forcesStand then 0x13
  else if s.pair.peer = some .joining ∨ (s.pair.peer = some .standby ∧ s.change.partnerReady ≠ some s.change.id) then 0x14
  else 0

/-- The change is armed for its swap tick (R227, R228): the times are written and the partner is told. -/
def State.armed (ts : Nat) (s : State) : State :=
  let mig := (List.range 4).filter s.migrates
  let s1 := (s.wr64 Reg.SCN_CHG_TS_LO Reg.SCN_CHG_TS_HI (BitVec.ofNat 64 ts)).chgEnter 3 0
  let s2 := mig.foldl (fun s t =>
    s.wr (Reg.SCN_CHG_WIN t) (BitVec.ofNat 32 (min 65535 (s.swapWindow t) * 65536 + s.migTime t % 65536))) s1
  (s2.setChange { s2.change with
    starts := mig.map fun t => (t, BitVec.ofNat 64 (ts - s2.woutNs - s2.migTime t * 1000)) }).send
      (.control 7 [s.change.id.toNat, ts])

/-- `SCN.CHG_CTRL.ARM` with its key (R227). -/
def State.chgArm (s : State) : State :=
  if s.chgState ≠ 2 ∨ s.pair.role ≠ .active ∨ s.pair.yield ≠ .none then s.chgCmdErr
  else
    let c := s.armCode
    if c ≠ 0 then s.chgEnter 6 c
    else
      match s.searchTick (fun b => s.oldLinesTick b && (List.range (min 256 s.nTasks)).all fun i => s.newLineTicks i b)
          s.now.toNat with
      | none => s.chgEnter 6 0x15
      | some ts =>
        if (List.range 4).any fun t => s.migrates t &&
            (decide (s.swapWindow t < s.migTime t) || !s.underShadow.heldSourcesOk t (s.migTime t * 1000)) then s.chgEnter 6 0x0E
        else s.armed ts

/-- ARM at plant time `when`. -/
def execChangeArm (when : W64) (s : State) : Host.Outcome State Fault Refusal := .next ((s.atTime when).atBlock Reg.SCN_CHG_CTRL State.chgArm)

/-- The partner's arming arrives (R227): a Standby that holds the change READY is ARMED with it. -/
def execChangeArmingReceived (id : W32) (ts : W64) (s : State) : Host.Outcome State Fault Refusal :=
  let s := s.heard
  if s.pair.role = .standby ∧ s.chgState = 2 ∧ s.change.id = id then
    .next ((s.wr64 Reg.SCN_CHG_TS_LO Reg.SCN_CHG_TS_HI ts).chgEnter 3 0)
  else .next s

/-- `SCN.CHG_CTRL` as written (R235). -/
def State.chgCtrlWrite (v : W32) (s : State) : State :=
  if getF v 24 8 = 0xA5 then
    if 1 < b2n (bit v 0) + b2n (bit v 1) + b2n (bit v 2) then s.chgCmdErr
    else if bit v 0 then s.chgVerify
    else if bit v 1 then s.chgArm
    else if bit v 2 then s.chgCancel
    else s
  else s

/-! ### Migration (R228 to R230) -/

/-- `SCN.CHG_TS`. -/
def State.swapTick (s : State) : Nat := (s.rd64 Reg.SCN_CHG_TS_LO Reg.SCN_CHG_TS_HI).toNat

/-- At S of triad t the other sources of the triad are held, and source 8 + t fires at tier 15 in S mode (R228, R229), whatever
MODE, TARGET and TIER its configuration names (DESIGN CHOICE, notes/assumptions/79.md). -/
def execMigrationStart (t : Fin 4) (s : State) : Host.Outcome State Fault Refusal :=
  match look t s.change.starts with
  | some at' =>
    if s.chgState = 3 ∨ s.chgState = 4 then
      let s0 := s.atTime at'
      let s1 := if s0.chgState = 3 then s0.wrF Reg.SCN_CHG_STAT 0 4 4 else s0
      let cfg := Reg.TIC_SRC_CFG (8 + t)
      let s2 := s1.setChange { s1.change with
        starts := serase s1.change.starts t, holding := s1.change.holding ++ [t.val],
        routine := s1.change.routine ++ [t.val], holdTill := BitVec.ofNat 64 (s1.swapTick + s1.winNs) }
      .next ((s2.wr cfg (setF (setF (setB (s2.rd cfg) 26) 20 5 t) 16 4 15)).fire (8 + t))
    else .next s
  | none => .next s

/-- Some migrating triad lacks its MDONE bit (R230). -/
def State.migrationOpen (s : State) : Bool :=
  (List.range 4).any fun t => s.migrates t && !s.rdB Reg.SCN_CHG_STAT (24 + t)

/-- At ts − Wout (R230). -/
def execMigrationDeadline (s : State) : Host.Outcome State Fault Refusal :=
  if s.pair.role = .active ∧ (s.chgState = 3 ∨ s.chgState = 4) then
    let s0 := s.atTime (BitVec.ofNat 64 (s.swapTick - s.woutNs))
    .next (if s0.migrationOpen then (s0.chgAbandon 0x16).yieldRetry else s0)
  else .next s

/-! ### The swap (R231 to R233) -/

/-- A TIC register that belongs to source n of a triad's target: kept in the configuration shadow while the module is not
Active (R378). -/
def State.putSource (n : Nat) (cfg entry sb : W32) (s : State) : State :=
  if s.pair.role ≠ .active ∧ getF cfg 20 5 < 4 then
    s.setAnvil { s.anvil with
      shadow := sput (sput (sput s.anvil.shadow (Reg.TIC_SRC_CFG n) cfg) (Reg.TIC_SRC_ENTRY n)
        (entry &&& 0xFFFFFFFC#32)) (Reg.TIC_SRC_SB n) sb }
  else ((s.wr (Reg.TIC_SRC_ENTRY n) (entry &&& 0xFFFFFFFC#32)).wr (Reg.TIC_SRC_SB n) sb).srcCfgWrite n cfg

/-- EN := 0 of a source, in the block or in the shadow. -/
def State.dropSource (n : Nat) (s : State) : State :=
  match look (Reg.TIC_SRC_CFG n) s.anvil.shadow with
  | some w => s.setAnvil { s.anvil with shadow := sput s.anvil.shadow (Reg.TIC_SRC_CFG n) (clrB w 31) }
  | none => if s.srcEn n then s.srcCfgWrite n (clrB (s.rd (Reg.TIC_SRC_CFG n)) 31) else s

/-- The source of entry i of the task table, and its line (R224, R231). -/
def State.putTask (i : Nat) (s : State) : State :=
  let w := s.taskWord i 0
  let src := getF w 0 8
  let cfg : W32 := BitVec.ofNat 32 (2 ^ 31 + getF w 31 1 * 2 ^ 26 + getF w 16 5 * 2 ^ 20 + getF w 24 4 * 2 ^ 16)
  let s1 := s.putSource src cfg (s.taskWord i 4) (s.taskWord i 8)
  if 16 ≤ src ∧ src < 28 then s1.wr (Reg.SCN_LINE (src - 16)) (setB (s1.taskWord i 0xC &&& 0x03FF03FF#32) 31) else s1

/-- The sources that the new task table holds. -/
def State.taskSources (s : State) : List Nat := (List.range (min 256 s.nTasks)).map fun i => getF (s.taskWord i 0) 0 8

/-- The counts of an engine's active bank (R235). -/
def State.engCounts (e : Nat) (s : State) : State :=
  let b := s.listBank e
  ((s.wrF (Reg.SCN_ENG e) 16 11 (s.scanCount e b true)).wrF (Reg.SCN_ENG e) 0 11 (s.scanCount e b false))

/-- The banks, and the lists with them, that a swap brings into use (R231). -/
def State.swapBanks (s : State) : State :=
  let s1 := (List.range 4).foldl (fun s t =>
    if s.change.triads.testBit t then s.setTriad t { s.triad t with bankB := !(s.triad t).bankB } else s) s
  let nb := !s1.listBank 0
  let s2 := [0, 1].foldl (fun s e => s.wrB (Reg.SCN_ENG e) 31 nb) s1
  [0, 1].foldl (fun s e => s.engCounts e) (s2.wr (Reg.SCN_IMG_BASE (b2n nb)) (BitVec.ofNat 32 (s2.desc 0x28 / 64 * 64)))

/-- A source of the table in force that the new one, with the sources `new`, does not list is dropped, with its line (R231). -/
def State.swapDrop (new : List Nat) (n : Nat) (s : State) : State :=
  if new.contains n then s
  else
    let s1 := s.dropSource n
    if 16 ≤ n ∧ n < 28 then s1.wrB (Reg.SCN_LINE (n - 16)) 31 false else s1

/-- The task table that a swap brings into force (R231). -/
def State.swapTasks (new : List Nat) (s : State) : State :=
  let s1 := (s.change.inForce.resp.map fun e => e.1 % 256).foldl (fun s n => s.swapDrop new n) s
  (List.range (min 256 s1.nTasks)).foldl (fun s i => s.putTask i) s1

/-- The forces and the directory that a swap brings into use: the lists hold no force but those bound anew (R220, R232). -/
def State.swapForces (s : State) : State :=
  let s1 := s.unmarkForces.rebindForces (s.desc 0x10) (s.desc 0x14)
  (s1.wr Reg.SCN_DIR_BASE (BitVec.ofNat 32 (s1.desc 0x10))).wr Reg.SCN_DIR_N (BitVec.ofNat 32 (s1.desc 0x14))

/-- A first configuration starts the grid (R227). -/
def State.swapFirst (s : State) : State :=
  ({ s.wrB Reg.SCN_GRID 31 true with stations := [] }).setGrid
    { s.grid with last := BitVec.ofNat 64 (s.swapTick - s.gridNs), dueFrom := 0, live := BitVec.allOnes 12 }

/-- The swap in one step (R231), measured into M3 (R410). -/
def State.swap (s : State) : State :=
  let s1 := (s.swapBanks.swapTasks s.taskSources).swapForces
  let s2 := s1.setChange { s1.change with inForce := s1.change.found, idNow := s1.change.id }
  let s3 := if s.run then s2 else s2.swapFirst
  let s4 := s3.extend 3 (digestBytes (Config.shake256 (s3.bytes (s3.rd Reg.SCN_CHG_DESC).toNat 64)) ++
    toBytes 4 s3.change.id.toNat)
  (s4.wrF Reg.SCN_CHG_STAT 8 8 (s4.rdF Reg.SCN_CHG_STAT 8 8 + 1)).chgEnter 5 0

/-- The epoch that ends at b carries the swap mark (R231): the swap tick of a change that swaps, or has swapped, at b. -/
def State.swapMark (s : State) (b : Nat) : Bool :=
  s.swapTick == b && (s.chgState == 5 || ((s.chgState == 3 || s.chgState == 4) && !s.migrationOpen))

/-- At ts, before the input phase (R231). -/
def execChangeSwap (s : State) : Host.Outcome State Fault Refusal :=
  if s.pair.role = .active ∧ (s.chgState = 3 ∨ s.chgState = 4) then
    let s0 := s.atTime (BitVec.ofNat 64 s.swapTick)
    if s0.migrationOpen then .next (s0.chgAbandon 0x16).yieldRetry
    else .next s0.swap.yieldRetry
  else .next s

/-- The Standby's swap as part of the commit of the epoch with the swap mark (R233). -/
def State.standbySwap (id : W32) (s : State) : State :=
  if (s.chgState = 2 ∨ s.chgState = 3) ∧ s.change.id = id then s.swap else s

/-! ### Writes of the block (R235) -/

/-- A write within the SCN registers. -/
def State.scnWrite (a : Nat) (v : W32) (s : State) : State :=
  if a = Reg.SCN_GRID then if s.run then s else s.wrF a 0 16 (getF v 0 16)
  else if a = Reg.SCN_WIN then if s.run then s else s.wr a v
  else if Reg.SCN_LINE 0 ≤ a ∧ a < Reg.SCN_LINE 12 then if s.run then s else s.wr a (v &&& 0x83FF03FF#32)
  else if a = Reg.SCN_GRIDSTAT then s.wr a (s.rd a &&& ~~~(v &&& 0xF000FFFF#32))
  else if a = Reg.SCN_IMG_BASE 0 ∨ a = Reg.SCN_IMG_BASE 1 then
    if (a == Reg.SCN_IMG_BASE 1) == s.listBank 0 then s.busErr else (s.wr a (v &&& 0xFFFFFFC0#32)).okResp 0
  else if a = Reg.SCN_CHG_CTRL then s.chgCtrlWrite v
  else if a = Reg.SCN_CHG_STAT then s.wr a (s.rd a &&& ~~~(v &&& 0x80000000#32))
  else if a = Reg.SCN_CHG_DESC then
    if 1 ≤ s.chgState ∧ s.chgState ≤ 4 then s.chgCmdErr else s.wr a (v &&& 0xFFFFFFC0#32)
  else if a = Reg.SCN_FORCE_BASE then if s.run then s else s.wr a (v &&& 0xFFFFFFC0#32)
  else if a = Reg.SCN_FORCE_ARG_ID ∨ a = Reg.SCN_FORCE_ARG_LO ∨ a = Reg.SCN_FORCE_ARG_HI then s.wr a v
  else if a = Reg.SCN_FORCE_CMD then s.forceCmdWrite v
  else if a = Reg.SCN_FORCE_STAT then s.wr a (s.rd a &&& ~~~(v &&& 0x60000000#32))
  else s

end Sys2Proof.Machine
end

