-- ==== Sys2Proof/Machine/Handover.lean ====
section
/-!
DEFINITION. Checkpoints, takeover, planned yield and the full copy (13, R357 to R380), and the extraction lever (02, R52). -/
namespace Sys2Proof.Machine

/-! ### Dirty lines and the seal (R357 to R360) -/

/-- The dirty lines of the bank in use, lowest first. -/
def State.dirtyLines (s : State) : List Nat :=
  ((if s.anvil.bank then s.anvil.dirty1 else s.anvil.dirty0).filter fun e => e.2).map fun e => e.1

/-- The dirty bits of the bank in use cleared. -/
def State.clearDirty (s : State) : State :=
  s.setAnvil (if s.anvil.bank then { s.anvil with dirty1 := [] } else { s.anvil with dirty0 := [] })

/-- The address of a line of the working store. -/
def lineAddr (l : Nat) : Nat := 0x20000000 + 64 * l

/-- The 72 bytes of a line record: line index, low word of the epoch number, the data (R360). -/
def lineBytes (line : Nat) (epoch : Nat) (d : List W8) : List W8 := toBytes 4 line ++ toBytes 4 epoch ++ d

/-- The module seals at this boundary (R357, R362, R369): Active and running, link FULL, and a partner that is Standby and for
which it has not stopped, or that is Joining and receives a full copy. -/
def State.mayseal (s : State) : Bool :=
  s.pair.role == .active && s.pair.running && s.anvil.link == .full &&
    ((s.pair.peer == some .joining && s.copyRuns) || (s.pair.peer == some .standby && !s.anvil.overrun))

/-- The refusals of the guard of master `m` over some accesses, each recorded, a later one over an earlier (R172, R177). -/
def State.noteRefused (m kind : Nat) (l : List (Nat × Nat)) (s : State) : State :=
  l.foldl (fun s e => match s.guardCheck m false e.1 e.2 kind with
    | some r => s.guardRefused m kind r
    | none => s) s

/-- The lines of an epoch sent, then its seal record with their number, their CHECK and the checkpoint format (R360, R421). A
line whose load the Anvil engine's guard refuses is recorded there and not sent (DESIGN CHOICE, notes/assumptions/81.md). -/
def State.sendEpoch (n b : W64) (lines : List (Nat × List W8)) (flags : Nat) (force change : W32) (s : State) : State :=
  let ok := lines.filter fun e => (s.guardCheck 20 false (lineAddr e.1) 64 1).isNone
  let s1 := s.noteRefused 20 1 (lines.map fun e => (lineAddr e.1, 64))
  (ok.foldl (fun s e => s.send (.lineRecord e.1 n e.2)) s1).send
    (.sealRecord n b ok.length (crc64 (ok.flatMap fun e => lineBytes e.1 (n.toNat % 2 ^ 32) e.2)) force flags change s.writeFormat)

/-- An epoch that ends at b is sealed: the bank in use is frozen and each of its lines sent, then the seal record. While its
guard is not enabled the Anvil engine waits with the lines as they stand now (R175, R359). -/
def State.sealNow (b : W64) (final : Bool) (s : State) : State :=
  let lines := s.dirtyLines.map fun l => (l, s.bytes (lineAddr l) 64)
  let n := s.anvil.sealed + 1
  let mark := s.swapMark b.toNat
  let flags := b2n mark + 2 * b2n final
  let force := s.rd Reg.SCN_FORCE_CNT
  let id := if mark then s.change.id else 0
  let s2 := if s.guardOn 20 then s.sendEpoch n b lines flags force id else s.stall 20 (.seal n b lines flags force id)
  let s3 := s2.clearDirty
  (s3.setAnvil { s3.anvil with
    bank := !s3.anvil.bank, sealed := n, owed := s3.anvil.owed ++ [(n, s3.now)], endTime := b }).wr Reg.ANV_EPLINES
      (BitVec.ofNat 32 lines.length)

/-- The Active module's part of an epoch boundary. A module that does not seal gives up the epoch, its records with it (R357). A
first epoch starts here; an acknowledgement still owed, but for a full copy, is an overrun (R362). -/
def State.sealAtBoundary (b : W64) (final : Bool) (s : State) : State :=
  if !s.mayseal then
    let s1 := s.clearDirty
    s1.setAnvil { s1.anvil with
      sealing := false, owed := [], endTime := b, flight := s1.anvil.flight.filter fun e => e.frame.cls != 4 }
  else if !s.anvil.sealing then
    let s1 := s.clearDirty
    s1.setAnvil { s1.anvil with sealing := true, owed := [], endTime := b }
  else if s.anvil.owed != [] && !s.copyRuns then
    let s1 := s.clearDirty
    let s2 := (s1.setAnvil { s1.anvil with sealing := false, overrun := true, owed := [], endTime := b }).setEvt
      Reg.ANV_EVT 5
    (s2.setPair { s2.pair with peerReady := false }).raisePairAlarm
  else s.sealNow b final

/-- A Standby that has missed an epoch (R362, R371): with the link FULL it passes to Joining. -/
def State.epochMissed (s : State) : State :=
  let s1 := s.setAnvil { s.anvil with missed := true }
  if s1.anvil.link = .full then (s1.setAnvil { s1.anvil with copyDone := false, rxLines := [] }).setRole .joining else s1

/-- The hold before a yield tick begins with the final epoch (R374); without a link that is FULL or a ready partner the yield is
abandoned, and the boundary is an epoch's as any other. -/
def State.yieldHold (s : State) : State :=
  if s.mayseal && s.pair.peerReady then
    let s1 := s.sealAtBoundary s.pair.hts true
    s1.setPair { s1.pair with yield := .hold, yieldOff := false } |>.setAnvil { s1.anvil with finalAcked := false }
  else (((s.setPair { s.pair with yield := .none }).yieldErr 4).send (.control 5 [4])).sealAtBoundary s.pair.hts false

def execYieldHold (s : State) : Host.Outcome State Fault Refusal :=
  if s.pair.role = .active ∧ s.pair.yield = .preparing then .next (s.atTime s.pair.hts).yieldHold else .next s

/-- An epoch boundary (R357 to R359): the Active module seals or clears its dirty bits, the hold of R358 ends, and so does that
of an abandoned yield (R374); a Standby that has not committed the epoch before has missed it. -/
def execEpochSeal (b : W64) (s : State) : Host.Outcome State Fault Refusal :=
  if s.run && s.isBoundary b.toNat && decide (s.anvil.endTime.toNat < b.toNat) then
    let s0 := s.atTime b
    let s1 := s0.setGrid { s0.grid with holding := false }
    if s1.pair.role = .active then
      if s1.pair.yield = .preparing ∧ s1.pair.hts = b then .next s1.yieldHold
      else if s1.pair.yield = .hold && !s1.pair.yieldOff then .next s1
      else if s1.pair.yield = .hold then
        .next ((s1.setPair { s1.pair with yield := .none, yieldOff := false }).sealAtBoundary b false)
      else .next (s1.sealAtBoundary b false)
    else if s1.pair.role = .standby ∧ s1.anvil.endTime.toNat + s1.epochNs < b.toNat then .next s1.epochMissed
    else .next s1
  else .next s

/-- The acknowledgement of an epoch that was owed (R362, R377, R379): with it the module waits for no older one. -/
def State.epochAcked (epoch since : W64) (s : State) : State :=
  let us := min 65535 ((s.now.toNat - since.toNat) / 1000)
  let s1 := (s.setAnvil { s.anvil with
    owed := s.anvil.owed.filter (fun e => decide (epoch.toNat < e.1.toNat)), committed := epoch,
    finalAcked := (s.pair.yield == .hold && s.anvil.sealed == epoch) || s.anvil.finalAcked }).wr Reg.ANV_XFER
      (BitVec.ofNat 32 (max us (s.rdF Reg.ANV_XFER 16 16) * 65536 + us))
  let s2 := s1.setEvt Reg.ANV_EVT 7
  if s2.rdB Reg.ANV_COPY 30 && decide (s2.anvil.copyEpoch.toNat < epoch.toNat) then
    ((s2.setAnvil { s2.anvil with overrun := false }).wrB Reg.ANV_COPY 30 false).setEvt Reg.ANV_EVT 9
  else s2

/-- The acknowledgement of an epoch arrives; during a full copy several may be owed. -/
def execCommitAckReceived (epoch when : W64) (s : State) : Host.Outcome State Fault Refusal :=
  let s0 := (s.atTime when).heard
  if s0.pair.role = .active then
    match s0.anvil.owed.find? fun e => e.1 == epoch with
    | some e => .next (s0.epochAcked epoch e.2)
    | none => .next s0
  else .next s0

/-! ### The receiving side (R361, R377) -/

/-- The module receives checkpoints. -/
def State.receives (s : State) : Bool := s.pair.role == .standby || s.pair.role == .joining

/-- A line record is held, by its line and the low word of its epoch (R361). -/
def execLineRecordReceived (line : BitVec 19) (epochLow : W32) (data : List W8) (s : State) :
    Host.Outcome State Fault Refusal :=
  let s := s.heard
  .next (if s.receives then s.setAnvil { s.anvil with
    rxLines := s.anvil.rxLines ++ [(line.toNat + 524288 * epochLow.toNat, padTo 64 data)] } else s)

/-- CHECK over the held records in the order received (R360). -/
def State.rxCheck (s : State) : W64 :=
  crc64 (s.anvil.rxLines.flatMap fun e => lineBytes (e.1 % 524288) (e.1 / 524288) e.2)

/-- The count that a Standby's pulse counter takes at a commit of an epoch that ends at `b` (R290): the committed ITEM 0 of
the channel's last tick in the epoch, and the edges counted since. -/
def State.counterCommit (g i b : Nat) (s : State) : State :=
  let ch := 16 * g + i
  let e := ch / 256
  let bank := s.listBank e
  match (List.range 1024).find? fun k =>
      let w := s.scanWord e bank k 0
      s.scanValid e k && !bit w 30 && getF w 24 2 == 0 && getF w 0 9 == ch with
  | some k =>
    let line := getF (s.scanWord e bank k 0) 26 4
    let p := max 1 (s.linePeriod line)
    let ph := s.rdF (Reg.SCN_LINE line) 16 10 * s.gridNs
    let t := (b - 1 - ph % p) / p * p + ph % p
    let v := s.slice g i
    let edges := v.edges.filter fun x => decide (t ≤ x.toNat)
    let n : W32 := BitVec.ofNat 32 (s.peek (s.imgBase bank + getF (s.scanWord e bank k 1) 0 24) 4 + edges.length)
    (s.setSlice g i { v with edges := edges, count := n }).wr (Reg.FCH_VALUE g i) n
  | none => s

/-- Every pulse counter set at a commit. -/
def State.countersCommit (b : Nat) (s : State) : State :=
  (List.range 512).foldl (fun s c => if s.fmode (c / 16) (c % 16) = 8 then s.counterCommit (c / 16) (c % 16) b else s) s

/-- A store by the Anvil engine under its guard (R172): a refused one is recorded and writes nothing. No dirty bit is set
(R361). -/
def State.anvilStore (a : Nat) (d : List W8) (s : State) : State :=
  match s.guardCheck 20 false a d.length 2 with
  | some r => s.guardRefused 20 2 r
  | none => s.pokeBytes a d

/-- The epoch is committed (R361): its lines are written without dirty bits, `SCN.FORCE_CNT` follows the force table (R54,
R220), and the acknowledgement is sent. -/
def State.commit (epoch ends : W64) (swap : Bool) (force change : W32) (s : State) : State :=
  let lines := s.anvil.rxLines
  let s1 := (lines.foldl (fun s e => s.anvilStore (lineAddr (e.1 % 524288)) e.2) s).wrF Reg.SCN_FORCE_CNT 0 10 force.toNat
  let s2 := s1.setAnvil { s1.anvil with
    rxLines := [], committed := epoch, endTime := ends, forceCount := force }
  let s3 := ((s2.wr Reg.ANV_EPLINES (BitVec.ofNat 32 lines.length)).setEvt Reg.ANV_EVT 7).send (.control 3 [epoch.toNat])
  let s4 := if swap then s3.standbySwap change else s3
  s4.countersCommit ends.toNat

/-- A triad leaves Banked, as `BEL.STATE` shows (R369, R402). -/
def State.triadWake (t : Nat) (s : State) : State :=
  ((s.islandTargets t).foldl (fun s x => s.setNap x .awake) s).belState t

/-- The triads leave Banked. -/
def State.triadsWake (s : State) : State := (List.range 4).foldl (fun s t => s.triadWake t) s

/-- A triad is put into Banked, as `BEL.STATE` shows, with RET_A, RET_B and RET_TCD set (R363, R402). -/
def State.triadSleep (t : Nat) (s : State) : State :=
  let s1 := s.wr (Reg.BEL_SLEEP t) (s.rd (Reg.BEL_SLEEP t) ||| 0x700#32)
  ((s1.islandTargets t).foldl (fun s x => (s.abandonAll x).setNap x .banked) s1).belState t

/-- The triads are put into Banked. -/
def State.triadsSleep (s : State) : State := (List.range 4).foldl (fun s t => s.triadSleep t) s

/-- A Joining module commits the first epoch that began after the copy pass ended, and is Standby (R377), its triads in Banked
(R10). A copy during which it discarded an epoch gives no consistent state, and it waits for another (R361; DEDUCED,
notes/assumptions/104.md). -/
def State.joinStep (epoch : W64) (s : State) : State :=
  if s.pair.role = .joining ∧ s.rdB Reg.ANV_COPY 30 = true ∧ s.anvil.copyEpoch.toNat < epoch.toNat then
    let s0 := s.setAnvil { s.anvil with copyLocks := [] }
    if s.anvil.missed then s0.wr Reg.ANV_COPY 0
    else
      let s1 := s0.setAnvil { s0.anvil with copyDone := true }
      let s2 := (s1.wrB Reg.ANV_COPY 30 false).setEvt Reg.ANV_EVT 9
      let s3 := [0, 1].foldl (fun s e => s.engCounts e) s2
      s3.stagesOff.triadsSleep.setRole .standby
  else s

/-- The seal record of an epoch (R360, R361): LINES and CHECK decide; a Standby commits epochs in order. -/
def State.sealArrives (epoch ends : W64) (lines : W32) (check : W64) (force : W32) (swap final : Bool) (change : W32)
    (s : State) : State :=
  if !s.receives then s
  else
    let good := lines.toNat == s.anvil.rxLines.length && check == s.rxCheck &&
      (s.pair.role == .joining || epoch == s.anvil.committed + 1)
    if good then
      let s1 := (s.commit epoch ends swap force change).joinStep epoch
      s1.setAnvil { s1.anvil with finalAcked := s1.anvil.finalAcked || final }
    else
      let s1 := ((s.setAnvil { s.anvil with rxLines := [], copyDone := false, missed := true }).setEvt Reg.ANV_EVT 6)
      if s1.pair.role = .standby then s1.setRole .joining else s1

/-- A shadow record arrives (R364): every command it holds is preloaded for tick t. -/
def execShadowRecordReceived (t : W64) (commands : List (Fin 512 × W32)) (s : State) : Host.Outcome State Fault Refusal :=
  let s := s.heard
  if s.receives then
    let s1 := commands.foldl (fun s c =>
      let g := c.1.val / 16
      let i := c.1.val % 16
      s.setSlice g i { s.slice g i with cmd := c.2 }) s
    .next (s1.setAnvil { s1.anvil with shadowTick := t })
  else .next s

/-- No shadow record for tick t has arrived by t (R364). -/
def execShadowLate (t : W64) (s : State) : Host.Outcome State Fault Refusal :=
  let s0 := s.atTime t
  .next (if s0.receives && s0.run && s0.isTick t.toNat && decide (s0.anvil.shadowTick.toNat < t.toNat) then
    s0.setEvt Reg.ANV_EVT 8 else s0)

/-! ### The configuration shadow (R363, R378) -/

/-- The guards of a triad's cores and its migration guard, or a source whose target is a triad: what a module that is not
Active keeps in its shadow. -/
def State.shadowed (s : State) (a : Nat) : Bool :=
  if 0x10040000 ≤ a ∧ a < 0x10050000 then
    let m := (a - 0x10040000) / 0x100
    (24 ≤ m && m ≤ 27) || (m < 16 && (s.coreLane m).isSome)
  else if 0x10060000 ≤ a ∧ a < 0x10061000 then
    let n := (a - 0x10060000) / 16
    let cfg := (look (Reg.TIC_SRC_CFG n) s.anvil.shadow).getD (s.rd (Reg.TIC_SRC_CFG n))
    getF cfg 20 5 < 4
  else false

/-- The registers and the bits that a full copy and configuration messages carry of a guard (R376). -/
def guardCopied (a : Nat) : W32 :=
  let o := a % 0x100
  if o = 0 then 0x80000001#32
  else if 0x10 ≤ o ∧ o < 0x90 then if o % 8 = 0 then 0xFFFFFF00#32 else 0x00FF1FF7#32
  else 0

/-- The registers that the configuration shadow holds: the copied ones of the guards, and the sources'. -/
def State.shadowMine (s : State) (a : Nat) : Bool :=
  s.shadowed a && (a < 0x10050000 && guardCopied a != 0 || 0x10060000 ≤ a)

/-- A shadowed register of the blocks back at its Reset value: a guard is disabled and what runs under it follows (R175); FALLBACK
and the record of a refusal stay in the guard (R174, R376). -/
def State.shadowClear (a : Nat) (v : W32) (s : State) : State :=
  if a < 0x10050000 ∧ a % 0x100 = 0 then
    (s.wr a (resetVal a ||| (v &&& 0x10000#32))).channelsFollow ((a - 0x10040000) / 0x100)
  else s.wr a (resetVal a)

/-- The shadowed registers of the blocks moved into the shadow: a module leaves the Active role by a yield. -/
def State.shadowTake (s : State) : State :=
  let mine := s.regs.filter fun e => s.shadowMine e.1
  let s1 := mine.foldl (fun s e => s.shadowClear e.1 e.2) s
  let s2 := { s1 with tic := s1.tic.filter fun e => decide (4 ≤ s.srcTarget e.1) }
  s2.setAnvil { s2.anvil with shadow := mine.foldl (fun m e =>
    sput m e.1 (if e.1 < 0x10050000 then e.2 &&& guardCopied e.1 else e.2)) s2.anvil.shadow }

/-- A copied register of a guard put into its window (R376): EN and LOCK, with STATE as EN has it, FALLBACK staying and CFG_ERR as
the regions have it (R170, R174); or a region. -/
def State.guardPut (a : Nat) (v : W32) (s : State) : State :=
  let m := (a - 0x10040000) / 0x100
  let w := v &&& guardCopied a
  let s1 := if a % 0x100 = 0 then
      ((s.wr a (w ||| (s.rd a &&& 0x10000#32))).wrF a 8 2 (if bit w 0 then 0 else 2)).channelsFollow m
    else if guardCopied a = 0 then s
    else s.wr a w
  s1.wrB (Reg.GRD_CTRL m) 1 (s1.guardBad m)

/-- The shadow written into the blocks (R369): guards first, then the sources, which fire where a level holds. -/
def State.shadowApply (s : State) : State :=
  let sh := s.anvil.shadow
  let s1 := sh.foldl (fun s e =>
    if e.1 < 0x10060000 then
      s.guardPut e.1 e.2
    else if e.1 % 16 = 0 then s else s.wr e.1 e.2) s
  let s2 := sh.foldl (fun s e =>
    if 0x10060000 ≤ e.1 ∧ e.1 < 0x10061000 ∧ e.1 % 16 = 0 then s.srcCfgWrite ((e.1 - 0x10060000) / 16) e.2 else s) s1
  s2.setAnvil { s2.anvil with shadow := [] }

/-! ### Slices at a catch, an overlap and a release (R257, R258, R291) -/

/-- The stamp that ITEM 3 of a channel holds in the committed input image, if it is listed (R258). -/
def State.committedEdge (s : State) (ch : Nat) : Option W64 :=
  let e := ch / 256
  let b := s.listBank e
  ((List.range 1024).find? fun k =>
    let w := s.scanWord e b k 0
    s.scanValid e k && !bit w 30 && getF w 24 2 == 3 && getF w 0 9 == ch).map fun k =>
      BitVec.ofNat 64 (s.peek (s.imgBase b + getF (s.scanWord e b k 1) 0 24) 8)

/-- The retry state starts at 0 in a module that takes over (R252). -/
def State.retryFresh (g i : Nat) (s : State) : State :=
  let s1 := (s.rearm g i).statClr g i 10
  s1.setSlice g i { s1.slice g i with offAt := none, zeroSince := none }

/-- A slice comes onto the wire with its preloaded command; `level` is that of a line-monitored input in the first sample stamped
2 µs or more after its source is switched on, with which its filter starts (R258). -/
def State.stageOn (g i : Nat) (level : Bool) (s : State) : State :=
  let v := s.slice g i
  match s.fmode g i with
  | 3 =>
    (s.setSlice g i { v with quiet := s.now + 20000000, filterFrom := s.now + 2000 }).filterStart g i level
      ((s.committedEdge (16 * g + i)).getD v.edge)
  | 4 => (s.retryFresh g i).doApply g i v.cmd (s.outPeriod (16 * g + i))
  | 7 => s.aoApply g i v.cmd
  | 8 => s.setSlice g i { v with edges := [] }
  | _ => s

/-- Every slice comes onto the wire. -/
def State.stagesOn (levels : BitVec 512) (s : State) : State :=
  let s1 := s.setPair { s.pair with drive := .driving }
  (List.range 512).foldl (fun s c => s.stageOn (c / 16) (c % 16) (bit levels c)) s1

/-- The overlap of a planned yield begins: the band reports of line-monitored inputs are suppressed for 20 ms (R257), and the
stages of current outputs take their half of the applied current (R292). -/
def State.overlapBegins (s : State) : State :=
  (List.range 512).foldl (fun s c =>
    let g := c / 16
    let i := c % 16
    match s.fmode g i with
    | 3 => s.setSlice g i { s.slice g i with quiet := s.now + 20000000 }
    | 7 => s.driveShare g i true
    | _ => s) s

/-- The incoming module carries the whole current of its outputs (R292). -/
def State.shareEnds (s : State) : State :=
  (List.range 512).foldl (fun s c => if s.fmode (c / 16) (c % 16) = 7 then s.driveShare (c / 16) (c % 16) false else s) s

/-- The event queues keep the entries stamped at or after `t`, which the new Active module reports (R258, R375). -/
def State.trimQueues (t : Nat) (s : State) : State :=
  (List.range 32).foldl (fun s g =>
    let q := (s.group g).queue
    if q = [] then s
    else s.setQueue g ((q.filter fun e => decide (t ≤ e.stamp.toNat)).map fun e => { e with stby := false })) s

/-! ### Takeover (R367 to R369) -/

/-- The module sees its partner's Col release (R367, R371): with CATCH_ARMED, and a driver that can source the claim (R35), it
claims and its slices catch. The incoming module of a yield is Active by then, so that it does not catch; the outgoing one does,
should its partner fail in the overlap (R375). -/
def execColReleaseSeen (levels : BitVec 512) (when : W64) (s : State) : Host.Outcome State Fault Refusal :=
  let s0 := s.atTime when
  let s1 := s0.setPair { s0.pair with sense := false }
  if s1.pair.role = .joining then .next s1.joinFails
  else if !s0.catchArmed || !s0.claimable then .next s1
  else
    let stale := s1.anvil.link != .full
    let s2 := (s1.setPair { s1.pair with running := false, yield := .none }).sourceClaim
    let s3 := ((s2.setRole .active).stagesOn levels).portsActive false
    let s4 := ((List.range 32).foldl (fun s g => s.discMark g) s3).setGrid { s3.grid with live := 0 }
    let s5 := s4.setAnvil { s4.anvil with
      rxLines := [], sealed := s4.anvil.committed, sealing := false, owed := [], copyDone := false,
      overrun := false }
    let s6 := (s5.setEvt Reg.COL_EVT 2).rec02 2
    let s7 := if stale then
        (s6.setEvt Reg.ANV_EVT 12).rec02Age (s6.now.toNat - s6.anvil.endTime.toNat) else s6
    .next ((if s7.chgState = 3 ∨ s7.chgState = 4 then s7.chgAbandon 0x17 else s7).setNet
      { s7.net with tkFrom := s7.anvil.endTime, tkTo := s7.now })

/-- The system image has made the module ready to run (R222, R350, R369). -/
def State.nowRunning (s : State) : State :=
  let s1 := s.triadsWake.shadowApply.rebuildForces
  (s1.setPair { s1.pair with running := true }).setNet { s1.net with records := [] }

/-- The new Active module becomes running; its queues keep what was stamped from the end of the epoch on that stood committed
at the catch (R258). -/
def execTakeoverRunning (when : W64) (s : State) : Host.Outcome State Fault Refusal :=
  if s.pair.role = .active && !s.pair.running then
    let s0 := s.atTime when
    let s1 := s0.trimQueues s0.net.tkFrom.toNat
    .next s1.nowRunning
  else .next s

/-! ### Planned yield (R373 to R375) -/

/-- `COL.CTRL.YIELD` with its key, at plant time `when`. -/
def execYield (when : W64) (s : State) : Host.Outcome State Fault Refusal := .next (s.atTime when).yieldTry

/-- The partner learns the yield and hold ticks and wakes its triads (R373); a change that it holds ARMED is abandoned with the
Active module's (R233). -/
def execYieldMessageReceived (ty ts : W64) (s : State) : Host.Outcome State Fault Refusal :=
  let s := s.heard
  if s.pair.role = .standby then
    let s1 := if s.chgState = 3 then s.chgAbandon 0x17 else s
    let s2 := (s1.setPair { s1.pair with yield := .preparing, yts := ty, hts := ts }).setAnvil { s1.anvil with finalAcked := false }
    .next s2.triadsWake
  else .next s

/-- A yield is abandoned by the outgoing module with a code (R374, R380); a hold that has begun lasts until the yield tick. -/
def State.yieldEnd (code : Nat) (s : State) : State :=
  let p := if s.pair.yield = .hold then { s.pair with yieldOff := true } else { s.pair with yield := .none }
  ((s.setPair p).yieldErr code).send (.control 5 [code])

/-- `COL.CTRL.CANCEL` with its key (R380). -/
def State.yieldCancel (s : State) : State :=
  if s.pair.role = .active ∧ s.pair.yield = .preparing then s.yieldEnd 5 else s.colCmdErr

def execYieldCancel (s : State) : Host.Outcome State Fault Refusal := .next s.yieldCancel

/-- `COL.CTRL` as written (R380). -/
def State.colCtrlWrite (v : W32) (s : State) : State :=
  if getF v 24 8 = 0xA5 then
    if 1 < b2n (bit v 0) + b2n (bit v 1) + b2n (bit v 2) then s.colCmdErr
    else if bit v 0 then s.yieldTry
    else if bit v 1 then s.colResign
    else if bit v 2 then s.yieldCancel
    else s
  else s

/-- A write within the COL block (R380). -/
def State.colWrite (a : Nat) (v : W32) (s : State) : State :=
  if a = Reg.COL_CTRL then s.colCtrlWrite v
  else if a = Reg.COL_CAUSE then s.wr a (s.rd a &&& ~~~(v &&& 0x80000000#32))
  else if a = Reg.COL_EVT then s.wr a (s.rd a &&& ~~~v)
  else if a = Reg.COL_EVT_EN then s.wrL a (v &&& 0xFF#32)
  else s

/-- The conditions under which a yield is abandoned hold (R374), in either module; the triads of a Standby go back to Banked
(R363). -/
def execYieldAbandon (when : W64) (s : State) : Host.Outcome State Fault Refusal :=
  let s0 := s.atTime when
  if s0.pair.yield = .preparing ∨ s0.pair.yield = .hold then
    if s0.pair.role = .active then
      if s0.pair.yieldOff = true then .next s0
      else if s0.anvil.link ≠ .full ∨ s0.pair.peer ≠ some .standby ∨ s0.pair.peerReady = false then .next (s0.yieldEnd 4)
      else if s0.pair.yield = .hold ∧ s0.anvil.finalAcked = false ∧ s0.pair.yts.toNat ≤ s0.now.toNat + 5000 then
        .next (s0.yieldEnd 3)
      else .next s0
    else
      let s1 := s0.setPair { s0.pair with yield := .none }
      .next (if s1.pair.role = .standby then s1.triadsSleep else s1)
  else .next s0

/-- A module that becomes Standby tells its partner the change that it holds READY (R226, code 0x14). -/
def State.changeTold (s : State) : State :=
  let s1 := s.setChange { s.change with partnerReady := none }
  if s1.chgState = 2 then s1.send (.control 6 [s1.change.id.toNat]) else s1

/-- The outgoing module's part of ty (R375). -/
def State.yieldOut (s : State) : State :=
  let s1 := s.applyHeld.overlapBegins
  let s2 := (s1.setPair { s1.pair with
    claim := false, returned := false, running := false, yield := .overlap, sense := true }).leaveCode 7
  let s3 := (s2.changeTold.portsPassive true).hartDrop
  let s4 := s3.setAnvil { s3.anvil with
    sealing := false, owed := [], copyDone := true, missed := false, finalAcked := false, endTime := s3.pair.yts,
    shadowTick := s3.pair.yts, forceCount := s3.rd Reg.SCN_FORCE_CNT }
  (s4.shadowTake.triadsSleep).setRole .standby

/-- The incoming module's part of ty (R375). -/
def State.yieldIn (levels : BitVec 512) (s : State) : State :=
  let s1 := (s.setPair { s.pair with
    yield := .overlap, sense := false }).sourceClaim
  let s2 := (((s1.setRole .active).stagesOn levels).portsActive true).overlapBegins
  let s3 := (s2.trimQueues s2.pair.yts.toNat).clearDirty
  let s4 := s3.setAnvil { s3.anvil with
    sealed := s3.anvil.committed, sealing := true, owed := [], overrun := false, finalAcked := false,
    endTime := s3.pair.yts }
  (s4.setGrid { s4.grid with live := 0 }).nowRunning

/-- The yield tick (R375), in the outgoing or in the incoming module. -/
def execYieldHandover (levels : BitVec 512) (s : State) : Host.Outcome State Fault Refusal :=
  if s.pair.role = .active then
    if s.pair.yield = .hold && !s.pair.yieldOff && s.anvil.finalAcked then .next (s.atTime s.pair.yts).yieldOut else .next s
  else if s.pair.role = .standby && s.pair.yield == .preparing && s.anvil.finalAcked && s.claimable then
    .next ((s.atTime s.pair.yts).yieldIn levels)
  else .next s

/-- The overlap ends (R375): the yield is complete. A yield that ended a trial is followed by a module reset (R420). -/
def execYieldOverlapEnd (when : W64) (s : State) : Host.Outcome State Fault Refusal :=
  if s.pair.yield = .overlap then
    let s0 := s.atTime when
    let s1 := if s0.pair.role = .standby then s0.stagesOff else s0.shareEnds
    let s2 := ((s1.setPair { s1.pair with yield := .none }).setEvt Reg.COL_EVT 4).rec02 4
    .next (if s2.trust.yieldReset && s2.pair.role == .standby then s2.moduleReset 1 false else s2)
  else .next s

/-! ### Full copy (R376, R377) -/

/-- A full copy starts at an epoch boundary; the two modules share a checkpoint format (R421). -/
def execFullCopyStart (b : W64) (s : State) : Host.Outcome State Fault Refusal :=
  if s.pair.role = .active && s.pair.peer == some .joining && s.anvil.link == .full && s.sharesFormat && !s.copyRuns &&
      s.chgState != 3 && s.chgState != 4 && s.pair.yield == .none && s.isBoundary b.toNat &&
      decide (s.now.toNat ≤ b.toNat) then
    let s0 := (s.atTime b).clearDirty
    .next ((s0.wr Reg.ANV_COPY 0x80000000#32).setAnvil { s0.anvil with
      sealing := true, overrun := false, owed := [], endTime := b })
  else .next s

/-! ### The extraction lever (R52) -/

/-- The lever switch has been open for 10 ms. -/
def execLeverSwitchOpen (when : W64) (s : State) : Host.Outcome State Fault Refusal :=
  let s0 := s.atTime when
  let s1 := s0.setPower { s0.power with lever := true }
  if s1.pair.role = .active then .next s1.leverYield
  else .next (s1.setPower { s1.power with remove := .steady })

/-- The lever switch closes again (R52): a completed yield stands. -/
def execLeverSwitchClose (s : State) : Host.Outcome State Fault Refusal :=
  .next (s.setPower { s.power with lever := false, remove := .off })

/-! ### The indicators (R53 to R55)

Each follows from the state alone: no register write reaches one, so that none goes out while its condition holds (R55). -/

/-- The lamp test of a power-on is running (R53): the time base has not run for 500 ms, what sets it apart. -/
def State.lampTesting (s : State) : Bool := s.power.lampTest && decide (s.now.toNat < s.power.lampTill.toNat)

/-- An indicator whose condition asks for `l`: dark without power, lit during the lamp test (R53). -/
def State.lamp (s : State) (l : Lamp) : Lamp :=
  if !s.power.mainValid then .off else if s.lampTesting then .steady else l

/-- PWR (R53). -/
def State.pwrLamp (s : State) : Lamp := s.lamp (if s.power.paLost || s.power.pbLost then .flash1 else .steady)

/-- ROLE (R53). -/
def State.roleLamp (s : State) : Lamp :=
  s.lamp (match s.pair.role with
    | .active => .steady
    | .standby => .flash1
    | .joining => .flash4
    | _ => .off)

/-- FLT (R36, R53): out of service, an invalid position coding, or a Hearth that does not run (R431). -/
def State.fltLamp (s : State) : Lamp :=
  s.lamp (if s.pair.role = .outOfService ∨ s.power.posInvalid = true ∨ s.start.hearthBad = true then .steady
    else if s.pair.pairAlarm then .flash1 else .off)

/-- The force count that the module knows of (R54): its own, or that of the last committed epoch. -/
def State.pairForces (s : State) : Nat :=
  if s.pair.role = .active then (s.rd Reg.SCN_FORCE_CNT).toNat else if s.receives then s.anvil.forceCount.toNat else 0

/-- FORCE (R53, R54). -/
def State.forceLamp (s : State) : Lamp := s.lamp (if s.pairForces = 0 then .off else .steady)

/-- SPARE (R53): an empty pool, or one whose forecast lies within 12 months. -/
def State.spareLamp (s : State) : Lamp :=
  s.lamp (if (List.range 9).any (fun p => s.rdB (Reg.EVR_POOL p) 19) then .steady
    else if (List.range 9).any (fun p => s.rdB (Reg.EVR_POOL p) 18) then .flash1 else .off)

/-- The lane indicator of a network cage (R53); `traffic` says that frames pass. -/
def State.cageLamp (s : State) (p : Fin 4) (traffic : Bool) : Lamp :=
  s.lamp (if s.linkUp p then if traffic then .flash1 else .steady else .off)

/-- The indicator of an Anvil lane (R53). -/
def State.laneLamp (s : State) (lane : Fin 3) (traffic : Bool) : Lamp :=
  s.lamp (if bit s.anvil.lock lane then if traffic then .flash1 else .steady else .off)

/-- REMOVE (R52, R53): with the lever of an Active module open, it flashes while a removal would leave the wire in Quench, as no
partner is ready; while the yield goes on that the lever has asked for, and in its overlap, it is dark (DESIGN CHOICE,
notes/assumptions/113.md). -/
def State.removeLamp (s : State) : Lamp :=
  s.lamp (if s.pair.role ≠ .active then if s.pair.yield = .overlap then .off else .steady
    else if !s.power.lever then .off
    else if s.power.remove = .flash4 ∨ s.pair.peer ≠ some .standby ∨ s.pair.peerReady = false then .flash4
    else .off)

end Sys2Proof.Machine
end

