-- ==== Sys2Proof/Machine/Memory.lean ====
section
/-!
DEFINITION. The address map as a master sees it (03, R67 to R70, R72, R73): aliases, global views, what accepts stores, and
what is without power. -/
namespace Sys2Proof.Machine

/-- The place of a byte that an address names for a target, or for a master without a triad (R67, R70): its address in
the global view, the copy of a split core beyond the 32-bit space, or none where no memory lies. A spare core in service alone has
such a copy of its own (DESIGN CHOICE, notes/assumptions/119.md). -/
def State.memKey (s : State) (x : Option Nat) (a : Nat) : Option Nat :=
  if a < 0x40000 then some a
  else if 0x01000000 ≤ a ∧ a < 0x01400000 then
    match x.bind s.ownTriad with
    | some t => some (bankBase t ((s.triad t).bankB != decide (0x01200000 ≤ a)) + a % 0x200000)
    | none => none
  else if 0x01800000 ≤ a ∧ a < 0x01880000 then
    match x with
    | some y =>
      some ((if y < 4 then tcdBase y else splitTcd (y - 16)) + (a - 0x01800000))
    | none => none
  else if 0x04000000 ≤ a ∧ a < 0x05000000 then some a
  else if 0x05000000 ≤ a ∧ a < 0x05400000 then if a % 0x100000 < 0x80000 then some a else none
  else if inWS a ∨ (0x40000000 ≤ a ∧ a < 0x43C00000) ∨ (0x80000000 ≤ a ∧ a < 0x100000000) then some a
  else if 0x12008000 ≤ a ∧ a < 0x12010000 then some a
  else none

/-- A place lies in an instruction bank: the triad and the bank. -/
def bankOf (k : Nat) : Option (Nat × Bool) :=
  if 0x04000000 ≤ k ∧ k < 0x05000000 then
    some ((k - 0x04000000) / 0x400000, decide (0x200000 ≤ (k - 0x04000000) % 0x400000))
  else none

/-- A place in a scan list bank: the engine and the bank (R235). -/
def listOf (k : Nat) : Option (Nat × Bool) :=
  if 0x12008000 ≤ k ∧ k < 0x12010000 then
    some ((k - 0x12008000) / 0x4000, decide (0x2000 ≤ (k - 0x12008000) % 0x4000))
  else none

/-- The island of triad t is in Banked, or on its way out of it. -/
def State.isBanked (s : State) (t : Nat) : Bool :=
  (s.islandTargets t).any fun x => s.nap x == .banked || s.nap x == .wakesBanked

/-- A memory of triad t has power: in Banked when bit `ret` of `BEL.SLEEP` retains it (R387). -/
def State.triadMemOn (s : State) (t ret : Nat) : Bool :=
  if s.isBanked t then s.rdB (Reg.BEL_SLEEP t) ret else !s.islandOff t

/-- A memory has power and is ready (R65, R363, R387, R428): of a triad in Banked, only its retained instruction banks and its
retained tightly coupled data. -/
def State.memOn (s : State) (k : Nat) : Bool :=
  match bankOf k with
  | some (t, b) => s.triadMemOn t (if b then 9 else 8)
  | none =>
    if 0x05000000 ≤ k ∧ k < 0x05400000 then s.triadMemOn ((k - 0x05000000) / 0x100000) 10
    else if inWS k then !s.islandOff (if k < 0x21000000 then 9 else 10)
    else if 0x80000000 ≤ k ∧ k < 0x100000000 then !s.islandOff 11 && s.dramReady
    else if (listOf k).isSome then !s.islandOff 8
    else true

/-- A place accepts a store from a master (R67, R68, R215, R225): `user` marks a core in U mode. -/
def State.storable (s : State) (user : Bool) (k : Nat) : Bool :=
  let busy := decide (1 ≤ s.chgState) && decide (s.chgState ≤ 4)
  if k < 0x40000 then false
  else
    match bankOf k with
    | some (t, b) => (s.triad t).bankB != b && !user && !(busy && s.change.triads.testBit t)
    | none =>
      match listOf k with
      | some (e, b) => s.listBank e != b && !busy
      | none => true

/-- The copies that a place has: the three lanes' copies of a split triad's tightly coupled data (R69, R201). -/
def State.copies (s : State) (k : Nat) : List Nat :=
  if 0x05000000 ≤ k ∧ k < 0x05400000 then
    let t := (k - 0x05000000) / 0x100000
    if s.triMode t = 3 then
      (List.range 3).map fun j => splitTcd (s.laneCore t j) + k % 0x100000
    else [k]
  else [k]

/-- A byte as a master reads it: voted over the copies that differ, bit by bit, which also gives a value where all three
differ (R69; DESIGN CHOICE, notes/assumptions/126.md). -/
def State.votedByte (s : State) (k : Nat) : W8 :=
  match s.copies k with
  | [a, b, c] =>
    let x := s.byte a
    let y := s.byte b
    let z := s.byte c
    (x &&& y) ||| (y &&& z) ||| (x &&& z)
  | _ => s.byte k

/-- n bytes from a place on. -/
def State.votedBytes (s : State) (k n : Nat) : List W8 :=
  match s.copies k with
  | [_] => s.bytes k n
  | _ => (List.range n).map fun i => s.votedByte (k + i)

/-- The place of n bytes that lie together; none where some of them are elsewhere or without power. -/
def State.memSpan (s : State) (x : Option Nat) (a n : Nat) : Option Nat :=
  match s.memKey x a, s.memKey x (a + (n - 1)) with
  | some k, some l => if l = k + (n - 1) ∧ s.memOn k ∧ s.memOn l then some k else none
  | _, _ => none

/-- A load of n bytes of memory; none is a bus error. -/
def State.memLoad (s : State) (x : Option Nat) (a n : Nat) : Option (List W8) :=
  (s.memSpan x a n).map fun k => s.votedBytes k n

/-- The partner has joined, or receives a full copy: what R378 names is mirrored to it. -/
def State.mirrors (s : State) : Bool :=
  s.pair.role == .active && s.anvil.link != .lost && (s.pair.peer == some .standby || s.copyRuns)

/-- A store into a bank is mirrored (R378). -/
def State.mirrorBytes (k : Nat) (d : List W8) (s : State) : State :=
  if ((bankOf k).isSome || (listOf k).isSome) && s.mirrors then
    s.send (.control 21 (k :: d.map (fun b => b.toNat)))
  else s

/-- A store of bytes to memory; none is a bus error, which writes nothing. -/
def State.memStore (x : Option Nat) (user : Bool) (a : Nat) (d : List W8) (s : State) : Option State :=
  match s.memSpan x a d.length with
  | none => none
  | some k =>
    if s.storable user k then
      some (((s.copies k).foldl (fun s c => s.store c d) s).mirrorBytes k d)
    else none

end Sys2Proof.Machine
end

