-- ==== Sys2Proof/Machine/Dma.lean ====
section
/-!
DEFINITION. The central DMA (06, R178 to R183). -/
namespace Sys2Proof.Machine

/-- The state of a channel (R180): 0 IDLE, 1 RUNNING, 2 STALLED, 3 FAULT, 4 STARVED. -/
def State.chanState (s : State) (c : Nat) : Nat := s.rdF (Reg.DMA_CH_STAT c) 0 3

/-- A channel enters a state, RUNNING only while its guard is enabled (R175). -/
def State.chanEnter (c st : Nat) (s : State) : State :=
  s.wrF (Reg.DMA_CH_STAT c) 0 3 (if st = 1 && !s.guardOn (s.chanGuard c) then 2 else st)

/-- A command is ignored (R183). -/
def State.dmaCmdErr (c : Nat) (s : State) : State := s.wrB (Reg.DMA_CH_STAT c) 28 true

/-- A channel enters FAULT (R182): the code, the address, source 80 + c. -/
def State.dmaFault (c code a : Nat) (s : State) : State :=
  ((((s.wrF (Reg.DMA_CH_STAT c) 16 8 code).wrB (Reg.DMA_CH_STAT c) 30 true).chanEnter c 3).wr (Reg.DMA_CH_FADDR c)
    (BitVec.ofNat 32 a)).fire (80 + c)

/-- `DMA.CH_CTRL.START` (R180, R183): the descriptor becomes current; the configuration takes effect. -/
def State.dmaStart (c : Nat) (s : State) : State :=
  if s.chanState c = 0 then
    let w := s.rd (Reg.DMA_CH_CTRL c)
    (s.setChan c { big := bit w 9, irq := bit w 8, mguard := bit w 12, mtriad := BitVec.ofNat 2 (getF w 13 2) }).chanEnter c 1
  else s.dmaCmdErr c

def execDmaStart (c : Fin 16) (s : State) : Host.Outcome State Fault Refusal :=
  .next (s.atBlock (Reg.DMA_CH_CTRL c) fun s => s.dmaStart c)

/-- `DMA.CH_CTRL.RESUME` (R180, R182). -/
def State.dmaResume (c : Nat) (s : State) : State :=
  if s.chanState c = 3 then s.chanEnter c 1
  else if s.chanState c = 4 then (s.setChan c { s.chan c with loaded := false }).chanEnter c 1
  else s.dmaCmdErr c

def execDmaResume (c : Fin 16) (s : State) : Host.Outcome State Fault Refusal :=
  .next (s.atBlock (Reg.DMA_CH_CTRL c) fun s => s.dmaResume c)

/-- A line access of a channel to its descriptor is refused or answered with a bus error (R180, R182). -/
def State.descAccess (s : State) (c kind : Nat) : Option (Nat × State) :=
  let m := s.chanGuard c
  let a := (s.rd (Reg.DMA_CH_DESC c)).toNat
  match s.guardCheck m false a 32 kind with
  | some r => some (5, (s.guardRefused m kind r).dmaFault c 5 r.addr)
  | none =>
    match s.memSpan none a 32 with
    | some k =>
      if (listOf k).isSome || (kind == 2 && !s.storable false k) then some (6, s.dmaFault c 6 a) else none
    | none => some (6, s.dmaFault c 6 a)

/-- The bytes that the loaded descriptor has moved. -/
def State.dmaMoved (s : State) (c : Nat) : Nat := getF (s.chan c).ctrl 0 24 - (s.rd (Reg.DMA_CH_REMAIN c)).toNat

/-- The descriptor written back with a STATUS word and released by one line access (R179), or the fault of that access. -/
def State.dmaRelease (c : Nat) (status : Nat) (s : State) : State × Bool :=
  match s.descAccess c 2 with
  | some (_, s') => (s', false)
  | none =>
    let a := (s.rd (Reg.DMA_CH_DESC c)).toNat
    let d := toBytes 4 (clrB (s.chan c).ctrl 31).toNat
    match (s.memStore none false a d).bind fun s1 => s1.memStore none false (a + 0x10) (toBytes 4 status) with
    | some s' => (s', true)
    | none => (s.dmaFault c 6 a, false)

/-- Every byte of a descriptor has moved (R180): it is released with DONE, and the chain goes on or ends. -/
def State.dmaComplete (c : Nat) (s : State) : State :=
  let v := s.chan c
  let r := s.dmaRelease c (2 ^ 31 + s.dmaMoved c)
  if r.2 then
    let s1 := if bit v.ctrl 30 && v.irq then r.1.fire (80 + c) else r.1
    let s2 := s1.setChan c { v with loaded := false }
    if bit v.ctrl 29 then (s2.wrB (Reg.DMA_CH_STAT c) 31 true).chanEnter c 0
    else s2.wr (Reg.DMA_CH_DESC c) v.next
  else r.1

/-- `DMA.CH_CTRL.ABORT` (R182): in RUNNING and FAULT a loaded descriptor is written back with ERR, the code and the bytes
moved. After FAULT the descriptor keeps the fault's code and `DMA.CH_STAT.CODE` becomes 9 (DEDUCED,
notes/assumptions/123.md). -/
def State.dmaAbort (c : Nat) (s : State) : State :=
  let st := s.chanState c
  if st = 1 ∨ st = 3 then
    if (s.chan c).loaded then
      let code := if st = 1 then 9 else s.rdF (Reg.DMA_CH_STAT c) 16 8
      let r := s.dmaRelease c (2 ^ 30 + code * 2 ^ 24 + s.dmaMoved c)
      if r.2 then ((r.1.wrF (Reg.DMA_CH_STAT c) 16 8 9).setChan c {}).chanEnter c 0 else r.1
    else ((s.wrF (Reg.DMA_CH_STAT c) 16 8 9).setChan c {}).chanEnter c 0
  else if st = 4 then (s.setChan c {}).chanEnter c 0
  else s.dmaCmdErr c

def execDmaAbort (c : Fin 16) (s : State) : Host.Outcome State Fault Refusal :=
  .next (s.atBlock (Reg.DMA_CH_CTRL c) fun s => s.dmaAbort c)

/-- What the read of a burst's source, or of a descriptor, finds (R75). -/
def State.burstFinds (src : Nat) (fill : Bool) (f : Finding) (s : State) : Bool × State :=
  match s.memKey none src with
  | none => (true, s)
  | some q => if fill then (true, s) else s.readFinds q f

/-- A descriptor obeys R178. A NEXT that is no multiple of 32, where it is used, counts as invalid like the other addresses
(DESIGN CHOICE, notes/assumptions/121.md). -/
def descOk (ctrl src dst next last : W32) : Bool :=
  getF ctrl 24 4 == 0 && last == 0 && getF ctrl 0 3 == 0 && getF dst 0 3 == 0 && (bit ctrl 28 || getF src 0 3 == 0) &&
    (bit ctrl 29 || getF next 0 5 == 0)

/-- The words of a descriptor that a line access has read are taken (R180): owned, it is loaded, and an invalid one is a
fault; not owned, the channel starves. -/
def State.dmaTakes (c a : Nat) (s : State) : State :=
  let d := (s.memLoad none a 32).getD []
  let w (o : Nat) : W32 := BitVec.ofNat 32 (ofBytes ((d.drop o).take 4))
  let v := { s.chan c with ctrl := w 0, next := w 0xC, pat := w 0x18 ++ w 0x14, loaded := true }
  if bit (w 0) 31 then
    let s1 := (((s.wr (Reg.DMA_CH_SRC c) (w 4)).wr (Reg.DMA_CH_DST c) (w 8)).wr (Reg.DMA_CH_REMAIN c)
      (BitVec.ofNat 32 (getF (w 0) 0 24)))
    if descOk (w 0) (w 4) (w 8) (w 0xC) (w 0x1C) then s1.setChan c { v with bad := false }
    else (s1.setChan c { v with bad := true }).dmaFault c 7 a
  else (s.wrB (Reg.DMA_CH_STAT c) 29 true).chanEnter c 4

/-- A running channel reads its current descriptor with one line access (R179, R180); `f` is what the read finds, an uncorrectable
error being a bus error (R75). -/
def execDmaDescriptorRead (c : Fin 16) (f : Finding) (s : State) : Host.Outcome State Fault Refusal :=
  if s.chanState c = 1 ∧ (s.chan c).loaded = false then
    match s.descAccess c 1 with
    | some (_, s') => .next s'
    | none =>
      let a := (s.rd (Reg.DMA_CH_DESC c)).toNat
      let found := s.burstFinds a false f
      .next (if found.1 then found.2.dmaTakes c a else found.2.dmaFault c 6 a)
  else .next s

/-- The first byte of a burst that the guard does not permit, with the code and the address (R181); in fallback the guard
decides by the first bytes alone (R174). -/
def State.burstStop (s : State) (m src dst n : Nat) (fill : Bool) : Option (Nat × Nat × Nat) :=
  let last := if s.rdB (Reg.GRD_CTRL m) 16 then 1 else n
  (List.range (min n last)).findSome? fun i =>
    if !fill && !(s.permitted m false (src + i) 1).1 then some (i, 1, src + i)
    else if !(s.permitted m false (dst + i) 2).1 then some (i, 2, dst + i)
    else none

/-- The bytes of the fill pattern for n bytes, n a multiple of 8. -/
def fillBytes (pat : W64) (n : Nat) : List W8 := (List.range (n / 8)).flatMap fun _ => toBytes 8 pat.toNat

/-- The leading part of k bytes of a burst moves; none with the code and the address of a bus error. Of a burst that a bus error
ends no byte is written, where R181 leaves open whether some are (DESIGN CHOICE, notes/assumptions/122.md). -/
def State.burstMove (s : State) (c src dst k : Nat) (fill : Bool) : Except (Nat × Nat) State :=
  if k = 0 then .ok s
  else
    let list (a : Nat) : Bool := (listOf a).isSome || (listOf (a + k - 1)).isSome
    match if fill then some (fillBytes (s.chan c).pat k) else if list src then none else s.memLoad none src k with
    | none => .error (3, src)
    | some d =>
      match if list dst then none else s.memStore none false dst d with
      | none => .error (4, dst)
      | some s' => .ok s'

/-- The registers after a burst of `k` bytes, and what ends it (R181): the fault that cut it short, the descriptor's
completion, or nothing. -/
def State.burstEnds (c m src dst rem k : Nat) (stop : Option (Nat × Nat × Nat)) (s : State) : State :=
  let s2 := ((s.wr (Reg.DMA_CH_SRC c) (BitVec.ofNat 32 (src + k))).wr (Reg.DMA_CH_DST c)
    (BitVec.ofNat 32 (dst + k))).wr (Reg.DMA_CH_REMAIN c) (BitVec.ofNat 32 (rem - k))
  match stop with
  | some (i, code, a) =>
    let kind := if code = 1 then 1 else 2
    (s2.guardRefused m kind { addr := a, straddle := decide (0 < i), region := (s2.permitted m false a kind).2,
                              fallback := s2.rdB (Reg.GRD_CTRL m) 16 }).dmaFault c code a
  | none => if rem = k then s2.dmaComplete c else s2

/-- The bytes of a burst that its checks passed are moved. -/
def State.burstRun (c m src dst rem k : Nat) (fill : Bool) (stop : Option (Nat × Nat × Nat)) (s : State) : State :=
  match s.burstMove c src dst k fill with
  | .error (code, a) => s.dmaFault c code a
  | .ok s1 => s1.burstEnds c m src dst rem k stop

/-- A running channel moves one burst (R181), and completes its descriptor when nothing remains; `read` is what the read of
its source finds, an uncorrectable error being a bus error that counts no progress (R75). -/
def execDmaBurst (c : Fin 16) (read : Finding) (s : State) : Host.Outcome State Fault Refusal :=
  let v := s.chan c
  if s.chanState c = 1 ∧ v.loaded = true then
    let src := (s.rd (Reg.DMA_CH_SRC c)).toNat
    let dst := (s.rd (Reg.DMA_CH_DST c)).toNat
    let rem := (s.rd (Reg.DMA_CH_REMAIN c)).toNat
    if v.bad then .next (s.dmaFault c 7 (s.rd (Reg.DMA_CH_DESC c)).toNat)
    else if rem = 0 then .next (s.dmaComplete c)
    else
      let m := s.chanGuard c
      let fill := bit v.ctrl 28
      let size := if v.big && !s.rdB (Reg.GRD_CTRL m) 16 then 256 else 64
      let n := min rem (size - dst % size)
      let stop := s.burstStop m src dst n fill
      let k := match stop with | some (i, _) => i | none => n
      let found := s.burstFinds src (fill || k == 0) read
      if found.1 then .next (found.2.burstRun c m src dst rem k fill stop) else .next (found.2.dmaFault c 3 src)
  else .next s

/-- A write of `DMA.CH_DESC` (R183). -/
def State.dmaDescWrite (c : Nat) (v : W32) (s : State) : State :=
  if s.chanState c = 0 then (s.wr (Reg.DMA_CH_DESC c) (v &&& 0xFFFFFFE0#32)).okResp 0 else s.busErr

def execDmaDescWrite (c : Fin 16) (v : W32) (s : State) : Host.Outcome State Fault Refusal :=
  .next (s.atBlock (Reg.DMA_CH_DESC c) fun s => s.dmaDescWrite c v)

/-- A write within the DMA block (R183). Two commands in one write are ignored. -/
def State.dmaWrite (a : Nat) (v : W32) (s : State) : State :=
  if a < 0x10050100 ∨ 0x10050500 ≤ a then s
  else
    let c := (a - 0x10050100) / 0x40
    let o := (a - 0x10050100) % 0x40
    if o = 0 then
      let s1 := s.wr a (v &&& 0x7300#32)
      if 1 < b2n (bit v 0) + b2n (bit v 1) + b2n (bit v 2) then s1.dmaCmdErr c
      else if bit v 0 then s1.dmaStart c
      else if bit v 1 then s1.dmaResume c
      else if bit v 2 then s1.dmaAbort c
      else s1
    else if o = 4 then s.wr a (s.rd a &&& ~~~(v &&& 0xF0000000#32))
    else if o = 8 then s.dmaDescWrite c v
    else s

/-- `DMA.ACTIVE` as it reads (R183). -/
def State.dmaActive (s : State) : W32 :=
  (List.range 16).foldl (fun w c => if s.chanState c = 0 then w else setB w c) 0

end Sys2Proof.Machine
end

