-- ==== Sys2Proof/Machine/Trust.lean ====
section
/-!
DEFINITION. The trust engine: signed objects, tokens, quotes, the image store and updates (15, R404 to R423, R427). -/
namespace Sys2Proof.Machine

/-! ### The buffer and the status -/

/-- The 4,096 bytes of the buffer (R427). -/
def State.truBuf (s : State) : List W8 := (List.range 1024).flatMap fun i => toBytes 4 (s.rd (0x100B1000 + 4 * i)).toNat

/-- Bytes put into the buffer from word w on; the last word is filled up with what it held. -/
def State.bufPut (w : Nat) (l : List W8) (s : State) : State :=
  (List.range ((l.length + 3) / 4)).foldl (fun s i =>
    let part := (l.drop (4 * i)).take 4
    let old := s.rd (0x100B1000 + 4 * (w + i))
    s.wr (0x100B1000 + 4 * (w + i)) (BitVec.ofNat 32 (ofBytes part + old.toNat / 256 ^ part.length * 256 ^ part.length))) s

/-- `TRU.STAT.BUSY`. -/
def State.truBusy (s : State) : Bool := s.rdB Reg.TRU_STAT 31

/-- A command or write ignored (R404, R427). -/
def State.truCmdErr (s : State) : State := s.setEvt Reg.TRU_EVT 6

/-- An operation ends with a code: DONE for 0, else ERR. -/
def State.truEnd (op code : Nat) (s : State) : State :=
  let w := s.rd Reg.TRU_STAT
  let w1 := setF (setF (clrB w 31) 16 8 code) 0 4 op
  s.wrL Reg.TRU_STAT (setB w1 (if code = 0 then 30 else 29))

/-- An operation begins: BUSY, with the code that its checks have decided. -/
def State.truBegin (op code : Nat) (s : State) : State :=
  let s1 := s.wr Reg.TRU_STAT (setF (setB (s.rd Reg.TRU_STAT) 31) 0 4 op)
  s1.setTrust { s1.trust with op := some (op, s.rd Reg.TRU_ARG, code) }

/-- The roles in which the port and SEAL act (R425, R426). -/
def State.atRest (s : State) : Bool := s.pair.role == .unassigned || s.pair.role == .outOfService

/-! ### Signed objects (R406, R407, R413, R414) -/

/-- The n bytes at an offset are zero. -/
def objZero (l : List W8) (o n : Nat) : Bool := ((l.drop o).take n).all fun b => b == 0

/-- PUBKEY of an object. -/
def objKey (l : List W8) : List W8 := (l.drop 0x80).take 1793

/-- SIG verifies under PUBKEY, both in the form of R405. -/
def sigOk (l : List W8) : Bool :=
  l.getD 0x80 0 == 0x0A && l.getD 0x800 0 == 0x3A &&
    Config.falconVerify (objKey l) (l.take 0x800) ((l.drop 0x800).take 1280)

/-- The reserved bytes that every object has are zero (R406). -/
def objReserved (l : List W8) : Bool := objZero l 0x781 127 && objZero l 0xD00 768

/-- The state of an owner slot, 1 to 4 (`TRU.OWNER`): 0 EMPTY, 1 ACTIVE, 3 REVOKED. -/
def State.owner (s : State) (n : Nat) : Nat := s.rdF Reg.TRU_OWNER (2 * n - 2) 2

/-- The digest of the key of a signer: 0 the vendor root, 1 to 4 an owner slot. -/
def State.keyDigest (s : State) (n : Nat) : BitVec 512 :=
  if n = 0 then Config.rootDigest else sget (fun _ => 0) s.trust.owners n

/-- PUBKEY is the key of the signer (R407). -/
def State.keyOk (s : State) (l : List W8) (signer : Nat) : Bool := Config.shake256 (objKey l) == s.keyDigest signer

/-- The size of a slot of a kind in chunks of 4 KiB (R412). -/
def slotChunks (kind : Nat) : Nat := if kind = 1 then 4096 else if kind = 2 then 114688 else 65536

/-- The checks of R414 in their order; 0 when every one passes. -/
def State.manifestCode (s : State) (l : List W8) : Nat :=
  let kind := objN l 8 4
  let signer := objN l 0x34 4
  let unit := objN l 0x10 16
  let len := objN l 0x28 4
  if objN l 0 4 ≠ 0x4D495A50 ∨ objN l 4 4 ≠ 1 ∨ kind < 1 ∨ 3 < kind ∨ objZero l 0x38 8 = false ∨
      objReserved l = false then 16
  else if sigOk l = false then 1
  else if s.keyOk l signer = false ∨ (if kind = 3 then signer < 1 ∨ 4 < signer ∨ s.owner signer ≠ 1 else signer ≠ 0) then 2
  else if objN l 0xC 4 ≠ 0x5A120001 then 3
  else if unit ≠ 0 ∧ unit ≠ Config.serial.toNat then 4
  else if objN l 0x20 4 < (s.rd (Reg.TRU_FLOOR (kind - 1))).toNat then 5
  else if len % 4096 ≠ 0 ∨ slotChunks kind * 4096 < len + 4096 then 6
  else 0

/-! ### The image store (R412) -/

/-- The device certificate (R409), in the layout of R406: the fixed fields, the device public key, signed by the vendor root. -/
def deviceCert : List W8 :=
  toBytes 4 0x54524543 ++ toBytes 4 1 ++ toBytes 16 Config.serial.toNat ++ toBytes 4 0x5A120001 ++ toBytes 4 0 ++
    toBytes 8 Config.certIssue.toNat ++ padTo 88 [] ++ (0x0A#8 :: padTo 1792 Config.deviceKey) ++ padTo 127 [] ++
    (0x3A#8 :: padTo 1279 Config.certSignature) ++ padTo 768 []

/-- What an unlisted chunk of the image store holds: the factory images in K0 and S0 (R446), and in the configuration area the
device certificate and the saved configuration behind it (R409, R412). -/
def storeDefault (k : Nat) : List W8 :=
  if k / 2 ^ 18 = 0 ∨ k / 2 ^ 18 = 2 then Config.factoryImage k
  else if k = 7 * 2 ^ 18 then deviceCert
  else if k / 2 ^ 18 = 7 then Config.savedConfig (k % 2 ^ 18)
  else []

/-- Chunk i of an area: 0 to 5 the slots, 6 staging, 7 the configuration area. -/
def State.chunk (s : State) (area i : Nat) : List W8 := sget storeDefault s.trust.store (area * 2 ^ 18 + i)

/-- A chunk of an area written. -/
def State.putChunk (area i : Nat) (l : List W8) (s : State) : State :=
  s.setTrust { s.trust with store := sset storeDefault s.trust.store (area * 2 ^ 18 + i) l }

/-- An area emptied. -/
def State.clearArea (area : Nat) (s : State) : State :=
  let keep := skeep (fun k => k / 2 ^ 18 != area) s.trust.store
  let s1 := s.setTrust { s.trust with store := keep }
  if area = 0 ∨ area = 2 then (List.range (slotChunks (area / 2 + 1))).foldl (fun s i => s.putChunk area i []) s1 else s1

/-- Payload chunks that a manifest announces. -/
def payloadChunks (l : List W8) : Nat := objN l 0x28 4 / 4096

/-- The digest of the payload in an area. -/
def State.areaDigest (s : State) (area : Nat) : BitVec 512 :=
  Config.shake256 ((List.range (payloadChunks (s.chunk area 0))).flatMap fun i => s.chunk area (i + 1))

/-- The payload of an area has the digest of its manifest. -/
def State.areaOk (s : State) (area : Nat) : Bool :=
  digestBytes (s.areaDigest area) == ((s.chunk area 0).drop 0x40).take 64

/-- STATE of a slot (R418). -/
def State.slotSt (s : State) (k : Nat) : Nat := s.rdF (Reg.TRU_SLOT k) 28 4

/-- A slot put into a state. -/
def State.putSlotSt (k st : Nat) (s : State) : State := s.wrF (Reg.TRU_SLOT k) 28 4 st

/-- A slot verifies (R412): its manifest passes R414 for the slot's kind and its payload has the digest. `bad` lists the slots
in which an uncorrectable error was met. -/
def State.slotVerifies (s : State) (bad : List Nat) (k : Nat) : Bool :=
  s.slotSt k != 0 && !bad.contains k && objN (s.chunk k 0) 8 4 == k / 2 + 1 && s.manifestCode (s.chunk k 0) == 0 && s.areaOk k

/-- An uncorrectable image-store error at a block (R412, R456), recorded, with the block replaced from the pool. -/
def State.storeError (block : BitVec 24) (k : Nat) (s : State) : State :=
  let s1 := (s.wr Reg.TRU_IMGERR (setB (block.setWidth 32) 31)).setEvt Reg.TRU_EVT 7
  let s2 := s1.rec09 7 (toBytes 1 k ++ s1.regBytes (Reg.TRU_SVN k))
  if s2.poolLeft 5 ≠ 0 then
    s2.ledgerEntry 5 0 1 7 (block.setWidth 32) (BitVec.ofNat 32 (8192 + s2.poolUsed 5 0)) (s2.recorder.next - 1) 1
  else s2.ledgerEntry 5 0 2 7 (block.setWidth 32) 0xFFFFFFFF#32 (s2.recorder.next - 1) 0

/-! ### Rollback floors (R415) -/

/-- The blown bits b of a kind's thermometer. -/
def State.fuseBits (s : State) (j : Nat) : Nat := s.rdF Reg.TRU_FUSE (8 * j) 8

/-- The MRAM counter of a kind. -/
def State.floorCount (s : State) (j : Nat) : Nat :=
  sget (fun j => if j < 2 then 1 else 0) s.trust.counters j

/-- `TRU.FLOOR` brought to max(counter, 256 × b). -/
def State.floorShow (j : Nat) (s : State) : State :=
  s.wr (Reg.TRU_FLOOR j) (BitVec.ofNat 32 (max (s.floorCount j) (256 * s.fuseBits j)))

/-- A slot has become CURRENT: the floor of its kind advances to its SVN. -/
def State.floorAdvance (k : Nat) (s : State) : State :=
  let j := k / 2
  let v := (s.rd (Reg.TRU_SVN k)).toNat
  if (s.rd (Reg.TRU_FLOOR j)).toNat < v then
    (s.setTrust
      { s.trust with counters := sset (fun j => if j < 2 then 1 else 0) s.trust.counters j v }).floorShow j
  else s

/-- A thermometer fuse of kind j + 1 finishes blowing (R415). -/
def execFloorFuseBlown (j : Fin 3) (s : State) : Host.Outcome State Fault Refusal :=
  if s.fuseBits j < s.floorCount j / 256 ∧ s.fuseBits j < 128 then
    .next ((s.wrF Reg.TRU_FUSE (8 * j.val) 8 (s.fuseBits j + 1)).floorShow j)
  else .next s

/-- A slot becomes CURRENT, the former CURRENT of its kind PREVIOUS, and the floor advances (R418, R419). -/
def State.makeCurrent (k : Nat) (s : State) : State :=
  let other := if k % 2 = 0 then k + 1 else k - 1
  let s1 := if s.slotSt other = 3 then s.putSlotSt other 4 else s
  (s1.putSlotSt k 3).floorAdvance k

/-! ### Staging (R416, R417) -/

/-- `TRU.XFER.STATE`: 0 IDLE, 1 RECEIVING, 2 COMPLETE. -/
def State.xfer (s : State) : Nat := s.rdF Reg.TRU_XFER 30 2

/-- TOTAL of the transfer. -/
def State.xferTotal (s : State) : Nat := s.rdF Reg.TRU_XFER 0 17

/-- The bit of a chunk in the bitmap. -/
def State.chunkHeld (s : State) (i : Nat) : Bool := s.chunk 6 i != []

/-- The lowest missing index, TOTAL when none. -/
def State.chunkNext (s : State) : Nat :=
  ((List.range s.xferTotal).find? fun i => !s.chunkHeld i).getD s.xferTotal

/-- `TRU.XRCVD` and `TRU.XNEXT` brought up to the bitmap. -/
def State.xferShow (s : State) : State :=
  (s.wr Reg.TRU_XRCVD (BitVec.ofNat 32 (((List.range s.xferTotal).filter fun i => s.chunkHeld i).length))).wr
    Reg.TRU_XNEXT (BitVec.ofNat 32 s.chunkNext)

/-- Staging returns to IDLE. -/
def State.stagingIdle (s : State) : State :=
  let s1 := ((s.wr Reg.TRU_XFER 0).wr Reg.TRU_XRCVD 0).wr Reg.TRU_XNEXT 0
  (s1.clearArea 6).setTrust { (s1.clearArea 6).trust with relay := none, parts := none }

/-- The code that a chunk of index i gets (R416). -/
def State.chunkCode (s : State) (i : Nat) (crc : W32) (l : List W8) : Nat :=
  if s.xfer = 0 then if i = 0 then s.manifestCode l else 8
  else if i ≠ 0 ∧ s.xferTotal ≤ i then 8
  else if s.xfer = 2 then 11
  else if i = 0 then if l = s.chunk 6 0 then 0 else 11
  else if s.chunkHeld i then 0
  else if crc32 l ≠ crc then 7
  else 0

/-- A chunk accepted (R416). -/
def State.chunkTake (i : Nat) (relayed : Bool) (l : List W8) (s : State) : State :=
  if s.xfer = 0 then
    ((s.putChunk 6 0 l).wr Reg.TRU_XFER (BitVec.ofNat 32 (2 ^ 30 + objN l 8 4 % 4 * 2 ^ 28 + b2n relayed * 2 ^ 27 +
      (payloadChunks l + 1) % 2 ^ 17))).xferShow
  else if s.chunkHeld i then s
  else (s.putChunk 6 i l).xferShow

/-- The code of FINISH (R417). -/
def State.finishCode (s : State) : Nat :=
  if s.xfer = 0 ∨ s.chunkNext < s.xferTotal then 10 else if s.areaOk 6 then 0 else 9

/-- What FINISH leaves: COMPLETE, or IDLE after a digest that differs. -/
def State.finishTake (code : Nat) (s : State) : State :=
  if code = 0 then s.wrF Reg.TRU_XFER 30 2 2 else if code = 9 then s.stagingIdle else s

/-! ### INSTALL (R418, R423) -/

/-- The slot that INSTALL writes: the one of the kind that is not CURRENT. -/
def State.installTarget (s : State) : Nat :=
  let k := 2 * (s.rdF Reg.TRU_XFER 28 2 - 1)
  if s.slotSt k = 3 then k + 1 else k

/-- The code of INSTALL. -/
def State.installCode (s : State) : Nat :=
  let k := s.installTarget
  let base := k / 2 * 2
  if s.xfer ≠ 2 then 10
  else if s.slotSt base = 2 ∨ s.slotSt (base + 1) = 2 ∨ s.rdB (Reg.TRU_SLOT k) 27 = true ∨ (k < 4 ∧ s.pair.peerTrial = true) then
    12
  else s.manifestCode (s.chunk 6 0)

/-- The target slot is emptied while its content is written. -/
def State.installBegin (s : State) : State :=
  let k := s.installTarget
  ((s.wr (Reg.TRU_SLOT k) 0).wr (Reg.TRU_SVN k) 0).clearArea k

/-- The staged image has been copied and rechecked: the slot's state is written and staging returns to IDLE. -/
def State.installEnd (s : State) : State :=
  let k := s.installTarget
  let l := s.chunk 6 0
  let s1 := (List.range (payloadChunks l + 1)).foldl (fun s i => s.putChunk k i (s.chunk 6 i)) s
  let w := BitVec.ofNat 32 (objN l 0x34 4 % 16 * 2 ^ 20 + objN l 0x30 4 % 256 * 256 + objN l 0x2C 4 % 256)
  let s2 := ((s1.wr (Reg.TRU_SLOT k) w).wr (Reg.TRU_SVN k) (BitVec.ofNat 32 (objN l 0x20 4))).stagingIdle
  if k < 4 then s2.putSlotSt k 2
  else
    let s3 := (s2.makeCurrent k).extend 2 l
    s3.setStart { s3.start with noApp := false }

/-- In recovery, a COMPLETE staging of the kind that is sought is installed as TRIAL and a module reset requested (R435). -/
def State.recoverInstall (s : State) : State :=
  if s.start.stage = .recovery ∧ s.xfer = 2 ∧ s.rdF Reg.TRU_XFER 28 2 = s.start.recoverKind ∧ s.installCode = 0 then
    (s.installBegin.installEnd).moduleReset 2 false
  else s

/-- An application slot, CURRENT first and then PREVIOUS, that verifies and satisfies p. -/
def State.appSlot (s : State) (p : Nat → Bool) : Option Nat :=
  match [4, 5].find? fun k => s.slotSt k == 3 && s.slotVerifies [] k && p k with
  | some k => some k
  | none => [4, 5].find? fun k => s.slotSt k == 4 && s.slotVerifies [] k && p k

/-- A Standby module has no application slot that verifies (R436). -/
def State.lacksApp (s : State) : Bool := s.pair.role == .standby && (s.appSlot fun _ => true).isNone

/-- A Standby without an application installs the one that it has relayed; refused, it raises the no-application diagnostic
(R436). -/
def State.appInstall (s : State) : State :=
  if s.lacksApp = true ∧ s.xfer = 2 ∧ s.rdF Reg.TRU_XFER 28 2 = 3 then
    if s.installCode = 0 then s.installBegin.installEnd else s.setStart { s.start with noApp := true }
  else s

/-! ### Tokens (R408) -/

/-- The challenge. -/
def State.challenge (s : State) : W64 := Config.freeValue s.trust.chal

/-- A new challenge is drawn. -/
def State.newChallenge (s : State) : State := s.drawn.setTrust { s.trust with chal := s.free }

/-- Some owner slot is ACTIVE. -/
def State.someOwner (s : State) : Bool := [1, 2, 3, 4].any fun n => s.owner n == 1

/-- The signer is allowed for the purpose (R407, R408). -/
def State.signerAllowed (s : State) (purpose slot signer : Nat) : Bool :=
  if signer = 0 then purpose == 1 && !s.someOwner
  else s.owner signer == 1 && (purpose == 3 || signer != slot)

/-- A REVOKE that R408 refuses with code 14. -/
def State.revokeRefused (s : State) (slot : Nat) : Bool :=
  ([1, 2, 3, 4].all fun n => n == slot || s.owner n != 1) ||
    ([4, 5].any fun k => s.slotSt k == 3 && s.rdF (Reg.TRU_SLOT k) 20 4 == slot)

/-- The code of TOKEN. -/
def State.tokenCode (s : State) (l : List W8) : Nat :=
  let purpose := objN l 4 4
  let slot := objN l 0x20 4
  let signer := objN l 0x24 4
  if objN l 0 4 ≠ 0x4E4B4F54 ∨ purpose < 1 ∨ 3 < purpose ∨ 4 < signer ∨
      (if purpose = 3 then slot ≠ 0 else slot < 1 ∨ 4 < slot) ∨ (purpose ≠ 1 ∧ objZero l 0x40 64 = false) ∨
      objZero l 0x28 24 = false ∨ objReserved l = false then 16
  else if objN l 8 16 ≠ Config.serial.toNat ∨ objN l 0x18 8 ≠ s.challenge.toNat then 13
  else if sigOk l = false then 1
  else if s.keyOk l signer = false ∨ s.signerAllowed purpose slot signer = false then 2
  else if purpose = 2 ∧ s.revokeRefused slot = true then 14
  else if (purpose = 1 ∧ s.owner slot ≠ 0) ∨ (purpose = 2 ∧ s.owner slot ≠ 1) then 12
  else 0

/-- An accepted token acts. -/
def State.tokenTake (l : List W8) (s : State) : State :=
  let slot := objN l 0x20 4
  match objN l 4 4 with
  | 1 =>
    let d := BitVec.ofNat 512 (objN l 0x40 64)
    (s.setTrust { s.trust with owners := sset (fun _ => 0) s.trust.owners slot d }).wrF Reg.TRU_OWNER (2 * slot - 2) 2 1
  | 2 => s.wrF Reg.TRU_OWNER (2 * slot - 2) 2 3
  | _ => s.clearScree (objN l 0x24 4)

/-! ### Quotes (R411) -/

/-- The 32 bytes of a ledger entry (R461), CHECK included. -/
def LedgerEntry.toBytes (e : LedgerEntry) : List W8 :=
  let body := Machine.toBytes 4 e.entry ++ Machine.toBytes 5 e.opsec ++ Machine.toBytes 1 e.pool ++ Machine.toBytes 1 e.action ++
    Machine.toBytes 1 e.cause ++ Machine.toBytes 4 e.old.toNat ++ Machine.toBytes 4 e.new.toNat ++ Machine.toBytes 8 e.evrseq
  body ++ Machine.toBytes 4 (crc32 body).toNat

/-- What the state block holds (R462), as numbers: lane maps, spare slots, `FCH.SPARE` of the groups, the mismatch history
of the cores, and the elements consumed of the pools. -/
def State.stateBlock (s : State) : List Nat :=
  (List.range 4).map (fun t => (s.rd (Reg.TRI_LANEMAP t)).toNat) ++ [(s.rd (Reg.TRI_POOL 0)).toNat] ++
    (List.range 32).map (fun g => (s.rd (Reg.FCH_SPARE g)).toNat) ++
    s.ledger.history.flatMap (fun e => e.1 :: e.2.length :: e.2) ++ s.ledger.used.flatMap fun e => [e.1, e.2]

/-- The digest of the spares ledger (R462). -/
def State.ledgerDigest (s : State) : BitVec 512 :=
  Config.shake256 (Config.stateBlock s.stateBlock ++ s.ledger.log.flatMap fun e => e.toBytes)

/-- Bytes 0x000 to 0x29F of a quote. -/
def State.quoteBody (s : State) : List W8 :=
  toBytes 4 0x544F5551 ++ toBytes 4 1 ++ toBytes 16 Config.serial.toNat ++ toBytes 4 0x5A120001 ++
    toBytes 4 (roleCode s.pair.role) ++ s.truBuf.take 32 ++ toBytes 8 s.opsec ++ toBytes 4 s.backup.pwrcyc.toNat ++
    s.regBytes Reg.TRU_FUSE ++ toBytes 8 s.now.toNat ++ toBytes 8 0 ++ digestBytes s.ledgerDigest ++
    (List.range 8).flatMap fun i => digestBytes (s.measure i)

/-- The extensions that waited for a signing follow (R411). -/
def State.extendWaiting (s : State) : State :=
  let w := s.trust.waiting
  w.foldl (fun s e => s.extendNow e.1 e.2) (s.setTrust { s.trust with waiting := [] })

/-! ### The operations of `TRU.CMD` (R404, R427) -/

/-- A command of the trust engine: ignored while one is in progress, otherwise `f`. Any command ends the wait for the second
write of a seal. -/
def State.truCommand (f : State → State) (s : State) : State :=
  if s.truBusy then s.truCmdErr else f s

/-- The mark of a first SEAL write gone. -/
def State.sealForget (s : State) : State := s.setTrust { s.trust with sealFirst := none }

/-- QUOTE (R411): the body is fixed as the signature begins. -/
def State.truQuote (s : State) : State := s.truCommand fun s =>
    let s1 := s.sealForget
    (s1.setTrust { s1.trust with quote := s1.quoteBody }).truBegin 1 0

def execQuote (s : State) : Host.Outcome State Fault Refusal := .next (s.atBlock Reg.TRU_CMD State.truQuote)

/-- A relay fills staging: recovery's search does so only from the first answer on. -/
def State.relaying (s : State) : Bool :=
  match s.trust.relay with
  | some (path, _, _) => path != 3
  | none => false

/-- CHUNK (R416, R417). -/
def State.truChunk (s : State) : State := s.truCommand fun s =>
    s.sealForget.truBegin 2 (if s.relaying then 11
      else s.chunkCode (s.rd Reg.TRU_ARG).toNat (s.rd Reg.TRU_CRC) s.truBuf)

def execChunk (s : State) : Host.Outcome State Fault Refusal := .next (s.atBlock Reg.TRU_CMD State.truChunk)

/-- FINISH (R417). -/
def State.truFinish (s : State) : State := s.truCommand fun s => s.sealForget.truBegin 3 s.finishCode

def execFinish (s : State) : Host.Outcome State Fault Refusal := .next (s.atBlock Reg.TRU_CMD State.truFinish)

/-- INSTALL (R418). -/
def State.truInstall (s : State) : State := s.truCommand fun s =>
    let code := s.installCode
    (if code = 0 then s.sealForget.installBegin else s.sealForget).truBegin 4 code

def execInstall (s : State) : Host.Outcome State Fault Refusal := .next (s.atBlock Reg.TRU_CMD State.truInstall)

/-- DISCARD (R416). -/
def State.truDiscard (s : State) : State := s.truCommand fun s => s.sealForget.truBegin 5 0

def execDiscard (s : State) : Host.Outcome State Fault Refusal := .next (s.atBlock Reg.TRU_CMD State.truDiscard)

/-- A relay request (R422): TYPE 1, KIND, and the requester's serial. -/
def relayRequest (kind : Nat) : List W8 := toBytes 1 1 ++ toBytes 1 kind ++ toBytes 10 0 ++ toBytes 16 Config.serial.toNat

/-- A message goes to a node in UDP over IPv6 on N2 or N3, while the port's link is up (R422). -/
def State.udpSend (p node : Nat) (m : List W8) (s : State) : State :=
  if s.linkUp p then (s.portSent p).emit (.udp p node m) else s

/-- A message goes to a node tunnelled on the ring (R333, R422): its IEEE 802.3 frame in KIND 8, in as many fragments as it needs
(R307). -/
def State.tunnelSend (node : Nat) (m : List W8) (s : State) : State :=
  let f := Config.udpFrame node m
  let n := (f.length + 1023) / 1024
  (List.range n).foldl (fun s i =>
    s.rinfaSend 8 false node (BitVec.ofNat 8 (i * 16 + (n - 1))) 0 ((f.drop (1024 * i)).take 1024)) s

/-- The path of R422 that a port belongs to: 0 the Anvil link, 1 N0 or N1, 2 N2 or N3. -/
def relayPath (via : Option (Fin 4)) : Nat :=
  match via with
  | none => 0
  | some p => if p.val < 2 then 1 else 2

/-- A relay message goes out by the Anvil link or a network port (R422). -/
def State.relayOut (via : Option (Fin 4)) (node : Nat) (m : List W8) (s : State) : State :=
  match via with
  | none => s.send (.relay m)
  | some p => if p.val < 2 then s.tunnelSend node m else s.udpSend p node m

/-- A relay message has come by the Anvil link, or by a network port as management does (R328, R422). A module whose start a
finding has stopped takes none by the link (R433), nor does one in which Hearth never runs (R431). -/
def State.relayIn (via : Option (Fin 4)) (node : W16) (s : State) : Option State :=
  match via with
  | none => if s.start.hearthBad = true ∨ s.start.stage = .stopped then none else some s.heard
  | some p => s.managed p (some node.toNat)

/-- The request goes out by a path. -/
def State.relayAsk (path kind node : Nat) (s : State) : State :=
  if path = 0 then s.relayOut none node (relayRequest kind)
  else if path = 1 then s.relayOut (some 0) node (relayRequest kind)
  else (s.relayOut (some 2) node (relayRequest kind)).relayOut (some 3) node (relayRequest kind)

/-- The request goes out and the relay is in progress. -/
def State.relayStart (path kind node : Nat) (s : State) : State :=
  (s.setTrust { s.trust with relay := some (path, kind, node), parts := none }).relayAsk path kind node

/-- Staging is IDLE, or filled by an earlier relay of the kind that stopped (R417, R422). -/
def State.relayRoom (s : State) (kind : Nat) : Bool :=
  s.xfer == 0 || (s.xfer == 1 && s.rdB Reg.TRU_XFER 27 && s.rdF Reg.TRU_XFER 28 2 == kind)

/-- The code of RELAY. -/
def State.relayCode (s : State) (arg : W32) : Nat :=
  if getF arg 30 2 = 3 ∨ getF arg 28 2 = 0 then 16
  else if s.relaying then 11
  else if s.relayRoom (getF arg 28 2) then 0
  else 11

/-- RELAY (R422). -/
def State.truRelay (s : State) : State := s.truCommand fun s => s.sealForget.truBegin 6 (s.relayCode (s.rd Reg.TRU_ARG))

def execRelay (s : State) : Host.Outcome State Fault Refusal := .next (s.atBlock Reg.TRU_CMD State.truRelay)

/-- TOKEN (R408). -/
def State.truToken (s : State) : State := s.truCommand fun s => s.sealForget.truBegin 7 (s.tokenCode s.truBuf)

def execToken (s : State) : Host.Outcome State Fault Refusal := .next (s.atBlock Reg.TRU_CMD State.truToken)

/-- EXTEND (R410). -/
def State.truExtend (s : State) : State := s.truCommand fun s =>
    s.sealForget.truBegin 8 (if (s.rd Reg.TRU_ARG).toNat = 6 ∨ (s.rd Reg.TRU_ARG).toNat = 7 then 0 else 16)

def execExtend (s : State) : Host.Outcome State Fault Refusal := .next (s.atBlock Reg.TRU_CMD State.truExtend)

/-- CERT (R409). -/
def State.truCert (s : State) : State := s.truCommand fun s => s.sealForget.truBegin 9 0

def execCert (s : State) : Host.Outcome State Fault Refusal := .next (s.atBlock Reg.TRU_CMD State.truCert)

/-- One write of `TRU.CMD` with OP = SEAL (R426): the first is remembered with its instant, a second within 1 ms begins to
blow the fuse, and anything else gives code 12. -/
def State.truSeal (s : State) : State :=
  s.truCommand fun s =>
    let arg := (s.rd Reg.TRU_ARG).toNat
    let second := match s.trust.sealFirst with
      | some t => decide (s.now.toNat < t.toNat + 1000000)
      | none => false
    if arg = 0x5EA10001 ∧ s.atRest = true then (s.setTrust { s.trust with sealFirst := some s.now }).truEnd 10 0
    else if arg = 0x5EA10002 ∧ s.atRest = true ∧ second = true then
      (s.setTrust { s.trust with sealFirst := none, sealing := true }).truBegin 10 0
    else s.sealForget.truEnd 10 12

def execSeal (when : W64) (s : State) : Host.Outcome State Fault Refusal := .next ((s.atTime when).atBlock Reg.TRU_CMD State.truSeal)

/-- OP 0 or 11 to 15 (R427). -/
def State.truInvalid (op : Nat) (s : State) : State := s.truCommand fun s => s.sealForget.truEnd op 16

def execTruCmdInvalid (op : Fin 16) (s : State) : Host.Outcome State Fault Refusal :=
  if op.val = 0 ∨ 11 ≤ op.val then .next (s.atBlock Reg.TRU_CMD fun s => s.truInvalid op) else .next s

/-- The effect of an operation whose checks have passed. -/
def State.truApply (op : Nat) (arg : W32) (s : State) : State :=
  match op with
  | 1 => s.bufPut 0 (s.trust.quote ++ 0x3A#8 :: padTo 1279 (Config.falconSign s.trust.quote))
  | 2 => s.chunkTake arg.toNat false s.truBuf
  | 3 => s.finishTake 0
  | 4 => s.installEnd
  | 5 => s.stagingIdle
  | 6 => s.relayStart (getF arg 30 2) (getF arg 28 2) (getF arg 0 16)
  | 7 => s.tokenTake s.truBuf
  | 8 => s.extendNow arg.toNat (s.truBuf.take 64)
  | 9 => s.bufPut 0 (s.chunk 7 0)
  | _ => (s.wrB Reg.TRU_FUSE 31 true).setTrust { s.trust with sealing := false }

/-- `TRU.CMD` as written with its key (R427), at the present time. -/
def State.truCmdWrite (v : W32) (s : State) : State :=
  if getF v 24 8 = 0xA5 then
    match getF v 0 4 with
    | 1 => s.truQuote
    | 2 => s.truChunk
    | 3 => s.truFinish
    | 4 => s.truInstall
    | 5 => s.truDiscard
    | 6 => s.truRelay
    | 7 => s.truToken
    | 8 => s.truExtend
    | 9 => s.truCert
    | 10 => s.truSeal
    | n => s.truInvalid n
  else s

/-! ### Relay (R422) -/

/-- Chunk i of an area goes out as its four fragments (TYPE 2). -/
def State.relayFragments (via : Option (Fin 4)) (node area i : Nat) (s : State) : State :=
  let l := s.chunk area i
  (List.range 4).foldl (fun s f =>
    s.relayOut via node (toBytes 1 2 ++ toBytes 1 f ++ toBytes 2 0 ++ toBytes 4 i ++ toBytes 4 (crc32 l).toNat ++
      (l.drop (1024 * f)).take 1024)) s

/-- A refusal (TYPE 3). -/
def State.relayRefuse (via : Option (Fin 4)) (node code : Nat) (s : State) : State :=
  s.relayOut via node (toBytes 1 3 ++ toBytes 1 code ++ toBytes 10 0)

/-- What a module serves of a kind: the CURRENT slot when it verifies, else a COMPLETE staging. -/
def State.relaySource (s : State) (kind : Nat) (bad : List Nat) : Option Nat :=
  match [2 * (kind - 1), 2 * (kind - 1) + 1].find? fun k => s.slotSt k == 3 && s.slotVerifies bad k with
  | some k => some k
  | none => if s.xfer = 2 && s.rdF Reg.TRU_XFER 28 2 == kind then some 6 else none

/-- A module with RUN = 1 serves nobody on N0 or N1 (R422). -/
def State.serveBarred (s : State) (via : Option (Fin 4)) : Bool := relayPath via == 1 && s.run

/-- A relay request arrives by the Anvil link or a network port, from a node where it is tunnelled: the image is verified, and its
chunks follow, each as the trust engine has read it. -/
def execRelayRequestReceived (via : Option (Fin 4)) (kind : Fin 256) (serial : BitVec 128) (node : W16)
    (bad : Option (Fin 6 × BitVec 24)) (s : State) : Host.Outcome State Fault Refusal :=
  match s.relayIn via node with
  | none => .next s
  | some s0 =>
    if kind.val = 0 ∨ 3 < kind.val then .next (s0.relayRefuse via node.toNat 16)
    else if s0.serveBarred via then .next (s0.relayRefuse via node.toNat 12)
    else
      let s1 := match bad with
        | some (k, b) => s0.storeError b k
        | none => s0
      match s1.relaySource kind (match bad with | some (k, _) => [k.val] | none => []) with
      | none => .next (s1.relayRefuse via node.toNat 12)
      | some a =>
        let unit := objN (s1.chunk a 0) 0x10 16
        if unit ≠ 0 ∧ unit ≠ serial.toNat then .next (s1.relayRefuse via node.toNat 4)
        else
          let v : Serving := { via := via, node := node.toNat, area := a, next := 0 }
          .next (s1.setTrust
            { s1.trust with serving := s1.trust.serving.filter (fun e => e.via != via || e.node != node.toNat) ++ [v] })

/-- The area of a relay still holds what was verified: the CURRENT slot, or a COMPLETE staging. -/
def State.serves (s : State) (v : Serving) : Bool := if v.area = 6 then s.xfer == 2 else s.slotSt v.area == 3

/-- The trust engine has read the next chunk of the relay whose turn it is, and the chunk goes out; the relay stops, and is
refused, when RUN has become 1 for a port of the ring (R422), when its image has gone, or when the chunk is uncorrectable
(R412). -/
def State.serveNext (err : Option (BitVec 24)) (s : State) : State :=
  match s.trust.serving with
  | [] => s
  | v :: rest =>
    let s0 := s.setTrust { s.trust with serving := rest }
    if s0.serveBarred v.via ∨ s0.serves v = false then s0.relayRefuse v.via v.node 12
    else
      match err with
      | some b => (s0.storeError b v.area).relayRefuse v.via v.node 15
      | none =>
        let s1 := s0.relayFragments v.via v.node v.area v.next
        if v.next < payloadChunks (s0.chunk v.area 0) then
          s1.setTrust { s1.trust with serving := rest ++ [{ v with next := v.next + 1 }] }
        else s1

/-- The operations that read or write the image store. -/
def usesStore (op : Nat) : Bool := op == 2 || op == 3 || op == 4 || op == 9

/-- The operation in progress completes (R404); with none in progress the reading of a served chunk ends. `err` is the block
of an uncorrectable image-store error met on the way, reported in any case (R412): the operation fails for it, unless its
checks have already refused it. -/
def execTrustOperationDone (err : Option (BitVec 24)) (s : State) : Host.Outcome State Fault Refusal :=
  match s.trust.op with
  | none => .next (s.serveNext err)
  | some (op, arg, code) =>
    let s0 := s.setTrust { s.trust with op := none }
    let s1 := if op = 7 then s0.newChallenge else s0
    let met := if usesStore op then err else none
    let s2 := match met with
      | some b => s1.storeError b s1.installTarget
      | none => s1
    if met.isSome ∧ (code = 0 ∨ op = 3 ∧ code = 9) then .next (s2.truEnd op 15)
    else if code = 0 then .next (((s2.truApply op arg).extendWaiting.truEnd op 0).recoverInstall)
    else
      .next ((if op = 3 then s2.finishTake code else if op = 4 ∧ s2.lacksApp = true then s2.setStart { s2.start with noApp := true }
        else s2).truEnd op code)

/-- The relay in progress ends with a code, which `TRU.STAT` shows unless another operation is in progress there (R404). -/
def State.relayEnd (code : Nat) (s : State) : State :=
  let s1 := s.setTrust { s.trust with relay := none, parts := none }
  if s1.truBusy then s1 else s1.truEnd 6 code

/-- A Standby without an application whose relayed manifest is refused raises the no-application diagnostic (R436). -/
def State.appRefused (index code : Nat) (s : State) : State :=
  if s.lacksApp = true ∧ index = 0 ∧ code ≠ 7 then s.setStart { s.start with noApp := true } else s

/-- The code of a chunk of a relay of a kind: its CRC-32, the KIND that was asked for (DESIGN CHOICE of the code,
notes/assumptions/115.md), then R416. -/
def State.relayChunkCode (s : State) (kind index : Nat) (crc : W32) (l : List W8) : Nat :=
  if crc32 l ≠ crc then 7 else if index = 0 ∧ objN l 8 4 ≠ kind then 16 else s.chunkCode index crc l

/-- A whole chunk of a relay of a kind is written into staging, and FINISH runs after the last (R422). -/
def State.relayChunk (kind : Nat) (index crc : W32) (l : List W8) (s : State) : State :=
  let code := s.relayChunkCode kind index.toNat crc l
  if code ≠ 0 then (s.relayEnd code).appRefused index.toNat code
  else
    let s1 := s.chunkTake index.toNat true l
    if s1.chunkNext < s1.xferTotal then s1 else ((s1.finishTake s1.finishCode).relayEnd s1.finishCode).recoverInstall.appInstall

/-- The fragments of a chunk that have come, with a new one among them. -/
def State.partsWith (s : State) (frag : Fin 4) (index crc : W32) (data : List W8) : List (Nat × List W8) :=
  let old := match s.trust.parts with
    | some (i, c, l) => if i = index ∧ c = crc then l else []
    | none => []
  sput old frag.val (padTo 1024 data)

/-- A server's answer arrives (R422): fragments make up a chunk, a refusal ends the relay. In recovery the first server that
answers with content is used (R435). -/
def execRelayChunkReceived (via : Option (Fin 4)) (node : W16) (reply : RelayReply) (s : State) :
    Host.Outcome State Fault Refusal :=
  match s.relayIn via node with
  | none => .next s
  | some s0 =>
    match s0.trust.relay with
    | none => .next s0
    | some (path, kind, n) =>
      if path ≠ 3 ∧ path ≠ relayPath via then .next s0
      else
        match reply with
        | .refused code => .next (if path = 3 then s0 else s0.relayEnd code.toNat)
        | .fragment frag index crc data =>
          let l := s0.partsWith frag index crc data
          let s1 := s0.setTrust { s0.trust with relay := some (relayPath via, kind, n), parts := some (index, crc, l) }
          if l.length < 4 then .next s1
          else .next ((s1.setTrust { s1.trust with parts := none }).relayChunk kind index crc (l.flatMap fun e => e.2))

/-! ### Trials (R419, R420) -/

/-- W in seconds. -/
def State.trialSec (s : State) : Nat := s.rdF Reg.TRU_TRIAL 0 11 * 60

/-- The trial window is running at the present operating second. -/
def State.inTrial (s : State) : Bool := s.rdB Reg.TRU_TRIAL 31 && decide (s.opsec < s.trust.trialAt + s.trialSec)

/-- Bytes 0 to 3 of the DIGEST of a slot's manifest. -/
def State.confirmWord (s : State) (k : Nat) : Nat := objN (s.chunk k 0) 0x40 4

/-- A slot holds a running trial image. -/
def State.onTrial (s : State) (k : Nat) : Bool := s.slotSt k == 2 && s.rdB (Reg.TRU_SLOT k) 27

/-- A write of `TRU.HEALTH_CONFIRM` (R419). -/
def State.healthConfirm (v : W32) (s : State) : State :=
  match if s.inTrial then [0, 1, 2, 3].find? fun k => s.onTrial k && s.confirmWord k == v.toNat else none with
  | some k =>
    let s1 := (s.makeCurrent k).setEvt Reg.TRU_EVT 1
    if [0, 1, 2, 3].any fun k => s1.onTrial k then s1 else s1.wrB Reg.TRU_TRIAL 31 false
  | none => s.setEvt Reg.TRU_EVT 5

def execHealthConfirm (v : W32) (s : State) : Host.Outcome State Fault Refusal := .next (s.atBlock Reg.TRU_CMD fun s => s.healthConfirm v)

/-- Operating seconds run on to a second, if they have not passed it (R399). -/
def State.toOpsec (n : Nat) (s : State) : State :=
  if s.opsec < n then s.rtcRun ((n - s.opsec) * 32768 - s.backup.pulses) else s

/-- A trial window ends without confirmation (R420); a yield that is under way already serves for the one it asks for. -/
def execTrialWindowExpire (s : State) : Host.Outcome State Fault Refusal :=
  if s.rdB Reg.TRU_TRIAL 31 then
    let s0 := s.toOpsec (s.trust.trialAt + s.trialSec)
    if s0.pair.role = .active then
      if s0.pair.peer = some .standby ∧ s0.pair.peerReady = true then
        let under := s0.pair.yield = .preparing ∨ (s0.pair.yield = .hold ∧ s0.pair.yieldOff = false)
        let s1 := if under then s0 else s0.yieldTry
        if under ∨ s1.pair.yield = .preparing ∨ s1.pair.yieldWaits = true then
          .next ((s1.wrB Reg.TRU_TRIAL 31 false).setTrust { s1.trust with yieldReset := true })
        else .next s1.trialStays
      else .next s0.trialStays
    else .next (s0.moduleReset 1 false)
  else .next s

/-! ### Reads and writes of the block (R427) -/

/-- A read of `TRU.CHAL_LO` captures CHAL_HI. -/
def State.chalRead (s : State) : State :=
  (s.setTrust { s.trust with chalHi := some ((s.challenge >>> 32).setWidth 32) }).okResp ((s.challenge.setWidth 32).setWidth 64)

/-- `TRU.CHAL_HI` as it reads: as last captured, since the reset the challenge's. -/
def State.chalHiWord (s : State) : W32 := s.trust.chalHi.getD ((s.challenge >>> 32).setWidth 32)

def execChalLoRead (s : State) : Host.Outcome State Fault Refusal := .next (s.atBlock Reg.TRU_CMD State.chalRead)

/-- `TRU.TRIAL` as it reads. -/
def State.trialWord (s : State) : W32 :=
  let w := s.rd Reg.TRU_TRIAL
  if bit w 31 then setF w 11 17 (s.trust.trialAt + s.trialSec - s.opsec) else w

/-- A write within the TRU block. -/
def State.truWrite (a : Nat) (v : W32) (s : State) : State :=
  if a = Reg.TRU_STAT then s.wr a (s.rd a &&& ~~~(v &&& 0x60000000#32))
  else if a = Reg.TRU_CMD then s.truCmdWrite v
  else if a = Reg.TRU_ARG ∨ a = Reg.TRU_CRC then s.wr a v
  else if a = Reg.TRU_TRIAL then
    if 1 ≤ getF v 0 11 ∧ getF v 0 11 ≤ 1440 then s.wrF a 0 11 (getF v 0 11) else s.truCmdErr
  else if a = Reg.TRU_HEALTH_CONFIRM then s.healthConfirm v
  else if a = Reg.TRU_EVT then s.wr a (s.rd a &&& ~~~(v &&& 0xFF#32))
  else if a = Reg.TRU_EVT_EN then s.wrL a (v &&& 0xFF#32)
  else if a = Reg.TRU_IMGERR then s.wr a (s.rd a &&& ~~~(v &&& 0x80000000#32))
  else if 0x100B1000 ≤ a ∧ a < 0x100B2000 then if s.truBusy then s.truCmdErr else s.wr a v
  else s

/-! ### The Tuyere port (R424, R425) -/

/-- The instructions that act on the module, each measured at its first use. -/
def tuyereUses (code : W8) : Bool := code == 0x02 || code == 0x08 || code == 0x10 || code == 0x11

/-- The fuse is blown or has begun to blow (R426). -/
def State.tuyereSealed (s : State) : Bool := s.rdB Reg.TRU_FUSE 31 || s.trust.sealing

/-- The selected instruction acts, rather than as BYPASS (R424 to R426). -/
def State.tuyereActs (s : State) (code : W8) : Bool :=
  if code == 0x01 then true
  else if s.tuyereSealed then false
  else if code == 0x10 || code == 0x11 then s.atRest
  else tuyereUses code

/-- The three effects of the first use of an instruction that acts (R425): DEBUG_USED, M5 extended, and the record. -/
def State.tuyereFirst (code : W8) (s : State) : State :=
  if tuyereUses code && !s.trust.used.contains code then
    let s1 := (s.setTrust { s.trust with used := code :: s.trust.used }).wrB Reg.TRU_FUSE 30 true
    (s1.extend 5 [code]).rec09 0x80 [code]
  else s

/-- An instruction is selected: EVT.TUYERE for DBG or MEM in a role that does not allow it, and the effects of a first use.
The TAP controller has gone through Update-IR to Run-Test/Idle (PRESUMED from IEEE 1149.1, notes/assumptions/117.md). -/
def State.tuyereSelect (code : W8) (s : State) : State :=
  let s1 := s.setTrust { s.trust with tap := 0xC, ir := code }
  if s1.tuyereActs code then s1.tuyereFirst code
  else if (code == 0x10 || code == 0x11) && !s1.atRest then s1.setEvt Reg.TRU_EVT 4
  else s1

/-- The port has no power, and TDO floats: in Ember (R392) and without main power (R50). -/
def State.tuyereDead (s : State) : Bool := s.bellows.ember || !s.power.mainValid

/-- What the register between TDI and TDO captures: the identity, the four cells of the boundary register, or zero. -/
def State.tuyereCapture (s : State) : W64 :=
  if !s.tuyereActs s.trust.ir then 0
  else if s.trust.ir = 0x01 then
    BitVec.ofNat 64 (0x0512056F + getF Config.revision 8 8 % 16 * 0x10000000)
  else if s.trust.ir = 0x02 ∨ s.trust.ir = 0x08 then
    BitVec.ofNat 64 (s.power.pos.toNat + 4 * b2n (!s.power.peerPres) + 8 * b2n (s.backup.req != .sinking))
  else 0

/-- An instruction is scanned in and its register captured; where TDO floats, what is read is a free value. -/
def execTuyereInstruction (code : W8) (s : State) : Host.Outcome State Fault Refusal :=
  if s.tuyereDead then .next (s.drawn.okResp s.draw)
  else
    let s1 := s.tuyereSelect code
    .next (s1.okResp s1.tuyereCapture)

/-- TRST_N resets the TAP controller (R40, R424): Test-Logic-Reset, with IDCODE selected. -/
def execTuyereTestReset (s : State) : Host.Outcome State Fault Refusal :=
  .next (s.setTrust { s.trust with tap := 0xF, ir := 0x01 })

/-- An access through an instruction that the role does not allow acts as BYPASS and sets EVT.TUYERE (R425). -/
def State.tuyereBlocked (s : State) : State := (if s.atRest then s else s.setEvt Reg.TRU_EVT 4).okResp 0

/-- DBG: the debug register halts, steps and reads one independent core (R199, R424). -/
def execTuyereDebugAccess (c : Fin 16) (op : DebugOp) (s : State) : Host.Outcome State Fault Refusal :=
  let x := 16 + c.val
  if s.tuyereDead then .next (s.drawn.okResp s.draw)
  else if s.trust.ir ≠ 0x10 ∨ s.indepSlot c = none then .next s
  else if !s.tuyereActs 0x10 then .next s.tuyereBlocked
  else
    let s := s.tuyereFirst 0x10
    let v := s.ctx x
    match op with
    | .halt => .next ((s.setCtx x { v with dbg := true, steps := 0 }).okResp 0)
    | .resume => .next ((s.setCtx x { v with dbg := false, steps := 0 }).okResp 0)
    | .step => .next ((s.setCtx x { v with steps := if v.dbg then v.steps + 1 else v.steps }).okResp 0)
    | .readG r => .next (s.okResp (sget (fun _ => 0) v.g r))
    | .readF r => .next (s.okResp (sget (fun _ => 0) v.f r))
    | .readPc => .next (s.okResp (v.pc.setWidth 64))
    | .readSt => .next (s.okResp (v.st.setWidth 64))

end Sys2Proof.Machine
end

