-- ==== Sys2Proof/Machine/Crossings.lean ====
section
/-!
DEFINITION. The crossings between islands and their credit books (03, R61 to R65). -/
namespace Sys2Proof.Machine

/-! ### The books (R61, R62, R65) -/

/-- A crossing restarted: c = D, nothing in the FIFO, no return in flight (R65). -/
def Crossing.fresh (d : Nat) : Crossing := { c := d, o := 0, r := 0, depth := d }

/-- The books of the crossing from island `a` to island `b`: as held, or restarted; while it is isolated the credit count
reads 0 (R62, R65). -/
def State.books (s : State) (a b : Nat) : Crossing :=
  if s.islandOff a || s.islandOff b then { Crossing.fresh 0 with depth := Config.fifoDepth a b }
  else (sget (fun _ => none) s.crossings (a * 64 + b)).getD (Crossing.fresh (Config.fifoDepth a b))

/-- The books of a crossing replaced. -/
def State.setBooks (a b : Nat) (x : Crossing) (s : State) : State :=
  { s with crossings := sset (fun _ => none) s.crossings (a * 64 + b) (some x) }

/-- One item is launched when c > 0 (R61). -/
def Crossing.launch (x : Crossing) : Crossing := if 0 < x.c then { x with c := x.c - 1, o := x.o + 1 } else x

/-- The receiver removes one item and returns its credit, unless two returns are outstanding (R61, R62). -/
def Crossing.remove (x : Crossing) : Crossing := if 0 < x.o ∧ x.r < 2 then { x with o := x.o - 1, r := x.r + 1 } else x

/-- What happens on a crossing between two checks; `lost` and `doubled` are a credit that an upset loses or duplicates,
`repeated` a return duplicated while in flight. -/
def Crossing.move (x : Crossing) : CrossMove → Crossing
  | .launch => x.launch
  | .remove => x.remove
  | .lost => { x with r := x.r - 1 }
  | .doubled => { x with c := x.c + 1 }
  | .repeated => { x with r := x.r + 1 }

/-- A credit return completes: one return less in flight, one credit more (R61). -/
def Crossing.returned (x : Crossing) : Crossing := if 0 < x.r then { x with c := x.c + 1, r := x.r - 1 } else x

/-- KIND of a failed check of c + o + r = D (R62, R77): 0 when the books balance. More than two returns come before the sum
(DESIGN CHOICE, notes/assumptions/68.md). -/
def creditKind (d c o r : Nat) : Nat := if 2 < r then 3 else if d < c + o + r then 1 else if c + o + r < d then 2 else 0

/-! ### Crossing faults (R63) -/

/-- The path of a crossing leads to or from a triad island, a working-store half or the fabric (R63). -/
def controlPath (a b : Nat) : Bool := [0, 1, 2, 3, 8, 9, 10].contains a || [0, 1, 2, 3, 8, 9, 10].contains b

/-- The engine of an island off the control path is reset, and its function raises its own diagnostic (R23, R63). Which one each
function raises is a DESIGN CHOICE (notes/assumptions/69.md). -/
def State.engineReset (i : Nat) (s : State) : State :=
  if 4 ≤ i ∧ i < 8 then let s1 := s.spareHalts (i - 4); s1.setPair { s1.pair with sparesWarning := true }
  else if i = 12 then
    let s1 := s.leftFull
    (s1.setAnvil { s1.anvil with rxLines := [], missed := true }).raisePairAlarm
  else if i = 13 then
    (List.range 4).foldl (fun s p => s.wrL (Reg.NET_PSTAT p) (setB (s.rd (Reg.NET_PSTAT p)) 29))
      { s with net := { s.net with accepted := [], owed := [], announces := [], inRow := 0 } }
  else if i = 14 then (List.range 8).foldl (fun s k => if s.portState k = 0 then s else s.portFail k) s
  else if i = 11 then (s.fire 1).rec04 0x80
  else if i = 15 then
    let s1 := s.setTrust { s.trust with relay := none, parts := none, serving := [] }
    match s.trust.op with
    | some (op, _, _) => (s1.setTrust { s1.trust with op := none }).drawn.truEnd op (1 + s.draw.toNat % 255)
    | none => s1.truCmdErr
  else if 16 ≤ i ∧ i < 48 then
    (List.range 17).foldl (fun s k => (s.sliceReset (i - 16) k).diagEvt (i - 16) k 22) s
  else s

/-- A crossing fault (R63): reported, and acting by the crossing's path. -/
def State.crossingFault (a b kind : Nat) (s : State) : State :=
  let s1 := ((s.wr Reg.SYS_FABERR (BitVec.ofNat 32 (2 ^ 31 + b * 2 ^ 8 + a * 2 ^ 2 + kind))).fire 2).rec04 31
  if controlPath a b then s1.affectsControl
  else ((s1.setBooks a b (Crossing.fresh (Config.fifoDepth a b))).engineReset a).engineReset b

/-- The check of a return that carries the occupancy `o` (R63), over the held count and the returns in flight. -/
def State.creditCheck (a b o : Nat) (s : State) : State :=
  let x := s.books a b
  let k := creditKind x.depth x.c o x.r
  if k = 0 then s else s.crossingFault a b k

/-- A credit return reaches the sender of the crossing from `a` to `b` (R61, R63), after the moves since the check before; it
carries the receiver's occupancy `o`. -/
def execCreditReturn (a b : Fin 48) (moves : List CrossMove) (o : Nat) (s : State) : Host.Outcome State Fault Refusal :=
  if s.islandOff a || s.islandOff b then .next s
  else
    let x := moves.foldl Crossing.move (s.books a b)
    .next ((s.setBooks a b x.returned).creditCheck a b o)

/-- Every 10 µs an idle crossing sends a null credit return (R63): it brings no credit, and is checked in the same way. -/
def execNullCreditReturn (a b : Fin 48) (o : Nat) (s : State) : Host.Outcome State Fault Refusal :=
  if s.islandOff a || s.islandOff b then .next s
  else .next (s.creditCheck a b o)

end Sys2Proof.Machine
end

