-- ==== Sys2Proof/Machine/StartPath.lean ====
section
/-!
DEFINITION. The start path, the role decision and the retain copies (16, R430 to R446). -/
namespace Sys2Proof.Machine

/-! ### The start record (R434) -/

/-- The start record lies in T0's tightly coupled data. -/
def startRec : Nat := tcdBase 0 + 0x7D000

/-- A 32-bit field of the start record written. -/
def State.startPut (o v : Nat) (s : State) : State := s.poke (startRec + o) 4 v

/-- The record of class 0x01, event 3: bytes 0x04 to 0x17 of the start record (R448). -/
def State.startRecord (s : State) : State := s.record 0x0103 (s.bytes (startRec + 4) 20)

/-! ### Self-tests (R433) -/

/-- A spare fails a test: FAILED, entered in the spares ledger (R198, R433). -/
def State.spareTestFailed (i : Nat) (s : State) : State :=
  let c := s.slotCore i
  let s1 := s.rec0A 10 0
  s1.poolFired 0 ((s1.setSlot i 5).ledgerEntry 0 0 3 10 (BitVec.ofNat 32 c) 0xFFFFFFFF#32 (s1.recorder.next - 1) 1)

/-- A core fails the lane comparison: it is retired, or its spare slot FAILED. -/
def State.coreFailed (c : Nat) (s : State) : State :=
  match s.coreLane c with
  | some (t, k) => if s.triMode t = 0 then s.retireNow t k 8 else s.haltTriad t
  | none =>
    match (List.range 4).find? fun i => s.slotCore i == c && (s.slotIs i 1 || s.slotIs i 2) with
    | some i => s.spareTestFailed i
    | none => s

/-- The module goes out of service at a finding that would affect control, which it records (R433). -/
def State.startStops (s : State) : State :=
  let s1 := s.startRecord.outOfService
  s1.setStart { s1.start with stage := .stopped }

/-- A voter copy of triad t that was masked comes out of the lane comparison (R457): it rejoins and is entered in the ledger as
regained, or fails again, stays masked and is recorded again. -/
def State.voterRetest (t copy : Nat) (fails : Bool) (s : State) : State :=
  let v := s.triad t
  if !bit v.voterMasked copy then s
  else
    let s1 := s.rec03 t (0x80 + t) []
    let old := BitVec.ofNat 32 (4 * t + copy)
    if fails then s1.ledgerEntry 1 t 2 (0x80 + t) old 0xFFFFFFFF#32 (s1.recorder.next - 1) 0
    else
      (s1.setTriad t { v with voterMasked := clrB v.voterMasked copy }).ledgerEntry 1 t 4 (0x80 + t) old 0xFFFFFFFF#32
        (s1.recorder.next - 1) 2

/-- The digest of Hearth (R431). -/
def State.hearthDigest (s : State) : BitVec 512 := Config.shake256 (s.bytes 0 0x40000)

/-- A Hearth whose digest differs from the fused one never runs (R431): T0 is stopped and no role is taken. -/
def State.hearthStops (s : State) : State :=
  (s.setCtx 0 { s.ctx 0 with running := false }).setStart { s.start with stage := .stopped, hearthBad := true }

/-- The tests that a start runs (R428, R433): after a module reset neither the MRAM scan nor the DRAM pattern test. -/
def State.testsRun (s : State) (findings : BitVec 7) : BitVec 7 :=
  if s.rdB Reg.SYS_RESET_CAUSE 1 then findings &&& 0x4F#7 else findings

/-- The self-tests complete: bit n of `findings` is a finding of row n + 1 of the table, `cores` are those that failed
the lane comparison, and `copies` the masked voter copies that fail it again, bit 3t + copy (R457). A finding in an SRAM affects
control, and so does a triad that the comparison halts. -/
def execSelfTestsDone (findings : BitVec 7) (cores : BitVec 16) (copies : BitVec 12) (s : State) :
    Host.Outcome State Fault Refusal :=
  if s.start.stage = .hearth ∧ s.hearthDigest ≠ Config.hearthDigest then .next s.hearthStops
  else if s.start.stage = .hearth ∧ s.power.mainValid = true ∧ s.power.loop = true ∧ s.power.posInvalid = false then
    let found := s.testsRun findings
    let s1 := (((s.startPut 0 0x54525453).startPut 4 (s.rd Reg.SYS_RESET_CAUSE).toNat).startPut 8 0x77).startPut 0xC
      found.toNat
    let s2 := (s1.startPut 0x10 0).startPut 0x14 s1.backup.pwrcyc.toNat
    let sv := (List.range 12).foldl (fun s i => s.voterRetest (i / 3) (i % 3) (bit copies i)) s2
    let s3 := (List.range 16).foldl (fun s c => if bit cores c then s.coreFailed c else s) sv
    let s4 := s3.setStart { s3.start with stage := .tests, finding := found.setWidth 32 }
    .next (if bit found 2 || (List.range 4).any (fun t => s4.triMode t == 5) then s4.startStops else s4)
  else .next s

/-! ### Choosing an image (R419, R435) -/

/-- A trial that was not confirmed is marked FAILED, with REVERTED, and recorded (R419, R420). -/
def State.trialFailed (k : Nat) (s : State) : State :=
  ((s.putSlotSt k 5).setEvt Reg.TRU_EVT 2).rec09 2 (toBytes 1 k ++ s.regBytes (Reg.TRU_SVN k))

/-- The slot of the kind in a state, if it verifies. -/
def State.slotWith (s : State) (bad : List Nat) (kind st : Nat) : Option Nat :=
  [2 * (kind - 1), 2 * (kind - 1) + 1].find? fun k => s.slotSt k == st && s.slotVerifies bad k

/-- choose of R419: a TRIAL not yet tried is tried, one tried is FAILED, then CURRENT, then PREVIOUS. A TRIAL that does not
verify is not run and is FAILED. -/
def State.choose (kind : Nat) (bad : List Nat) (s : State) : Option Nat × State :=
  let pick (s : State) : Option Nat := match s.slotWith bad kind 3 with
    | some k => some k
    | none => s.slotWith bad kind 4
  match [2 * (kind - 1), 2 * (kind - 1) + 1].find? fun k => s.slotSt k == 2 with
  | some k =>
    if s.rdB (Reg.TRU_SLOT k) 26 then (pick (s.trialFailed k), s.trialFailed k)
    else
      let s1 := s.wrB (Reg.TRU_SLOT k) 26 true
      if s1.slotVerifies bad k then (some k, s1) else (pick (s1.trialFailed k), s1.trialFailed k)
  | none => (pick s, s)

/-- A chosen slot runs: RUN is set, and a trial image begins its window. -/
def State.runSlot (k : Nat) (s : State) : State :=
  let s1 := s.wrB (Reg.TRU_SLOT k) 27 true
  if s1.slotSt k = 2 then
    ((s1.wrB Reg.TRU_TRIAL 31 true).setEvt Reg.TRU_EVT 0).setTrust { s1.trust with trialAt := s1.opsec }
  else s1

/-- Relay requests to the partner and to any module on N2 or N3 (R435), of which the first that answers is used; none while a
management station fills staging. -/
def State.recoverAsk (s : State) : State :=
  let kind := s.start.recoverKind
  if s.relayRoom kind then
    ((s.setTrust { s.trust with relay := some (3, kind, 0), parts := none }).relayAsk 0 kind 0).relayAsk 2 kind 0
  else s

/-- Recovery of a kind (R435): recorded with its reason; a COMPLETE staging of the kind is installed at once. -/
def State.recoverImage (kind : Nat) (s : State) : State :=
  let ready := s.xfer == 2 && s.rdF Reg.TRU_XFER 28 2 == kind
  let why := if ready then 3 else kind
  let s1 := (s.startPut 0x10 why).startRecord
  let s2 := s1.setStart { s1.start with stage := .recovery, recoverWhy := why, recoverKind := kind }
  if ready then s2.recoverInstall else s2.recoverAsk

/-- Every 10 s the partner and the network are tried again, while staging is not COMPLETE. -/
def execRecoveryRetry (s : State) : Host.Outcome State Fault Refusal :=
  if s.start.stage = .recovery then .next (if s.xfer = 2 then s.recoverInstall else s.recoverAsk) else .next s

/-- An uncorrectable image-store error met while the slots are verified. -/
def State.startBad (bad : Option (Fin 6 × BitVec 24)) (s : State) : State :=
  match bad with
  | some (k, b) => s.storeError b k
  | none => s

/-- The slots of an error. -/
def badSlots (bad : Option (Fin 6 × BitVec 24)) : List Nat :=
  match bad with
  | some (k, _) => [k.val]
  | none => []

/-- Hearth chooses, verifies and measures the keeper (R432, R410): M0 takes the Hearth digest, the manifest and the image
digest. A Hearth whose digest differs from the fused one never runs (R431). -/
def execKeeperStart (bad : Option (Fin 6 × BitVec 24)) (s : State) : Host.Outcome State Fault Refusal :=
  if s.start.stage = .tests then
    if s.hearthDigest ≠ Config.hearthDigest then
      .next s.hearthStops
    else
      let s1 := (s.startBad bad).extend 0 (digestBytes s.hearthDigest)
      match s1.choose 1 (badSlots bad) with
      | (some k, s2) =>
        let s3 := ((s2.extend 0 (s2.chunk k 0)).extend 0 (digestBytes (s2.areaDigest k))).runSlot k
        let s4 := s3.startPut 8 (k + 0x70 + 0x100 * b2n (s3.slotSt k == 2))
        .next (s4.setStart { s4.start with stage := .keeper })
      | (none, s2) => .next (s2.recoverImage 1)
  else .next s

/-- The self-tests are over, and the spares rest as their slots say (R385, R433). -/
def State.sparesRest (s : State) : State :=
  (List.range 4).foldl (fun s i => if s.slotState i = 1 ∨ s.slotState i = 2 then s.setSlot i (s.slotState i) else s) s

/-- The keeper chooses, verifies and measures the system image (R432, R410): M1, then M4 and M2. The system image runs and
listens (R439). -/
def execSystemImageStart (bad : Option (Fin 6 × BitVec 24)) (s : State) : Host.Outcome State Fault Refusal :=
  if s.start.stage = .keeper then
    match (s.startBad bad).choose 2 (badSlots bad) with
    | (some k, s1) =>
      let s2 := ((s1.extend 1 (s1.chunk k 0)).extend 1 (digestBytes (s1.areaDigest k))).extend 4
        (digestBytes Config.rootDigest)
      let s3 := [1, 2, 3, 4].foldl (fun s n => s.extend 4 (digestBytes (s.keyDigest n))) (s2.extend 4 (s2.regBytes Reg.TRU_OWNER))
      let s4 := match [4, 5].find? fun k => s3.slotSt k == 3 with
        | some a => s3.extend 2 (s3.chunk a 0)
        | none => s3
      let s5 := s4.runSlot k
      let w := s5.peek (startRec + 8) 4
      let s6 := (s5.startPut 8 (w % 16 + 16 * k + w / 256 * 256 + 0x200 * b2n (s5.slotSt k == 2))).startRecord
      .next (s6.setStart { s6.start with stage := .system, listening := true }).sparesRest
    | (none, s1) => .next (s1.recoverImage 2)
  else .next s

/-! ### Time at start (R437) -/

/-- Source n of R437 is available: an Active partner over a FULL link, PTP locked, a gap captured, a valid RTC. -/
def State.timeSourceOn (s : State) (n : Nat) : Bool :=
  match n with
  | 1 => s.pair.peer == some .active && s.anvil.link == .full
  | 2 => s.rdB Reg.NET_PTP_STAT 31
  | 3 => s.rdB Reg.BKD_LOSS_SEC_HI 31 && s.rdB Reg.BKD_STAT 28 && s.backup.lossKnown
  | 4 => !s.rdB Reg.BKD_STAT 29
  | _ => false

/-- PTP is awaited (R437, R438): some port carries it and PTP_WAIT has not passed. -/
def State.ptpAwaited (s : State) : Bool := !s.start.ptpWaited && (List.range 4).any fun p => s.ptpOn p

/-- The first available source of R437, in its order; sources 3 and 4 wait for PTP. -/
def State.timeBest (s : State) : Option Nat :=
  [1, 2, 3, 4].find? fun n => s.timeSourceOn n && !(3 ≤ n && s.ptpAwaited)

/-- The value of a source; `ptp` is the grandmaster's plant time. -/
def State.timeValue (s : State) (n : Nat) (ptp : W64) : W64 :=
  match n with
  | 1 => s.now + (s.rd Reg.ANV_TOFS).signExtend 64
  | 2 => ptp
  | 3 =>
    let gap := s.rdF Reg.BKD_GAP_HI 0 16 * 2 ^ 32 + (s.rd Reg.BKD_GAP_LO).toNat
    s.rd64 Reg.BKD_LOSS_PT_LO Reg.BKD_LOSS_PT_HI + BitVec.ofNat 64 (gap * 1000000000 / 32768) + s.now
  | _ => BitVec.ofNat 64 (s.backup.sec.toNat * 1000000000 + s.backup.sub.toNat * 1000000000 / 32768)

/-- The system image sets time from the best source when it is the first, or higher than the one in use, while RUN is 0. -/
def execTimeEstablish (ptp : W64) (s : State) : Host.Outcome State Fault Refusal :=
  match if s.start.stage = .system ∧ s.run = false then s.timeBest else none with
  | some n =>
    if s.start.timeKnown = false ∨ n < s.start.timeSource then
      let s1 := (s.setStart { s.start with timeSource := n }).wr64 Reg.TIME_SET_LO Reg.TIME_SET_HI (s.timeValue n ptp)
      .next s1.timeSet
    else .next s
  | none => .next s

def execPtpWaitExpire (s : State) : Host.Outcome State Fault Refusal :=
  if s.start.stage = .system then .next (s.setStart { s.start with ptpWaited := true }) else .next s

/-! ### Deciding the role (R436, R439 to R441) -/

/-- The starter of two listening modules (R439): the higher merit, then the lower serial. -/
def State.starter (s : State) : Bool :=
  decide (s.start.peerMerit.toNat < s.merit.toNat) ||
    (s.merit == s.start.peerMerit && decide (Config.serial.toNat < s.start.peerSerial.toNat))

/-- The module may start Active: time is established, an application slot verifies, no fault of its own, and a start that
waits for a request has it (R436, R437, R444). -/
def State.mayStart (s : State) : Bool :=
  s.start.timeKnown && (s.appSlot fun _ => true).isSome && !s.pair.ownFault

/-- The claim probe begins (R441): COL_SENSE reads released, the driver can source the claim (R35), and it is sourced with every
slice high-impedance. -/
def State.claimProbe (s : State) : State :=
  if s.mayStart && !s.pair.sense && s.claimable then
    let s1 := s.sourceClaim
    s1.setStart { s1.start with probing := true, waiting := false }
  else s

/-- The table of R440. `peerRun` is the Active partner's RUN, `peerChange` says that a change of the partner is ARMED or
MIGRATING. -/
def State.decideRole (peerRun peerChange : Bool) (s : State) : State :=
  if s.start.stage ≠ .system ∨ s.pair.role ≠ .unassigned ∨ s.start.listening = true ∨ s.start.probing = true ∨
      s.start.backoff = true then s
  else if s.anvil.link = .full then
    if s.pair.sense then
      if s.pair.peer = some .active ∧ peerRun = true ∧ s.sharesFormat = true ∧ peerChange = false then s.setRole .joining else s
    else if s.pair.peer = some .outOfService ∨ s.pair.peerRecovering = true then s.claimProbe
    else if s.pair.peer = some .unassigned then
      if s.starter || s.start.starterGone then s.claimProbe else s
    else s
  else if s.pair.sense then s
  else if s.power.peerPres && !s.start.waited then s.setStart { s.start with waiting := true }
  else s.claimProbe

def execRoleDecision (peerRun peerChange : Bool) (s : State) : Host.Outcome State Fault Refusal :=
  .next (s.decideRole peerRun peerChange)

/-- Listening ends and the role is decided (R439). -/
def execListeningEnd (peerRun peerChange : Bool) (s : State) : Host.Outcome State Fault Refusal :=
  if s.start.listening then .next ((s.setStart { s.start with listening := false }).decideRole peerRun peerChange)
  else .next s

/-- START_WAIT has passed without a link to the present partner. -/
def execStartWaitExpire (s : State) : Host.Outcome State Fault Refusal :=
  if s.start.waiting then .next ((s.setStart { s.start with waiting := false, waited := true }).decideRole false false)
  else .next s

/-- The module waits for the partner that is the starter (R440): a FULL link to one that is Unassigned, Col released. -/
def State.awaitsStarter (s : State) : Bool :=
  decide (s.start.stage = .system) && decide (s.pair.role = .unassigned) && !s.start.listening && s.anvil.link == .full &&
    !s.pair.sense && s.pair.peer == some .unassigned && !s.starter

/-- The starter is not Active within 5 s: the other takes its place (R440). -/
def execStarterTimeout (s : State) : Host.Outcome State Fault Refusal :=
  .next (if s.awaitsStarter then (s.setStart { s.start with starterGone := true }).decideRole false false else s)

/-- The random wait of a failed probe has passed (R441). -/
def execProbeBackoffExpire (peerRun peerChange : Bool) (s : State) : Host.Outcome State Fault Refusal :=
  if s.start.backoff then .next ((s.setStart { s.start with backoff := false }).decideRole peerRun peerChange)
  else .next s

/-- A management station asks for a start (R444), by a port on which the module answers it (R328). -/
def execStartRequest (p : Fin 4) (s : State) : Host.Outcome State Fault Refusal :=
  match s.managed p none with
  | some s0 => .next ((s0.setStart { s0.start with startReq := true }).decideRole false false)
  | none => .next s

/-! ### Warm and cold start (R442 to R445) -/

/-- The retain copy of a warm start: one is valid, and a verifying slot has its manifest (R442). -/
def State.warmFrom (s : State) : Option Retain :=
  match s.retained with
  | some r => if (s.appSlot fun k => Config.shake256 (s.chunk k 0) == r.manifest).isSome then some r else none
  | none => none

/-- The retained lines put over the initial data. -/
def State.restoreLines (r : Retain) (s : State) : State :=
  r.lines.foldl (fun s e => s.pokeBytes (0x20000000 + 64 * e.1) e.2) s

/-- What the loader of the system image writes from the application image, in a payload format that the manual does not give
(R442): bytes into inactive banks, inactive list banks and the working store. -/
def State.loadImage (image : List (W32 × List W8)) (s : State) : State :=
  image.foldl (fun s e => (s.memStore none false e.1.toNat e.2).getD s) s

/-- The inputs of an Active module come onto the wire, the outputs stay high-impedance until RUN (R445). -/
def State.inputsOn (levels : BitVec 512) (s : State) : State :=
  (List.range 512).foldl (fun s c => if s.fmode (c / 16) (c % 16) = 3 then s.stageOn (c / 16) (c % 16) (bit levels c) else s)
    (s.setPair { s.pair with drive := .driving })

/-- The slot of the application that starts is marked running, so that INSTALL leaves it alone (R418, R427). -/
def State.runApp (s : State) : State :=
  match match s.warmFrom with
    | some r => s.appSlot fun k => Config.shake256 (s.chunk k 0) == r.manifest
    | none => s.appSlot fun _ => true with
  | some k => (s.wrB (Reg.TRU_SLOT (9 - k)) 27 false).wrB (Reg.TRU_SLOT k) 27 true
  | none => s

/-- A start of the application (R442, R444): warm from a retain copy, or cold when that is permitted; else the claim goes and
the module waits as Unassigned. -/
def State.startApplication (image : List (W32 × List W8)) (desc : W32) (levels : BitVec 512) (s : State) : State :=
  if s.warmFrom.isNone && !s.start.coldAuto && !s.start.startReq then (s.release).setRole .unassigned
  else
    let s1 := (s.runApp.inputsOn levels).loadImage image
    let s2 := match s.warmFrom with
      | some r => s1.restoreLines r
      | none => s1
    let s3 := s2.clearForces.wr Reg.SCN_CHG_DESC (desc &&& 0xFFFFFFC0#32)
    (((s3.setStart { s3.start with starting := true, startReq := false }).portsActive false).nowRunning).chgVerify

/-- 200 µs after the probe's claim (R441): the partner's claim (`seen`) or the loss of the own return current (`loopFault`)
makes the module back off for a random wait; otherwise it is Active and starts, with the channels that its configuration
declares critical (R23). A probe whose claim has gone is over. -/
def execClaimProbeEnd (seen loopFault : Bool) (image : List (W32 × List W8)) (crit : List (Fin 512)) (desc : W32)
    (levels : BitVec 512) (s : State) : Host.Outcome State Fault Refusal :=
  if s.start.probing && s.pair.claim then
    let s0 := s.setStart { s.start with probing := false }
    if seen || loopFault then
      let s1 := ((s0.setPair { s0.pair with claim := false, returned := false, sense := seen }).setStart
        { s0.start with backoff := true, loopDiag := s0.start.loopDiag || loopFault }).drawn
      .next (if loopFault then s1.rec02 0x82 else s1)
    else .next (({ s0 with critical := crit.map Fin.val }.setRole .active).startApplication image desc levels)
  else .next s

/-- A retain copy that has begun at `starts` ends at `ends` (R443): the lines that the application's manifest lists, at most
16,384, into the copy whose turn it is. -/
def execRetainCopy (lines : List (Fin 524288)) (starts ends : W64) (s : State) : Host.Outcome State Fault Refusal :=
  let s := s.atTime ends
  if (s.pair.role = .active ∨ s.pair.role = .standby) ∧ lines ≠ [] ∧ lines.length ≤ 16384 then
    match [4, 5].find? fun k => s.slotSt k == 3 with
    | some k =>
      let r : Retain :=
        { starts := if s.now.toNat < starts.toNat then s.now else starts, ends := s.now, id := s.change.idNow, manifest := Config.shake256 (s.chunk k 0),
          lines := lines.map fun l => (l.val, s.bytes (0x20000000 + 64 * l.val) 64) }
      .next (s.setStart
        { s.start with
          copies := sset (fun _ => none) s.start.copies (s.start.retain % 2) (some r), retain := (s.start.retain + 1) % 2 })
    | none => .next s
  else .next s

end Sys2Proof.Machine
end

