-- ==== Sys2Proof/Machine/ProofTests.lean ====
section
/-!
DEFINITION. The proof tests of R458 and R459. -/
namespace Sys2Proof.Machine

/-- A proof test of element `elem` may run now: its bit is 1, and the element is one that the test reaches in this role and
state (R458, R459). -/
def State.testRuns (s : State) (test elem : Nat) : Bool :=
  s.rdB Reg.EVR_PT_EN test &&
    (match test with
     | 0 => (List.range 4).any fun i => s.slotCore i == elem && (s.slotIs i 1 || s.slotIs i 2)
     | 1 => s.pair.role == .standby && (s.coreLane elem).isSome
     | 2 => elem < 1024 && elem % 32 < 16 && 1 ≤ s.fmode (elem / 32) (elem % 32) && s.fmode (elem / 32) (elem % 32) ≤ 3
     | 3 => elem < 1024 && elem % 32 < 16 && 5 ≤ s.fmode (elem / 32) (elem % 32) && s.fmode (elem / 32) (elem % 32) ≤ 7
     | 4 => elem < 1024 && elem % 32 == 16 && (s.rdB (Reg.FCH_SPARE (elem / 32)) 12 || s.rdB (Reg.FCH_SPARE (elem / 32)) 13)
     | 5 => s.pair.role != .active && elem < 1024 && elem % 32 < 16 &&
       (s.fmode (elem / 32) (elem % 32) == 4 || s.fmode (elem / 32) (elem % 32) == 7)
     | 6 => s.pair.role == .standby
     | 7 => elem < 10 && decide (s.poolLeft 8 ≠ 0)
     | _ => (60 ≤ elem && elem < 64 && decide (s.poolLeft 4 ≠ 0)) || (elem == 10 && decide (s.poolLeft 3 ≠ 0)))

/-- The pool of the elements of a test, for the record; 0xFF where there is none. -/
def testPool (test elem : Nat) : Nat :=
  match test with
  | 0 => 0
  | 1 => 0
  | 2 => 7
  | 3 => 7
  | 4 => 7
  | 5 => 7
  | 6 => 0xFF
  | 7 => 8
  | _ => if elem = 10 then 3 else 4

/-- A spare element retired from its pool by a proof test. -/
def State.poolLoses (pool elem : Nat) (s : State) : State :=
  s.ledgerEntry pool 0 3 12 (BitVec.ofNat 32 elem) 0xFFFFFFFF#32 (s.recorder.next - 1) 1

/-- How a failed test acts (last column of R458). -/
def State.testFailed (test elem : Nat) (s : State) : State :=
  match test with
  | 0 => s.coreFailed elem
  | 1 => s.coreFailed elem
  | 2 => s.stimFailed (elem / 32) (elem % 32)
  | 3 => s.stimFailed (elem / 32) (elem % 32)
  | 4 => s.spareFailed (elem / 32) 12
  | 5 => s.sliceFail (elem / 32) (elem % 32)
  | 6 => s.outOfService
  | 7 => (s.setPower { s.power with phases := s.power.phases - 1 }).poolLoses 8 elem
  | _ => s.poolLoses (if elem = 10 then 3 else 4) elem

/-- The proof test of a spare core begins: its slot is TEST, one at a time (R198). -/
def State.coreTest (core : Nat) (s : State) : State :=
  match s.ledger.tested, (List.range 4).find? fun i => s.slotCore i == core && (s.slotState i == 1 || s.slotState i == 2) with
  | none, some i => (s.setSlot i 3).setLedger { s.ledger with tested := some (i, s.slotState i) }
  | _, _ => s

/-- The proof test of a spare core ends: the slot is again what it was (R198). -/
def State.coreTested (core : Nat) (s : State) : State :=
  match s.ledger.tested with
  | some (i, st) => if s.slotCore i = core then s.callOff i st else s
  | none => s

/-- The triad of a core is woken for its test in a Standby module, and returns to Banked after it (R458). -/
def State.triadTest (core : Nat) (wake : Bool) (s : State) : State :=
  match s.coreLane core with
  | some (t, _) => if wake then s.triadWake t else s.triadSleep t
  | none => s

/-- A proof test that is due runs on one element (R458), from its begin to its result: a spare core (R198) and a spare slice
(R262) show that they are under test meanwhile; a failure is recorded, sets `EVR.PT_STAT` and PT_FAIL, and acts. A test that a
substitution has ended gives no result. -/
def execProofTestRun (test : Fin 9) (elem : W16) (phase : TestPhase) (s : State) : Host.Outcome State Fault Refusal :=
  let e := elem.toNat
  if !s.testRuns test e then .next s
  else
    match phase with
    | .begins =>
      .next (if test.val = 0 then s.coreTest e else if test.val = 1 then s.triadTest e true
        else if test.val = 4 then s.spareTest (e / 32) else s)
    | .passed =>
      .next (if test.val = 0 then s.coreTested e else if test.val = 1 then s.triadTest e false
        else if test.val = 4 then s.spareTested (e / 32) else s)
    | .failed =>
      if test.val = 0 && !(s.ledger.tested.any fun p => s.slotCore p.1 == e) || test.val = 4 && !s.rdB (Reg.FCH_SPARE (e / 32)) 13 then
        .next s
      else
        let s1 := if test.val = 0 then s.coreTested e else if test.val = 1 then s.triadTest e false
          else if test.val = 4 then s.spareTested (e / 32) else s
        .next ((s1.ptFail test e (testPool test e)).testFailed test e)

end Sys2Proof.Machine
end

