-- ==== Sys2Proof/Machine/Engines.lean ====
section
/-! DEFINITION. What the full copy and configuration messages bring (13, R376 to R378), and the engines whose guards are not
enabled (06, R175). -/
namespace Sys2Proof.Machine

/-! ### What is mirrored (R376, R378) -/

/-- The triad whose core or migration guard a master has. -/
def State.guardTriad (s : State) (m : Nat) : Option Nat :=
  if m < 16 then (s.coreLane m).map fun p => p.1 else if 24 ≤ m ∧ m ≤ 27 then some (m - 24) else none

/-- The address of a stored field of R376 as a configuration message names it; a core guard of a triad goes under the number
of its first core as made. None for a register that is not mirrored. -/
def State.mirrorAddr (s : State) (a : Nat) : Option Nat :=
  if 0x10040000 ≤ a ∧ a < 0x10050000 then
    let m := (a - 0x10040000) / 0x100
    let o := a % 0x100
    if o = 0 ∨ (0x10 ≤ o ∧ o < 0x90) then
      if m < 16 then (s.guardTriad m).map fun t => 0x10040000 + 0x100 * (3 * t) + o
      else if (16 ≤ m ∧ m ≤ 19) ∨ (24 ≤ m ∧ m ≤ 27) ∨ (32 ≤ m ∧ m ≤ 47) then some a else none
    else none
  else if 0x10060000 ≤ a ∧ a < 0x10061000 then
    if s.srcTarget ((a - 0x10060000) / 16) < 4 then some a else none
  else if a = Reg.ANV_CFG then some a
  else if 0x10100000 ≤ a ∧ a < 0x10108000 then
    let o := a % 0x1000
    if o < 0x10 ∨ o = 0x20 ∨ (0x800 ≤ o ∧ o < 0x810) then some (canonReg a) else none
  else if 0x10200000 ≤ a ∧ a < 0x10210000 then
    let o := a % 0x4000
    if o ≤ 0x10 ∨ o = 0x20 ∨ o = 0x24 ∨ (0x30 ≤ o ∧ o ≤ 0x38) ∨ o = 0x1000 then some (canonReg a) else none
  else if 0x11000000 ≤ a ∧ a < 0x11100000 then
    let o := a % 0x8000
    if o < 0x4400 then
      if isSliceConfig (o % 0x400) || o % 0x400 == 0x18 then some a else none
    else if o = 0x7020 ∨ (0x5000 ≤ o ∧ o < 0x6000 ∧ o % 0x400 = 0x14) then some a
    else none
  else if 0x12000000 ≤ a ∧ a < 0x12008000 then
    if a ≤ 0x1200003C ∨ (0x12000060 ≤ a ∧ a ≤ 0x12000064) ∨ a = Reg.SCN_CHG_DESC ∨ a = Reg.SCN_FORCE_BASE then some a
    else none
  else none

/-- The own register that a message's address means (R378): NODE and PARTNER crosswise. -/
def crosswise (a : Nat) : Nat := if a = Reg.NET_NODE then Reg.NET_PARTNER else if a = Reg.NET_PARTNER then Reg.NET_NODE else a

/-- A value of NODE as PARTNER takes it, and the reverse: NODE carries VALID. -/
def crossValue (a : Nat) (v : W32) : W32 :=
  if a = Reg.NET_NODE then v &&& 0xFFFF#32
  else if a = Reg.NET_PARTNER then 0x80000000#32 ||| (v &&& 0xFFFF#32)
  else v

/-- The addresses that a message's address means here: a core guard of a triad is that of the own cores of its lanes. -/
def State.ownAddrs (s : State) (a : Nat) : List Nat :=
  if 0x10040000 ≤ a ∧ a < 0x10040000 + 0x100 * 12 then
    let t := (a - 0x10040000) / 0x300
    (List.range 3).map fun k => 0x10040000 + 0x100 * s.laneCore t k + a % 0x100
  else [crosswise a]

/-- What a shadowed register stands at. -/
def State.shadowWord (s : State) (a : Nat) : W32 := (look a s.anvil.shadow).getD (s.rd a)

/-- LOCK of a guard, in its window or in the shadow, freezes its registers (R177); a full copy that itself brings LOCK goes on
writing what it has yet to write. -/
def State.guardFrozen (s : State) (m : Nat) : Bool := bit (s.shadowWord (Reg.GRD_CTRL m)) 31 && !s.anvil.copyLocks.contains m

/-- LOCK of a guard as the shadow holds it. -/
def State.shadowLock (s : State) (a : Nat) : W32 :=
  if 0x10040000 ≤ a ∧ a < 0x10050000 ∧ a % 0x100 = 0 then s.shadowWord a &&& 0x80000000#32 else 0

/-- A register's value put into the shadow, less what the register does not hold; LOCK stays set (R5). -/
def State.shadowPut (a : Nat) (v : W32) (s : State) : State :=
  let m := if a < 0x10050000 then guardCopied a
    else match regRow a with
      | some r => BitVec.ofNat 32 (r.rw + r.rwl + r.w1s)
      | none => 0
  s.setAnvil { s.anvil with shadow := sput s.anvil.shadow a ((v &&& m) ||| s.shadowLock a) }

/-- Whether a source configuration goes into the shadow: its new target is a triad. -/
def State.toShadow (s : State) (a : Nat) (v : W32) : Bool :=
  if 0x10060000 ≤ a ∧ a < 0x10061000 ∧ a % 16 = 0 then getF v 20 5 < 4 || s.shadowed a else s.shadowed a

/-- The bits of a register that the full copy carries (R376): the stored fields of the registers of that list, and of the scan
block, the change state and the directory in force also what only the module writes. -/
def State.copyMask (s : State) (a : Nat) : W32 :=
  if a = Reg.SCN_GRID then 0x8000FFFF#32
  else if a = Reg.SCN_CHG_STAT then 0x8FFFFF0F#32
  else if a = Reg.SCN_CHG_TS_LO ∨ a = Reg.SCN_CHG_TS_HI ∨ a = Reg.SCN_DIR_BASE ∨ a = Reg.SCN_DIR_N ∨
      (0x12000120 ≤ a ∧ a < 0x12000130) then 0xFFFFFFFF#32
  else if (s.mirrorAddr a).isSome then
    match regRow a with
    | some r => BitVec.ofNat 32 (r.rw + r.rwl + r.w1s)
    | none => 0
  else 0

/-- A guard's register as the full copy brings it: nothing to a frozen guard, and LOCK is never cleared (R5, R177). -/
def State.copyGuardReg (a : Nat) (v : W32) (s : State) : State :=
  let m := (a - 0x10040000) / 0x100
  if s.guardFrozen m then s
  else
    let s1 := if a % 0x100 = 0 && bit v 31 then s.setAnvil { s.anvil with copyLocks := m :: s.anvil.copyLocks } else s
    let w := v ||| s.shadowLock a
    if s1.shadowed a then s1.shadowPut a w else s1.guardPut a w

/-- A register of the full copy (R376): into the guard or the shadow, through the slice for a slice's configuration, else the
bits that the copy carries, as they stand at the Active module. -/
def State.copyReg (a : Nat) (v : W32) (s : State) : State :=
  (s.ownAddrs a).foldl (fun s b =>
    if 0x10040000 ≤ b ∧ b < 0x10050000 then if (s.mirrorAddr b).isSome then s.copyGuardReg b v else s
    else if s.toShadow b v then s.shadowPut b v
    else if 0x11000000 ≤ b ∧ b < 0x11100000 ∧ isSliceConfig (b % 0x400) = true ∧ b % 0x8000 < 0x4400 then
      s.sliceConfigWrite ((b - 0x11000000) / 0x8000) (b % 0x8000 / 0x400) (b % 0x400) v
    else
      let m := s.copyMask b
      let c := canonReg b
      s.wr c ((s.rd c &&& ~~~m) ||| (crossValue a v &&& m))) s

/-- One item of the full copy; the Anvil engine stores it under its guard (R169, R172). -/
def State.copyItem (i : CopyItem) (s : State) : State :=
  match i with
  | .line l d => s.anvilStore (0x20000000 + 64 * l.val) (padTo 64 d)
  | .mem a d => s.anvilStore a.toNat d
  | .reg a v => s.copyReg a.toNat v
  | .banks ts lists =>
    let s1 := (List.range 4).foldl (fun s t => s.setTriad t { s.triad t with bankB := bit ts t }) s
    [0, 1].foldl (fun s e => s.wrB (Reg.SCN_ENG e) 31 lists) s1
  | .change id v => (s.setChange { s.change with inForce := v, idNow := id }).recordLevels v
  | .critical l => { s with critical := l.map fun c => c.val }

/-- The blocks of which the full copy carries registers (R376). -/
def copyBlocks : List (Nat × Nat) :=
  [(0x10040000, 0x10000), (0x10060000, 0x1000), (0x100C0000, 0x1000), (0x10100000, 0x8000), (0x10200000, 0x10000),
    (0x11000000, 0x100000), (0x12000000, 0x8000)]

/-- The registers of the full copy, as they stand, each under the name of a configuration message (R376). -/
def State.copyRegs (s : State) : List CopyItem :=
  copyBlocks.flatMap fun b => (List.range (b.2 / 4)).filterMap fun k =>
    let a := b.1 + 4 * k
    if s.copyMask a = 0 then none
    else some (.reg (BitVec.ofNat 32 ((s.mirrorAddr a).getD a)) (s.rd (canonReg a) &&& s.copyMask a))

/-- The lines of memory that the full copy reads (R376): the working store, the instruction banks and the list banks. -/
def copyPlaces : List Nat :=
  ((List.range 524288).map lineAddr) ++ (List.range 262144).map (fun k => 0x04000000 + 64 * k) ++
    (List.range 512).map fun k => 0x12008000 + 64 * k

/-- One line of the full copy. -/
def State.copyLine (s : State) (a : Nat) : CopyItem :=
  if h : inWS a ∧ wsLine a < 524288 then .line ⟨wsLine a, h.2⟩ (s.bytes a 64) else .mem (BitVec.ofNat 32 a) (s.bytes a 64)

/-- The content of the full copy (R376), less the lines whose load the Anvil engine's guard refuses. -/
def State.copyContent (s : State) : List CopyItem :=
  (copyPlaces.filter fun a => (s.guardCheck 20 false a 64 1).isNone).map s.copyLine ++ s.copyRegs ++
    [.banks (BitVec.ofNat 4 ((List.range 4).map fun t => b2n (s.triad t).bankB * 2 ^ t).sum) (s.listBank 0),
      .change s.change.idNow s.change.inForce, .critical (s.critical.map fun c => ⟨c % 512, Nat.mod_lt _ (by decide)⟩)]

/-- The Active module sends the content of the full copy, in the checkpoint format that it shares with its partner (R421,
R377). The model sends all of it as the pass ends (DESIGN CHOICE, notes/assumptions/114.md). -/
def State.sendCopy (s : State) : State :=
  s.copyContent.foldl (fun s i => s.send (.copy s.writeFormat i)) (s.noteRefused 20 1 (copyPlaces.map fun a => (a, 64)))

/-- The copy pass has ended (R377), which it does not while the guard of the sending engine holds it (R175): `epoch` is the
epoch in progress then, and `kib` the KiB copied. -/
def execCopyPassDone (epoch : W64) (kib : W16) (s : State) : Host.Outcome State Fault Refusal :=
  if s.rdB Reg.ANV_COPY 31 && (s.pair.role != .active || s.guardOn 20) then
    let e := if s.pair.role = .active then s.anvil.sealed + 1 else epoch
    let s1 := if s.pair.role = .active then s.sendCopy else s
    .next ((s1.setAnvil { s1.anvil with copyEpoch := e }).wr Reg.ANV_COPY (BitVec.ofNat 32 (2 ^ 30 + kib.toNat)))
  else .next s

/-- Content of the full copy (R377), `kib` being the KiB received so far. -/
def State.copyArrives (items : List CopyItem) (kib : W16) (s : State) : State :=
  if s.pair.role = .joining ∧ s.anvil.link = .full then
    let s0 := if s.copyRuns then s else s.setAnvil { s.anvil with missed := false }
    let s1 := items.foldl (fun s i => s.copyItem i) s0
    if s1.rdB Reg.ANV_COPY 30 then s1 else s1.wr Reg.ANV_COPY (BitVec.ofNat 32 (2 ^ 31 + kib.toNat))
  else s

/-- A mirrored write or store refused (R378): CFG_ERR, not ready, and a new full copy. -/
def State.mirrorBad (s : State) : State :=
  let s1 := (s.setAnvil { s.anvil with copyDone := false }).setEvt Reg.ANV_EVT 13
  if s1.pair.role = .standby then s1.setRole .joining else s1

/-- A mirrored store into a bank (R378), by the Anvil engine under its guard; one that is refused shows that the modules
differ. -/
def State.bankArrives (a : Nat) (d : List W8) (s : State) : State :=
  if s.receives then
    match s.guardCheck 20 false a d.length 2 with
    | some r => (s.guardRefused 20 2 r).mirrorBad
    | none =>
      match s.memStore none false a d with
      | some s' => s'
      | none => s.mirrorBad
  else s

/-- A module that has become Standby and lacks an application relays its partner's over Anvil (R436). -/
def State.seekApp (before s : State) : State :=
  if before.pair.role ≠ .standby ∧ s.lacksApp = true ∧ s.relayCode 0x30000000#32 = 0 then s.relayStart 0 3 0 else s

/-! ### Engines that wait for their guards (R175) -/

/-- What waited is done, as far as the module's role still asks for it. -/
def State.runWaiting (m : Nat) (w : Waiting) (s : State) : State :=
  let active := s.pair.role == .active
  match w with
  | .outputs e t rest from' =>
    if active then
      let s1 := if e = 0 then s.forceExec t.toNat else s
      let s2 := (s1.setGrid { s1.grid with skippedFrom := from' }).sendOutputs e t rest
      s2.setGrid { s2.grid with skippedFrom := s1.grid.skippedFrom }
    else s
  | .inputs e t items => if active then s.writeInputs e t items else s
  | .store a d => s.engineStore m a d
  | .station n t => if active then s.stationOut n t else s
  | .stationIn n t => if s.stationsRun then s.stationPhase n t else s
  | .seal n b lines flags force id => if active then s.sendEpoch n b lines flags force id else s
  | .commit n b lines check force swap final id held =>
    if s.receives then
      let late := s.anvil.rxLines
      let s1 := (s.setAnvil { s.anvil with rxLines := held }).sealArrives n b lines check force swap final id |> State.seekApp s
      s1.setAnvil { s1.anvil with rxLines := s1.anvil.rxLines ++ late }
    else s
  | .copy items kib => s.copyArrives items kib
  | .bank a d => s.bankArrives a d

/-- An engine whose guard is enabled takes up what waited, in order (R175). -/
def State.engineResume (m : Nat) (s : State) : State :=
  if s.guardOn m then
    let mine := s.stalls.filter fun e => e.1 == m
    mine.foldl (fun s e => s.runWaiting m e.2) { s with stalls := s.stalls.filter fun e => e.1 != m }
  else s

/-! ### Seal records (R361) -/

/-- A seal record; while its guard is not enabled the Anvil engine waits with the epoch that it would commit (R175). -/
def execSealRecordReceived (epoch ends : W64) (lines : W32) (check : W64) (force : W32) (swap final : Bool) (change : W32)
    (s : State) : Host.Outcome State Fault Refusal :=
  let s := s.heard
  .next (if s.guardOn 20 then State.seekApp s (s.sealArrives epoch ends lines check force swap final change)
    else if s.receives then
      (s.setAnvil { s.anvil with rxLines := [] }).stall 20 (.commit epoch ends lines check force swap final change s.anvil.rxLines)
    else s)

end Sys2Proof.Machine
end

