-- ==== Sys2Proof/Machine/Bus.lean ====
section
/-!
DEFINITION. The register blocks as a master reads and writes them (03, R71, R72; 00, R3 to R6), and the writes that an
Active module mirrors to its partner (13, R378). -/
namespace Sys2Proof.Machine

/-! ### Reads -/

/-- A slice-window address as it is decoded: the window of slice 16 shows the terminal that slice 16 serves (R263). -/
def State.sliceAddr (s : State) (a : Nat) : Nat :=
  let g := (a - 0x11000000) / 0x8000
  if 0x4000 ≤ a % 0x8000 ∧ a % 0x8000 < 0x4400 ∧ s.rdB (Reg.FCH_SPARE g) 15 = true then
    Reg.FCH_CFG g (s.rdF (Reg.FCH_SPARE g) 0 4) + a % 0x400
  else a

/-- `FCH.GRP_IRQ` as it reads (R265): bit i for slice i, bit 17 for the event queue. -/
def State.grpIrq (s : State) (g : Nat) : W32 :=
  BitVec.ofNat 32 (s.grpDiag g +
    2 ^ 17 * b2n (s.rdB (Reg.FCH_EVT_STAT g) 15 && decide (s.rdF (Reg.FCH_EVT_STAT g) 0 7 ≠ 0)))

/-- What a register reads as when the read has no effect of its own: its stored value, or its live view. Fields of access
w are never stored, so they read zero (R3). -/
def State.regView (s : State) (a : Nat) : W32 :=
  if a = Reg.SYS_REVISION then Config.revision.setWidth 32
  else if 0x10000010 ≤ a ∧ a < 0x10000020 then (Config.serial >>> (8 * (a - 0x10000010))).setWidth 32
  else if a = Reg.SYS_POSITION then s.position
  else if a = Reg.DMA_ACTIVE then s.dmaActive
  else if 0x10060000 ≤ a ∧ a < 0x10061000 ∧ a % 16 = 0 then putB (s.rd a) 0 (s.isPending ((a - 0x10060000) / 16))
  else if 0x10061000 ≤ a ∧ a < 0x10061020 then s.pendWord ((a - 0x10061000) / 4)
  else if 0x10062000 ≤ a ∧ a < 0x10062400 ∧ a % 32 = 4 then s.tgtState ((a - 0x10062000) / 32)
  else if a = Reg.TIME_CTRL then s.timeCtrl
  else if a = Reg.TIME_EPOCH then s.time.epoch
  else if a = Reg.BKD_STAT then s.bkdStat
  else if a = Reg.BKD_PWRCYC then s.backup.pwrcyc
  else if a = Reg.BKD_CELL then s.backup.cellMv.setWidth 32
  else if a = Reg.EVR_STAT then setF (s.rd a) 0 9 s.recorder.queue.length
  else if a = Reg.TRU_TRIAL then s.trialWord
  else if a = Reg.TRU_CHAL_HI then s.chalHiWord
  else if 0x10030000 ≤ a ∧ a < 0x10034000 ∧ a % 0x1000 = 0xC then s.missCounts ((a - 0x10030000) / 0x1000)
  else if a = Reg.ANV_STAT then s.anvStat
  else if a = Reg.COL_STAT then s.colStat
  else if 0x10100000 ≤ a ∧ a < 0x10108000 ∧ a % 0x1000 = 0x10 then s.stbState ((a - 0x10100000) / 0x1000)
  else if 0x10100000 ≤ a ∧ a < 0x10108000 ∧ a % 0x1000 = 0x2C then s.stbSlots ((a - 0x10100000) / 0x1000)
  else if 0x11000000 ≤ a ∧ a < 0x11100000 ∧ a % 0x8000 = 0x7030 then s.grpIrq ((a - 0x11000000) / 0x8000)
  else if 0x11000000 ≤ a ∧ a < 0x11100000 ∧ a % 0x8000 < 0x4400 then s.rd (s.sliceAddr a)
  else s.rd (canonReg a)

/-- A read of a register or a register buffer (R3, R72), with the captures and the other effects that reads have. -/
def State.regRead (a : Nat) (s : State) : State :=
  if a = Reg.TIME_NS then s.nsRead
  else if a = Reg.CLK_REFERR then s.refErrRead
  else if a = Reg.TIME_NOW_LO then s.nowRead
  else if a = Reg.BKD_RTC_SUB then s.rtcCapture.okResp (s.backup.sub.setWidth 64)
  else if a = Reg.BKD_OPSEC_LO then s.opsecCapture.okResp ((s.backup.opsec.setWidth 32).setWidth 64)
  else if a = Reg.EVR_NEXT_LO then s.nextRead
  else if a = Reg.EVR_LOW_LO then s.lowRead
  else if a = Reg.EVR_WIN 0 15 then s.win15 0
  else if a = Reg.EVR_WIN 1 15 then s.win15 1
  else if a = Reg.TRU_CHAL_LO then s.chalRead
  else if a = Reg.ANV_SEALED_LO then s.sealedRead false
  else if a = Reg.ANV_COMMIT_LO then s.sealedRead true
  else if a = Reg.COL_YTS_LO then s.ytsRead
  else if a = Reg.ANV_COPY then s.copyRead
  else if a = Reg.COL_CURR then s.currRead
  else if a = Reg.SCN_TICK_LO then s.tickLoRead
  else if 0x10100000 ≤ a ∧ a < 0x10108000 ∧ a % 0x1000 = 0x40 then s.refLoRead ((a - 0x10100000) / 0x1000)
  else if 0x11000000 ≤ a ∧ a < 0x11100000 ∧ a % 0x8000 = 0x702C then s.evtInfoRead ((a - 0x11000000) / 0x8000)
  else if 0x11000000 ≤ a ∧ a < 0x11100000 ∧ a % 0x8000 < 0x4400 ∧ a % 0x400 = 0x28 then
    let b := s.sliceAddr a
    s.edgeLoRead ((b - 0x11000000) / 0x8000) (b % 0x8000 / 0x400)
  else s.okResp ((s.regView a).setWidth 64)

/-! ### Writes -/

/-- A write within the TRI block (R206). -/
def State.triWrite (a t : Nat) (v : W32) (s : State) : State :=
  let o := a % 0x1000
  if o = 0 then s.triCtrlWrite t v
  else if o = 4 ∨ o = 0x10 then s.wr a (s.rd a &&& ~~~(v &&& 0x80000000#32))
  else if o = 0xC ∨ o = 0x18 ∨ o = 0x1C then s.wr a (s.rd a &&& ~~~(v &&& 0xFFFF0000#32))
  else if o = 0x20 then s.partWrite t false v
  else if o = 0x24 then s.partWrite t true v
  else if o = 0x104 then s.poolCmdWrite t v
  else s

/-- A write within the GRD block (R177). -/
def State.grdWrite (who : Option Nat) (a : Nat) (v : W32) (s : State) : State :=
  let m := (a - 0x10040000) / 0x100
  let o := a % 0x100
  if !guardMaster m then s
  else if o = 0 then (s.guardCtrlWrite who m v).engineResume m
  else if o = 4 then (s.guardMates m).foldl (fun s m => s.wr (Reg.GRD_STAT m) (s.rd (Reg.GRD_STAT m) &&& ~~~(v &&& 0x80000000#32))) s
  else if 0x10 ≤ o ∧ o < 0x90 then s.guardRegion m ((o - 0x10) / 8) (o % 8 == 4) v
  else s

/-- A write within the TIC block (R168); no target has number 4 to 15. -/
def State.ticWrite (a : Nat) (v : W32) (s : State) : State :=
  if a < 0x10061000 then
    if a % 16 = 0 then s.srcCfgWrite ((a - 0x10060000) / 16) v
    else if a % 16 = 4 then s.wr a (v &&& 0xFFFFFFFC#32)
    else if a % 16 = 8 then s.wr a v
    else s
  else if 0x10061020 ≤ a ∧ a < 0x10061040 then s.wr a (s.rd a &&& ~~~v)
  else if a = Reg.TIC_SWTRIG then s.swtrig v
  else if 0x10062000 ≤ a ∧ a < 0x10062400 ∧ a % 32 = 0 then
    if 4 ≤ (a - 0x10062000) / 32 ∧ (a - 0x10062000) / 32 < 16 then s else s.wr a (v &&& 0xFFFFF800#32)
  else s

/-- A write within the FCH windows (R264, R265, R296, R297). -/
def State.fchWrite (a : Nat) (v : W32) (s : State) : State :=
  let g := (a - 0x11000000) / 0x8000
  let o := a % 0x8000
  if o < 0x4400 then
    let i := o / 0x400
    if o % 0x400 = 0x30 then s.directCommand g i false v
    else if o % 0x400 = 0x170 then s.directCommand g i true v
    else s.sliceWrite g i (o % 0x400) v
  else if 0x5000 ≤ o ∧ o < 0x6000 then s.mailboxWrite a g ((o - 0x5000) / 0x400) v
  else if 0x7000 ≤ o then s.groupWrite a v
  else s

/-- A write of a register by the block that it lies in; `who` is the writing master. -/
def State.blockWrite (who : Option Nat) (a : Nat) (v : W32) (s : State) : State :=
  if a < 0x10020000 then s.sysWrite a v
  else if a < 0x10030000 then s.belWrite a v
  else if a < 0x10034000 then s.triWrite a ((a - 0x10030000) / 0x1000) v
  else if a < 0x10040000 then s
  else if a < 0x10050000 then s.grdWrite who a v
  else if a < 0x10060000 then s.dmaWrite a v
  else if a < 0x10080000 then s.ticWrite a v
  else if a < 0x10090000 then s.timeWrite a v
  else if a < 0x100A0000 then s.bkdWrite a v
  else if a < 0x100B0000 then s.evrWrite a v
  else if a < 0x100C0000 then s.truWrite a v
  else if a < 0x100D0000 then s.anvWrite a v
  else if a < 0x100E0000 then s.colWrite a v
  else if a < 0x10100000 then s
  else if a < 0x10108000 then s.stbWrite a ((a - 0x10100000) / 0x1000) v
  else if a < 0x10200000 then s
  else if a < 0x10210000 then s.netWrite a v
  else if a < 0x11000000 then s
  else if a < 0x11100000 then s.fchWrite a v
  else if a < 0x12000000 then s
  else s.scnWrite a v

/-! ### The mirror (R376, R378) -/

/-- A write has taken effect in a stored field: the field has changed, or holds what was written. -/
def tookEffect (a : Nat) (v : W32) (before after : State) : Bool :=
  match regRow a with
  | some r =>
    let m := BitVec.ofNat 32 (r.rw + r.rwl + r.w1s)
    !after.resp.err && decide (m ≠ 0) &&
      ((before.rd (canonReg a) &&& m) != (after.rd (canonReg a) &&& m) || (after.rd (canonReg a) &&& m) == (v &&& m))
  | none => false

/-- A write that takes effect in a stored field of R376 is sent to the partner (R378): the stored fields as they then stand. -/
def State.mirrorWrite (a : Nat) (v : W32) (before s : State) : State :=
  if s.mirrors && tookEffect a v before s then
    match s.mirrorAddr a, regRow a with
    | some b, some r => s.send (.control 20 [b, (s.rd (canonReg a) &&& BitVec.ofNat 32 (r.rw + r.rwl + r.w1s)).toNat])
    | _, _ => s
  else s

/-! ### The bus (R71, R72) -/

/-- A word of a list bank as a register access reaches it. -/
def isList (a : Nat) : Bool := 0x12008000 ≤ a && a < 0x12010000

/-- A 32-bit write of a register, a register buffer or a list bank; anything but an aligned address within a powered block is
a bus error without effect. -/
def State.regWrite (who : Option Nat) (a : Nat) (v : W32) (s : State) : State :=
  if !inWindows a || a % 4 != 0 || s.blockOff a then s.busErr
  else if isList a then
    match s.memStore none false a (toBytes 4 v.toNat) with
    | some s' => s'.okResp 0
    | none => s.busErr
  else
    let s0 := s.okResp 0
    State.mirrorWrite a v s0 (s0.blockWrite who a v)

/-- A 32-bit read of a register, a register buffer or a list bank. -/
def State.busRead (a : Nat) (s : State) : State :=
  if !inWindows a || a % 4 != 0 || s.blockOff a then s.busErr
  else if isList a then
    match s.memLoad none a 4 with
    | some d => s.okResp (BitVec.ofNat 64 (ofBytes d))
    | none => s.busErr
  else s.regRead a

/-- A write of a register field by a master (R3). -/
def execRegisterWrite (a v : W32) (s : State) : Host.Outcome State Fault Refusal := .next (s.regWrite none a.toNat v)

/-! ### Commands that write a configuration register (R65, R378) -/

/-- A command that writes a configuration register of a block: a bus error while the block has no power (R65), and mirrored to the
partner where it takes effect (R378), as the register write is. `v` is the word written. -/
def State.configWrite (a : Nat) (v : W32) (f : State → State) (s : State) : State :=
  s.atBlock a fun s => State.mirrorWrite a v (s.okResp 0) (f (s.okResp 0))

/-- `TIC.SRC_CFG` written (R168). -/
def execSourceConfigWrite (n : Fin 256) (v : W32) (s : State) : Host.Outcome State Fault Refusal :=
  .next (s.configWrite (Reg.TIC_SRC_CFG n) v fun s => s.srcCfgWrite n v)

/-- `GRD.CTRL.EN` := 1 (R175): what waited for the guard goes on. -/
def execGuardEnable (m : Fin 48) (s : State) : Host.Outcome State Fault Refusal :=
  let a := Reg.GRD_CTRL m
  .next (if guardMaster m then s.configWrite a (setB (s.rd a) 0) fun s => (s.guardEnable m).engineResume m else s)

/-- `GRD.CTRL.EN` := 0 (R175). -/
def execGuardDisable (m : Fin 48) (inFlight : Bool) (s : State) : Host.Outcome State Fault Refusal :=
  let a := Reg.GRD_CTRL m
  .next (if guardMaster m then s.configWrite a (clrB (s.rd a) 0) fun s => s.guardDisable m inFlight else s)

/-- `GRD.RBAR` or `GRD.RATR` written (R175). -/
def execGuardRegionWrite (m : Fin 48) (n : Fin 16) (attr : Bool) (v : W32) (s : State) :
    Host.Outcome State Fault Refusal :=
  let a := if attr then Reg.GRD_RATR m n else Reg.GRD_RBAR m n
  .next (if guardMaster m then s.configWrite a v fun s => s.guardRegion m n attr v else s)

/-- A configuration register of a slice written (R241). -/
def execSliceConfigWrite (g : Fin 32) (i : Fin 17) (off : Fin 1024) (v : W32) (s : State) :
    Host.Outcome State Fault Refusal :=
  .next (s.configWrite (Reg.FCH_CFG g i + off) v fun s => s.sliceConfigWrite g i off v)

/-- `STB.CFG.ON` := 1 (R300). -/
def execPortOn (k : Fin 8) (s : State) : Host.Outcome State Fault Refusal :=
  .next (s.configWrite (Reg.STB_CFG k) (setB (s.rd (Reg.STB_CFG k)) 0) fun s => s.portOn k)

/-- `STB.CFG.ON` := 0 (R302). -/
def execPortOff (k : Fin 8) (s : State) : Host.Outcome State Fault Refusal :=
  .next (s.configWrite (Reg.STB_CFG k) (clrB (s.rd (Reg.STB_CFG k)) 0) fun s => s.portOff k)

/-- `NET.FRAME` written (R351). -/
def execNetFrameWrite (v : W32) (s : State) : Host.Outcome State Fault Refusal :=
  .next (s.configWrite Reg.NET_FRAME v fun s => s.netFrameWrite v)

/-! ### MEM of the Tuyere port (R424) -/

/-- One 32-bit access as master 22, under its guard or, when that is disabled, the default map of R171. -/
def execTuyereMemoryAccess (a : W32) (data : Option W32) (s : State) : Host.Outcome State Fault Refusal :=
  if s.tuyereDead then .next (s.drawn.okResp s.draw)
  else if s.trust.ir ≠ 0x11 then .next s
  else if !s.tuyereActs 0x11 then .next s.tuyereBlocked
  else
    let s := s.tuyereFirst 0x11
    let n := a.toNat
    match s.guardCheck 22 true n 4 (if data.isSome then 2 else 1) with
    | some r => .next ((s.guardRefused 22 (if data.isSome then 2 else 1) r).busErr)
    | none =>
      match data with
      | some v =>
        if inWindows n then .next (s.regWrite (some 22) n v)
        else
          match s.memStore none false n (toBytes 4 v.toNat) with
          | some s' => .next (s'.okResp 0)
          | none => .next s.busErr
      | none =>
        if inWindows n then .next (s.busRead n)
        else
          match s.memLoad none n 4 with
          | some d => .next (s.okResp (BitVec.ofNat 64 (ofBytes d)))
          | none => .next s.busErr

end Sys2Proof.Machine
end

