-- ==== Sys2Proof/Machine/Mirror.lean ====
section
/-!
DEFINITION. What a Standby or Joining module takes from its partner beside epochs: configuration messages and the full copy
(13, R376 to R378). -/
namespace Sys2Proof.Machine

/-- A mirrored write applied (R378), with whether the own block took it; a guard that LOCK freezes takes none (R177). -/
def State.mirrorIn (a : Nat) (v : W32) (s : State) : State × Bool :=
  (s.ownAddrs a).foldl (fun p b =>
    if b / 0x10000 = 0x1004 ∧ p.1.guardFrozen (b % 0x10000 / 0x100) = true then (p.1, false)
    else if p.1.toShadow b v then (p.1.shadowPut b v, p.2)
    else
      let w := crossValue a v
      let s1 := p.1.regWrite none b w
      (s1, p.2 && tookEffect b w p.1 s1)) (s, true)

def execConfigMessageReceived (m : ConfigMsg) (s : State) : Host.Outcome State Fault Refusal :=
  let s := s.heard
  match m with
  | .changeReady id =>
    .next (if s.pair.role = .active then s.setChange { s.change with partnerReady := id } else s)
  | .reg a v =>
    if s.receives then
      let p := s.mirrorIn a.toNat v
      .next (if p.2 then p.1 else p.1.mirrorBad)
    else .next s
  | .mem a d =>
    .next (if s.guardOn 20 then s.bankArrives a.toNat d else if s.receives then s.stall 20 (.bank a.toNat d) else s)

/-- Content of the full copy arrives at a Joining module (R377); while its guard is not enabled the Anvil engine waits with it
(R175). -/
def execCopyDataReceived (items : List CopyItem) (kib : W16) (s : State) : Host.Outcome State Fault Refusal :=
  let s := s.heard
  .next (if s.guardOn 20 then [16, 17, 18, 19].foldl (fun s m => s.engineResume m) (s.copyArrives items kib)
    else if s.pair.role = .joining then s.stall 20 (.copy items kib) else s)

end Sys2Proof.Machine
end

