-- ==== Sys2Proof/Machine/Cores.lean ====
section
/-!
DEFINITION. A core's registers (R79 to R84), its accesses with their costs (R90 to R95, R117), exceptions (R161 to R166),
and the beginning, end and resumption of activations (R153 to R160). -/
namespace Sys2Proof.Machine

/-! ### Registers -/

/-- One register write folded into the signature (R189). -/
def Ctx.fold (n : Nat) (v : W64) (c : Ctx) : Ctx := { c with sig := Config.signature c.sig n v }

/-- A general register; g0 reads zero (R80). -/
def Ctx.rg (c : Ctx) (r : GReg) : W64 := if r = 0 then 0 else sget (fun _ => 0) c.g r.val

/-- A general register written; a write of g0 is discarded (R80). -/
def Ctx.wg (r : GReg) (v : W64) (c : Ctx) : Ctx :=
  if r = 0 then c else { c with g := sset (fun _ => 0) c.g r.val v }.fold r.val v

/-- All 64 bits of a float register. -/
def Ctx.rf (c : Ctx) (r : FReg) : W64 := sget (fun _ => 0) c.f r.val

/-- A float register written whole. -/
def Ctx.wf (r : FReg) (v : W64) (c : Ctx) : Ctx :=
  { c with f := sset (fun _ => 0) c.f r.val v }.fold (32 + r.val) v

/-- The value of a float register in the format that D selects (R81). -/
def Ctx.rfd (c : Ctx) (d : Bool) (r : FReg) : Nat := (c.rf r).toNat % 2 ^ wid d

/-- A float register written with a value in the format that D selects (R81). -/
def Ctx.wfd (d : Bool) (r : FReg) (v : Nat) (c : Ctx) : Ctx := c.wf r (BitVec.ofNat 64 (v % 2 ^ wid d))

/-- `ST` written. -/
def Ctx.wst (v : W32) (c : Ctx) : Ctx := { c with st := v }.fold 48 (v.setWidth 64)

/-- S mode (R79). -/
def Ctx.priv (c : Ctx) : Bool := bit c.st 8

/-- PC moved past an instruction of one word, or two (R85). -/
def Ctx.next (long : Bool) (c : Ctx) : Ctx := { c with pc := c.pc + if long then 8 else 4 }

/-- The activation-time latch of the current TIER (R125). -/
def Ctx.latch (c : Ctx) : W64 := sget (fun _ => 0) c.latches c.tier.toNat

/-- The return stack of the current TIER (R122), the newest entry first. -/
def Ctx.stack (c : Ctx) : List (W32 × W32) := sget (fun _ => []) c.stackRegs c.tier.toNat

/-- The return stack of the current TIER replaced. -/
def Ctx.putStack (l : List (W32 × W32)) (c : Ctx) : Ctx := { c with stackRegs := sset (fun _ => []) c.stackRegs c.tier.toNat l }

/-! ### Costs (R92, R94, R199, R201) -/

/-- A line of the data cache of a target, if it is present. -/
def State.lineOf (s : State) (x l : Nat) : Option CacheLine := look l (s.ctx x).dcache

/-- An access to a line that is present and locked (R94). -/
def State.lockedHit (s : State) (x a : Nat) : Bool :=
  s.inPartition x true a && (a < 0x40000 || (s.lineOf x (a / 64)).isSome)

/-- The caches serve an address (R94). -/
def cached (a : Nat) : Bool := a < 0x40000 || 0x80000000 ≤ a

/-- The cost of one access of a target, with the state after any free value that it takes (R94): 2 for a line that is present,
whether locked or not; a miss adds a stall of free length within its bound. An independent core, and an access that R92 does
not list, vary (R199, R201). -/
def State.accessCost (x a : Nat) (store : Bool) (s : State) : Nat × State :=
  let l := s.level x
  if 4 ≤ x then (1 + s.draw.toNat, s.drawn)
  else if s.lockedHit x a && !(store && decide (a < 0x40000)) then (2, s)
  else
    match fixedCost l a store with
    | some n => (n, s)
    | none =>
      if missBound l a = 0 then (1 + s.draw.toNat, s.drawn)
      else if (s.lineOf x (a / 64)).isSome then (2, s)
      else (2 + s.draw.toNat % (missBound l a + 1), s.drawn)

/-! ### The data cache over Hearth and DRAM (R94, R95) -/

/-- A line put into a target's data cache. -/
def State.putLine (x l : Nat) (v : CacheLine) (s : State) : State :=
  s.setCtx x { s.ctx x with dcache := sput (s.ctx x).dcache l v }

/-- A line out of a target's data cache, without writeback. -/
def State.dropLine (x l : Nat) (s : State) : State :=
  s.setCtx x { s.ctx x with dcache := serase (s.ctx x).dcache l }

/-- The stores that a line holds written to DRAM. -/
def State.cleanLine (x l : Nat) (s : State) : State :=
  match s.lineOf x l with
  | some v =>
    if v.dirty then (s.pokeBytes (64 * l) v.data).putLine x l { v with dirty := false } else s
  | none => s

/-- Lines that are not locked may be written back, and may be evicted, at any access: the manual gives no rule of
replacement, so a free value decides for each line. -/
def State.sweep (x : Nat) (s : State) : State :=
  (s.ctx x).dcache.foldl (fun s e =>
    if s.inPartition x true (64 * e.1) then s
    else
      let v := s.draw
      let s1 := s.drawn
      if bit v 0 then (s1.cleanLine x e.1).dropLine x e.1 else if bit v 1 then s1.cleanLine x e.1 else s1) s

/-- The lines of a data cache (R115). -/
def cacheLines : Nat := 512

/-- Room for one more line (R115): a full cache gives up one of its lines that are not locked, written back first; a free value
says which. False where every line is locked. -/
def State.makeRoom (x : Nat) (s : State) : Bool × State :=
  if (s.ctx x).dcache.length < cacheLines then (true, s)
  else
    let open' := (s.ctx x).dcache.filter fun e => !s.inPartition x true (64 * e.1)
    match open'[s.draw.toNat % max 1 open'.length]? with
    | some e => (true, (s.drawn.cleanLine x e.1).dropLine x e.1)
    | none => (false, s)

/-- The line that holds an address, as the cache has it after a hit or a fill; without room the access passes the cache by. -/
def State.fillLine (x a : Nat) (s : State) : CacheLine × State :=
  match s.lineOf x (a / 64) with
  | some v => (v, s)
  | none =>
    let p := s.makeRoom x
    let v : CacheLine := { dirty := false, data := p.2.bytes (a / 64 * 64) 64 }
    (v, if p.1 then p.2.putLine x (a / 64) v else p.2)

/-- A line as a store leaves it: dirty in the cache, or written at once where the cache has no room for it. -/
def State.storeLine (x l : Nat) (d : List W8) (s : State) : State :=
  if (s.lineOf x l).isSome then s.putLine x l { dirty := true, data := d } else s.pokeBytes (64 * l) d

/-- The lines of an enabled data partition loaded from Hearth or DRAM into the data caches of the triad's lanes (R94, R206): each
takes a place that a line outside the partition gives up. -/
def State.loadLines (t l n : Nat) (s : State) : State :=
  (s.triTargets t).foldl (fun s x => (List.range n).foldl (fun s i => (s.fillLine x (64 * (l + i))).2) s) s

/-- Every line of an enabled partition is loaded and locked (R206). -/
def execPartitionFilled (t : Fin 4) (dcp : Bool) (s : State) : Host.Outcome State Fault Refusal :=
  let a := if dcp then Reg.TRI_DCP t else Reg.TRI_ICP t
  if s.rdB a 0 then
    let s1 := s.wrB a 1 true
    .next (if dcp then s1.loadLines t (s.rdF a 12 20 * 64) (partBytes (s.rdF a 4 4) / 64) else s1)
  else .next s

/-- Bytes replaced within a list. -/
def splice (l : List W8) (o : Nat) (d : List W8) : List W8 := l.take o ++ d ++ l.drop (o + d.length)

/-! ### Accesses -/

/-- The answer of one access of a core: the state, the cost, and the bytes; none is a bus error. -/
structure Reply where
  s : State
  cost : Nat
  data : Option (List W8)

/-- n bytes loaded by a target from within one line (R103, R117). `line` marks a line access, which no register block takes
(R72). An access to DRAM while its island is powered down is a bus error, whether or not the data cache holds the line (DESIGN
CHOICE, notes/assumptions/120.md). -/
def State.coreLoad (x a n : Nat) (line : Bool) (s : State) : Reply :=
  let p := (if cached a then s.sweep x else s).accessCost x a false
  if inWindows a then
    if line || n != 4 then { s := p.2, cost := p.1, data := none }
    else
      let r := p.2.busRead a
      { s := { r with resp := s.resp }, cost := p.1, data := if r.resp.err then none else some (toBytes 4 r.resp.data.toNat) }
  else if cached a then
    if (s.memSpan (some x) a n).isNone then { s := p.2, cost := p.1, data := none }
    else
      let q := p.2.fillLine x a
      { s := q.2, cost := p.1, data := some ((q.1.data.drop (a % 64)).take n) }
  else { s := p.2, cost := p.1, data := s.memLoad (some x) a n }

/-- Bytes stored by a target within one line (R103, R117). -/
def State.coreStore (x a : Nat) (d : List W8) (line : Bool) (s : State) : Reply :=
  let p := (if cached a then s.sweep x else s).accessCost x a true
  if inWindows a then
    if line || d.length != 4 then { s := p.2, cost := p.1, data := none }
    else
      let r := p.2.regWrite (some (s.targetMaster x)) a (BitVec.ofNat 32 (ofBytes d))
      { s := { r with resp := s.resp }, cost := p.1, data := if r.resp.err then none else some [] }
  else if 0x80000000 ≤ a then
    if (s.memSpan (some x) a d.length).isNone then { s := p.2, cost := p.1, data := none }
    else
      let q := p.2.fillLine x a
      { s := (q.2.storeLine x (a / 64) (splice q.1.data (a % 64) d)).sweep x, cost := p.1, data := some [] }
  else
    match p.2.memStore (some x) (!(s.ctx x).priv) a d with
    | some s' => { s := s', cost := p.1, data := some [] }
    | none => { s := p.2, cost := p.1, data := none }

/-! ### How an instruction ends -/

/-- An exception (R161): vector, CAUSE, EADDR where R166 gives it, and the cycles spent before entry (R90). -/
structure Trap where
  vector : Nat
  cause : Nat := 0
  eaddr : Option Nat := none
  cost : Nat := 1
  deriving DecidableEq, Repr

def illegal : Trap := { vector := 1 }
def privileged : Trap := { vector := 2 }
def divideByZero : Trap := { vector := 3 }
def misaligned : Trap := { vector := 4 }
/-- A BUS_ERROR with a CAUSE (R166). -/
def busError (cause a cost : Nat) : Trap := { vector := 6, cause := cause, eaddr := some a, cost := cost }
/-- A BUS_ERROR on an access of a target, with the region, the default map or no match that decided it (R166). -/
def State.busTrap (x kind a cost : Nat) (s : State) : Trap :=
  busError (kind + 256 * (s.permitted (s.targetMaster x) (s.ctx x).priv a kind).2) a cost
/-- A BUS_ERROR on an access of MIGR, decided by the migration guard (R138, R166). -/
def State.migTrap (x kind a cost : Nat) (s : State) : Trap :=
  busError (kind + 4 + 256 * (s.permitted (24 + (s.ownTriad x).getD 0) false a kind).2) a cost
/-- INSTANCE_CHECK at the full listed cost (R124). -/
def instanceCheck (code cost : Nat) : Trap := { vector := 7, cause := code, cost := cost }

/-- How an instruction ends: completed, with its cost; with an exception; or its own store has reset its target. -/
inductive Ending where
  | done (s : State) (cost : Nat)
  | raised (t : Trap) (s : State)
  | gone (s : State)

/-- A check of an access (R172, R176): the first refused byte raises GUARD_FAULT, recorded in the guard; else `go`. `mig`
puts the check to the migration guard of that triad, which refuses everything while it is not enabled (R175). -/
def State.guarded (x a n kind : Nat) (s : State) (go : Ending) : Ending :=
  let m := s.targetMaster x
  match s.guardCheck m (s.ctx x).priv a n kind with
  | none => go
  | some r =>
    .raised { vector := 5, cause := kind + 8 * b2n r.straddle + 256 * r.region, eaddr := some r.addr }
      (s.guardRefused m kind r)

/-- The check of an access of MIGR (R138, R175, R176). -/
def State.migGuarded (x a n kind : Nat) (s : State) (go : Ending) : Ending :=
  match s.ownTriad x with
  | none => .raised { vector := 5, cause := kind + 4 + 16 + 256 * 0xFF, eaddr := some a } s
  | some t =>
    if !s.guardOn (24 + t) then .raised { vector := 5, cause := kind + 4 + 16 + 256 * 0xFF, eaddr := some a } s
    else
      match s.guardCheck (24 + t) false a n kind with
      | none => go
      | some r =>
        .raised { vector := 5, cause := kind + 4 + 8 * b2n r.straddle + 256 * r.region, eaddr := some r.addr }
          (s.guardRefused (24 + t) kind r)

/-! ### What an access meets (R75, R93, R188) -/

/-- The voter compares an access of a target (R188, R201): a joined triad's, outside its own tightly coupled data and its locked
data lines. -/
def State.compared (s : State) (x a : Nat) : Bool :=
  decide (x < 4) && !(decide (0x01800000 ≤ a) && decide (a < 0x01880000)) && !s.lockedHit x a

/-- The copies of an access of the lanes are compared where `cmp` says so (R188, R191): an odd lane is masked, and an access that
no two lanes share, or the two of a duplex triad do not, halts the triad. -/
def State.meeting (cmp : Bool) (x a : Nat) (m : Meet) (s : State) : State :=
  let s0 := if x < 4 ∧ m.upset ≠ 0 then s.setTriad x { s.triad x with upset := (s.triad x).upset ||| m.upset } else s
  if cmp then
    let icnt := (s.ctx x).icnt.toNat
    let s1 := match m.voter with
      | some k => s0.voterFault x k icnt (BitVec.ofNat 32 a)
      | none => s0
    match m.vote with
    | .agree => s1
    | .odd lane kind => if s1.laneOk x lane then s1.mismatch x lane kind icnt (BitVec.ofNat 32 a) else s1
    | .split kind => s1.noMajority x kind icnt (BitVec.ofNat 32 a)
  else s0

/-- A target executes no more: its triad has halted, or its core, taken for a lane, has abandoned what it ran. -/
def State.ceased (s : State) (x : Nat) : Bool := (s.ctx x).halted || !(s.ctx x).running

/-- What comes of an access, once its copies have been compared: the majority's access goes on, and an access that halts the
triad is not issued (R188). -/
def State.meets (cmp : Bool) (x a : Nat) (m : Meet) (s : State) (go : State → Ending) : Ending :=
  let s1 := s.meeting cmp x a m
  if s1.ceased x then .gone s1 else go s1

/-- A response may come later than its fixed cost (R93): from MRAM while a bank is being replaced (1), or from a register block,
whose island may be switching its reference (2). -/
def State.mayBeLate (s : State) (a : Nat) : Option Nat :=
  if 0x40000000 ≤ a ∧ a < 0x43C00000 then if s.ledger.copying.any fun e => e.1 == 4 then some 1 else none
  else if inWindows a then some 2
  else none

/-- The cycles by which the response to an access of a target is late, with the overrun recorded in its triad (R93). -/
def State.lateBy (x a : Nat) (n : Nat) (s : State) : Nat × State :=
  match s.ownTriad x, s.mayBeLate a with
  | some t, some target => if n = 0 || 4 ≤ x then (0, s) else (n, s.overrun t n target)
  | _, _ => (0, s)

/-- What a read finds in the memory that holds an address of a target (R75). -/
def State.finds (x a : Nat) (f : Finding) (s : State) : Bool × State :=
  match s.memKey (some x) a with
  | none => (true, s)
  | some q => if inWindows a then (true, s) else s.readFinds q f

/-- A load with what it meets: a late response is part of its cost, and an uncorrectable error answers it with a bus error
(R75, R93). -/
def State.coreRead (x a n : Nat) (line : Bool) (m : Meet) (s : State) : Reply :=
  let r := s.coreLoad x a n line
  let p := r.s.lateBy x a m.late.toNat
  let f := if r.data.isSome then p.2.finds x a m.read else (false, p.2)
  { s := f.2, cost := r.cost + p.1, data := if f.1 then r.data else none }

/-- A store with what it meets (R93). -/
def State.coreWrite (x a : Nat) (d : List W8) (line : Bool) (m : Meet) (s : State) : Reply :=
  let r := s.coreStore x a d line
  let p := r.s.lateBy x a m.late.toNat
  { s := p.2, cost := r.cost + p.1, data := r.data }

/-- What follows a read: nothing, where what it found has stopped the target; the bus error `t`; or `go` on the bytes. -/
def Reply.ends (r : Reply) (x : Nat) (t : Trap) (go : List W8 → Ending) : Ending :=
  if r.s.ceased x then .gone r.s
  else
    match r.data with
    | none => .raised t r.s
    | some d => go d

/-- What the i-th access of an instruction meets, as its command lists it. -/
def meetAt (ms : List Meet) (i : Nat) : Meet := (ms[i]?).getD {}

/-! ### Save frames (R163) -/

/-- Where the save frame of a home tier of a target lies, as memory is held. -/
def frameBase (x h : Nat) : Nat := (if x < 4 then tcdBase x else splitTcd (x - 16)) + 0x7E000 + 0x200 * h

/-- A word of a save frame. -/
def State.frameWord (s : State) (x h o : Nat) : W32 := BitVec.ofNat 32 (s.peek (frameBase x h + o) 4)

/-- A word of a save frame written. -/
def State.putFrame (x h o : Nat) (v : W32) (s : State) : State := s.poke (frameBase x h + o) 4 v.toNat

/-- The context words of a save frame written (R156, R163). -/
def State.saveFrame (x : Nat) (c : Ctx) (s : State) : State :=
  let h := c.home.toNat
  let s1 := (List.range 31).foldl (fun s n => s.poke (frameBase x h + 8 * (n + 1)) 8 (sget (fun _ => 0) c.g (n + 1)).toNat) s
  let s2 := (List.range 16).foldl (fun s n => s.poke (frameBase x h + 0x100 + 8 * n) 8 (sget (fun _ => 0) c.f n).toNat) s1
  ((((s2.putFrame x h 0x180 c.pc).putFrame x h 0x184 c.st).putFrame x h 0x188 c.ib).putFrame x h 0x18C c.sb).putFrame x h
    0x190 (c.tier.setWidth 32)

/-- The running context put into the frame of its home tier. -/
def State.saveCtx (x : Nat) (s : State) : State :=
  let c := s.ctx x
  (s.saveFrame x c).setCtx x { c with running := false, saved := setB c.saved c.home.toNat }

/-- Registers from memory words, those that are zero not listed. -/
def regList (n : Nat) (f : Nat → W64) : List (Nat × W64) :=
  (List.range n).foldl (fun m i => sset (fun _ => 0) m i (f i)) []

/-- The registers of a context folded into the signature as any register write (R189). -/
def Ctx.refolded (c : Ctx) : Ctx :=
  let c1 := (List.range 31).foldl (fun v n => v.fold (n + 1) (sget (fun _ => 0) c.g (n + 1))) c
  let c2 := (List.range 16).foldl (fun v n => v.fold (32 + n) (sget (fun _ => 0) c.f n)) c1
  (((c2.fold 48 (c.st.setWidth 64)).fold 49 (c.ib.setWidth 64)).fold 50 (c.sb.setWidth 64)).fold 51 (c.tier.setWidth 64)

/-- The context of home tier h restored from its frame (R157, R159). -/
def State.restore (x h : Nat) (s : State) : State :=
  let c := s.ctx x
  let word (o : Nat) : W32 := s.frameWord x h o
  s.setCtx x (Ctx.refolded { c with
    g := regList 32 fun n => if n = 0 then 0 else BitVec.ofNat 64 (s.peek (frameBase x h + 8 * n) 8)
    f := regList 16 fun n => BitVec.ofNat 64 (s.peek (frameBase x h + 0x100 + 8 * n) 8)
    pc := word 0x180 &&& 0xFFFFFFFC#32
    st := stPut c.st (word 0x184)
    ib := word 0x188
    sb := word 0x18C
    tier := BitVec.ofNat 4 (max h (getF (word 0x190) 0 4))
    home := BitVec.ofNat 4 h
    running := true
    saved := clrB c.saved h })

/-- What follows a vote on a signature of the lanes (R184, R189): nothing, where the vote halts the triad. -/
def State.voted (x kind : Nat) (go : State → State) (s : State) : State :=
  let s1 := s.sigVote x kind
  if (s1.ctx x).halted then s1 else go s1

/-- The running context saved into the frame of its home tier, once the lanes' signatures of that access are voted (R184), and
what follows. -/
def State.savedThen (x : Nat) (go : State → State) (s : State) : State := s.voted x 5 fun s => go (s.saveCtx x)

/-- The context of home tier h restored in `n` cycles, once the lanes' signatures of that access are voted (R184). -/
def State.restored (x h n : Nat) (s : State) : State :=
  s.voted x 5 fun s =>
    let s1 := s.restore x h
    s1.setCtx x { s1.ctx x with cyc := (s1.ctx x).cyc + BitVec.ofNat 64 n }

/-! ### What may run (R10, R155 to R160, R229, R358, R374) -/

/-- A target's guard is enabled (R160, R175). -/
def State.targetGuard (s : State) (x : Nat) : Bool := s.guardOn (s.targetMaster x)

/-- Work in a mode at a home tier may run on a target: U mode needs the guard (R160), and a module out of service has halted
control (R10, R12). -/
def State.mayRun (s : State) (x : Nat) (priv : Bool) (h : Nat) : Bool :=
  (priv || s.targetGuard x) && !(s.pair.role == .outOfService && 1 ≤ h && h ≤ 14)

/-- A source is held pending: by a migration (R229), before an epoch boundary (R358), or before a yield tick (R374). -/
def State.held (s : State) (n : Nat) : Bool :=
  let t := s.srcTarget n
  let h := s.srcTier n
  let control := decide (1 ≤ h) && decide (h ≤ 14)
  let line := decide (16 ≤ n) && decide (n < 28)
  (s.heldByChange n && n != 8 + t) || (s.grid.holding && control && !line) || (s.yieldHolds && control)

/-- The pending source n may start an activation on target x. -/
def State.startable (s : State) (x n : Nat) : Bool :=
  s.srcTarget n == x && !(s.ctx x).holds (s.srcTier n) && s.mayRun x (s.srcMode n) (s.srcTier n) && !s.held n

/-- The pending source that starts next on a target: the highest tier, then the lowest number (R154, R155). -/
def State.nextSource (s : State) (x : Nat) : Option Nat :=
  (s.tic.map fun e => e.1).foldl (fun best n =>
    if s.startable x n then
      match best with
      | some m => if s.srcTier m < s.srcTier n then some n else best
      | none => some n
    else best) none

/-- The highest tier whose saved context may be restored (R157, R160). -/
def State.nextSaved (s : State) (x : Nat) : Option Nat :=
  (List.range 16).reverse.find? fun h => bit (s.ctx x).saved h && s.mayRun x (bit (s.frameWord x h 0x184) 8) h

/-- The running context is pre-empted, or displaced, at this boundary (R155, R160). -/
def State.displaced (s : State) (x : Nat) : Bool :=
  let c := s.ctx x
  !s.mayRun x c.priv c.home.toNat ||
    (match s.nextSource x with
     | some n => decide (c.tier.toNat < s.srcTier n)
     | none => false) ||
    (match s.nextSaved x with
     | some h => decide (c.tier.toNat < h)
     | none => false)

/-- A target executes its next instruction: it exists and runs, it is neither halted nor asleep, nothing displaces the running
context, the debug port does not hold it, and the module has power. -/
def State.canRun (s : State) (x : Nat) : Bool :=
  let c := s.ctx x
  s.exists x && c.running && !c.halted && s.nap x == .awake && (!c.dbg || 0 < c.steps) && s.power.mainValid &&
    !s.bellows.ember && !s.islandOff (s.islandOf x) && !s.displaced x


/-- The vote when `ICNT` reaches a multiple of 4,096 (R189). -/
def State.stateVote (x : Nat) (s : State) : State :=
  if (s.ctx x).icnt.toNat % 4096 = 0 then s.sigVote x 4 else s

/-- Activation entry (R156) from source n, in 36 cycles: it writes every register, and each write is folded into the signature
(R189). -/
def State.entered (x n : Nat) (s : State) : State :=
  let s0 := if (s.ctx x).running then s.saveCtx x else s
  let c := s0.ctx x
  let t := s0.srcTier n
  let at' := (look n s0.tic).getD s0.now
  ({ s0 with tic := serase s0.tic n }).setCtx x (Ctx.refolded
    { c with
      g := sput (sset (fun _ => 0) [] 1 (BitVec.ofNat 64 n)) 31 0x00FFFFFC
      f := []
      pc := s0.rd (Reg.TIC_SRC_ENTRY n) &&& 0xFFFFFFFC#32
      st := if s0.srcMode n then 0x100 else 0
      ib := 0
      sb := s0.rd (Reg.TIC_SRC_SB n)
      tier := BitVec.ofNat 4 t
      home := BitVec.ofNat 4 t
      cyc := c.cyc + 36
      stackRegs := sset (fun _ => []) c.stackRegs t []
      latches := sset (fun _ => 0) c.latches t at'
      running := true
      owner := sset (fun _ => 0) c.owner t (n + 1) })

/-- Activation entry (R156), after the vote on the frame that it writes (R184). -/
def State.enter (x n : Nat) (s : State) : State := s.voted x 5 (State.entered x n)

/-- Cycles added to a target's count. -/
def State.spend (x n : Nat) (s : State) : State :=
  s.setCtx x { s.ctx x with cyc := (s.ctx x).cyc + BitVec.ofNat 64 n }

/-- A target with nothing running starts its highest pending activation above the highest saved context, or restores that
context, which takes `n` cycles; with neither it waits (R157). -/
def State.proceed (x n : Nat) (s : State) : State :=
  match s.nextSource x, s.nextSaved x with
  | some m, some h => if h < s.srcTier m then s.enter x m else s.restored x h n
  | some m, none => s.enter x m
  | none, some h => s.restored x h n
  | none, none => s

/-- What the end of an activation of source n ends with it: a migration routine (R229), the wait of a line's output images
for its first activation (R369), and a level source whose condition holds fires again (R465). -/
def State.sourceEnded (n : Nat) (s : State) : State :=
  let s1 := if 8 ≤ n ∧ n < 12 then s.setChange { s.change with routine := s.change.routine.erase (n - 8) } else s
  let s2 := if 16 ≤ n ∧ n < 28 then s1.setGrid { s1.grid with live := setB s1.grid.live (n - 16) } else s1
  s2.refire [n]

/-- The activation of the running home tier leaves the target: its return stack is emptied and its source released. -/
def State.leave (x : Nat) (s : State) : State :=
  let c := s.ctx x
  let h := c.home.toNat
  let n := sget (fun _ => 0) c.owner h
  let s1 := s.setCtx x
    { c with running := false, stackRegs := sset (fun _ => []) c.stackRegs h [], owner := sset (fun _ => 0) c.owner h 0 }
  if n = 0 then s1 else s1.sourceEnded (n - 1)

/-- The activation is over: the frame's record is closed, and the target goes on with what is due (R157). -/
def State.actDone (x : Nat) (s : State) : State :=
  let h := (s.ctx x).home.toNat
  ((((s.spend x 36).putFrame x h 0x1B8 (clrB (s.frameWord x h 0x1B8) 0)).leave x)).proceed x 0

/-- Activation end (R157), in 36 cycles, after the vote on the lanes' state signature (R189). -/
def State.actEnd (x : Nat) (s : State) : State := s.voted x 4 (State.actDone x)

/-- A double fault (R165): the first record stands, and the activation is abandoned. -/
def State.doubleFault (x vector : Nat) (s : State) : State :=
  let h := (s.ctx x).home.toNat
  let w := setF (setB (s.frameWord x h 0x1B8) 1) 8 8 vector
  let s1 := ((s.putFrame x h 0x1B8 w).fire 6).rec03 ((s.ownTriad x).getD 0) 0x84 (toBytes 4 w.toNat)
  (((s1.spend x 36).leave x)).proceed x 0

/-- Exception entry, once voted (R162): the record goes into the frame of the home tier, the core enters S mode, and PC goes
to the vector. At a tier with a live record it is a double fault. EADDR is free where R166 names none. -/
def State.trapTaken (x : Nat) (t : Trap) (word : W32) (s : State) : State :=
  let s0 := s.spend x t.cost
  let c := s0.ctx x
  let h := c.home.toNat
  if bit (s0.frameWord x h 0x1B8) 0 then s0.doubleFault x t.vector
  else
    let e := match t.eaddr with
      | some a => (BitVec.ofNat 32 a, s0)
      | none => (s0.draw.setWidth 32, s0.drawn)
    let s1 := ((((((e.2.putFrame x h 0x1A0 c.pc).putFrame x h 0x1A4 c.st).putFrame x h 0x1A8
      (BitVec.ofNat 32 t.vector)).putFrame x h 0x1AC (BitVec.ofNat 32 t.cause)).putFrame x h 0x1B0 e.1).putFrame x h 0x1B4
      word).putFrame x h 0x1B8 1
    (s1.setCtx x ({ c with pc := s1.rd (Reg.TIC_TGT_VBASE x) + BitVec.ofNat 32 (64 * t.vector) }.wst (setB c.st 8))).spend x 10

/-- Exception entry (R162), after the vote on the record that it writes (R184). -/
def State.takeTrap (x : Nat) (t : Trap) (word : W32) (s : State) : State := s.voted x 5 (State.trapTaken x t word)

/-! ### One instruction -/

/-- The last word of an instruction bank (R86). -/
def State.lastWord (s : State) (x : Nat) (a : Nat) : Bool :=
  match s.memKey (some x) a with
  | some k => (bankOf k).isSome && k % 0x200000 == 0x1FFFFC
  | none => false

/-- A word can be fetched: memory, or a register of a powered block. -/
def State.fetchable (s : State) (x a : Nat) : Bool :=
  if inWindows a then !s.blockOff a && (!isList a || (s.memLoad (some x) a 4).isSome)
  else (s.memSpan (some x) a 4).isSome

/-- The fetch of one word (R89): guard, then bus. -/
def State.fetchWord (x a : Nat) (s : State) (go : Ending) : Ending :=
  s.guarded x a 4 0 (if s.fetchable x a then go else .raised (s.busTrap x 0 a 1) s)

/-- Lines that are not locked may leave the instruction cache before any fetch; a free value decides for each. -/
def State.isweep (x : Nat) (s : State) : State :=
  (s.ctx x).icache.foldl (fun s l =>
    if s.inPartition x false (64 * l) || !bit s.draw 0 then s.drawn
    else s.drawn.setCtx x { s.ctx x with icache := (s.ctx x).icache.erase l }) s

/-- A line comes into the instruction cache. The manual gives that cache no size: any number of lines may be held, and any may
have left again by the next fetch (DESIGN CHOICE, notes/assumptions/19.md). -/
def State.icacheFill (x l : Nat) (s : State) : State :=
  s.setCtx x { s.ctx x with icache := (s.ctx x).icache ++ [l] }

/-- What the fetch of one word adds to the cost of its instruction (R91, R94, R199): nothing from the own instruction banks, a
locked line or a line that the instruction cache holds; at most the miss bound from Hearth or DRAM otherwise, and the line is
held then; a free value elsewhere and on an independent core. -/
def State.fetchTouch (x a : Nat) (s : State) : Nat × State :=
  if 4 ≤ x then (s.draw.toNat, s.drawn)
  else if (0x01000000 ≤ a && a < 0x01400000) || s.inPartition x false a || (s.ctx x).icache.contains (a / 64) then (0, s)
  else if missBound (s.level x) a = 0 then (s.draw.toNat, s.drawn)
  else (s.draw.toNat % (missBound (s.level x) a + 1), s.drawn.icacheFill x (a / 64))

/-- What the fetches of an instruction of one word or two add to its cost. -/
def State.fetchExtra (x a : Nat) (long : Bool) (s : State) : Nat × State :=
  let p := (s.isweep x).fetchTouch x a
  if long then
    let q := p.2.fetchTouch x ((a + 4) % 2 ^ 32)
    (p.1 + q.1, q.2)
  else p

/-- The instruction, or the step of one (DESIGN CHOICE, notes/assumptions/73.md), is complete: its cycles and itself are counted,
the state signature is voted when it is due, and a jump to the activation-end address ends the activation (R79, R157, R189). -/
def State.retired (x cost : Nat) (s : State) : State :=
  let c := s.ctx x
  let s1 := (s.setCtx x { c with cyc := c.cyc + BitVec.ofNat 64 cost, icnt := c.icnt + 1, steps := c.steps - 1 }).stateVote x
  if c.pc = 0x00FFFFFC#32 then s1.actEnd x else s1

/-- The instruction cache holds a word, and its fetch is no transaction. -/
def State.fetchHeld (s : State) (x a : Nat) : Bool :=
  decide (x < 4) && (s.inPartition x false a || (s.ctx x).icache.contains (a / 64))

/-- Where the fetch of an instruction leaves the instruction cache: at its first word, at its second, or nowhere. -/
def State.fetchOut (s : State) (x a : Nat) (long : Bool) : Option Nat :=
  if !s.fetchHeld x a then some a
  else if long && !s.fetchHeld x ((a + 4) % 2 ^ 32) then some ((a + 4) % 2 ^ 32)
  else none

/-- The voter compares a fetch on a cache miss, and none from an instruction bank (R188). -/
def State.fetchCompared (s : State) (x : Nat) (b : Option Nat) : Bool :=
  match b with
  | some a => s.compared x a && !(decide (0x01000000 ≤ a) && decide (a < 0x01400000))
  | none => false

/-- What a fetch finds where it reads (R75, R93): a late response adds to the cost, and an uncorrectable error is a bus error
whose line the cache does not keep. -/
def State.fetchFound (x : Nat) (b : Option Nat) (m : Meet) (cost : Nat) (s : State) : Ending :=
  match b with
  | none => .done s cost
  | some a =>
    let p := s.lateBy x a m.late.toNat
    let f := p.2.finds x a m.read
    if f.2.ceased x then .gone f.2
    else if f.1 then .done f.2 (cost + p.1)
    else
      .raised (s.busTrap x 0 a (1 + cost + p.1))
        (f.2.setCtx x { f.2.ctx x with icache := (f.2.ctx x).icache.erase (a / 64) })

/-- The fetches of an instruction of one word or two, in order (R86, R89): the vote on a miss (R188), then the words. `m` is what
they meet. -/
def State.fetch (x : Nat) (long : Bool) (m : Meet) (s : State) : Ending :=
  let a := (s.ctx x).pc.toNat
  let b := s.fetchOut x a long
  s.meets (s.fetchCompared x b) x (b.getD a) m fun s =>
    let p := s.fetchExtra x a long
    let found := p.2.fetchFound x b m p.1
    s.fetchWord x a
      (if long then
        if s.lastWord x a then .raised illegal s else s.fetchWord x ((a + 4) % 2 ^ 32) found
       else found)

/-- EINSTR of an exception on the fetch (R163): zero when the first word was not fetched. -/
def fetchWordOf (c : Ctx) (t : Trap) (w : W32) : W32 :=
  if (t.vector = 5 ∨ t.vector = 6) ∧ t.eaddr.isSome ∧ (t.eaddr.getD 0) < c.pc.toNat + 4 then 0 else w

/-- One instruction, or one step (R136), of a target: `fm` is what its fetch meets, `w` its first word, `body` what it does once
fetched. Without a target that executes now, nothing happens. -/
def State.insn (x : Nat) (fm : Meet) (w : W32) (long : Bool) (body : State → Ending) (s : State) : State :=
  if s.canRun x then
    match s.fetch x long fm with
    | .raised t s1 => s1.takeTrap x t (fetchWordOf (s.ctx x) t w)
    | .gone s1 => s1
    | .done s1 extra =>
      match body s1 with
      | .raised t s2 => s2.takeTrap x { t with cost := t.cost + extra } w
      | .gone s2 => s2
      | .done s2 cost => s2.retired x (cost + extra)
  else s

/-- An instruction that works on registers alone: `f` changes them, and PC moves past it. -/
def State.regInsn (x : Nat) (fm : Meet) (w : W32) (long : Bool) (cost : Nat) (f : Ctx → Ctx) (s : State) : State :=
  s.insn x fm w long fun s => .done (s.setCtx x ((f (s.ctx x)).next long)) cost

/-- An instruction whose fields no word may hold (R88). -/
def State.badInsn (x : Nat) (fm : Meet) (w : W32) (long : Bool) (s : State) : State :=
  s.insn x fm w long fun s => .raised illegal s

end Sys2Proof.Machine
end

