-- ==== Sys2Proof/Machine/Float.lean ====
section
/-!
DEFINITION. Exact binary32 and binary64 arithmetic with one rounding at the end (R108 to R112, R114, R139): operands are
taken apart into exact numbers, computed exactly, and rounded once into the format. -/
namespace Sys2Proof.Machine

/-- A binary format: the widths of its exponent and fraction fields. -/
structure Fmt where
  eb : Nat
  mb : Nat
  deriving DecidableEq, Repr

def binary32 : Fmt := { eb := 8, mb := 23 }
def binary64 : Fmt := { eb := 11, mb := 52 }

/-- The format that D selects. -/
def fmt (d : Bool) : Fmt := if d then binary64 else binary32

/-- The exponent bias. -/
def Fmt.bias (f : Fmt) : Nat := 2 ^ (f.eb - 1) - 1
/-- The bits of +infinity. -/
def Fmt.inf (f : Fmt) : Nat := (2 ^ f.eb - 1) * 2 ^ f.mb
/-- The weight of the sign bit. -/
def Fmt.sign (f : Fmt) : Nat := 2 ^ (f.eb + f.mb)
/-- The canonical quiet NaN (R108). -/
def Fmt.nan (f : Fmt) : Nat := f.inf + 2 ^ (f.mb - 1)
/-- A magnitude with its sign. -/
def Fmt.signed (f : Fmt) (neg : Bool) (m : Nat) : Nat := m + if neg then f.sign else 0

/-- What an encoding stands for: a NaN, signalling or quiet; an infinity; or the exact number ±m × 2^e. -/
inductive FVal where
  | nan (signalling : Bool)
  | inf (neg : Bool)
  | num (neg : Bool) (m : Nat) (e : Int)
  deriving DecidableEq, Repr

/-- An encoding taken apart. -/
def Fmt.read (f : Fmt) (x : Nat) : FVal :=
  let neg := x.testBit (f.eb + f.mb)
  let ex := x / 2 ^ f.mb % 2 ^ f.eb
  let man := x % 2 ^ f.mb
  if ex = 2 ^ f.eb - 1 then
    if man = 0 then .inf neg else .nan (!man.testBit (f.mb - 1))
  else if ex = 0 then .num neg man (1 - (f.bias : Int) - f.mb)
  else .num neg (man + 2 ^ f.mb) ((ex : Int) - f.bias - f.mb)

def FVal.isNan : FVal → Bool
  | .nan _ => true
  | _ => false
def FVal.isSnan : FVal → Bool
  | .nan s => s
  | _ => false
def FVal.isInf : FVal → Bool
  | .inf _ => true
  | _ => false
def FVal.isZero : FVal → Bool
  | .num _ m _ => m == 0
  | _ => false
def FVal.neg : FVal → Bool
  | .nan _ => false
  | .inf n => n
  | .num n _ _ => n

/-- A result with the float flags that it sets. -/
structure FRes where
  r : Nat
  nv : Bool := false
  dz : Bool := false
  of : Bool := false
  uf : Bool := false
  nx : Bool := false
  deriving DecidableEq, Repr

/-- The sticky flags of a result set in `ST` (R79). -/
def FRes.sticky (o : FRes) (st : W32) : W32 :=
  st ||| BitVec.ofNat 32 (2 ^ 20 * b2n o.nv + 2 ^ 19 * b2n o.dz + 2 ^ 18 * b2n o.of + 2 ^ 17 * b2n o.uf + 2 ^ 16 * b2n o.nx)

/-! ### Rounding -/

/-- n × 2^-k rounded to an integer in mode `rm` for a sign, and whether it was inexact: 0 nearest-even, 1 toward zero,
2 toward −∞, 3 toward +∞, 4 nearest-away (R79). -/
def roundShift (rm : Nat) (neg : Bool) (n k : Nat) : Nat × Bool :=
  let q := n / 2 ^ k
  let r := n % 2 ^ k
  let up := match rm with
    | 0 => decide (2 ^ k < 2 * r) || (2 * r == 2 ^ k && q % 2 == 1)
    | 1 => false
    | 2 => neg
    | 3 => !neg
    | _ => decide (2 ^ k ≤ 2 * r)
  (q + b2n (decide (r ≠ 0) && up), decide (r ≠ 0))

/-- n × 2^e rounded to a multiple of 2^q, in units of 2^q. -/
def roundTo (rm : Nat) (neg : Bool) (n : Nat) (e q : Int) : Nat × Bool :=
  if q ≤ e then (n * 2 ^ (e - q).toNat, false) else roundShift rm neg n (q - e).toNat

/-- The number ±n × 2^e rounded into a format (R108): subnormal results in full, tininess detected after rounding. -/
def Fmt.pack (f : Fmt) (rm : Nat) (neg : Bool) (n : Nat) (e : Int) : FRes :=
  if n = 0 then { r := f.signed neg 0 }
  else
    let top : Int := e + n.log2
    let emin : Int := 1 - (f.bias : Int)
    let wide := roundTo rm neg n e (top - f.mb)
    let tiny := decide (top < emin) && !(top == emin - 1 && wide.1 == 2 ^ (f.mb + 1))
    let out := if top < emin then roundTo rm neg n e (emin - f.mb) else wide
    let mag := if top < emin then out.1 else (top + f.bias).toNat * 2 ^ f.mb + out.1 - 2 ^ f.mb
    if f.inf ≤ mag then
      let big := rm == 0 || rm == 4 || (rm == 3 && !neg) || (rm == 2 && neg)
      { r := f.signed neg (if big then f.inf else f.inf - 1), of := true, nx := true }
    else { r := f.signed neg mag, uf := tiny && out.2, nx := out.2 }

/-- The sum of two exact numbers rounded into a format; an exact zero takes the common sign of two zeros, else it is −0 only
toward −∞. -/
def Fmt.sum (f : Fmt) (rm : Nat) (na : Bool) (ma : Nat) (ea : Int) (nb : Bool) (mb : Nat) (eb : Int) : FRes :=
  let e := min ea eb
  let a : Int := (ma : Int) * 2 ^ (ea - e).toNat
  let b : Int := (mb : Int) * 2 ^ (eb - e).toNat
  let s := (if na then -a else a) + (if nb then -b else b)
  if s = 0 then { r := f.signed (if ma = 0 ∧ mb = 0 ∧ na = nb then na else rm == 2) 0 }
  else f.pack rm (decide (s < 0)) s.natAbs e

/-- The invalid result: the canonical NaN with NV. -/
def Fmt.invalid (f : Fmt) : FRes := { r := f.nan, nv := true }

/-- The result when some operand is a NaN. -/
def Fmt.nanOf (f : Fmt) (l : List FVal) : FRes := { r := f.nan, nv := l.any FVal.isSnan }

/-! ### The operations of R109 -/

/-- FADD, and FSUB with the second operand's sign inverted (`sub`). -/
def Fmt.add (f : Fmt) (sub : Bool) (rm a b : Nat) : FRes :=
  let x := f.read a
  let y := f.read b
  match x, y with
  | .num na ma ea, .num nb mb eb => f.sum rm na ma ea (nb != sub) mb eb
  | .inf na, .inf nb => if na = (nb != sub) then { r := f.signed na f.inf } else f.invalid
  | .inf na, .num _ _ _ => { r := f.signed na f.inf }
  | .num _ _ _, .inf nb => { r := f.signed (nb != sub) f.inf }
  | _, _ => f.nanOf [x, y]

def Fmt.mul (f : Fmt) (rm a b : Nat) : FRes :=
  let x := f.read a
  let y := f.read b
  if x.isNan || y.isNan then f.nanOf [x, y]
  else
    let n := x.neg != y.neg
    match x, y with
    | .num _ ma ea, .num _ mb eb => f.pack rm n (ma * mb) (ea + eb)
    | _, _ => if x.isZero || y.isZero then f.invalid else { r := f.signed n f.inf }

/-- A quotient ma ÷ mb to so many bits that it rounds as the exact one: the last bit of the result stands for what is left
over. -/
def quotient (mb : Nat) (a b : Nat) : Nat × Int :=
  let k := b.log2 + mb + 4
  let q := a * 2 ^ k / b
  let r := a * 2 ^ k % b
  (2 * q + b2n (decide (r ≠ 0)), -(k : Int) - 1)

def Fmt.div (f : Fmt) (rm a b : Nat) : FRes :=
  let x := f.read a
  let y := f.read b
  if x.isNan || y.isNan then f.nanOf [x, y]
  else
    let n := x.neg != y.neg
    match x, y with
    | .num _ ma ea, .num _ mb eb =>
      if mb = 0 then
        if ma = 0 then f.invalid else { r := f.signed n f.inf, dz := true }
      else if ma = 0 then { r := f.signed n 0 }
      else
        let q := quotient f.mb ma mb
        f.pack rm n q.1 (ea - eb + q.2)
    | .inf _, .inf _ => f.invalid
    | .inf _, _ => { r := f.signed n f.inf }
    | _, _ => { r := f.signed n 0 }

/-- The integer square root below 2^(i+1), bit by bit from bit i down, above what is found already. -/
def rootFrom (n : Nat) : Nat → Nat → Nat
  | 0, r => if (r + 1) * (r + 1) ≤ n then r + 1 else r
  | i + 1, r => rootFrom n i (if (r + 2 ^ (i + 1)) * (r + 2 ^ (i + 1)) ≤ n then r + 2 ^ (i + 1) else r)

/-- The integer square root. -/
def root (n : Nat) : Nat := rootFrom n (n.log2 / 2 + 1) 0

def Fmt.sqrt (f : Fmt) (rm a : Nat) : FRes :=
  let x := f.read a
  match x with
  | .nan _ => f.nanOf [x]
  | .inf n => if n then f.invalid else { r := f.inf }
  | .num n m e =>
    if m = 0 then { r := f.signed n 0 }
    else if n then f.invalid
    else
      let e' := if e % 2 = 0 then e else e - 1
      let m' := if e % 2 = 0 then m else 2 * m
      let k := f.mb + 4
      let v := m' * 2 ^ (2 * k)
      let r := root v
      f.pack rm false (2 * r + b2n (decide (r * r ≠ v))) (e' / 2 - k - 1)

/-- The order of two numbers or infinities: less, equal, or greater, zeros being equal. -/
def FVal.order (x y : FVal) : Ordering :=
  let c (v w : Int) : Ordering := if v < w then .lt else if v = w then .eq else .gt
  match x, y with
  | .num na ma ea, .num nb mb eb =>
    let e := min ea eb
    let a : Int := (ma : Int) * 2 ^ (ea - e).toNat
    let b : Int := (mb : Int) * 2 ^ (eb - e).toNat
    c (if na then -a else a) (if nb then -b else b)
  | .inf na, .inf nb => c (if na then 0 else 1) (if nb then 0 else 1)
  | .inf na, _ => if na then .lt else .gt
  | _, .inf nb => if nb then .gt else .lt
  | _, _ => .eq

/-- FMIN and FMAX (`big`): minimumNumber and maximumNumber, with −0 < +0. -/
def Fmt.minMax (f : Fmt) (big : Bool) (a b : Nat) : FRes :=
  let x := f.read a
  let y := f.read b
  let nv := x.isSnan || y.isSnan
  if x.isNan && y.isNan then { r := f.nan, nv := nv }
  else if x.isNan then { r := b, nv := nv }
  else if y.isNan then { r := a, nv := nv }
  else
    let less := match x.order y with
      | .lt => true
      | .eq => x.neg && !y.neg
      | .gt => false
    let more := match x.order y with
      | .gt => true
      | .eq => !x.neg && y.neg
      | .lt => false
    { r := if big then (if less then b else a) else (if more then b else a) }

/-- FCMP and FCMPS (`sig`): the relation as N, Z, C and V (R110), and NV. -/
def Fmt.compare (f : Fmt) (sig : Bool) (a b : Nat) : (Bool × Bool × Bool × Bool) × FRes :=
  let x := f.read a
  let y := f.read b
  if x.isNan || y.isNan then ((false, false, true, true), { r := 0, nv := sig || x.isSnan || y.isSnan })
  else
    (match x.order y with
     | .lt => (true, false, false, false)
     | .eq => (false, true, true, false)
     | .gt => (false, false, true, false), { r := 0 })

/-- A number in format `f` converted into format `g` (FCVT). -/
def Fmt.convert (f g : Fmt) (rm a : Nat) : FRes :=
  let x := f.read a
  match x with
  | .nan _ => g.nanOf [x]
  | .inf n => { r := g.signed n g.inf }
  | .num n m e => g.pack rm n m e

/-- a × b + c with one rounding (R111): `np` inverts the product's sign, `nc` that of c. -/
def Fmt.fma (f : Fmt) (np nc : Bool) (rm a b c : Nat) : FRes :=
  let x := f.read a
  let y := f.read b
  let z := f.read c
  if (x.isInf && y.isZero) || (y.isInf && x.isZero) then f.invalid
  else if x.isNan || y.isNan || z.isNan then f.nanOf [x, y, z]
  else
    let p := (x.neg != y.neg) != np
    let q := z.neg != nc
    match x, y, z with
    | .num _ ma ea, .num _ mb eb, .num _ mc ec => f.sum rm p (ma * mb) (ea + eb) q mc ec
    | .num _ _ _, .num _ _ _, _ => { r := f.signed q f.inf }
    | _, _, .inf _ => if p = q then { r := f.signed p f.inf } else f.invalid
    | _, _, _ => { r := f.signed p f.inf }

/-! ### Integers (R112) -/

/-- A float converted to an integer of width w: NaN gives 0, a value beyond the range its nearest end, both with NV. -/
def Fmt.toInt (f : Fmt) (w : Nat) (uns : Bool) (rm a : Nat) : Nat × FRes :=
  let lo : Int := if uns then 0 else -(2 ^ (w - 1) : Int)
  let hi : Int := if uns then (2 ^ w : Int) - 1 else (2 ^ (w - 1) : Int) - 1
  match f.read a with
  | .nan _ => (0, { r := 0, nv := true })
  | .inf n => (modW w (if n then lo else hi), { r := 0, nv := true })
  | .num n m e =>
    let o := roundTo rm n m e 0
    let v : Int := if n then -(o.1 : Int) else o.1
    if v < lo then (modW w lo, { r := 0, nv := true })
    else if hi < v then (modW w hi, { r := 0, nv := true })
    else (modW w v, { r := 0, nx := o.2 })

/-- An integer of width w converted to a float. -/
def Fmt.ofInt (f : Fmt) (w : Nat) (uns : Bool) (rm : Nat) (a : Nat) : FRes :=
  let v : Int := if uns then (a % 2 ^ w : Nat) else sextN w a
  f.pack rm (decide (v < 0)) v.natAbs 0

end Sys2Proof.Machine
end

