-- ==== Sys2Proof/Machine/Operands.lean ====
section
/-!
DEFINITION. The formats of the Chavrik instruction words (R85 to R87): the word that an instruction's fields make, and what
its fields stand for. -/
namespace Sys2Proof.Machine

/-- A word from its major opcode and the rest. -/
def majorWord (m rest : Nat) : W32 := BitVec.ofNat 32 (m * 2 ^ 26 + rest % 2 ^ 26)

/-- Format R. -/
def wordR (fn : Nat) (d f : Bool) (rd ra rb : GReg) : W32 :=
  majorWord 0 (rd.val * 2 ^ 21 + ra.val * 2 ^ 16 + rb.val * 2 ^ 11 + b2n d * 2 ^ 10 + b2n f * 2 ^ 9 + fn)

/-- Format I. -/
def wordI (m : Nat) (rd ra : GReg) (imm : W16) : W32 := majorWord m (rd.val * 2 ^ 21 + ra.val * 2 ^ 16 + imm.toNat)

/-- Format L, first word. -/
def wordL (kind : Nat) (d : Bool) (rd ra : GReg) : W32 :=
  majorWord 0x0F (rd.val * 2 ^ 21 + ra.val * 2 ^ 16 + kind * 2 ^ 12 + b2n d * 2 ^ 11)

/-- Format M: LD and ST. -/
def wordM (m : Nat) (r : Nat) (ra : GReg) (size : Fin 4) (z : Bool) (off : BitVec 13) : W32 :=
  majorWord m (r * 2 ^ 21 + ra.val * 2 ^ 16 + size.val * 2 ^ 14 + b2n z * 2 ^ 13 + off.toNat)

/-- LDX and STX. -/
def wordX (m : Nat) (r ra rb : GReg) (size : Fin 4) (z sc : Bool) : W32 :=
  majorWord m (r.val * 2 ^ 21 + ra.val * 2 ^ 16 + rb.val * 2 ^ 11 + size.val * 2 ^ 9 + b2n z * 2 ^ 8 + b2n sc * 2 ^ 7)

/-- FLD and FST. -/
def wordFM (m : Nat) (f : FReg) (ra : GReg) (d : Bool) (off : BitVec 13) : W32 :=
  majorWord m (f.val * 2 ^ 21 + ra.val * 2 ^ 16 + b2n d * 2 ^ 15 + off.toNat)

/-- ILS (R105). -/
def wordILS (reg kind : Nat) (sb : Bool) (size : Nat) (z : Bool) (off : BitVec 15) : W32 :=
  majorWord 0x16 (reg * 2 ^ 21 + kind * 2 ^ 19 + b2n sb * 2 ^ 18 + size * 2 ^ 16 + b2n z * 2 ^ 15 + off.toNat)

/-- Format F. -/
def wordF (fn : Nat) (d : Bool) (rm : Nat) (fd fa fb : FReg) : W32 :=
  majorWord 0x20 (fd.val * 2 ^ 21 + fa.val * 2 ^ 16 + fb.val * 2 ^ 11 + b2n d * 2 ^ 10 + rm * 2 ^ 7 + fn)

/-- FMA (R111). -/
def wordFMA (kind : Nat) (d : Bool) (rm : Fin 8) (fd fa fb fc : FReg) : W32 :=
  majorWord 0x21 (fd.val * 2 ^ 21 + fa.val * 2 ^ 16 + fb.val * 2 ^ 11 + fc.val * 2 ^ 6 + b2n d * 2 ^ 5 + rm.val * 4 + kind)

/-- FCVI (R112). -/
def wordFCVI (dst src : Nat) (rm : Fin 8) (d w u dir : Bool) : W32 :=
  majorWord 0x22 (dst * 2 ^ 21 + src * 2 ^ 16 + rm.val * 2 ^ 13 + b2n d * 2 ^ 12 + b2n w * 2 ^ 11 + b2n u * 2 ^ 10 +
    b2n dir * 2 ^ 9)

/-- FMV (R113). -/
def wordFMV (dst src : Nat) (dir d : Bool) : W32 :=
  majorWord 0x23 (dst * 2 ^ 21 + src * 2 ^ 16 + b2n dir * 2 ^ 15 + b2n d * 2 ^ 14)

/-- TMR, CTR and EDGE (R130, R132, R133), by the place of the fields after rin. -/
def wordCell (m : Nat) (rd rin : GReg) (rest : Nat) : W32 := majorWord m (rd.val * 2 ^ 21 + rin.val * 2 ^ 16 + rest)

/-- BMOV and MIGR (R137, R138) and AMO (R141), by the bits below rb. -/
def wordStep (m : Nat) (rd ra rb : GReg) (rest : Nat) : W32 :=
  majorWord m (rd.val * 2 ^ 21 + ra.val * 2 ^ 16 + rb.val * 2 ^ 11 + rest)

/-- The rounding mode of an instruction: its own, or that of `ST` under 7 (R86); none for the reserved values. -/
def roundMode (rm : Fin 8) (st : W32) : Option Nat :=
  if rm.val = 7 then some (getF st 21 3) else if rm.val < 5 then some rm.val else none

/-- A sum cut to the 32 bits of an address (R82). -/
def addr (x : W64) : Nat := x.toNat % 2 ^ 32

/-- A signed offset scaled by an access size (R104). -/
def scaled (n : Nat) (off : BitVec n) (size : Nat) : W64 := (off.signExtend 64) <<< size

/-- A loaded value as a general register takes it (R86). -/
def extend (z : Bool) (n : Nat) (d : List W8) : W64 :=
  if z then BitVec.ofNat 64 (ofBytes d) else sext 64 (8 * n) (ofBytes d)

end Sys2Proof.Machine
end

