-- ==== Sys2Proof/Machine/IntAlu.lean ====
section
/-!
DEFINITION. The register ALU: OPR, major 0x00 (R96 to R100). -/
namespace Sys2Proof.Machine

/-- What an OPR operation leaves in the registers of a core (R96, R97): rd at the width that D selects, and the flags when F
is set. -/
def Ctx.alu (op : Nat → Nat → Nat → IntRes) (d f : Bool) (rd ra rb : GReg) (c : Ctx) : Ctx :=
  let o := op (wid d) (low (wid d) (c.rg ra)) (low (wid d) (c.rg rb))
  let c1 := c.wg rd (widen (wid d) o.r)
  if f then c1.wst (intFlags (wid d) o c.st) else c1

/-- An OPR instruction (R99). -/
def State.opr (x : Nat) (fm : Meet) (fn cost : Nat) (op : Nat → Nat → Nat → IntRes) (d f : Bool) (rd ra rb : GReg) (s : State) : State :=
  s.regInsn x fm (wordR fn d f rd ra rb) false cost fun c => c.alu op d f rd ra rb

/-- A shift by the amount in a register (R99). -/
def byAmount (op : Nat → Nat → Nat → IntRes) (w a b : Nat) : IntRes := op w a (amount w b)

def execAdd (x : Target) (fm : Meet) (d f : Bool) (rd ra rb : GReg) (s : State) : Host.Outcome State Fault Refusal :=
  .next (s.opr x fm 0x000 1 intAdd d f rd ra rb)

def execSub (x : Target) (fm : Meet) (d f : Bool) (rd ra rb : GReg) (s : State) : Host.Outcome State Fault Refusal :=
  .next (s.opr x fm 0x001 1 intSub d f rd ra rb)

def execAnd (x : Target) (fm : Meet) (d f : Bool) (rd ra rb : GReg) (s : State) : Host.Outcome State Fault Refusal :=
  .next (s.opr x fm 0x002 1 intAnd d f rd ra rb)

def execOr (x : Target) (fm : Meet) (d f : Bool) (rd ra rb : GReg) (s : State) : Host.Outcome State Fault Refusal :=
  .next (s.opr x fm 0x003 1 intOr d f rd ra rb)

def execXor (x : Target) (fm : Meet) (d f : Bool) (rd ra rb : GReg) (s : State) : Host.Outcome State Fault Refusal :=
  .next (s.opr x fm 0x004 1 intXor d f rd ra rb)

def execAndn (x : Target) (fm : Meet) (d f : Bool) (rd ra rb : GReg) (s : State) : Host.Outcome State Fault Refusal :=
  .next (s.opr x fm 0x005 1 intAndn d f rd ra rb)

def execSll (x : Target) (fm : Meet) (d f : Bool) (rd ra rb : GReg) (s : State) : Host.Outcome State Fault Refusal :=
  .next (s.opr x fm 0x006 1 (byAmount intSll) d f rd ra rb)

def execSrl (x : Target) (fm : Meet) (d f : Bool) (rd ra rb : GReg) (s : State) : Host.Outcome State Fault Refusal :=
  .next (s.opr x fm 0x007 1 (byAmount intSrl) d f rd ra rb)

def execSra (x : Target) (fm : Meet) (d f : Bool) (rd ra rb : GReg) (s : State) : Host.Outcome State Fault Refusal :=
  .next (s.opr x fm 0x008 1 (byAmount intSra) d f rd ra rb)

def execRor (x : Target) (fm : Meet) (d f : Bool) (rd ra rb : GReg) (s : State) : Host.Outcome State Fault Refusal :=
  .next (s.opr x fm 0x009 1 (byAmount intRor) d f rd ra rb)

def execMin (x : Target) (fm : Meet) (d f : Bool) (rd ra rb : GReg) (s : State) : Host.Outcome State Fault Refusal :=
  .next (s.opr x fm 0x00A 1 intMin d f rd ra rb)

def execMax (x : Target) (fm : Meet) (d f : Bool) (rd ra rb : GReg) (s : State) : Host.Outcome State Fault Refusal :=
  .next (s.opr x fm 0x00B 1 intMax d f rd ra rb)

def execMinu (x : Target) (fm : Meet) (d f : Bool) (rd ra rb : GReg) (s : State) : Host.Outcome State Fault Refusal :=
  .next (s.opr x fm 0x00C 1 intMinu d f rd ra rb)

def execMaxu (x : Target) (fm : Meet) (d f : Bool) (rd ra rb : GReg) (s : State) : Host.Outcome State Fault Refusal :=
  .next (s.opr x fm 0x00D 1 intMaxu d f rd ra rb)

/-- The flags of a − b at the width that D selects (R97). -/
def Ctx.compare (d : Bool) (a b : W64) (c : Ctx) : Ctx :=
  c.wst (intFlags (wid d) (intSub (wid d) (low (wid d) a) (low (wid d) b)) c.st)

/-- CMP: the flags of ra − rb, no register written; rd = 0 and F = 0. -/
def execCmp (x : Target) (fm : Meet) (d : Bool) (ra rb : GReg) (s : State) : Host.Outcome State Fault Refusal :=
  .next (s.regInsn x fm (wordR 0x00E d false 0 ra rb) false 1 fun c => c.compare d (c.rg ra) (c.rg rb))

def execMul (x : Target) (fm : Meet) (d f : Bool) (rd ra rb : GReg) (s : State) : Host.Outcome State Fault Refusal :=
  .next (s.opr x fm 0x010 (if d then 4 else 3) intMul d f rd ra rb)

def execMulh (x : Target) (fm : Meet) (d f : Bool) (rd ra rb : GReg) (s : State) : Host.Outcome State Fault Refusal :=
  .next (s.opr x fm 0x011 (if d then 5 else 4) intMulh d f rd ra rb)

def execMulhu (x : Target) (fm : Meet) (d f : Bool) (rd ra rb : GReg) (s : State) : Host.Outcome State Fault Refusal :=
  .next (s.opr x fm 0x012 (if d then 5 else 4) intMulhu d f rd ra rb)

/-- A division or remainder (R100): DIVIDE_BY_ZERO when rb is zero at the width. -/
def State.divide (x : Nat) (fm : Meet) (fn : Nat) (op : Nat → Nat → Nat → IntRes) (d f : Bool) (rd ra rb : GReg) (s : State) : State :=
  s.insn x fm (wordR fn d f rd ra rb) false fun s =>
    if low (wid d) ((s.ctx x).rg rb) = 0 then .raised divideByZero s
    else .done (s.setCtx x (((s.ctx x).alu op d f rd ra rb).next false)) (if d then 34 else 18)

def execDiv (x : Target) (fm : Meet) (d f : Bool) (rd ra rb : GReg) (s : State) : Host.Outcome State Fault Refusal :=
  .next (s.divide x fm 0x014 intDiv d f rd ra rb)

def execDivu (x : Target) (fm : Meet) (d f : Bool) (rd ra rb : GReg) (s : State) : Host.Outcome State Fault Refusal :=
  .next (s.divide x fm 0x015 intDivu d f rd ra rb)

def execRem (x : Target) (fm : Meet) (d f : Bool) (rd ra rb : GReg) (s : State) : Host.Outcome State Fault Refusal :=
  .next (s.divide x fm 0x016 intRem d f rd ra rb)

def execRemu (x : Target) (fm : Meet) (d f : Bool) (rd ra rb : GReg) (s : State) : Host.Outcome State Fault Refusal :=
  .next (s.divide x fm 0x017 intRemu d f rd ra rb)

/-- rd written with a value at the width that D selects, widened (R96). -/
def Ctx.put (d : Bool) (rd : GReg) (v : Nat) (c : Ctx) : Ctx := c.wg rd (widen (wid d) (v % 2 ^ wid d))

/-- SEL.c: ra if the condition holds, else rb; condition 15 is ILLEGAL_INSTRUCTION (R98). -/
def execSel (x : Target) (fm : Meet) (k : Cond) (d : Bool) (rd ra rb : GReg) (s : State) : Host.Outcome State Fault Refusal :=
  let w := wordR (0x020 + k.val) d false rd ra rb
  if k.val = 15 then .next (s.badInsn x fm w false)
  else .next (s.regInsn x fm w false 1 fun c => c.put d rd (if condHolds k.val c.st then c.rg ra else c.rg rb).toNat)

/-- SET.c: 1 if the condition holds, else 0; rb = 0, F = 0. The ra field is not used. -/
def execSet (x : Target) (fm : Meet) (k : Cond) (d : Bool) (rd ra : GReg) (s : State) : Host.Outcome State Fault Refusal :=
  let w := wordR (0x030 + k.val) d false rd ra 0
  if k.val = 15 then .next (s.badInsn x fm w false)
  else .next (s.regInsn x fm w false 1 fun c => c.put d rd (b2n (condHolds k.val c.st)))

/-- An OPR operation on ra alone: rb = 0, F = 0. -/
def State.unary (x : Nat) (fm : Meet) (fn : Nat) (op : Nat → Nat → Nat) (d : Bool) (rd ra : GReg) (s : State) : State :=
  s.regInsn x fm (wordR fn d false rd ra 0) false 1 fun c => c.put d rd (op (wid d) (low (wid d) (c.rg ra)))

def execClz (x : Target) (fm : Meet) (d : Bool) (rd ra : GReg) (s : State) : Host.Outcome State Fault Refusal :=
  .next (s.unary x fm 0x040 leadZeros d rd ra)

def execCtz (x : Target) (fm : Meet) (d : Bool) (rd ra : GReg) (s : State) : Host.Outcome State Fault Refusal :=
  .next (s.unary x fm 0x041 trailZeros d rd ra)

def execPopc (x : Target) (fm : Meet) (d : Bool) (rd ra : GReg) (s : State) : Host.Outcome State Fault Refusal :=
  .next (s.unary x fm 0x042 oneBits d rd ra)

/-- A field of ra, sign- or zero-extended into rd: rb = 0, F = 0, D = 1. -/
def State.extendReg (x : Nat) (fm : Meet) (fn n : Nat) (z : Bool) (rd ra : GReg) (s : State) : State :=
  s.regInsn x fm (wordR fn true false rd ra 0) false 1 fun c =>
    c.wg rd (if z then BitVec.ofNat 64 (getF (c.rg ra) 0 n) else sext 64 n (c.rg ra).toNat)

def execSextb (x : Target) (fm : Meet) (rd ra : GReg) (s : State) : Host.Outcome State Fault Refusal :=
  .next (s.extendReg x fm 0x048 8 false rd ra)

def execSexth (x : Target) (fm : Meet) (rd ra : GReg) (s : State) : Host.Outcome State Fault Refusal :=
  .next (s.extendReg x fm 0x049 16 false rd ra)

def execSextw (x : Target) (fm : Meet) (rd ra : GReg) (s : State) : Host.Outcome State Fault Refusal :=
  .next (s.extendReg x fm 0x04A 32 false rd ra)

def execZextb (x : Target) (fm : Meet) (rd ra : GReg) (s : State) : Host.Outcome State Fault Refusal :=
  .next (s.extendReg x fm 0x04C 8 true rd ra)

def execZexth (x : Target) (fm : Meet) (rd ra : GReg) (s : State) : Host.Outcome State Fault Refusal :=
  .next (s.extendReg x fm 0x04D 16 true rd ra)

def execZextw (x : Target) (fm : Meet) (rd ra : GReg) (s : State) : Host.Outcome State Fault Refusal :=
  .next (s.extendReg x fm 0x04E 32 true rd ra)

end Sys2Proof.Machine
end

