-- ==== Sys2Proof/Machine/ImmOps.lean ====
section
/-!
DEFINITION. Immediate and long-immediate integer instructions (R97, R101). -/
namespace Sys2Proof.Machine

def execAddi (x : Target) (fm : Meet) (rd ra : GReg) (imm : W16) (s : State) : Host.Outcome State Fault Refusal :=
  .next (s.regInsn x fm (wordI 0x01 rd ra imm) false 1 fun c => c.wg rd (c.rg ra + imm.signExtend 64))

def execAddiw (x : Target) (fm : Meet) (rd ra : GReg) (imm : W16) (s : State) : Host.Outcome State Fault Refusal :=
  .next (s.regInsn x fm (wordI 0x02 rd ra imm) false 1 fun c => c.wg rd (sext 64 32 (c.rg ra + imm.signExtend 64).toNat))

def execAndi (x : Target) (fm : Meet) (rd ra : GReg) (imm : W16) (s : State) : Host.Outcome State Fault Refusal :=
  .next (s.regInsn x fm (wordI 0x03 rd ra imm) false 1 fun c => c.wg rd (c.rg ra &&& imm.setWidth 64))

def execOri (x : Target) (fm : Meet) (rd ra : GReg) (imm : W16) (s : State) : Host.Outcome State Fault Refusal :=
  .next (s.regInsn x fm (wordI 0x04 rd ra imm) false 1 fun c => c.wg rd (c.rg ra ||| imm.setWidth 64))

def execXori (x : Target) (fm : Meet) (rd ra : GReg) (imm : W16) (s : State) : Host.Outcome State Fault Refusal :=
  .next (s.regInsn x fm (wordI 0x05 rd ra imm) false 1 fun c => c.wg rd (c.rg ra ^^^ imm.setWidth 64))

/-- LUI: ra = 0. -/
def execLui (x : Target) (fm : Meet) (rd : GReg) (imm : W16) (s : State) : Host.Outcome State Fault Refusal :=
  .next (s.regInsn x fm (wordI 0x08 rd 0 imm) false 1 fun c => c.wg rd (sext 64 32 (imm.toNat * 2 ^ 16)))

/-- The OPR shift of a SHI kind. -/
def shiOp (kind : Fin 4) : Nat → Nat → Nat → IntRes :=
  match kind with
  | 0 => intSll
  | 1 => intSrl
  | 2 => intSra
  | 3 => intRor

/-- SHI: as the OPR shift of its kind; amount bit 5 zero when D = 0. -/
def execShi (x : Target) (fm : Meet) (kind : Fin 4) (d f : Bool) (rd ra : GReg) (k : BitVec 6) (s : State) :
    Host.Outcome State Fault Refusal :=
  let w := majorWord 0x06 (rd.val * 2 ^ 21 + ra.val * 2 ^ 16 + kind.val * 2 ^ 14 + b2n d * 2 ^ 13 + b2n f * 2 ^ 12 + k.toNat)
  if !d && bit k 5 then .next (s.badInsn x fm w false)
  else
    .next (s.regInsn x fm w false 1 fun c => c.alu (fun w a _ => shiOp kind w a k.toNat) d f rd ra 0)

/-- CMPI: the flags of ra − sext(imm16) at width D. -/
def execCmpi (x : Target) (fm : Meet) (d : Bool) (ra : GReg) (imm : W16) (s : State) : Host.Outcome State Fault Refusal :=
  .next (s.regInsn x fm (majorWord 0x07 (b2n d * 2 ^ 21 + ra.val * 2 ^ 16 + imm.toNat)) false 1 fun c =>
    c.compare d (c.rg ra) (imm.signExtend 64))

/-- A LIMM kind that writes rd from ra and the immediate at width D, flags unchanged (R101). -/
def State.limm (x : Nat) (fm : Meet) (kind : Nat) (d : Bool) (rd ra : GReg) (f : W64 → W64) (s : State) : State :=
  s.regInsn x fm (wordL kind d rd ra) true 2 fun c => c.put d rd (f (c.rg ra)).toNat

def execLimmMov (x : Target) (fm : Meet) (rd : GReg) (imm : W32) (s : State) : Host.Outcome State Fault Refusal :=
  .next (s.regInsn x fm (wordL 0 false rd 0) true 2 fun c => c.wg rd (imm.signExtend 64))

def execLimmAdd (x : Target) (fm : Meet) (d : Bool) (rd ra : GReg) (imm : W32) (s : State) : Host.Outcome State Fault Refusal :=
  .next (s.limm x fm 1 d rd ra fun a => a + imm.signExtend 64)

def execLimmAnd (x : Target) (fm : Meet) (d : Bool) (rd ra : GReg) (imm : W32) (s : State) : Host.Outcome State Fault Refusal :=
  .next (s.limm x fm 2 d rd ra fun a => a &&& imm.signExtend 64)

def execLimmOr (x : Target) (fm : Meet) (d : Bool) (rd ra : GReg) (imm : W32) (s : State) : Host.Outcome State Fault Refusal :=
  .next (s.limm x fm 3 d rd ra fun a => a ||| imm.signExtend 64)

def execLimmXor (x : Target) (fm : Meet) (d : Bool) (rd ra : GReg) (imm : W32) (s : State) : Host.Outcome State Fault Refusal :=
  .next (s.limm x fm 4 d rd ra fun a => a ^^^ imm.signExtend 64)

def execLimmMovu (x : Target) (fm : Meet) (rd : GReg) (imm : W32) (s : State) : Host.Outcome State Fault Refusal :=
  .next (s.regInsn x fm (wordL 5 false rd 0) true 2 fun c => c.wg rd (imm.setWidth 64))

def execLimmOrh (x : Target) (fm : Meet) (rd ra : GReg) (imm : W32) (s : State) : Host.Outcome State Fault Refusal :=
  .next (s.regInsn x fm (wordL 6 false rd ra) true 2 fun c => c.wg rd (imm ++ (c.rg ra).setWidth 32))

def execLimmCmp (x : Target) (fm : Meet) (d : Bool) (ra : GReg) (imm : W32) (s : State) : Host.Outcome State Fault Refusal :=
  .next (s.regInsn x fm (wordL 7 d 0 ra) true 2 fun c => c.compare d (c.rg ra) (imm.signExtend 64))

end Sys2Proof.Machine
end

