-- ==== Sys2Proof/Machine/MemOps.lean ====
section
/-!
DEFINITION. Memory instructions (R102 to R105) and branches (R98, R106, R107). -/
namespace Sys2Proof.Machine

/-! ### Loads and stores -/

/-- A load of n bytes (R104, R105): alignment, vote, guard, access; `put` writes the register. An uncorrectable error ends in
a bus error and writes no register (R75). -/
def State.loadAt (x a n : Nat) (put : List W8 → Ctx → Ctx) (m : Meet) (s : State) : Ending :=
  if a % n ≠ 0 then .raised misaligned s
  else
    s.meets (s.compared x a) x a m fun s =>
      s.guarded x a n 1
        (let r := s.coreRead x a n false m
         r.ends x (s.busTrap x 1 a r.cost) fun d => .done (r.s.setCtx x ((put d (r.s.ctx x)).next false)) r.cost)

/-- The store has not reset the target that made it. -/
def stillRuns (before after : Ctx) : Bool :=
  decide ({ after with dcache := before.dcache, icache := before.icache, halted := before.halted, stopping := before.stopping } = before)

/-- A store of bytes (R104, R105): alignment, vote, guard, access. -/
def State.storeAt (x a : Nat) (d : List W8) (m : Meet) (s : State) : Ending :=
  if a % d.length ≠ 0 then .raised misaligned s
  else
    s.meets (s.compared x a) x a m fun s =>
      s.guarded x a d.length 2
        (let r := s.coreWrite x a d false m
         match r.data with
         | none => .raised (s.busTrap x 2 a r.cost) r.s
         | some _ =>
           if stillRuns (s.ctx x) (r.s.ctx x) then .done (r.s.setCtx x ((r.s.ctx x).next false)) r.cost else .gone r.s)

/-- The bytes of an access size. -/
def bytesOf (size : Fin 4) : Nat := 2 ^ size.val

/-- The bytes of a float access. -/
def fbytes (d : Bool) : Nat := if d then 8 else 4

/-- The effective address of format M (R104). -/
def Ctx.eaM (c : Ctx) (ra : GReg) (off : BitVec 13) (size : Nat) : Nat := addr (c.rg ra + scaled 13 off size)

/-- The effective address of LDX and STX. -/
def Ctx.eaX (c : Ctx) (ra rb : GReg) (sc : Bool) (size : Nat) : Nat :=
  addr (c.rg ra + if sc then c.rg rb <<< size else c.rg rb)

/-- The effective address of ILS (R105). -/
def Ctx.eaS (c : Ctx) (sb : Bool) (off : BitVec 15) (size : Nat) : Nat :=
  ((if sb then c.sb else c.ib).toNat + off.toNat * 2 ^ size) % 2 ^ 32

/-- LD; Z = 0 when size = 3. Here and below `m` is what the access meets. -/
def execLd (x : Target) (fm : Meet) (rd ra : GReg) (size : Fin 4) (z : Bool) (off : BitVec 13) (m : Meet) (s : State) :
    Host.Outcome State Fault Refusal :=
  let w := wordM 0x10 rd.val ra size z off
  if size.val = 3 ∧ z = true then .next (s.badInsn x fm w false)
  else .next (s.insn x fm w false fun s =>
    s.loadAt x ((s.ctx x).eaM ra off size) (bytesOf size) (fun d c => c.wg rd (extend z (bytesOf size) d)) m)

def execSt (x : Target) (fm : Meet) (rs ra : GReg) (size : Fin 4) (off : BitVec 13) (m : Meet) (s : State) : Host.Outcome State Fault Refusal :=
  .next (s.insn x fm (wordM 0x11 rs.val ra size false off) false fun s =>
    s.storeAt x ((s.ctx x).eaM ra off size) (toBytes (bytesOf size) ((s.ctx x).rg rs).toNat) m)

/-- LDX; Z = 0 when size = 3. -/
def execLdx (x : Target) (fm : Meet) (rd ra rb : GReg) (size : Fin 4) (z sc : Bool) (m : Meet) (s : State) : Host.Outcome State Fault Refusal :=
  let w := wordX 0x12 rd ra rb size z sc
  if size.val = 3 ∧ z = true then .next (s.badInsn x fm w false)
  else .next (s.insn x fm w false fun s =>
    s.loadAt x ((s.ctx x).eaX ra rb sc size) (bytesOf size) (fun d c => c.wg rd (extend z (bytesOf size) d)) m)

def execStx (x : Target) (fm : Meet) (rs ra rb : GReg) (size : Fin 4) (sc : Bool) (m : Meet) (s : State) : Host.Outcome State Fault Refusal :=
  .next (s.insn x fm (wordX 0x13 rs ra rb size false sc) false fun s =>
    s.storeAt x ((s.ctx x).eaX ra rb sc size) (toBytes (bytesOf size) ((s.ctx x).rg rs).toNat) m)

def execFld (x : Target) (fm : Meet) (fd : FReg) (ra : GReg) (d : Bool) (off : BitVec 13) (m : Meet) (s : State) :
    Host.Outcome State Fault Refusal :=
  .next (s.insn x fm (wordFM 0x14 fd ra d off) false fun s =>
    s.loadAt x ((s.ctx x).eaM ra off (if d then 3 else 2)) (fbytes d) (fun b c => c.wfd d fd (ofBytes b)) m)

def execFst (x : Target) (fm : Meet) (fs : FReg) (ra : GReg) (d : Bool) (off : BitVec 13) (m : Meet) (s : State) :
    Host.Outcome State Fault Refusal :=
  .next (s.insn x fm (wordFM 0x15 fs ra d off) false fun s =>
    s.storeAt x ((s.ctx x).eaM ra off (if d then 3 else 2)) (toBytes (fbytes d) ((s.ctx x).rf fs).toNat) m)

/-- ILS kind 0: `sb` selects SB, else IB. -/
def execIlsLoad (x : Target) (fm : Meet) (reg : GReg) (sb : Bool) (size : Fin 4) (z : Bool) (off : BitVec 15) (m : Meet) (s : State) :
    Host.Outcome State Fault Refusal :=
  .next (s.insn x fm (wordILS reg.val 0 sb size.val z off) false fun s =>
    s.loadAt x ((s.ctx x).eaS sb off size) (bytesOf size) (fun d c => c.wg reg (extend z (bytesOf size) d)) m)

/-- ILS kind 1: Z = 0. -/
def execIlsStore (x : Target) (fm : Meet) (reg : GReg) (sb : Bool) (size : Fin 4) (off : BitVec 15) (m : Meet) (s : State) :
    Host.Outcome State Fault Refusal :=
  .next (s.insn x fm (wordILS reg.val 1 sb size.val false off) false fun s =>
    s.storeAt x ((s.ctx x).eaS sb off size) (toBytes (bytesOf size) ((s.ctx x).rg reg).toNat) m)

/-- ILS kind 2: size 2 or 3, as D. -/
def execIlsFload (x : Target) (fm : Meet) (reg : FReg) (sb d : Bool) (off : BitVec 15) (m : Meet) (s : State) : Host.Outcome State Fault Refusal :=
  .next (s.insn x fm (wordILS reg.val 2 sb (if d then 3 else 2) false off) false fun s =>
    s.loadAt x ((s.ctx x).eaS sb off (if d then 3 else 2)) (fbytes d) (fun b c => c.wfd d reg (ofBytes b)) m)

/-- ILS kind 3: size 2 or 3, as D. -/
def execIlsFstore (x : Target) (fm : Meet) (reg : FReg) (sb d : Bool) (off : BitVec 15) (m : Meet) (s : State) : Host.Outcome State Fault Refusal :=
  .next (s.insn x fm (wordILS reg.val 3 sb (if d then 3 else 2) false off) false fun s =>
    s.storeAt x ((s.ctx x).eaS sb off (if d then 3 else 2)) (toBytes (fbytes d) ((s.ctx x).rf reg).toNat) m)

/-! ### Branches -/

/-- PC at a displacement in words from the branch (R106). -/
def Ctx.jump (n : Nat) (disp : BitVec n) (c : Ctx) : Ctx := { c with pc := c.pc + (disp.signExtend 32) * 4 }

/-- A branch, taken or not. -/
def State.branch (x : Nat) (n : Nat) (disp : BitVec n) (taken : Bool) (c : Ctx) (s : State) : Ending :=
  if taken then .done (s.setCtx x (c.jump n disp)) 3 else .done (s.setCtx x (c.next false)) 1

/-- BC; condition 15 is ILLEGAL_INSTRUCTION. -/
def execBc (x : Target) (fm : Meet) (k : Cond) (disp : BitVec 22) (s : State) : Host.Outcome State Fault Refusal :=
  let w := majorWord 0x18 (k.val * 2 ^ 22 + disp.toNat)
  if k.val = 15 then .next (s.badInsn x fm w false)
  else .next (s.insn x fm w false fun s => s.branch x 22 disp (condHolds k.val (s.ctx x).st) (s.ctx x))

def execBl (x : Target) (fm : Meet) (disp : BitVec 26) (s : State) : Host.Outcome State Fault Refusal :=
  .next (s.insn x fm (majorWord 0x19 disp.toNat) false fun s =>
    s.branch x 26 disp true ((s.ctx x).wg 31 (((s.ctx x).pc + 4).setWidth 64)))

/-- JALR: the target is formed before rd is written (R107). -/
def execJalr (x : Target) (fm : Meet) (rd ra : GReg) (imm : W16) (s : State) : Host.Outcome State Fault Refusal :=
  .next (s.insn x fm (wordI 0x1A rd ra imm) false fun s =>
    let c := s.ctx x
    let t := addr (c.rg ra + imm.signExtend 64)
    if t % 4 ≠ 0 then .raised misaligned s
    else .done (s.setCtx x { c.wg rd ((c.pc + 4).setWidth 64) with pc := BitVec.ofNat 32 t }) 4)

/-- CB: the condition on the flags of the 64-bit ra − rb, `ST` unchanged; condition 15 is ILLEGAL_INSTRUCTION. -/
def execCb (x : Target) (fm : Meet) (ra rb : GReg) (k : Cond) (disp : BitVec 12) (s : State) : Host.Outcome State Fault Refusal :=
  let w := majorWord 0x1B (ra.val * 2 ^ 21 + rb.val * 2 ^ 16 + k.val * 2 ^ 12 + disp.toNat)
  if k.val = 15 then .next (s.badInsn x fm w false)
  else .next (s.insn x fm w false fun s =>
    let c := s.ctx x
    s.branch x 12 disp (condHolds k.val (intFlags 64 (intSub 64 (c.rg ra).toNat (c.rg rb).toNat) 0)) c)

/-- CBZ: taken if (ra = 0) xor NZ. -/
def execCbz (x : Target) (fm : Meet) (ra : GReg) (nz : Bool) (disp : BitVec 20) (s : State) : Host.Outcome State Fault Refusal :=
  .next (s.insn x fm (majorWord 0x1C (ra.val * 2 ^ 21 + b2n nz * 2 ^ 20 + disp.toNat)) false fun s =>
    s.branch x 20 disp (((s.ctx x).rg ra == 0) != nz) (s.ctx x))

/-- DBNZ; ra = g0 is ILLEGAL_INSTRUCTION (R107). -/
def execDbnz (x : Target) (fm : Meet) (ra : GReg) (disp : BitVec 21) (s : State) : Host.Outcome State Fault Refusal :=
  let w := majorWord 0x1D (ra.val * 2 ^ 21 + disp.toNat)
  if ra = 0 then .next (s.badInsn x fm w false)
  else .next (s.insn x fm w false fun s =>
    let v := (s.ctx x).rg ra - 1
    s.branch x 21 disp (v != 0) ((s.ctx x).wg ra v))

end Sys2Proof.Machine
end

