-- ==== Sys2Proof/Machine/FloatOps.lean ====
section
/-!
DEFINITION. Float instructions (R108 to R114). -/
namespace Sys2Proof.Machine

/-- An instruction that rounds: the reserved modes 5 and 6 are ILLEGAL_INSTRUCTION (R86, R88). -/
def State.rounding (x : Nat) (fm : Meet) (w : W32) (rm : Fin 8) (cost : Nat) (f : Nat → Ctx → Ctx) (s : State) : State :=
  if rm.val = 5 ∨ rm.val = 6 then s.badInsn x fm w false
  else s.regInsn x fm w false cost fun c => f ((roundMode rm c.st).getD 0) c

/-- A float result written to fd with its sticky flags. -/
def Ctx.fput (d : Bool) (fd : FReg) (o : FRes) (c : Ctx) : Ctx := (c.wfd d fd o.r).wst (o.sticky c.st)

/-- A two-operand FOP that rounds (R109). -/
def State.fop (x : Nat) (fm : Meet) (fn : Nat) (op : Fmt → Nat → Nat → Nat → FRes) (cs cd : Nat) (d : Bool) (rm : Fin 8) (fd fa fb : FReg)
    (s : State) : State :=
  s.rounding x fm (wordF fn d rm.val fd fa fb) rm (if d then cd else cs) fun m c =>
    c.fput d fd (op (fmt d) m (c.rfd d fa) (c.rfd d fb))

def execFadd (x : Target) (fm : Meet) (d : Bool) (rm : Fin 8) (fd fa fb : FReg) (s : State) : Host.Outcome State Fault Refusal :=
  .next (s.fop x fm 0x00 (fun f => f.add false) 4 4 d rm fd fa fb)

def execFsub (x : Target) (fm : Meet) (d : Bool) (rm : Fin 8) (fd fa fb : FReg) (s : State) : Host.Outcome State Fault Refusal :=
  .next (s.fop x fm 0x01 (fun f => f.add true) 4 4 d rm fd fa fb)

def execFmul (x : Target) (fm : Meet) (d : Bool) (rm : Fin 8) (fd fa fb : FReg) (s : State) : Host.Outcome State Fault Refusal :=
  .next (s.fop x fm 0x02 Fmt.mul 4 5 d rm fd fa fb)

def execFdiv (x : Target) (fm : Meet) (d : Bool) (rm : Fin 8) (fd fa fb : FReg) (s : State) : Host.Outcome State Fault Refusal :=
  .next (s.fop x fm 0x03 Fmt.div 12 20 d rm fd fa fb)

/-- FSQRT: fb = 0. -/
def execFsqrt (x : Target) (fm : Meet) (d : Bool) (rm : Fin 8) (fd fa : FReg) (s : State) : Host.Outcome State Fault Refusal :=
  .next (s.fop x fm 0x04 (fun f m a _ => f.sqrt m a) 14 24 d rm fd fa 0)

/-- A FOP that does not round: rm = 0. -/
def State.fplain (x : Nat) (fm : Meet) (fn cost : Nat) (d : Bool) (fd fa fb : FReg) (f : Ctx → Ctx) (s : State) : State :=
  s.regInsn x fm (wordF fn d 0 fd fa fb) false cost f

def execFmin (x : Target) (fm : Meet) (d : Bool) (fd fa fb : FReg) (s : State) : Host.Outcome State Fault Refusal :=
  .next (s.fplain x fm 0x05 4 d fd fa fb fun c => c.fput d fd ((fmt d).minMax false (c.rfd d fa) (c.rfd d fb)))

def execFmax (x : Target) (fm : Meet) (d : Bool) (fd fa fb : FReg) (s : State) : Host.Outcome State Fault Refusal :=
  .next (s.fplain x fm 0x06 4 d fd fa fb fun c => c.fput d fd ((fmt d).minMax true (c.rfd d fa) (c.rfd d fb)))

/-- FABS: the sign bit cleared, any NaN passed unchanged; fb = 0. -/
def execFabs (x : Target) (fm : Meet) (d : Bool) (fd fa : FReg) (s : State) : Host.Outcome State Fault Refusal :=
  .next (s.fplain x fm 0x07 1 d fd fa 0 fun c => c.wfd d fd (c.rfd d fa % (fmt d).sign))

/-- FNEG: the sign bit inverted; fb = 0. -/
def execFneg (x : Target) (fm : Meet) (d : Bool) (fd fa : FReg) (s : State) : Host.Outcome State Fault Refusal :=
  .next (s.fplain x fm 0x08 1 d fd fa 0 fun c => c.wfd d fd (c.rfd d fa ^^^ (fmt d).sign))

/-- FMOV: fb = 0. -/
def execFmov (x : Target) (fm : Meet) (d : Bool) (fd fa : FReg) (s : State) : Host.Outcome State Fault Refusal :=
  .next (s.fplain x fm 0x09 1 d fd fa 0 fun c => c.wfd d fd (c.rfd d fa))

/-- The relation of two floats in N, Z, C and V, with the sticky NV (R110). -/
def Ctx.fcompare (sig d : Bool) (fa fb : FReg) (c : Ctx) : Ctx :=
  let o := (fmt d).compare sig (c.rfd d fa) (c.rfd d fb)
  c.wst (o.2.sticky (putNzcv o.1.1 o.1.2.1 o.1.2.2.1 o.1.2.2.2 c.st))

/-- FCMP, quiet: fd = 0. -/
def execFcmp (x : Target) (fm : Meet) (d : Bool) (fa fb : FReg) (s : State) : Host.Outcome State Fault Refusal :=
  .next (s.fplain x fm 0x0A 2 d 0 fa fb fun c => c.fcompare false d fa fb)

/-- FCMPS, signalling: fd = 0. -/
def execFcmps (x : Target) (fm : Meet) (d : Bool) (fa fb : FReg) (s : State) : Host.Outcome State Fault Refusal :=
  .next (s.fplain x fm 0x0B 2 d 0 fa fb fun c => c.fcompare true d fa fb)

/-- FCVT: D = 1 from binary32 to binary64, D = 0 from binary64 to binary32; fb = 0. With D = 1 too any rm but the reserved ones is
accepted, as the Fields column of R109 asks for fb = 0 alone (DESIGN CHOICE, notes/assumptions/74.md). -/
def execFcvt (x : Target) (fm : Meet) (d : Bool) (rm : Fin 8) (fd fa : FReg) (s : State) : Host.Outcome State Fault Refusal :=
  .next (s.rounding x fm (wordF 0x0C d rm.val fd fa 0) rm 3 fun m c =>
    c.fput d fd ((fmt !d).convert (fmt d) m (c.rfd (!d) fa)))

/-- A kind of FMA (R111): `np` inverts the product, `nc` the addend. -/
def State.fmaInsn (x : Nat) (fm : Meet) (kind : Nat) (np nc d : Bool) (rm : Fin 8) (fd fa fb fc : FReg) (s : State) : State :=
  s.rounding x fm (wordFMA kind d rm fd fa fb fc) rm (if d then 6 else 5) fun m c =>
    c.fput d fd ((fmt d).fma np nc m (c.rfd d fa) (c.rfd d fb) (c.rfd d fc))

def execFmadd (x : Target) (fm : Meet) (d : Bool) (rm : Fin 8) (fd fa fb fc : FReg) (s : State) : Host.Outcome State Fault Refusal :=
  .next (s.fmaInsn x fm 0 false false d rm fd fa fb fc)

def execFmsub (x : Target) (fm : Meet) (d : Bool) (rm : Fin 8) (fd fa fb fc : FReg) (s : State) : Host.Outcome State Fault Refusal :=
  .next (s.fmaInsn x fm 1 false true d rm fd fa fb fc)

def execFnmadd (x : Target) (fm : Meet) (d : Bool) (rm : Fin 8) (fd fa fb fc : FReg) (s : State) : Host.Outcome State Fault Refusal :=
  .next (s.fmaInsn x fm 2 true false d rm fd fa fb fc)

def execFnmsub (x : Target) (fm : Meet) (d : Bool) (rm : Fin 8) (fd fa fb fc : FReg) (s : State) : Host.Outcome State Fault Refusal :=
  .next (s.fmaInsn x fm 3 true true d rm fd fa fb fc)

/-- FCVI dir 0 (R112): W = 1 a 64-bit integer, U = 1 unsigned. -/
def execFcviToInt (x : Target) (fm : Meet) (rd : GReg) (fa : FReg) (rm : Fin 8) (d w u : Bool) (s : State) :
    Host.Outcome State Fault Refusal :=
  .next (s.rounding x fm (wordFCVI rd.val fa.val rm d w u false) rm 3 fun m c =>
    let o := (fmt d).toInt (wid w) u m (c.rfd d fa)
    (c.wg rd (widen (wid w) o.1)).wst (o.2.sticky c.st))

/-- FCVI dir 1 (R112). -/
def execFcviToFloat (x : Target) (fm : Meet) (fd : FReg) (ra : GReg) (rm : Fin 8) (d w u : Bool) (s : State) :
    Host.Outcome State Fault Refusal :=
  .next (s.rounding x fm (wordFCVI fd.val ra.val rm d w u true) rm 3 fun m c =>
    c.fput d fd ((fmt d).ofInt (wid w) u m (c.rg ra).toNat))

/-- FMV dir 0 (R113). -/
def execFmvToGeneral (x : Target) (fm : Meet) (rd : GReg) (fa : FReg) (d : Bool) (s : State) : Host.Outcome State Fault Refusal :=
  .next (s.regInsn x fm (wordFMV rd.val fa.val false d) false 1 fun c => c.wg rd (BitVec.ofNat 64 (c.rfd d fa)))

/-- FMV dir 1 (R113). -/
def execFmvToFloat (x : Target) (fm : Meet) (fd : FReg) (ra : GReg) (d : Bool) (s : State) : Host.Outcome State Fault Refusal :=
  .next (s.regInsn x fm (wordFMV fd.val ra.val true d) false 1 fun c => c.wfd d fd (c.rg ra).toNat)

/-- FLI (R114): a binary32 value, converted exactly when D = 1; no flag. -/
def execFli (x : Target) (fm : Meet) (fd : FReg) (d : Bool) (imm : W32) (s : State) : Host.Outcome State Fault Refusal :=
  .next (s.regInsn x fm (majorWord 0x27 (fd.val * 2 ^ 21 + b2n d * 2 ^ 20)) true 2 fun c =>
    c.wfd d fd (if d then (binary32.convert binary64 0 imm.toNat).r else imm.toNat))

end Sys2Proof.Machine
end

