-- ==== Sys2Proof/Machine/SystemOps.lean ====
section
/-!
DEFINITION. System instructions (R83, R84, R115, R159, R164, R386), the instruction word that does not decode (R88), and the
entry of activations as a target's own command (R155 to R160). -/
namespace Sys2Proof.Machine

/-- A word with a code, or with nothing, below its major opcode. -/
def wordSys (m rest : Nat) : W32 := majorWord m rest

/-- An instruction that S mode alone may execute (R115): PRIVILEGED_INSTRUCTION in U mode. -/
def State.privInsn (x : Nat) (fm : Meet) (w : W32) (body : State → Ending) (s : State) : State :=
  s.insn x fm w false fun s => if (s.ctx x).priv then body s else .raised privileged s

def execSyscall (x : Target) (fm : Meet) (code : W16) (s : State) : Host.Outcome State Fault Refusal :=
  .next (s.insn x fm (wordSys 0x38 code.toNat) false fun s => .raised { vector := 8, cause := code.toNat } s)

def execBreak (x : Target) (fm : Meet) (code : W16) (s : State) : Host.Outcome State Fault Refusal :=
  .next (s.insn x fm (wordSys 0x39 code.toNat) false fun s => .raised { vector := 9, cause := code.toNat } s)

/-- A special register as MFSR reads it (R83); none for the reserved numbers. -/
def Ctx.special (c : Ctx) (sr : Nat) : Option W64 :=
  match sr with
  | 0 => some (c.pc.setWidth 64)
  | 1 => some (c.st.setWidth 64)
  | 2 => some (c.ib.setWidth 64)
  | 3 => some (c.sb.setWidth 64)
  | 4 => some (c.tier.setWidth 64)
  | 5 => some c.cyc
  | 6 => some c.icnt
  | _ => none

def execMfsr (x : Target) (fm : Meet) (rd : GReg) (sr : Fin 32) (s : State) : Host.Outcome State Fault Refusal :=
  .next (s.insn x fm (wordSys 0x3A (rd.val * 2 ^ 21 + sr.val * 2 ^ 11)) false fun s =>
    match (s.ctx x).special sr with
    | some v => .done (s.setCtx x (((s.ctx x).wg rd v).next false)) 1
    | none => .raised illegal s)

/-- TIER as MTSR writes it (R159): a value below the home tier sets the home tier. -/
def Ctx.wtier (v : Nat) (c : Ctx) : Ctx := { c with tier := BitVec.ofNat 4 (max (v % 16) c.home.toNat) }

/-- A special register as MTSR writes it (R83, R84, R159). -/
def Ctx.putSpecial (sr : Nat) (v : W64) (c : Ctx) : Ctx :=
  match sr with
  | 1 => c.wst (if c.priv then stPut c.st (v.setWidth 32) else putB (stPut c.st (v.setWidth 32)) 8 false)
  | 2 => { c with ib := v.setWidth 32 }.fold 49 v
  | 3 => { c with sb := v.setWidth 32 }.fold 50 v
  | 4 => (c.wtier v.toNat).fold 51 v
  | _ => c

/-- MTSR: illegal for the registers that no mode writes and for a value that would write an RM of 5 to 7; in U mode only
`ST` is written, M unchanged. -/
def execMtsr (x : Target) (fm : Meet) (ra : GReg) (sr : Fin 32) (s : State) : Host.Outcome State Fault Refusal :=
  .next (s.insn x fm (wordSys 0x3B (ra.val * 2 ^ 16 + sr.val * 2 ^ 11)) false fun s =>
    let c := s.ctx x
    let v := c.rg ra
    if sr.val = 0 ∨ 4 < sr.val then .raised illegal s
    else if sr.val = 1 ∧ !rmOk (v.setWidth 32) then .raised illegal s
    else if sr.val ≠ 1 ∧ !c.priv then .raised privileged s
    else .done (s.setCtx x ((c.putSpecial sr v).next false)) 2)

/-- A target whose running context may not run has it saved, and continues as at activation end (R160, R164). -/
def State.displace (x : Nat) (s : State) : State :=
  let c := s.ctx x
  if c.running && !c.halted && !s.mayRun x c.priv c.home.toNat then s.savedThen x fun s => s.proceed x 36 else s

/-- RFE (R164): without a live record ILLEGAL_INSTRUCTION with cause 2, which R89 puts before the mode check. The lanes'
signatures of the frame access are voted (R184). -/
def execRfe (x : Target) (fm : Meet) (s : State) : Host.Outcome State Fault Refusal :=
  .next (if !s.canRun x then s else (s.insn x fm (wordSys 0x3C 0) false fun s =>
    let c := s.ctx x
    let h := c.home.toNat
    if !bit (s.frameWord x h 0x1B8) 0 then .raised { illegal with cause := 2 } s
    else if !c.priv then .raised privileged s
    else
      let s1 := s.sigVote x 5
      if (s1.ctx x).halted then .gone s1
      else
        .done ((s1.putFrame x h 0x1B8 (clrB (s.frameWord x h 0x1B8) 0)).setCtx x
          ({ c with pc := s.frameWord x h 0x1A0 &&& 0xFFFFFFFC#32 }.wst (stPut c.st (s.frameWord x h 0x1A4)))) 8).displace x)

/-- WAIT (R386): one cycle, then the sleep state that BEL selects; the core goes on at the instruction after it. -/
def execWait (x : Target) (fm : Meet) (s : State) : Host.Outcome State Fault Refusal :=
  .next (s.privInsn x fm (wordSys 0x3D 0) fun s => .done ((s.setCtx x ((s.ctx x).next false)).sleepWait x) 1)

/-! ### CACHE (R94, R95, R115) -/

/-- The word of CACHE. -/
def wordCache (op : Nat) (ra : GReg) : W32 := wordSys 0x3E (ra.val * 2 ^ 16 + op * 2 ^ 12)

/-- A line of the data cache is present and dirty. -/
def State.lineDirty (s : State) (x l : Nat) : Bool :=
  match s.lineOf x l with
  | some v => v.dirty
  | none => false

/-- A dirty line of the data cache written back by CACHE, after the vote on the copies of that line access (R188). -/
def State.writesBack (x l : Nat) (m : Meet) (s : State) (go : State → Ending) : Ending :=
  s.meets (s.lineDirty x l && s.compared x (64 * l)) x (64 * l) m go

/-- The first dirty line of a data cache. -/
def State.firstDirty (s : State) (x : Nat) : Nat :=
  (((s.ctx x).dcache.find? fun e => e.2.dirty).map fun e => e.1).getD 0

/-- The cost of cleaning one line (R115): 2, and for a dirty line a stall up to the miss bound of its target. -/
def State.cleanCost (x l : Nat) (s : State) : Nat × State :=
  if s.lineDirty x l then (2 + s.draw.toNat % (missBound (s.level x) (64 * l) + 1), s.drawn) else (2, s)

def execCacheCleanLine (x : Target) (fm : Meet) (ra : GReg) (m : Meet) (s : State) : Host.Outcome State Fault Refusal :=
  .next (s.privInsn x fm (wordCache 0 ra) fun s =>
    let l := addr ((s.ctx x).rg ra) / 64
    s.writesBack x l m fun s =>
      let p := s.cleanCost x l
      let s1 := p.2.cleanLine x l
      .done (s1.setCtx x ((s1.ctx x).next false)) p.1)

def execCacheInvalidateLine (x : Target) (fm : Meet) (ra : GReg) (s : State) : Host.Outcome State Fault Refusal :=
  .next (s.privInsn x fm (wordCache 1 ra) fun s =>
    let s1 := s.dropLine x (addr ((s.ctx x).rg ra) / 64)
    .done (s1.setCtx x ((s1.ctx x).next false)) 2)

def execCacheCleanInvalidateLine (x : Target) (fm : Meet) (ra : GReg) (m : Meet) (s : State) : Host.Outcome State Fault Refusal :=
  .next (s.privInsn x fm (wordCache 2 ra) fun s =>
    let l := addr ((s.ctx x).rg ra) / 64
    s.writesBack x l m fun s =>
      let p := s.cleanCost x l
      let s1 := (p.2.cleanLine x l).dropLine x l
      .done (s1.setCtx x ((s1.ctx x).next false)) p.1)

/-- Op 3: every line leaves the instruction cache but the locked ones. -/
def execCacheInvalidateIcache (x : Target) (fm : Meet) (ra : GReg) (s : State) : Host.Outcome State Fault Refusal :=
  .next (s.privInsn x fm (wordCache 3 ra) fun s =>
    .done (s.setCtx x ({ s.ctx x with
      icache := (s.ctx x).icache.filter fun l => s.inPartition x false (64 * l) }.next false)) 1024)

/-- Op 4: every line cleaned, locked lines included; each dirty one adds a stall up to the DRAM miss bound. `m` is what the first
write meets. -/
def execCacheCleanDcache (x : Target) (fm : Meet) (ra : GReg) (m : Meet) (s : State) : Host.Outcome State Fault Refusal :=
  .next (s.privInsn x fm (wordCache 4 ra) fun s =>
    s.writesBack x (s.firstDirty x) m fun s =>
      let p := (s.ctx x).dcache.foldl (fun p e =>
        let q := State.cleanCost x e.1 p.2
        (p.1 + (q.1 - 2), q.2.cleanLine x e.1)) (1024, s)
      .done (p.2.setCtx x ((p.2.ctx x).next false)) p.1)

/-! ### The word that does not decode -/

/-- A word that no instruction has is reached (R88); a word that decodes is the business of its own command. Of a LIMM or FLI
that is illegal the first word alone is fetched (DESIGN CHOICE, notes/assumptions/75.md). -/
def execIllegalInstruction (x : Target) (fm : Meet) (w : W32) (s : State) : Host.Outcome State Fault Refusal :=
  .next (if wordLegal w then s else s.badInsn x fm w false)

/-! ### Activation entry -/

/-- The target can act between instructions. -/
def State.awake (s : State) (x : Nat) : Bool :=
  s.exists x && !(s.ctx x).halted && s.nap x == .awake && !(s.ctx x).dbg && s.power.mainValid && !s.bellows.ember &&
    !s.islandOff (s.islandOf x)

/-- A target takes what is due at this boundary: it pre-empts (R155, R156), starts or restores on a target that waits (R157),
or sets aside a context that may not run (R160). The clock of a waiting target has run meanwhile. -/
def execActivationEntry (x : Target) (s : State) : Host.Outcome State Fault Refusal :=
  let c := s.ctx x
  if !s.awake x then .next s
  else if !c.running then
    if (s.nextSource x).isNone && (s.nextSaved x).isNone then .next s
    else .next (((s.spend x s.draw.toNat).drawn).proceed x 36)
  else if !s.mayRun x c.priv c.home.toNat then .next (s.displace x)
  else if s.displaced x then
    match s.nextSource x, s.nextSaved x with
    | some n, some h => .next (if h < s.srcTier n then s.enter x n else s.savedThen x fun s => s.proceed x 36)
    | some n, none => .next (s.enter x n)
    | none, _ => .next (s.savedThen x fun s => s.proceed x 36)
  else .next s

end Sys2Proof.Machine
end

