-- ==== Sys2Proof/Machine/Blocks.lean ====
section
/-!
DEFINITION. Function blocks, plant time in the program, and the cells of timers, counters and edges (05, R117 to R133). -/
namespace Sys2Proof.Machine

/-! ### Function blocks (R118 to R124) -/

/-- What CHECK of an instance header holds (R118). -/
def headerCheck (ty size base : Nat) : Nat := 2 ^ 32 - 1 - (ty ^^^ size ^^^ base)

/-- The checks of FBCALL and FBCHK on the instance in ra and type n (R121, R123): alignment, guard, the header, the type-table
entry of the own bank; the listed cost is that of the header's access and `k`. `go` takes ENTRY and the cost. `ms` is what the
reads of the header and of the entry meet. -/
def State.typed (x : Nat) (ra : GReg) (n k : Nat) (ms : List Meet) (go : Nat → Nat → State → Ending) (s : State) : Ending :=
  let b := addr ((s.ctx x).rg ra)
  if b % 64 ≠ 0 then .raised misaligned s
  else
    s.meets (s.compared x b) x b (meetAt ms 0) fun s =>
      s.guarded x b 16 1
        (let r := s.coreRead x b 16 true (meetAt ms 0)
         let e := 0x011F0000 + 16 * n
         let cost := r.cost + k
         r.ends x (s.busTrap x 1 b cost) fun h =>
           let f := r.s.finds x e (meetAt ms 1).read
           { s := f.2, cost := cost, data := if f.1 then r.s.memLoad (some x) e 16 else none : Reply }.ends x
             (s.busTrap x 1 e cost) fun t =>
               let ty := wordAt h 0 4
               let size := wordAt h 4 4
               if wordAt t 12 4 ≠ 1 then .raised (instanceCheck 1 cost) f.2
               else if ty ≠ wordAt t 4 4 ∨ size ≠ wordAt t 8 4 then .raised (instanceCheck 2 cost) f.2
               else if wordAt h 12 4 ≠ headerCheck ty size b then .raised (instanceCheck 3 cost) f.2
               else go (wordAt t 0 4) cost f.2)

/-- IB written by a call or a return, folded as MTSR's write is (R189). -/
def Ctx.wib (v : W32) (c : Ctx) : Ctx := { c with ib := v }.fold 49 (v.setWidth 64)

/-- FBCALL: the return address and IB are pushed, IB names the instance, and PC goes to the block's body. -/
def execFbcall (x : Target) (fm : Meet) (ra : GReg) (n : BitVec 12) (ms : List Meet) (s : State) :
    Host.Outcome State Fault Refusal :=
  .next (s.insn x fm (majorWord 0x28 (ra.val * 2 ^ 21 + n.toNat)) false fun s =>
    let b := addr ((s.ctx x).rg ra)
    s.typed x ra n.toNat 7 ms fun entry cost s =>
      let c := s.ctx x
      if 16 ≤ c.stack.length then .raised (instanceCheck 8 cost) s
      else
        .done (s.setCtx x { (c.putStack ((c.pc + 4, c.ib) :: c.stack)).wib (BitVec.ofNat 32 b) with
          pc := BitVec.ofNat 32 entry &&& 0xFFFFFFFC#32 }) cost)

/-- FBRET: cause 5 on an empty stack, else the newest entry gives IB and PC. -/
def execFbret (x : Target) (fm : Meet) (s : State) : Host.Outcome State Fault Refusal :=
  .next (s.insn x fm (majorWord 0x29 0) false fun s =>
    let c := s.ctx x
    match c.stack with
    | [] => .raised (instanceCheck 5 4) s
    | (pc, ib) :: l => .done (s.setCtx x { (c.putStack l).wib ib with pc := pc }) 4)

/-- FBCHK: the checks alone. -/
def execFbchk (x : Target) (fm : Meet) (ra : GReg) (n : BitVec 12) (ms : List Meet) (s : State) :
    Host.Outcome State Fault Refusal :=
  .next (s.insn x fm (majorWord 0x29 (ra.val * 2 ^ 21 + 1 * 2 ^ 12 + n.toNat)) false fun s =>
    s.typed x ra n.toNat 5 ms fun _ cost s => .done (s.setCtx x ((s.ctx x).next false)) cost)

/-! ### Plant time (R125, R126) -/

/-- The time since a start, read as signed and held at 0 (R126, R130, R131). -/
def elapsed (now start : W64) : Nat := ((now - start).toInt).toNat

def execTnow (x : Target) (fm : Meet) (rd : GReg) (s : State) : Host.Outcome State Fault Refusal :=
  .next (s.regInsn x fm (majorWord 0x2B (rd.val * 2 ^ 21)) false 2 fun c => c.wg rd c.latch)

def execTelap (x : Target) (fm : Meet) (rd ra : GReg) (s : State) : Host.Outcome State Fault Refusal :=
  .next (s.regInsn x fm (majorWord 0x2B (rd.val * 2 ^ 21 + ra.val * 2 ^ 16 + 1 * 2 ^ 8)) false 2 fun c =>
    c.wg rd (BitVec.ofNat 64 (elapsed c.latch (c.rg ra))))

/-! ### Cells (R127 to R129) -/

/-- One cell instruction: the cell's checks (R128), one line access that reads it and one that writes what `f` makes of it,
and rd. `so` is where STATE lies in the cell; `ms` is what the read and the write meet. -/
def State.cell (x : Nat) (fm : Meet) (w : W32) (n index tag kind so k : Nat) (rd : GReg) (ms : List Meet)
    (f : Ctx → List W8 → List W8 × W64) (s : State) : State :=
  s.insn x fm w false fun s =>
    let a := ((s.ctx x).ib.toNat + index * n) % 2 ^ 32
    if a % n ≠ 0 then .raised misaligned s
    else
      s.meets (s.compared x a) x a (meetAt ms 0) fun s =>
        s.guarded x a n 3
          (let r := s.coreRead x a n true (meetAt ms 0)
           r.ends x (s.busTrap x 1 a (2 * r.cost + k)) fun d =>
             let st := wordAt d so 4
             if st / 2 ^ 16 ≠ tag ∨ st / 2 ^ 8 % 4 ≠ kind then .raised (instanceCheck 4 (2 * r.cost + k)) r.s
             else
               let o := f (r.s.ctx x) d
               r.s.meets (r.s.compared x a) x a (meetAt ms 1) fun s =>
                 let q := s.coreWrite x a o.1 true (meetAt ms 1)
                 match q.data with
                 | none => .raised (s.busTrap x 2 a (r.cost + q.cost + k)) q.s
                 | some _ => .done (q.s.setCtx x (((q.s.ctx x).wg rd o.2).next false)) (r.cost + q.cost + k))

/-- STATE of a cell with its low `n` bits replaced. -/
def putState (st n v : Nat) : List W8 := toBytes 4 (st / 2 ^ n * 2 ^ n + v % 2 ^ n)

/-! ### Timers (R129, R130) -/

/-- A timer cell less its reserved bytes, TAG and KIND. -/
structure Timer where
  start : W64
  et : Nat
  q : Bool
  inp : Bool
  run : Bool
  deriving DecidableEq, Repr

/-- A running timer at elapsed time e: it expires when e has reached PT, Q becoming `done`; else ET follows. -/
def Timer.count (t : Timer) (e pt : Nat) (done : Bool) : Timer :=
  if pt ≤ e then { t with q := done, et := pt, run := false } else { t with et := e }

/-- A timer starts at an instant; Q is as `q` says while PT is not zero. -/
def Timer.begin (t : Timer) (now : W64) (pt : Nat) (q : Bool) : Timer :=
  { t with start := now, et := 0, q := q, run := decide (pt ≠ 0) }

/-- One execution of a timer (R130). -/
def Timer.step (t : Timer) (kind : Nat) (now : W64) (inp : Bool) (pt : Nat) : Timer :=
  let e := elapsed now t.start
  let t1 :=
    if kind = 0 then
      if !inp then { t with run := false, q := false, et := 0 }
      else if !t.inp then t.begin now pt (decide (pt = 0))
      else if t.run then t.count e pt true
      else t
    else if kind = 1 then
      if inp then { t with run := false, q := true, et := 0 }
      else if t.inp then t.begin now pt (decide (pt ≠ 0))
      else if t.run then t.count e pt false
      else t
    else
      if t.run then t.count e pt false
      else if inp && !t.inp then t.begin now pt (decide (pt ≠ 0))
      else if !inp then { t with et := 0 }
      else t
  { t1 with inp := inp }

/-- A timer as its cell holds it. -/
def timerOf (d : List W8) : Timer :=
  let st := wordAt d 16 4
  { start := BitVec.ofNat 64 (wordAt d 0 8), et := wordAt d 8 8, q := st.testBit 0, inp := st.testBit 1, run := st.testBit 2 }

/-- The cell that holds a timer, its reserved bytes kept. -/
def Timer.cell (t : Timer) (d : List W8) : List W8 :=
  toBytes 8 t.start.toNat ++ toBytes 8 t.et ++ putState (wordAt d 16 4) 3 (b2n t.q + 2 * b2n t.inp + 4 * b2n t.run) ++ d.drop 20

/-- TMR of a kind: index 0 is ILLEGAL_INSTRUCTION (R127). -/
def State.tmr (x : Nat) (fm : Meet) (kind : Nat) (rd rin rpt : GReg) (index : BitVec 9) (ms : List Meet) (s : State) : State :=
  let w := wordCell 0x2A rd rin (rpt.val * 2 ^ 11 + kind * 2 ^ 9 + index.toNat)
  if index = 0 then s.badInsn x fm w false
  else
    s.cell x fm w 32 index.toNat 0x544D kind 16 6 rd ms fun c d =>
      let t := (timerOf d).step kind c.latch (bit (c.rg rin) 0) (c.rg rpt).toNat
      (t.cell d, BitVec.ofNat 64 (b2n t.q))

def execTon (x : Target) (fm : Meet) (rd rin rpt : GReg) (index : BitVec 9) (ms : List Meet) (s : State) :
    Host.Outcome State Fault Refusal :=
  .next (s.tmr x fm 0 rd rin rpt index ms)

def execTof (x : Target) (fm : Meet) (rd rin rpt : GReg) (index : BitVec 9) (ms : List Meet) (s : State) :
    Host.Outcome State Fault Refusal :=
  .next (s.tmr x fm 1 rd rin rpt index ms)

def execTp (x : Target) (fm : Meet) (rd rin rpt : GReg) (index : BitVec 9) (ms : List Meet) (s : State) :
    Host.Outcome State Fault Refusal :=
  .next (s.tmr x fm 2 rd rin rpt index ms)

/-! ### Counters (R132) -/

/-- A counter cell less its reserved bytes, TAG and KIND. -/
structure Counter where
  cv : Int
  cu : Bool
  cd : Bool
  qu : Bool
  qd : Bool
  deriving DecidableEq, Repr

/-- One count up or down, saturating at the limits of 32 bits. -/
def countUp (v : Int) : Int := if v < 2147483647 then v + 1 else v
def countDown (v : Int) : Int := if -2147483648 < v then v - 1 else v

/-- One execution of a counter (R132): inputs CU, CD, R and LD, and the preset. -/
def Counter.step (t : Counter) (kind : Nat) (cu cd r ld : Bool) (pv : Int) : Counter :=
  let up := cu && !t.cu
  let dn := cd && !t.cd
  let t1 : Counter :=
    if kind = 0 then
      let v := if r then 0 else if up then countUp t.cv else t.cv
      { t with cv := v, qu := decide (pv ≤ v), qd := false }
    else if kind = 1 then
      let v := if ld then pv else if dn then countDown t.cv else t.cv
      { t with cv := v, qu := false, qd := decide (v ≤ 0) }
    else
      let v := if r then 0 else if ld then pv else if up && !dn then countUp t.cv else if dn && !up then countDown t.cv else t.cv
      { t with cv := v, qu := decide (pv ≤ v), qd := decide (v ≤ 0) }
  { t1 with cu := cu, cd := cd }

/-- A counter as its cell holds it. -/
def counterOf (d : List W8) : Counter :=
  let st := wordAt d 4 4
  { cv := sextN 32 (wordAt d 0 4), cu := st.testBit 0, cd := st.testBit 1, qu := st.testBit 2, qd := st.testBit 3 }

/-- The cell that holds a counter, its reserved bytes kept. -/
def Counter.cell (t : Counter) (d : List W8) : List W8 :=
  toBytes 4 (modW 32 t.cv) ++ putState (wordAt d 4 4) 4 (b2n t.cu + 2 * b2n t.cd + 4 * b2n t.qu + 8 * b2n t.qd) ++ d.drop 8

/-- CTR of a kind: index 0 is ILLEGAL_INSTRUCTION. -/
def State.ctr (x : Nat) (fm : Meet) (kind : Nat) (rd rin rpv : GReg) (index : BitVec 9) (ms : List Meet) (s : State) : State :=
  let w := wordCell 0x2C rd rin (rpv.val * 2 ^ 11 + kind * 2 ^ 9 + index.toNat)
  if index = 0 then s.badInsn x fm w false
  else
    s.cell x fm w 16 index.toNat 0x4354 kind 4 4 rd ms fun c d =>
      let i := c.rg rin
      let t := (counterOf d).step kind (bit i 0) (bit i 1) (bit i 2) (bit i 3) (sextN 32 (c.rg rpv).toNat)
      (t.cell d, BitVec.ofNat 64 (b2n t.qu + 2 * b2n t.qd))

def execCtu (x : Target) (fm : Meet) (rd rin rpv : GReg) (index : BitVec 9) (ms : List Meet) (s : State) :
    Host.Outcome State Fault Refusal :=
  .next (s.ctr x fm 0 rd rin rpv index ms)

def execCtd (x : Target) (fm : Meet) (rd rin rpv : GReg) (index : BitVec 9) (ms : List Meet) (s : State) :
    Host.Outcome State Fault Refusal :=
  .next (s.ctr x fm 1 rd rin rpv index ms)

def execCtud (x : Target) (fm : Meet) (rd rin rpv : GReg) (index : BitVec 9) (ms : List Meet) (s : State) :
    Host.Outcome State Fault Refusal :=
  .next (s.ctr x fm 2 rd rin rpv index ms)

/-! ### Edges (R133) -/

/-- The edge that a kind reports between the input's level at the last execution and now. -/
def edgeSeen (kind : Nat) (prev now : Bool) : Bool :=
  if kind = 0 then now && !prev else if kind = 1 then prev && !now else prev != now

/-- EDGE of a kind: an index below 4 is ILLEGAL_INSTRUCTION. -/
def State.edgeCell (x : Nat) (fm : Meet) (kind : Nat) (rd rin : GReg) (index : BitVec 14) (ms : List Meet) (s : State) : State :=
  let w := wordCell 0x2D rd rin (kind * 2 ^ 14 + index.toNat)
  if index.toNat < 4 then s.badInsn x fm w false
  else
    s.cell x fm w 4 index.toNat 0x4547 kind 0 3 rd ms fun c d =>
      let i := bit (c.rg rin) 0
      let st := wordAt d 0 4
      (putState st 1 (b2n i), BitVec.ofNat 64 (b2n (edgeSeen kind (st.testBit 0) i)))

def execEdgeRising (x : Target) (fm : Meet) (rd rin : GReg) (index : BitVec 14) (ms : List Meet) (s : State) :
    Host.Outcome State Fault Refusal :=
  .next (s.edgeCell x fm 0 rd rin index ms)

def execEdgeFalling (x : Target) (fm : Meet) (rd rin : GReg) (index : BitVec 14) (ms : List Meet) (s : State) :
    Host.Outcome State Fault Refusal :=
  .next (s.edgeCell x fm 1 rd rin index ms)

def execEdgeBoth (x : Target) (fm : Meet) (rd rin : GReg) (index : BitVec 14) (ms : List Meet) (s : State) :
    Host.Outcome State Fault Refusal :=
  .next (s.edgeCell x fm 2 rd rin index ms)

end Sys2Proof.Machine
end

