-- ==== Sys2Proof/Machine/Moves.lean ====
section
/-!
DEFINITION. Instructions that run in steps, BMOV and MIGR (R136 to R140), and the atomic read-modify-write (R141). -/
namespace Sys2Proof.Machine

/-! ### Block move (R137) -/

/-- The unit of BMOV. -/
def moveUnit (l : Bool) : Nat := if l then 64 else 8

/-- The word of BMOV. -/
def wordBmov (l fill : Bool) (rd ra rb : GReg) : W32 := wordStep 0x30 rd ra rb (b2n l * 2 ^ 10 + b2n fill * 2 ^ 9)

/-- The registers after a unit: rd on, ra on when copying, rb down, one after the other. -/
def Ctx.moved (u : Nat) (fill : Bool) (rd ra rb : GReg) (c : Ctx) : Ctx :=
  let n := BitVec.ofNat 64 u
  let c1 := c.wg rd (c.rg rd + n)
  let c2 := if fill then c1 else c1.wg ra (c1.rg ra + n)
  c2.wg rb (c2.rg rb - n)

/-- The last step of BMOV, on a count of zero. -/
def State.moveEnds (x : Nat) (s : State) : Ending := .done (s.setCtx x ((s.ctx x).next false)) 2

/-- A unit of BMOV stored (R137), and the registers moved on: `cost` was spent before. -/
def State.moveStore (x : Nat) (l fill : Bool) (rd ra rb : GReg) (d : List W8) (cost : Nat) (m : Meet) (s : State) : Ending :=
  let dst := addr ((s.ctx x).rg rd)
  s.meets (s.compared x dst) x dst m fun s =>
    let q := s.coreWrite x dst d true m
    match q.data with
    | none => .raised (s.busTrap x 2 dst (cost + q.cost)) q.s
    | some _ => .done (q.s.setCtx x ((q.s.ctx x).moved (moveUnit l) fill rd ra rb)) (cost + q.cost)

/-- A copying step; `ms` is what the read and the write of the unit meet. -/
def execBmovCopyStep (x : Target) (fm : Meet) (l : Bool) (rd ra rb : GReg) (ms : List Meet) (s : State) :
    Host.Outcome State Fault Refusal :=
  .next (s.insn x fm (wordBmov l false rd ra rb) false fun s =>
    let c := s.ctx x
    let u := moveUnit l
    let dst := addr (c.rg rd)
    let src := addr (c.rg ra)
    if c.rg rb = 0 then s.moveEnds x
    else if (c.rg rd).toNat % u ≠ 0 ∨ (c.rg rb).toNat % u ≠ 0 ∨ (c.rg ra).toNat % u ≠ 0 then .raised misaligned s
    else
      s.meets (s.compared x src) x src (meetAt ms 0) fun s =>
        s.guarded x dst u 2 (s.guarded x src u 1
          (let r := s.coreRead x src u true (meetAt ms 0)
           r.ends x (s.busTrap x 1 src (r.cost + (r.s.accessCost x dst true).1)) fun d =>
             r.s.moveStore x l false rd ra rb d r.cost (meetAt ms 1))))

/-- A filling step; `m` is what the write of the unit meets. -/
def execBmovFillStep (x : Target) (fm : Meet) (l : Bool) (rd ra rb : GReg) (m : Meet) (s : State) :
    Host.Outcome State Fault Refusal :=
  .next (s.insn x fm (wordBmov l true rd ra rb) false fun s =>
    let c := s.ctx x
    let u := moveUnit l
    if c.rg rb = 0 then s.moveEnds x
    else if (c.rg rd).toNat % u ≠ 0 ∨ (c.rg rb).toNat % u ≠ 0 then .raised misaligned s
    else
      s.guarded x (addr (c.rg rd)) u 2
        (s.moveStore x l true rd ra rb ((List.replicate (u / 8) (toBytes 8 (c.rg ra).toNat)).flatten) 0 m))

/-! ### Migration (R138 to R140) -/

/-- One element converted (R139). -/
def convertElement (p v : Nat) : Nat :=
  match p with
  | 0 => modW 16 (sextN 8 v)
  | 1 => modW 32 (sextN 16 v)
  | 2 => modW 64 (sextN 32 v)
  | 6 => (binary32.convert binary64 0 v).r
  | 7 => (binary64.convert binary32 0 v).r
  | 8 => (binary64.ofInt 32 false 0 v).r
  | 9 => (binary32.ofInt 16 false 0 v).r
  | _ => v

/-- A cell that CELL copies: its TAG and a KIND from 0 to 2 (R139). -/
def cellCopies (p : Nat) (d : List W8) : Bool :=
  let f := cellForm p
  let st := wordAt d f.2.2 4
  st / 2 ^ 16 == f.2.1 && st / 2 ^ 8 % 4 != 3

/-- n bytes of the old instance by line accesses, at most two (R117): a reply whose cost is that of all of them. -/
def State.spanLoad (x a n : Nat) (m : Meet) (s : State) : Reply :=
  let k := min n (64 - a % 64)
  let r := s.coreRead x a k true m
  if k = n then r
  else
    let q := r.s.coreLoad x ((a + k) % 2 ^ 32) (n - k) true
    { s := q.s, cost := r.cost + q.cost,
      data := match r.data, q.data with
        | some d, some d' => some (d ++ d')
        | _, _ => none }

/-- What an operation beside COPY, CVT and CELL puts: zeros, or a constant; and what those make of their source. -/
def MigOp.make (o : MigOp) (u : MigUnit) (d : List W8) : List W8 :=
  match o.op with
  | 1 => List.replicate u.dn 0
  | 2 => toBytes u.dn (o.src + o.chi * 2 ^ 32)
  | 3 => toBytes u.dn (convertElement o.param (ofBytes d))
  | _ => d

/-- The unit cost of R139 for a step that ends in INSTANCE_CHECK (R124): 0 for an operation that has none. -/
def MigOp.cost (o : MigOp) (e : MigEntry) (prog x : Nat) (s : State) : Nat :=
  if 4 < o.op ∨ o.count ≤ prog ∨ (o.op = 3 ∧ 9 < o.param) ∨ (o.op = 4 ∧ 2 < o.param) then 0
  else
    let u := o.unit e prog
    (s.accessCost x u.sa false).1 * linesSpanned u.sa u.sn + (s.accessCost x u.da true).1 + o.extra

/-- The registers after an operation step (R140). -/
def Ctx.migrated (rd rb : GReg) (total prog : Nat) (c : Ctx) : Ctx :=
  if total ≤ prog then
    let c1 := c.wg rb (c.rg rb + 1)
    c1.wg rd 0
  else c.wg rd (BitVec.ofNat 64 prog)

/-- A line access of MIGR that its guard permits loads: `k` is the cost of the step without it and `rest` that of what would
follow it, which a step that ends in BUS_ERROR is charged too. -/
def State.migRead (x a n : Nat) (m : Meet) (k : Nat) (rest : State → Nat) (s : State) (go : List W8 → Nat → State → Ending) :
    Ending :=
  let r := s.spanLoad x a n m
  r.ends x (s.migTrap x 1 a (k + r.cost + rest r.s)) fun d => go d (k + r.cost) r.s

/-- A line access of MIGR that loads (R138): the vote on its copies (R188), the migration guard, the bytes. -/
def State.migLoad (x a n : Nat) (m : Meet) (k : Nat) (rest : State → Nat) (s : State) (go : List W8 → Nat → State → Ending) :
    Ending :=
  s.meets (s.compared x a) x a m fun s => s.migGuarded x a n 1 (s.migRead x a n m k rest go)

/-- A line access of MIGR that stores, with the vote on its copies. -/
def State.migStore (x a : Nat) (d : List W8) (m : Meet) (k : Nat) (put : Ctx → Ctx) (s : State) : Ending :=
  s.meets (s.compared x a) x a m fun s =>
    let q := s.coreWrite x a d true m
    match q.data with
    | none => .raised (s.migTrap x 2 a (k + q.cost)) q.s
    | some _ => .done (q.s.setCtx x (put (q.s.ctx x))) (k + q.cost)

/-- The unit of an operation step once its descriptor is sound: guard checks, the source, the destination. Progress at or beyond
COUNT, as with a COUNT of zero, completes the operation without a unit (DESIGN CHOICE, notes/assumptions/76.md). -/
def State.migUnit (x : Nat) (rd rb : GReg) (o : MigOp) (e : MigEntry) (prog cost : Nat) (ms : List Meet) (s : State) : Ending :=
  if o.count ≤ prog then .done (s.setCtx x ((s.ctx x).migrated rd rb o.count prog)) cost
  else
    let u := o.unit e prog
    let put (k : Nat) (d : List W8) (s : State) : Ending :=
      s.migStore x u.da d (meetAt ms 4) k fun c => c.migrated rd rb o.count (prog + u.step)
    let rest (s : State) : Nat := (s.accessCost x u.da true).1 + o.extra
    if o.reads then
      s.meets (s.compared x u.sa) x u.sa (meetAt ms 3) fun s =>
        s.migGuarded x u.sa u.sn 1 (s.migGuarded x u.da u.dn 2
          (s.migRead x u.sa u.sn (meetAt ms 3) cost rest fun d k s =>
            if o.op == 4 && !cellCopies o.param d then .raised (instanceCheck 4 (k + rest s)) s.drawn
            else put (k + o.extra) (o.make u d) s))
    else s.migGuarded x u.da u.dn 2 (put cost (o.make u []) s)

/-- The work of a step on operation g[rb] of a sound entry (R140): `ad` is the cost of the header already read. -/
def State.migOperation (x : Nat) (rd rb : GReg) (ea ad : Nat) (e : MigEntry) (ms : List Meet) (s : State) : Ending :=
  let c := s.ctx x
  let k := (c.rg rb).toNat
  let prog := (c.rg rd).toNat
  let oa := (ea + 16 + 16 * k) % 2 ^ 32
  s.migLoad x oa 16 (meetAt ms 1) (2 + ad) (fun _ => 0) fun d cost s =>
    let o := migOp d
    let first := decide (k = 0) && decide (prog = 0)
    let check (code n : Nat) (s : State) : Ending := .raised (instanceCheck code (n + o.cost e prog x s)) s.drawn
    if first || o.reads then
      s.migLoad x e.old 16 (meetAt ms 2) cost (o.cost e prog x) fun b full s =>
        let size := wordAt b 4 4
        if !e.ok || !o.ok || !o.inside e.size (some size) then check 7 full s
        else if first && wordAt b 12 4 != headerCheck (wordAt b 0 4) size e.old then check 6 full s
        else s.migUnit x rd rb o e prog full ms
    else if !e.ok || !o.ok || !o.inside e.size none then check 7 cost s
    else s.migUnit x rd rb o e prog cost ms

/-- The new header of an entry whose operations are done (R140). -/
def State.migHeader (x : Nat) (rd ra rb : GReg) (ad : Nat) (e : MigEntry) (m : Meet) (s : State) : Ending :=
  if !e.ok || decide ((s.ctx x).rg rb ≠ BitVec.ofNat 64 e.ops) then
    .raised (instanceCheck 7 (2 + ad + (s.accessCost x e.new true).1)) (s.accessCost x e.new true).2
  else
    s.migGuarded x e.new 16 2
      (s.migStore x e.new
        (toBytes 4 e.ty ++ toBytes 4 e.size ++ toBytes 4 1 ++ toBytes 4 (headerCheck e.ty e.size e.new)) m (2 + ad) fun c =>
          ((c.wg ra (c.rg ra + BitVec.ofNat 64 (16 * (1 + e.ops)))).wg rb 0).wg rd 0)

/-- MIGR completes at the end entry (R140), which sets MDONE of its triad while the change is MIGRATING (R230). -/
def State.migEnd (x ad : Nat) (s : State) : Ending :=
  let s1 := if x < 4 ∧ s.chgState = 4 then s.wrB Reg.SCN_CHG_STAT (24 + x) true else s
  .done (s1.setCtx x ((s1.ctx x).next false)) (2 + ad)

/-- The three kinds of a MIGR step (R140). -/
inductive MigStep where
  | operation
  | header
  | ending
  deriving DecidableEq, Repr

/-- Which kind of step an entry and g[rb] call for. -/
def MigEntry.kind (e : MigEntry) (rb : W64) : MigStep :=
  if e.ends then .ending else if rb.toNat < e.ops then .operation else .header

/-- One step of MIGR (R138 to R140). A command names the kind of its step; where the entry calls for another kind, that
command has nothing to do here (notes/assumptions/1.md). `ms` is what its accesses meet: the entry, the operation, the header of
the old instance, the source, and the destination or the new header. -/
def State.migr (x : Nat) (fm : Meet) (kind : MigStep) (rd ra rb : GReg) (ms : List Meet) (s : State) : State :=
  let w := wordStep 0x32 rd ra rb 0
  let ea := addr ((s.ctx x).rg ra)
  let seen := s.memLoad (some x) ea 16
  if ea % 16 = 0 && (match seen with | some d => (migEntry d).kind ((s.ctx x).rg rb) != kind | none => false) then s
  else
    s.privInsn x fm w fun s =>
      if ea % 16 ≠ 0 then .raised misaligned s
      else
        s.migLoad x ea 16 (meetAt ms 0) 2 (fun _ => 0) fun d k s =>
          let e := migEntry d
          let ad := k - 2
          match e.kind ((s.ctx x).rg rb) with
          | .ending => s.migEnd x ad
          | .operation => s.migOperation x rd rb ea ad e ms
          | .header => s.migHeader x rd ra rb ad e (meetAt ms 4)

def execMigrOperationStep (x : Target) (fm : Meet) (rd ra rb : GReg) (ms : List Meet) (s : State) :
    Host.Outcome State Fault Refusal :=
  .next (s.migr x fm .operation rd ra rb ms)

def execMigrHeaderStep (x : Target) (fm : Meet) (rd ra rb : GReg) (ms : List Meet) (s : State) :
    Host.Outcome State Fault Refusal :=
  .next (s.migr x fm .header rd ra rb ms)

def execMigrEndStep (x : Target) (fm : Meet) (rd ra rb : GReg) (ms : List Meet) (s : State) :
    Host.Outcome State Fault Refusal :=
  .next (s.migr x fm .ending rd ra rb ms)

/-! ### Atomics (R141) -/

/-- The word of AMO. -/
def wordAmo (op : Nat) (d : Bool) (rd ra rb : GReg) : W32 := wordStep 0x33 rd ra rb (b2n d * 2 ^ 10 + op * 2 ^ 6)

/-- The write of an AMO that read in `cost` cycles, or none, and what it leaves of the context. -/
def State.amoWrite (x a n cost : Nat) (v : Option Nat) (put : Ctx → Ctx) (s : State) : Ending :=
  match v with
  | some v =>
    let q := s.coreStore x a (toBytes n v) false
    match q.data with
    | none => .raised (s.busTrap x 2 a (cost + q.cost + 2)) q.s
    | some _ => .done (q.s.setCtx x (put (q.s.ctx x))) (cost + q.cost + 2)
  | none =>
    let p := s.accessCost x a true
    .done (p.2.setCtx x (put (p.2.ctx x))) (cost + p.1 + 2)

/-- AMO: alignment, vote, guard (as a store, R141), the working store alone; the bytes are read and, unless `f` gives
none, written; the old value goes to rd. `z` says what CAS makes of Z, `m` is what the access meets. -/
def State.amo (x : Nat) (fm : Meet) (op : Nat) (d : Bool) (rd ra rb : GReg) (f : Ctx → Nat → Option Nat) (z : Nat → Ctx → Ctx)
    (m : Meet) (s : State) : State :=
  s.insn x fm (wordAmo op d rd ra rb) false fun s =>
    let c := s.ctx x
    let a := addr (c.rg ra)
    let n := wid d / 8
    if a % n ≠ 0 then .raised misaligned s
    else
      s.meets (s.compared x a) x a m fun s => s.guarded x a n 2
        (if !inWS a then
          let p := s.accessCost x a true
          .raised (s.busTrap x 2 a (p.1 + 2)) p.2
        else
          let r := s.coreRead x a n false m
          r.ends x (s.busTrap x 2 a (2 * r.cost + 2)) fun b =>
            r.s.amoWrite x a n r.cost (f c (ofBytes b)) fun c => ((z (ofBytes b) c).wg rd (widen (wid d) (ofBytes b))).next false)

/-- An AMO that writes what an operation makes of the old value and g[rb] at the width. -/
def State.amoOp (x : Nat) (fm : Meet) (op : Nat) (g : Nat → Nat → Nat → IntRes) (d : Bool) (rd ra rb : GReg) (m : Meet)
    (s : State) : State :=
  s.amo x fm op d rd ra rb (fun c old => some (g (wid d) old (low (wid d) (c.rg rb))).r) (fun _ c => c) m

def execAmoSwap (x : Target) (fm : Meet) (d : Bool) (rd ra rb : GReg) (m : Meet) (s : State) : Host.Outcome State Fault Refusal :=
  .next (s.amoOp x fm 0 (fun _ _ b => { r := b }) d rd ra rb m)

def execAmoAdd (x : Target) (fm : Meet) (d : Bool) (rd ra rb : GReg) (m : Meet) (s : State) : Host.Outcome State Fault Refusal :=
  .next (s.amoOp x fm 1 intAdd d rd ra rb m)

def execAmoAnd (x : Target) (fm : Meet) (d : Bool) (rd ra rb : GReg) (m : Meet) (s : State) : Host.Outcome State Fault Refusal :=
  .next (s.amoOp x fm 2 intAnd d rd ra rb m)

def execAmoOr (x : Target) (fm : Meet) (d : Bool) (rd ra rb : GReg) (m : Meet) (s : State) : Host.Outcome State Fault Refusal :=
  .next (s.amoOp x fm 3 intOr d rd ra rb m)

def execAmoXor (x : Target) (fm : Meet) (d : Bool) (rd ra rb : GReg) (m : Meet) (s : State) : Host.Outcome State Fault Refusal :=
  .next (s.amoOp x fm 4 intXor d rd ra rb m)

def execAmoMin (x : Target) (fm : Meet) (d : Bool) (rd ra rb : GReg) (m : Meet) (s : State) : Host.Outcome State Fault Refusal :=
  .next (s.amoOp x fm 5 intMin d rd ra rb m)

def execAmoMax (x : Target) (fm : Meet) (d : Bool) (rd ra rb : GReg) (m : Meet) (s : State) : Host.Outcome State Fault Refusal :=
  .next (s.amoOp x fm 6 intMax d rd ra rb m)

def execAmoMinu (x : Target) (fm : Meet) (d : Bool) (rd ra rb : GReg) (m : Meet) (s : State) : Host.Outcome State Fault Refusal :=
  .next (s.amoOp x fm 7 intMinu d rd ra rb m)

def execAmoMaxu (x : Target) (fm : Meet) (d : Bool) (rd ra rb : GReg) (m : Meet) (s : State) : Host.Outcome State Fault Refusal :=
  .next (s.amoOp x fm 8 intMaxu d rd ra rb m)

/-- CAS: g[rb] is written if the old value equals g[rd] at the width; Z says whether. -/
def execAmoCas (x : Target) (fm : Meet) (d : Bool) (rd ra rb : GReg) (m : Meet) (s : State) : Host.Outcome State Fault Refusal :=
  let want (c : Ctx) : Nat := low (wid d) (c.rg rd)
  .next (s.amo x fm 9 d rd ra rb
    (fun c old => if old = want c then some (low (wid d) (c.rg rb)) else none)
    (fun old c => c.wst (putB c.st 30 (decide (old = want c)))) m)

end Sys2Proof.Machine
end

