-- ==== Sys2Proof/Machine/Verify.lean ====
section
/-!
DEFINITION. The end of a verification (08, R225, R226; 13, R376; 16, R442). -/
namespace Sys2Proof.Machine

/-- A start that gets no configuration leaves the module Active without control: it resigns (R442). -/
def State.startSettled (s : State) : State :=
  let s1 := s.setStart { s.start with starting := false }
  if s1.chgState = 6 then s1.resign 1 else s1

/-- The verification of the prepared change has passed: READY, with its results kept; a Standby tells the partner (R376), and a
start goes on to ARM (R442). -/
def State.verified (v : Verified) (s : State) : State :=
  let s1 := ((s.setChange { s.change with found := v }).recordLevels v).chgEnter 2 0
  if s1.start.starting then s1.chgArm.startSettled
  else if s1.pair.role = .standby then s1.send (.control 6 [s1.change.id.toNat])
  else s1

/-- Verification ends (R226): every check in the order of its code, the first that fails refusing the change. -/
def State.verify (s : State) : State :=
  let u := s.underShadow
  let cs := u.triadChecks
  let s0 := s.verifierEnds
  match u.verifyCode cs with
  | 0 => s0.verified (u.results cs)
  | c =>
    let s1 := s0.chgEnter 6 c
    if s1.start.starting then s1.startSettled else s1

def execVerificationDone (s : State) : Host.Outcome State Fault Refusal := .next (if s.chgState = 1 then s.verify else s)

end Sys2Proof.Machine
end

