-- ==== Sys2Proof/Machine/Dispatch.lean ====
section
/-! DEFINITION. The dispatch: one arm per command, one meaning per arm. -/
namespace Sys2Proof.Machine

/-- The effect of one command on everything but the queue. -/
def exec (i : Instr) (s : State) : Host.Outcome State Fault Refusal :=
  match i with
  | .registerWrite a v => Sys2Proof.Machine.execRegisterWrite a v s
  | .mainValidAssert pulses => Sys2Proof.Machine.execMainValidAssert pulses s
  | .mainValidDeassert pulses paMv pbMv lost => Sys2Proof.Machine.execMainValidDeassert pulses paMv pbMv lost s
  | .feedLost f => Sys2Proof.Machine.execFeedLost f s
  | .feedOvervoltage f => Sys2Proof.Machine.execFeedOvervoltage f s
  | .thermalWarning => Sys2Proof.Machine.execThermalWarning s
  | .claimReleasedByWire => Sys2Proof.Machine.execClaimReleasedByWire s
  | .presenceLoopOpen => Sys2Proof.Machine.execPresenceLoopOpen s
  | .positionSample pos peer => Sys2Proof.Machine.execPositionSample pos peer s
  | .leverSwitchOpen when => Sys2Proof.Machine.execLeverSwitchOpen when s
  | .connectorFeedDiagnostic c feedB volts => Sys2Proof.Machine.execConnectorFeedDiagnostic c feedB volts s
  | .connectorFeedLow c => Sys2Proof.Machine.execConnectorFeedLow c s
  | .groupShed g draw => Sys2Proof.Machine.execGroupShed g draw s
  | .connectorOverBudget c draw => Sys2Proof.Machine.execConnectorOverBudget c draw s
  | .referenceLost r ppm => Sys2Proof.Machine.execReferenceLost r ppm s
  | .referenceGood r ppm => Sys2Proof.Machine.execReferenceGood r ppm s
  | .bothReferencesLost => Sys2Proof.Machine.execBothReferencesLost s
  | .holdoverTimeout => Sys2Proof.Machine.execHoldoverTimeout s
  | .timeBaseFault => Sys2Proof.Machine.execTimeBaseFault s
  | .clockSelectWrite hi v => Sys2Proof.Machine.execClockSelectWrite hi v s
  | .creditReturn a b moves o => Sys2Proof.Machine.execCreditReturn a b moves o s
  | .nullCreditReturn a b o => Sys2Proof.Machine.execNullCreditReturn a b o s
  | .islandPowerLoss j => Sys2Proof.Machine.execIslandPowerLoss j s
  | .islandPowerUp j => Sys2Proof.Machine.execIslandPowerUp j s
  | .scrubWord a f => Sys2Proof.Machine.execScrubWord a f s
  | .dramRowReplace device bank row => Sys2Proof.Machine.execDramRowReplace device bank row s
  | .dramDeviceReplace device => Sys2Proof.Machine.execDramDeviceReplace device s
  | .mramBankReplace bank => Sys2Proof.Machine.execMramBankReplace bank s
  | .replacementCopyDone pool element => Sys2Proof.Machine.execReplacementCopyDone pool element s
  | .moduleResetRequest v => Sys2Proof.Machine.execModuleResetRequest v s
  | .triadResetRequest v => Sys2Proof.Machine.execTriadResetRequest v s
  | .add x fm d f rd ra rb => Sys2Proof.Machine.execAdd x fm d f rd ra rb s
  | .sub x fm d f rd ra rb => Sys2Proof.Machine.execSub x fm d f rd ra rb s
  | .and x fm d f rd ra rb => Sys2Proof.Machine.execAnd x fm d f rd ra rb s
  | .or x fm d f rd ra rb => Sys2Proof.Machine.execOr x fm d f rd ra rb s
  | .xor x fm d f rd ra rb => Sys2Proof.Machine.execXor x fm d f rd ra rb s
  | .andn x fm d f rd ra rb => Sys2Proof.Machine.execAndn x fm d f rd ra rb s
  | .sll x fm d f rd ra rb => Sys2Proof.Machine.execSll x fm d f rd ra rb s
  | .srl x fm d f rd ra rb => Sys2Proof.Machine.execSrl x fm d f rd ra rb s
  | .sra x fm d f rd ra rb => Sys2Proof.Machine.execSra x fm d f rd ra rb s
  | .ror x fm d f rd ra rb => Sys2Proof.Machine.execRor x fm d f rd ra rb s
  | .min x fm d f rd ra rb => Sys2Proof.Machine.execMin x fm d f rd ra rb s
  | .max x fm d f rd ra rb => Sys2Proof.Machine.execMax x fm d f rd ra rb s
  | .minu x fm d f rd ra rb => Sys2Proof.Machine.execMinu x fm d f rd ra rb s
  | .maxu x fm d f rd ra rb => Sys2Proof.Machine.execMaxu x fm d f rd ra rb s
  | .cmp x fm d ra rb => Sys2Proof.Machine.execCmp x fm d ra rb s
  | .mul x fm d f rd ra rb => Sys2Proof.Machine.execMul x fm d f rd ra rb s
  | .mulh x fm d f rd ra rb => Sys2Proof.Machine.execMulh x fm d f rd ra rb s
  | .mulhu x fm d f rd ra rb => Sys2Proof.Machine.execMulhu x fm d f rd ra rb s
  | .div x fm d f rd ra rb => Sys2Proof.Machine.execDiv x fm d f rd ra rb s
  | .divu x fm d f rd ra rb => Sys2Proof.Machine.execDivu x fm d f rd ra rb s
  | .rem x fm d f rd ra rb => Sys2Proof.Machine.execRem x fm d f rd ra rb s
  | .remu x fm d f rd ra rb => Sys2Proof.Machine.execRemu x fm d f rd ra rb s
  | .sel x fm k d rd ra rb => Sys2Proof.Machine.execSel x fm k d rd ra rb s
  | .set x fm k d rd ra => Sys2Proof.Machine.execSet x fm k d rd ra s
  | .clz x fm d rd ra => Sys2Proof.Machine.execClz x fm d rd ra s
  | .ctz x fm d rd ra => Sys2Proof.Machine.execCtz x fm d rd ra s
  | .popc x fm d rd ra => Sys2Proof.Machine.execPopc x fm d rd ra s
  | .sextb x fm rd ra => Sys2Proof.Machine.execSextb x fm rd ra s
  | .sexth x fm rd ra => Sys2Proof.Machine.execSexth x fm rd ra s
  | .sextw x fm rd ra => Sys2Proof.Machine.execSextw x fm rd ra s
  | .zextb x fm rd ra => Sys2Proof.Machine.execZextb x fm rd ra s
  | .zexth x fm rd ra => Sys2Proof.Machine.execZexth x fm rd ra s
  | .zextw x fm rd ra => Sys2Proof.Machine.execZextw x fm rd ra s
  | .addi x fm rd ra imm => Sys2Proof.Machine.execAddi x fm rd ra imm s
  | .addiw x fm rd ra imm => Sys2Proof.Machine.execAddiw x fm rd ra imm s
  | .andi x fm rd ra imm => Sys2Proof.Machine.execAndi x fm rd ra imm s
  | .ori x fm rd ra imm => Sys2Proof.Machine.execOri x fm rd ra imm s
  | .xori x fm rd ra imm => Sys2Proof.Machine.execXori x fm rd ra imm s
  | .lui x fm rd imm => Sys2Proof.Machine.execLui x fm rd imm s
  | .shi x fm kind d f rd ra k => Sys2Proof.Machine.execShi x fm kind d f rd ra k s
  | .cmpi x fm d ra imm => Sys2Proof.Machine.execCmpi x fm d ra imm s
  | .limmMov x fm rd imm => Sys2Proof.Machine.execLimmMov x fm rd imm s
  | .limmAdd x fm d rd ra imm => Sys2Proof.Machine.execLimmAdd x fm d rd ra imm s
  | .limmAnd x fm d rd ra imm => Sys2Proof.Machine.execLimmAnd x fm d rd ra imm s
  | .limmOr x fm d rd ra imm => Sys2Proof.Machine.execLimmOr x fm d rd ra imm s
  | .limmXor x fm d rd ra imm => Sys2Proof.Machine.execLimmXor x fm d rd ra imm s
  | .limmMovu x fm rd imm => Sys2Proof.Machine.execLimmMovu x fm rd imm s
  | .limmOrh x fm rd ra imm => Sys2Proof.Machine.execLimmOrh x fm rd ra imm s
  | .limmCmp x fm d ra imm => Sys2Proof.Machine.execLimmCmp x fm d ra imm s
  | .ld x fm rd ra size z off m => Sys2Proof.Machine.execLd x fm rd ra size z off m s
  | .st x fm rs ra size off m => Sys2Proof.Machine.execSt x fm rs ra size off m s
  | .ldx x fm rd ra rb size z sc m => Sys2Proof.Machine.execLdx x fm rd ra rb size z sc m s
  | .stx x fm rs ra rb size sc m => Sys2Proof.Machine.execStx x fm rs ra rb size sc m s
  | .fld x fm fd ra d off m => Sys2Proof.Machine.execFld x fm fd ra d off m s
  | .fst x fm fs ra d off m => Sys2Proof.Machine.execFst x fm fs ra d off m s
  | .ilsLoad x fm reg sb size z off m => Sys2Proof.Machine.execIlsLoad x fm reg sb size z off m s
  | .ilsStore x fm reg sb size off m => Sys2Proof.Machine.execIlsStore x fm reg sb size off m s
  | .ilsFload x fm reg sb d off m => Sys2Proof.Machine.execIlsFload x fm reg sb d off m s
  | .ilsFstore x fm reg sb d off m => Sys2Proof.Machine.execIlsFstore x fm reg sb d off m s
  | .bc x fm k disp => Sys2Proof.Machine.execBc x fm k disp s
  | .bl x fm disp => Sys2Proof.Machine.execBl x fm disp s
  | .jalr x fm rd ra imm => Sys2Proof.Machine.execJalr x fm rd ra imm s
  | .cb x fm ra rb k disp => Sys2Proof.Machine.execCb x fm ra rb k disp s
  | .cbz x fm ra nz disp => Sys2Proof.Machine.execCbz x fm ra nz disp s
  | .dbnz x fm ra disp => Sys2Proof.Machine.execDbnz x fm ra disp s
  | .fadd x fm d rm fd fa fb => Sys2Proof.Machine.execFadd x fm d rm fd fa fb s
  | .fsub x fm d rm fd fa fb => Sys2Proof.Machine.execFsub x fm d rm fd fa fb s
  | .fmul x fm d rm fd fa fb => Sys2Proof.Machine.execFmul x fm d rm fd fa fb s
  | .fdiv x fm d rm fd fa fb => Sys2Proof.Machine.execFdiv x fm d rm fd fa fb s
  | .fsqrt x fm d rm fd fa => Sys2Proof.Machine.execFsqrt x fm d rm fd fa s
  | .fmin x fm d fd fa fb => Sys2Proof.Machine.execFmin x fm d fd fa fb s
  | .fmax x fm d fd fa fb => Sys2Proof.Machine.execFmax x fm d fd fa fb s
  | .fabs x fm d fd fa => Sys2Proof.Machine.execFabs x fm d fd fa s
  | .fneg x fm d fd fa => Sys2Proof.Machine.execFneg x fm d fd fa s
  | .fmov x fm d fd fa => Sys2Proof.Machine.execFmov x fm d fd fa s
  | .fcmp x fm d fa fb => Sys2Proof.Machine.execFcmp x fm d fa fb s
  | .fcmps x fm d fa fb => Sys2Proof.Machine.execFcmps x fm d fa fb s
  | .fcvt x fm d rm fd fa => Sys2Proof.Machine.execFcvt x fm d rm fd fa s
  | .fmadd x fm d rm fd fa fb fc => Sys2Proof.Machine.execFmadd x fm d rm fd fa fb fc s
  | .fmsub x fm d rm fd fa fb fc => Sys2Proof.Machine.execFmsub x fm d rm fd fa fb fc s
  | .fnmadd x fm d rm fd fa fb fc => Sys2Proof.Machine.execFnmadd x fm d rm fd fa fb fc s
  | .fnmsub x fm d rm fd fa fb fc => Sys2Proof.Machine.execFnmsub x fm d rm fd fa fb fc s
  | .fcviToInt x fm rd fa rm d w u => Sys2Proof.Machine.execFcviToInt x fm rd fa rm d w u s
  | .fcviToFloat x fm fd ra rm d w u => Sys2Proof.Machine.execFcviToFloat x fm fd ra rm d w u s
  | .fmvToGeneral x fm rd fa d => Sys2Proof.Machine.execFmvToGeneral x fm rd fa d s
  | .fmvToFloat x fm fd ra d => Sys2Proof.Machine.execFmvToFloat x fm fd ra d s
  | .fli x fm fd d imm => Sys2Proof.Machine.execFli x fm fd d imm s
  | .syscall x fm code => Sys2Proof.Machine.execSyscall x fm code s
  | .break x fm code => Sys2Proof.Machine.execBreak x fm code s
  | .mfsr x fm rd sr => Sys2Proof.Machine.execMfsr x fm rd sr s
  | .mtsr x fm ra sr => Sys2Proof.Machine.execMtsr x fm ra sr s
  | .rfe x fm => Sys2Proof.Machine.execRfe x fm s
  | .wait x fm => Sys2Proof.Machine.execWait x fm s
  | .cacheCleanLine x fm ra m => Sys2Proof.Machine.execCacheCleanLine x fm ra m s
  | .cacheInvalidateLine x fm ra => Sys2Proof.Machine.execCacheInvalidateLine x fm ra s
  | .cacheCleanInvalidateLine x fm ra m => Sys2Proof.Machine.execCacheCleanInvalidateLine x fm ra m s
  | .cacheInvalidateIcache x fm ra => Sys2Proof.Machine.execCacheInvalidateIcache x fm ra s
  | .cacheCleanDcache x fm ra m => Sys2Proof.Machine.execCacheCleanDcache x fm ra m s
  | .illegalInstruction x fm w => Sys2Proof.Machine.execIllegalInstruction x fm w s
  | .fbcall x fm ra n ms => Sys2Proof.Machine.execFbcall x fm ra n ms s
  | .fbret x fm => Sys2Proof.Machine.execFbret x fm s
  | .fbchk x fm ra n ms => Sys2Proof.Machine.execFbchk x fm ra n ms s
  | .ton x fm rd rin rpt index ms => Sys2Proof.Machine.execTon x fm rd rin rpt index ms s
  | .tof x fm rd rin rpt index ms => Sys2Proof.Machine.execTof x fm rd rin rpt index ms s
  | .tp x fm rd rin rpt index ms => Sys2Proof.Machine.execTp x fm rd rin rpt index ms s
  | .tnow x fm rd => Sys2Proof.Machine.execTnow x fm rd s
  | .telap x fm rd ra => Sys2Proof.Machine.execTelap x fm rd ra s
  | .ctu x fm rd rin rpv index ms => Sys2Proof.Machine.execCtu x fm rd rin rpv index ms s
  | .ctd x fm rd rin rpv index ms => Sys2Proof.Machine.execCtd x fm rd rin rpv index ms s
  | .ctud x fm rd rin rpv index ms => Sys2Proof.Machine.execCtud x fm rd rin rpv index ms s
  | .edgeRising x fm rd rin index ms => Sys2Proof.Machine.execEdgeRising x fm rd rin index ms s
  | .edgeFalling x fm rd rin index ms => Sys2Proof.Machine.execEdgeFalling x fm rd rin index ms s
  | .edgeBoth x fm rd rin index ms => Sys2Proof.Machine.execEdgeBoth x fm rd rin index ms s
  | .bmovCopyStep x fm l rd ra rb ms => Sys2Proof.Machine.execBmovCopyStep x fm l rd ra rb ms s
  | .bmovFillStep x fm l rd ra rb m => Sys2Proof.Machine.execBmovFillStep x fm l rd ra rb m s
  | .migrOperationStep x fm rd ra rb ms => Sys2Proof.Machine.execMigrOperationStep x fm rd ra rb ms s
  | .migrHeaderStep x fm rd ra rb ms => Sys2Proof.Machine.execMigrHeaderStep x fm rd ra rb ms s
  | .migrEndStep x fm rd ra rb ms => Sys2Proof.Machine.execMigrEndStep x fm rd ra rb ms s
  | .amoSwap x fm d rd ra rb m => Sys2Proof.Machine.execAmoSwap x fm d rd ra rb m s
  | .amoAdd x fm d rd ra rb m => Sys2Proof.Machine.execAmoAdd x fm d rd ra rb m s
  | .amoAnd x fm d rd ra rb m => Sys2Proof.Machine.execAmoAnd x fm d rd ra rb m s
  | .amoOr x fm d rd ra rb m => Sys2Proof.Machine.execAmoOr x fm d rd ra rb m s
  | .amoXor x fm d rd ra rb m => Sys2Proof.Machine.execAmoXor x fm d rd ra rb m s
  | .amoMin x fm d rd ra rb m => Sys2Proof.Machine.execAmoMin x fm d rd ra rb m s
  | .amoMax x fm d rd ra rb m => Sys2Proof.Machine.execAmoMax x fm d rd ra rb m s
  | .amoMinu x fm d rd ra rb m => Sys2Proof.Machine.execAmoMinu x fm d rd ra rb m s
  | .amoMaxu x fm d rd ra rb m => Sys2Proof.Machine.execAmoMaxu x fm d rd ra rb m s
  | .amoCas x fm d rd ra rb m => Sys2Proof.Machine.execAmoCas x fm d rd ra rb m s
  | .activationEntry x => Sys2Proof.Machine.execActivationEntry x s
  | .swtrig v => Sys2Proof.Machine.execSwtrig v s
  | .sourceConfigWrite n v => Sys2Proof.Machine.execSourceConfigWrite n v s
  | .guardDisable m inFlight => Sys2Proof.Machine.execGuardDisable m inFlight s
  | .guardDrainDone m => Sys2Proof.Machine.execGuardDrainDone m s
  | .guardEnable m => Sys2Proof.Machine.execGuardEnable m s
  | .guardRegionWrite m n attr v => Sys2Proof.Machine.execGuardRegionWrite m n attr v s
  | .guardSelfTest m lane pass => Sys2Proof.Machine.execGuardSelfTest m lane pass s
  | .dmaStart c => Sys2Proof.Machine.execDmaStart c s
  | .dmaResume c => Sys2Proof.Machine.execDmaResume c s
  | .dmaAbort c => Sys2Proof.Machine.execDmaAbort c s
  | .dmaDescriptorRead c f => Sys2Proof.Machine.execDmaDescriptorRead c f s
  | .dmaBurst c read => Sys2Proof.Machine.execDmaBurst c read s
  | .dmaDescWrite c v => Sys2Proof.Machine.execDmaDescWrite c v s
  | .voterTimeout t lane icnt => Sys2Proof.Machine.execVoterTimeout t lane icnt s
  | .resyncSpareConnected t => Sys2Proof.Machine.execResyncSpareConnected t s
  | .resyncCopyDone t same => Sys2Proof.Machine.execResyncCopyDone t same s
  | .resyncRejoin t when => Sys2Proof.Machine.execResyncRejoin t when s
  | .spareWakeDone slot => Sys2Proof.Machine.execSpareWakeDone slot s
  | .triSplit t => Sys2Proof.Machine.execTriSplit t s
  | .splitEffect t => Sys2Proof.Machine.execSplitEffect t s
  | .triJoin t => Sys2Proof.Machine.execTriJoin t s
  | .joinDone t when same1 same2 => Sys2Proof.Machine.execJoinDone t when same1 same2 s
  | .triResync t lane => Sys2Proof.Machine.execTriResync t lane s
  | .triRetire t lane => Sys2Proof.Machine.execTriRetire t lane s
  | .startIndep w slot => Sys2Proof.Machine.execStartIndep w slot s
  | .stopIndep w slot => Sys2Proof.Machine.execStopIndep w slot s
  | .stopIndepEffect slot => Sys2Proof.Machine.execStopIndepEffect slot s
  | .cachePartitionWrite t dcp v => Sys2Proof.Machine.execCachePartitionWrite t dcp v s
  | .partitionFilled t dcp => Sys2Proof.Machine.execPartitionFilled t dcp s
  | .outputPhase t => Sys2Proof.Machine.execOutputPhase t s
  | .gridLatch t => Sys2Proof.Machine.execGridLatch t s
  | .lineTickFire t => Sys2Proof.Machine.execLineTickFire t s
  | .scanOverrun line t => Sys2Proof.Machine.execScanOverrun line t s
  | .forceApply node => Sys2Proof.Machine.execForceApply node s
  | .forceRelease node => Sys2Proof.Machine.execForceRelease node s
  | .forceReleaseAll node => Sys2Proof.Machine.execForceReleaseAll node s
  | .forceCmdMalformed v => Sys2Proof.Machine.execForceCmdMalformed v s
  | .forceCommandExecute t => Sys2Proof.Machine.execForceCommandExecute t s
  | .changeVerify => Sys2Proof.Machine.execChangeVerify s
  | .verificationDone => Sys2Proof.Machine.execVerificationDone s
  | .changeArm when => Sys2Proof.Machine.execChangeArm when s
  | .changeCancel => Sys2Proof.Machine.execChangeCancel s
  | .migrationStart t => Sys2Proof.Machine.execMigrationStart t s
  | .migrationDeadline => Sys2Proof.Machine.execMigrationDeadline s
  | .changeSwap => Sys2Proof.Machine.execChangeSwap s
  | .changeArmingReceived id ts => Sys2Proof.Machine.execChangeArmingReceived id ts s
  | .sliceReady g j raw => Sys2Proof.Machine.execSliceReady g j raw s
  | .sliceConfigWrite g j off v => Sys2Proof.Machine.execSliceConfigWrite g j off v s
  | .sliceConfigConfirm g j => Sys2Proof.Machine.execSliceConfigConfirm g j s
  | .debounceAccept g j => Sys2Proof.Machine.execDebounceAccept g j s
  | .lineBandMeasure g j ohms when => Sys2Proof.Machine.execLineBandMeasure g j ohms when s
  | .lineBandReport g j when => Sys2Proof.Machine.execLineBandReport g j when s
  | .overloadTrip g j when => Sys2Proof.Machine.execOverloadTrip g j when s
  | .thermalShutdown g j when => Sys2Proof.Machine.execThermalShutdown g j when s
  | .retryAttempt g j tick => Sys2Proof.Machine.execRetryAttempt g j tick s
  | .retryRearm g j => Sys2Proof.Machine.execRetryRearm g j s
  | .directCommand g j ao v => Sys2Proof.Machine.execDirectCommand g j ao v s
  | .faultDetect g j b when => Sys2Proof.Machine.execFaultDetect g j b when s
  | .faultClear g j b when => Sys2Proof.Machine.execFaultClear g j b when s
  | .backfeed g j => Sys2Proof.Machine.execBackfeed g j s
  | .stim g j => Sys2Proof.Machine.execStim g j s
  | .stimulusEnd g j pass => Sys2Proof.Machine.execStimulusEnd g j pass s
  | .sliceFailure g j => Sys2Proof.Machine.execSliceFailure g j s
  | .substitutionComplete g => Sys2Proof.Machine.execSubstitutionComplete g s
  | .subst g j => Sys2Proof.Machine.execSubst g j s
  | .substitutionOverlapEnd g => Sys2Proof.Machine.execSubstitutionOverlapEnd g s
  | .sreset g j => Sys2Proof.Machine.execSreset g j s
  | .spareSliceTest g phase => Sys2Proof.Machine.execSpareSliceTest g phase s
  | .evtInfoRead g => Sys2Proof.Machine.execEvtInfoRead g s
  | .edgeLoRead g j => Sys2Proof.Machine.execEdgeLoRead g j s
  | .conversionDone g j value => Sys2Proof.Machine.execConversionDone g j value s
  | .referenceMonitorFailure g j => Sys2Proof.Machine.execReferenceMonitorFailure g j s
  | .gridRunStart g j when => Sys2Proof.Machine.execGridRunStart g j when s
  | .faultRunStart g j => Sys2Proof.Machine.execFaultRunStart g j s
  | .injSw g j => Sys2Proof.Machine.execInjSw g j s
  | .rePhase g => Sys2Proof.Machine.execRePhase g s
  | .analogStimulus g j raw => Sys2Proof.Machine.execAnalogStimulus g j raw s
  | .complySet g j measured => Sys2Proof.Machine.execComplySet g j measured s
  | .devSet g j => Sys2Proof.Machine.execDevSet g j s
  | .aoTrimApply g j => Sys2Proof.Machine.execAoTrimApply g j s
  | .aoTrimClear g j => Sys2Proof.Machine.execAoTrimClear g j s
  | .counterEdge g j stamp rising n => Sys2Proof.Machine.execCounterEdge g j stamp rising n s
  | .hartStart g m => Sys2Proof.Machine.execHartStart g m s
  | .hartAbort g m => Sys2Proof.Machine.execHartAbort g m s
  | .hartDone g m err bytes retried burst => Sys2Proof.Machine.execHartDone g m err bytes retried burst s
  | .portOn k => Sys2Proof.Machine.execPortOn k s
  | .portOff k => Sys2Proof.Machine.execPortOff k s
  | .integrationDone k => Sys2Proof.Machine.execIntegrationDone k s
  | .canFrameReceived k id form data stamp => Sys2Proof.Machine.execCanFrameReceived k id form data stamp s
  | .canFrameTransmitted k result delay stamp => Sys2Proof.Machine.execCanFrameTransmitted k result delay stamp s
  | .recover k => Sys2Proof.Machine.execRecover k s
  | .recoveryDone k => Sys2Proof.Machine.execRecoveryDone k s
  | .dominantTimeout k => Sys2Proof.Machine.execDominantTimeout k s
  | .referenceRelease k t => Sys2Proof.Machine.execReferenceRelease k t s
  | .stationLost n t => Sys2Proof.Machine.execStationLost n t s
  | .stationReturn n t => Sys2Proof.Machine.execStationReturn n t s
  | .frameDeadlineWithdraw k when => Sys2Proof.Machine.execFrameDeadlineWithdraw k when s
  | .acyclicStart k => Sys2Proof.Machine.execAcyclicStart k s
  | .acyclicAbort k => Sys2Proof.Machine.execAcyclicAbort k s
  | .acyclicResponse k data => Sys2Proof.Machine.execAcyclicResponse k data s
  | .acyclicTimeout k when => Sys2Proof.Machine.execAcyclicTimeout k when s
  | .queueEmptyReport k => Sys2Proof.Machine.execQueueEmptyReport k s
  | .refLoRead k => Sys2Proof.Machine.execRefLoRead k s
  | .announceSend => Sys2Proof.Machine.execAnnounceSend s
  | .announceReceived node serial => Sys2Proof.Machine.execAnnounceReceived node serial s
  | .rinfaFrameReceived p fcs frame when => Sys2Proof.Machine.execRinfaFrameReceived p fcs frame when s
  | .ringOpen when => Sys2Proof.Machine.execRingOpen when s
  | .portLinkChange p up media => Sys2Proof.Machine.execPortLinkChange p up media s
  | .syncReceived p udp domain m when => Sys2Proof.Machine.execSyncReceived p udp domain m when s
  | .syncTimeout => Sys2Proof.Machine.execSyncTimeout s
  | .incWrite v => Sys2Proof.Machine.execIncWrite v s
  | .nsWrap => Sys2Proof.Machine.execNsWrap s
  | .epochAdv => Sys2Proof.Machine.execEpochAdv s
  | .epochLate => Sys2Proof.Machine.execEpochLate s
  | .timeSet => Sys2Proof.Machine.execTimeSet s
  | .timeStep => Sys2Proof.Machine.execTimeStep s
  | .stepApply when => Sys2Proof.Machine.execStepApply when s
  | .stepCancel => Sys2Proof.Machine.execStepCancel s
  | .nsRead => Sys2Proof.Machine.execNsRead s
  | .nowLoRead => Sys2Proof.Machine.execNowLoRead s
  | .alarmArm a v => Sys2Proof.Machine.execAlarmArm a v s
  | .alarmFire a when => Sys2Proof.Machine.execAlarmFire a when s
  | .soeCollect src => Sys2Proof.Machine.execSoeCollect src s
  | .netFrameWrite v => Sys2Proof.Machine.execNetFrameWrite v s
  | .laneLockLost lane => Sys2Proof.Machine.execLaneLockLost lane s
  | .linkLost => Sys2Proof.Machine.execLinkLost s
  | .linkUp lanes => Sys2Proof.Machine.execLinkUp lanes s
  | .frameAckTimeout seq when => Sys2Proof.Machine.execFrameAckTimeout seq when s
  | .laneRetrain lane ok => Sys2Proof.Machine.execLaneRetrain lane ok s
  | .heartbeatSend when => Sys2Proof.Machine.execHeartbeatSend when s
  | .heartbeatReceived role claim ready recovering trial fmt acc merit serial ofs when => Sys2Proof.Machine.execHeartbeatReceived role claim ready recovering trial fmt acc merit serial ofs when s
  | .partnerSilent => Sys2Proof.Machine.execPartnerSilent s
  | .releaseOrderReceived => Sys2Proof.Machine.execReleaseOrderReceived s
  | .releaseFail => Sys2Proof.Machine.execReleaseFail s
  | .epochSeal b => Sys2Proof.Machine.execEpochSeal b s
  | .sealRecordReceived epoch ends lines check force swap final change => Sys2Proof.Machine.execSealRecordReceived epoch ends lines check force swap final change s
  | .commitAckReceived epoch when => Sys2Proof.Machine.execCommitAckReceived epoch when s
  | .shadowRecordReceived t commands => Sys2Proof.Machine.execShadowRecordReceived t commands s
  | .shadowLate t => Sys2Proof.Machine.execShadowLate t s
  | .colReleaseSeen levels when => Sys2Proof.Machine.execColReleaseSeen levels when s
  | .claimConflict => Sys2Proof.Machine.execClaimConflict s
  | .resign fault => Sys2Proof.Machine.execResign fault s
  | .takeoverRunning when => Sys2Proof.Machine.execTakeoverRunning when s
  | .yield when => Sys2Proof.Machine.execYield when s
  | .yieldCancel => Sys2Proof.Machine.execYieldCancel s
  | .yieldHold => Sys2Proof.Machine.execYieldHold s
  | .yieldAbandon when => Sys2Proof.Machine.execYieldAbandon when s
  | .yieldHandover levels => Sys2Proof.Machine.execYieldHandover levels s
  | .yieldOverlapEnd when => Sys2Proof.Machine.execYieldOverlapEnd when s
  | .fullCopyStart b => Sys2Proof.Machine.execFullCopyStart b s
  | .configMessageReceived m => Sys2Proof.Machine.execConfigMessageReceived m s
  | .plWrite j w => Sys2Proof.Machine.execPlWrite j w s
  | .levelChangeDone j => Sys2Proof.Machine.execLevelChangeDone j s
  | .sleepPrepareDone j block cause => Sys2Proof.Machine.execSleepPrepareDone j block cause s
  | .sleepCommitDone j block cause => Sys2Proof.Machine.execSleepCommitDone j block cause s
  | .wakeSource j src => Sys2Proof.Machine.execWakeSource j src s
  | .wakeDone j => Sys2Proof.Machine.execWakeDone j s
  | .brownoutArbitration mainFirst => Sys2Proof.Machine.execBrownoutArbitration mainFirst s
  | .breset => Sys2Proof.Machine.execBreset s
  | .rtcSet => Sys2Proof.Machine.execRtcSet s
  | .store => Sys2Proof.Machine.execStore s
  | .unstore => Sys2Proof.Machine.execUnstore s
  | .rtcWindow meas when => Sys2Proof.Machine.execRtcWindow meas when s
  | .counterSave pulses => Sys2Proof.Machine.execCounterSave pulses s
  | .pullupLost => Sys2Proof.Machine.execPullupLost s
  | .pullupReturn => Sys2Proof.Machine.execPullupReturn s
  | .restartDelayExpire => Sys2Proof.Machine.execRestartDelayExpire s
  | .cellLow hours mv failed => Sys2Proof.Machine.execCellLow hours mv failed s
  | .rtcSubRead pulses => Sys2Proof.Machine.execRtcSubRead pulses s
  | .opsecLoRead pulses => Sys2Proof.Machine.execOpsecLoRead pulses s
  | .quote => Sys2Proof.Machine.execQuote s
  | .chunk => Sys2Proof.Machine.execChunk s
  | .finish => Sys2Proof.Machine.execFinish s
  | .install => Sys2Proof.Machine.execInstall s
  | .discard => Sys2Proof.Machine.execDiscard s
  | .relay => Sys2Proof.Machine.execRelay s
  | .token => Sys2Proof.Machine.execToken s
  | .extend => Sys2Proof.Machine.execExtend s
  | .cert => Sys2Proof.Machine.execCert s
  | .seal when => Sys2Proof.Machine.execSeal when s
  | .truCmdInvalid op => Sys2Proof.Machine.execTruCmdInvalid op s
  | .trustOperationDone err => Sys2Proof.Machine.execTrustOperationDone err s
  | .relayRequestReceived via kind serial node bad => Sys2Proof.Machine.execRelayRequestReceived via kind serial node bad s
  | .relayChunkReceived via node reply => Sys2Proof.Machine.execRelayChunkReceived via node reply s
  | .healthConfirm v => Sys2Proof.Machine.execHealthConfirm v s
  | .trialWindowExpire => Sys2Proof.Machine.execTrialWindowExpire s
  | .chalLoRead => Sys2Proof.Machine.execChalLoRead s
  | .tuyereInstruction code => Sys2Proof.Machine.execTuyereInstruction code s
  | .tuyereMemoryAccess a data => Sys2Proof.Machine.execTuyereMemoryAccess a data s
  | .selfTestsDone findings cores copies => Sys2Proof.Machine.execSelfTestsDone findings cores copies s
  | .keeperStart bad => Sys2Proof.Machine.execKeeperStart bad s
  | .systemImageStart bad => Sys2Proof.Machine.execSystemImageStart bad s
  | .recoveryRetry => Sys2Proof.Machine.execRecoveryRetry s
  | .timeEstablish ptp => Sys2Proof.Machine.execTimeEstablish ptp s
  | .listeningEnd peerRun peerChange => Sys2Proof.Machine.execListeningEnd peerRun peerChange s
  | .roleDecision peerRun peerChange => Sys2Proof.Machine.execRoleDecision peerRun peerChange s
  | .startWaitExpire => Sys2Proof.Machine.execStartWaitExpire s
  | .claimProbeEnd seen loopFault image crit desc levels => Sys2Proof.Machine.execClaimProbeEnd seen loopFault image crit desc levels s
  | .probeBackoffExpire peerRun peerChange => Sys2Proof.Machine.execProbeBackoffExpire peerRun peerChange s
  | .startRequest p => Sys2Proof.Machine.execStartRequest p s
  | .retainCopy lines starts ends => Sys2Proof.Machine.execRetainCopy lines starts ends s
  | .recordWrite => Sys2Proof.Machine.execRecordWrite s
  | .dropRecord => Sys2Proof.Machine.execDropRecord s
  | .placeholderFill => Sys2Proof.Machine.execPlaceholderFill s
  | .swWrite => Sys2Proof.Machine.execSwWrite s
  | .cursorLoad c v => Sys2Proof.Machine.execCursorLoad c v s
  | .find c byOpsec => Sys2Proof.Machine.execFind c byOpsec s
  | .windowWord15Read c => Sys2Proof.Machine.execWindowWord15Read c s
  | .nextLoRead low => Sys2Proof.Machine.execNextLoRead low s
  | .proofTestRun test elem phase => Sys2Proof.Machine.execProofTestRun test elem phase s
  | .ptEnClear v => Sys2Proof.Machine.execPtEnClear v s
  | .phaseCurrentFault phase => Sys2Proof.Machine.execPhaseCurrentFault phase s
  | .ledgerRebuild lostA lostB => Sys2Proof.Machine.execLedgerRebuild lostA lostB s
  | .sparesForecast => Sys2Proof.Machine.execSparesForecast s
  | .tickLoRead => Sys2Proof.Machine.execTickLoRead s
  | .sealedLoRead commit => Sys2Proof.Machine.execSealedLoRead commit s
  | .ytsLoRead => Sys2Proof.Machine.execYtsLoRead s
  | .digitalInputEdge g j stamp raw => Sys2Proof.Machine.execDigitalInputEdge g j stamp raw s
  | .leverSwitchClose => Sys2Proof.Machine.execLeverSwitchClose s
  | .epochHoldBegin b => Sys2Proof.Machine.execEpochHoldBegin b s
  | .copyPassDone epoch kib => Sys2Proof.Machine.execCopyPassDone epoch kib s
  | .lineRecordReceived line epochLow data => Sys2Proof.Machine.execLineRecordReceived line epochLow data s
  | .copyDataReceived items kib => Sys2Proof.Machine.execCopyDataReceived items kib s
  | .yieldMessageReceived ty ts => Sys2Proof.Machine.execYieldMessageReceived ty ts s
  | .canErrorDetected k big => Sys2Proof.Machine.execCanErrorDetected k big s
  | .logicFeedReturn f => Sys2Proof.Machine.execLogicFeedReturn f s
  | .fieldFeedReturn c what volts => Sys2Proof.Machine.execFieldFeedReturn c what volts s
  | .storeReleaseDone => Sys2Proof.Machine.execStoreReleaseDone s
  | .cellExhausted => Sys2Proof.Machine.execCellExhausted s
  | .backupLockoutEnd => Sys2Proof.Machine.execBackupLockoutEnd s
  | .floorFuseBlown j => Sys2Proof.Machine.execFloorFuseBlown j s
  | .dramZeroDone => Sys2Proof.Machine.execDramZeroDone s
  | .starterTimeout => Sys2Proof.Machine.execStarterTimeout s
  | .ptpWaitExpire => Sys2Proof.Machine.execPtpWaitExpire s
  | .sleepPrepareTimeout j block => Sys2Proof.Machine.execSleepPrepareTimeout j block s
  | .resyncHoldoffEnd t => Sys2Proof.Machine.execResyncHoldoffEnd t s
  | .levelChangeHoldoffEnd j => Sys2Proof.Machine.execLevelChangeHoldoffEnd j s
  | .tuyereTestReset => Sys2Proof.Machine.execTuyereTestReset s
  | .tuyereDebugAccess c op => Sys2Proof.Machine.execTuyereDebugAccess c op s
  | .ptpGeneralMessageReceived p udp domain m => Sys2Proof.Machine.execPtpGeneralMessageReceived p udp domain m s
  | .ptpIntervalTimer p t when => Sys2Proof.Machine.execPtpIntervalTimer p t when s

end Sys2Proof.Machine
end

