-- ==== Sys2Proof/WellFormed.lean ====
section
/-!
DEFINITION. Which commands are well formed: what the types of the operands leave open. The meanings do not rest on it;
a command that is not well formed is no command that the module can be given.
-/
namespace Sys2Proof

/-- The keys of a list differ. -/
def distinct (l : List Nat) : Bool := l.eraseDups.length == l.length

/-- Bytes that a memory copy brings lie inside the address space. -/
def fits32 (a : W32) (n : Nat) : Bool := decide (a.toNat + n ≤ 2 ^ 32)

/-- The results of a verification name sources (at most 256) and triads. -/
def Verified.wf (v : Verified) : Bool :=
  distinct (v.resp.map Prod.fst) && v.resp.all (fun e => e.1 < 256) &&
    (v.window ++ v.need ++ v.minlvl).all (fun e => e.1 < 4)

/-- One item of a full copy: a line has its 64 bytes, a register lies on a word. -/
def CopyItem.wf : CopyItem → Bool
  | .critical _ => true
  | .line _ d => d.length == 64
  | .mem a d => fits32 a d.length
  | .reg a _ => a.toNat % 4 == 0
  | .banks _ _ => true
  | .change _ v => v.wf

/-- A configuration message (R378): registers lie on words. -/
def ConfigMsg.wf : ConfigMsg → Bool
  | .reg a _ => a.toNat % 4 == 0
  | .mem a d => fits32 a d.length
  | .changeReady _ => true

/-- A command is well formed: the addresses of register accesses lie on words, messages and frames have the lengths that
their rules give, and lists of channels name each one once. -/
def Instr.wf : Instr → Bool
  | .registerWrite a _ => a.toNat % 4 == 0
  | .tuyereMemoryAccess a _ => a.toNat % 4 == 0
  | .scrubWord a _ => a.toNat % 8 == 0
  | .hartDone _ _ err bytes _ _ => bytes.length ≤ 255 && (err == 0 || bytes.isEmpty)
  | .canFrameReceived _ _ _ data _ => data.length ≤ 64
  | .acyclicResponse _ data => data.length ≤ 64
  | .rinfaFrameReceived _ _ frame _ => frame.length ≤ 1506
  | .configMessageReceived m => m.wf
  | .relayChunkReceived _ _ (.fragment _ _ _ data) => data.length ≤ 1024
  | .shadowRecordReceived _ cs => distinct (cs.map fun c => c.1.val)
  | .lineRecordReceived _ _ data => data.length == 64
  | .copyDataReceived items _ => items.all CopyItem.wf
  | .claimProbeEnd _ _ image crit _ _ => (image.all fun e => fits32 e.1 e.2.length) && distinct (crit.map fun c => c.val)
  | .retainCopy lines _ _ => lines.length ≤ 16384
  | _ => true

end Sys2Proof
end

