-- ==== Sys2Proof/Safety.lean ====
section
/-! DEFINITION. The terms in which claims are stated: a target about to execute, the state after an instruction, results and
flags. -/
namespace Sys2Proof.Machine

/-- A target executes its next instruction, of one word or of two, and the words are fetched, their fetch meeting `fm`: `s1`
is the state then, `k` the cycles that the fetch adds. The instruction does not lie just before the activation-end address,
where no memory is. -/
structure Ready (x : Nat) (fm : Meet) (long : Bool) (s s1 : State) (k : Nat) : Prop where
  runs : s.canRun x = true
  fetched : s.fetch x long fm = .done s1 k
  inside : (s.ctx x).pc + (if long then 8 else 4) ≠ 0x00FFFFFC#32

/-- The state after an instruction of a target that leaves its context as `c` and took `n` cycles: these and the instruction
are counted (R79), and where ICNT reaches a multiple of 4,096 the state signatures of the lanes are voted (R189), which changes
nothing unless a lane of the target's triad has diverged. -/
def State.after (x n : Nat) (c : Ctx) (s : State) : State :=
  ((s.setCtx x c).setCtx x { c with cyc := c.cyc + BitVec.ofNat 64 n, icnt := c.icnt + 1, steps := c.steps - 1 }).stateVote x

/-- An operation on all 64 bits with D = 1, and with D = 0 on bits 31:0, its result sign-extended (R96). -/
def atWidth (d : Bool) (f : (w : Nat) → BitVec w → BitVec w → BitVec w) (a b : W64) : W64 :=
  if d then f 64 a b else (f 32 (a.setWidth 32) (b.setWidth 32)).signExtend 64

/-- A property of two operands at the width that D selects. -/
def flagAt (d : Bool) (f : (w : Nat) → BitVec w → BitVec w → Bool) (a b : W64) : Bool :=
  if d then f 64 a b else f 32 (a.setWidth 32) (b.setWidth 32)

/-- A result in rd and, with F = 1, the flags: N its sign, Z whether it is zero, and the C and V given (R97). -/
def Ctx.result (f : Bool) (rd : GReg) (v : W64) (carry overflow : Bool) (c : Ctx) : Ctx :=
  let c1 := c.wg rd v
  if f then c1.wst (putNzcv v.msb (v == 0) carry overflow c.st) else c1

/-- The state after an instruction that may have jumped: at the activation-end address the activation ends (R157). -/
def State.ended (x n : Nat) (c : Ctx) (s : State) : State :=
  if c.pc = 0x00FFFFFC#32 then (s.after x n c).actEnd x else s.after x n c

/-- No lane of the triad that a target stands for has diverged (R189): a vote on its signatures finds them equal. -/
abbrev State.agrees (s : State) (x : Nat) : Prop := 4 ≤ x ∨ (s.triad x).upset = 0

/-- A ready target's instruction raises an exception (R161, R162): `k` cycles of fetch are added to its cost. -/
def State.traps (x : Nat) (t : Trap) (k : Nat) (w : W32) (s1 : State) : State := s1.takeTrap x { t with cost := t.cost + k } w

/-- A memory access that an instruction names: its first word, its effective address and its size in bytes (R104, R105). -/
structure Access where
  word : W32
  addr : W32
  size : Nat

/-- The access of a load of chapter 04, with what it makes of the bytes; none for any other command and for a form that
no word has. -/
def loadForm (c : Ctx) : Instr → Option (Access × (List W8 → Ctx → Ctx))
  | .ld _ _ rd ra size z off _ =>
    if size = 3 ∧ z = true then none
    else some ({ word := wordM 0x10 rd.val ra size z off, size := 2 ^ size.val,
                 addr := (c.rg ra + (off.signExtend 64 <<< size.val)).setWidth 32 }, fun d c => c.wg rd (extend z (2 ^ size.val) d))
  | .ldx _ _ rd ra rb size z sc _ =>
    if size = 3 ∧ z = true then none
    else some ({ word := wordX 0x12 rd ra rb size z sc, size := 2 ^ size.val,
                 addr := (c.rg ra + if sc then c.rg rb <<< size.val else c.rg rb).setWidth 32 },
               fun d c => c.wg rd (extend z (2 ^ size.val) d))
  | .fld _ _ fd ra d off _ =>
    some ({ word := wordFM 0x14 fd ra d off, size := if d then 8 else 4,
            addr := (c.rg ra + (off.signExtend 64 <<< if d then 3 else 2)).setWidth 32 }, fun b c => c.wfd d fd (ofBytes b))
  | .ilsLoad _ _ reg sb size z off _ =>
    some ({ word := wordILS reg.val 0 sb size.val z off, size := 2 ^ size.val,
            addr := (if sb then c.sb else c.ib) + (off.setWidth 32 <<< size.val) },
          fun d c => c.wg reg (extend z (2 ^ size.val) d))
  | .ilsFload _ _ reg sb d off _ =>
    some ({ word := wordILS reg.val 2 sb (if d then 3 else 2) false off, size := if d then 8 else 4,
            addr := (if sb then c.sb else c.ib) + (off.setWidth 32 <<< if d then 3 else 2) },
          fun b c => c.wfd d reg (ofBytes b))
  | _ => none

/-- The access of a store of chapter 04 with the bytes it stores. -/
def storeForm (c : Ctx) : Instr → Option (Access × List W8)
  | .st _ _ rs ra size off _ =>
    some ({ word := wordM 0x11 rs.val ra size false off, size := 2 ^ size.val,
            addr := (c.rg ra + (off.signExtend 64 <<< size.val)).setWidth 32 }, toBytes (2 ^ size.val) (c.rg rs).toNat)
  | .stx _ _ rs ra rb size sc _ =>
    some ({ word := wordX 0x13 rs ra rb size false sc, size := 2 ^ size.val,
            addr := (c.rg ra + if sc then c.rg rb <<< size.val else c.rg rb).setWidth 32 },
          toBytes (2 ^ size.val) (c.rg rs).toNat)
  | .fst _ _ fs ra d off _ =>
    some ({ word := wordFM 0x15 fs ra d off, size := if d then 8 else 4,
            addr := (c.rg ra + (off.signExtend 64 <<< if d then 3 else 2)).setWidth 32 },
          toBytes (if d then 8 else 4) (c.rf fs).toNat)
  | .ilsStore _ _ reg sb size off _ =>
    some ({ word := wordILS reg.val 1 sb size.val false off, size := 2 ^ size.val,
            addr := (if sb then c.sb else c.ib) + (off.setWidth 32 <<< size.val) },
          toBytes (2 ^ size.val) (c.rg reg).toNat)
  | .ilsFstore _ _ reg sb d off _ =>
    some ({ word := wordILS reg.val 3 sb (if d then 3 else 2) false off, size := if d then 8 else 4,
            addr := (if sb then c.sb else c.ib) + (off.setWidth 32 <<< if d then 3 else 2) },
          toBytes (if d then 8 else 4) (c.rf reg).toNat)
  | _ => none

/-- The target that executes an instruction, for the loads and stores. -/
def accessTarget : Instr → Option Target
  | .ld x _ _ _ _ _ _ _ | .ldx x _ _ _ _ _ _ _ _ | .fld x _ _ _ _ _ _ | .ilsLoad x _ _ _ _ _ _ _ | .ilsFload x _ _ _ _ _ _ => some x
  | .st x _ _ _ _ _ _ | .stx x _ _ _ _ _ _ _ | .fst x _ _ _ _ _ _ | .ilsStore x _ _ _ _ _ _ | .ilsFstore x _ _ _ _ _ _ => some x
  | _ => none

/-- What the fetch of a load or a store meets. -/
def fetchOf : Instr → Meet
  | .ld _ fm _ _ _ _ _ _ | .ldx _ fm _ _ _ _ _ _ _ | .fld _ fm _ _ _ _ _ | .ilsLoad _ fm _ _ _ _ _ _
  | .ilsFload _ fm _ _ _ _ _ => fm
  | .st _ fm _ _ _ _ _ | .stx _ fm _ _ _ _ _ _ | .fst _ fm _ _ _ _ _ | .ilsStore _ fm _ _ _ _ _
  | .ilsFstore _ fm _ _ _ _ _ => fm
  | _ => {}

/-- What the access of a load or a store meets: how its copies compare, what it reads, how late it is answered. -/
def meetOf : Instr → Meet
  | .ld _ _ _ _ _ _ _ m | .ldx _ _ _ _ _ _ _ _ m | .fld _ _ _ _ _ _ m | .ilsLoad _ _ _ _ _ _ _ m | .ilsFload _ _ _ _ _ _ m => m
  | .st _ _ _ _ _ _ m | .stx _ _ _ _ _ _ _ m | .fst _ _ _ _ _ _ m | .ilsStore _ _ _ _ _ _ m | .ilsFstore _ _ _ _ _ _ m => m
  | _ => {}

/-- The GUARD_FAULT that a refused access of a kind raises (R166, R172). -/
def refusedTrap (kind : Nat) (r : Refused) : Trap :=
  { vector := 5, cause := kind + 8 * b2n r.straddle + 256 * r.region, eaddr := some r.addr }

/-- The guards let a target access n bytes (R166, R172). -/
abbrev State.opens (s : State) (x a n kind : Nat) : Prop := s.guardCheck (s.targetMaster x) (s.ctx x).priv a n kind = none

/-- The copies of an access of a target are compared, which leaves `t`, and the access is made (R188, R191). -/
def State.passes (s : State) (x a : Nat) (m : Meet) (t : State) : Prop := s.meeting (s.compared x a) x a m = t ∧ t.ceased x = false

/-- The copies of an access are compared, which leaves `t`, and the access is not made: its target has stopped (R188, R191). -/
def State.stops (s : State) (x a : Nat) (m : Meet) (t : State) : Prop := s.meeting (s.compared x a) x a m = t ∧ t.ceased x = true

/-- A line access of a target that loads is answered with `d` in `cost` cycles, and leaves `t`, in which the target goes on (R75,
R93, R117). -/
def State.answers (s : State) (x a n : Nat) (m : Meet) (t : State) (cost : Nat) (d : List W8) : Prop :=
  s.coreRead x a n true m = { s := t, cost := cost, data := some d } ∧ t.ceased x = false

/-- A line access of a target that stores is done in `cost` cycles, and leaves `t` (R93, R117). -/
def State.stores (s : State) (x a : Nat) (d : List W8) (m : Meet) (t : State) (cost : Nat) : Prop :=
  s.coreWrite x a d true m = { s := t, cost := cost, data := some [] }

/-- The enabled migration guard of the triad that a target belongs to lets MIGR access n bytes (R138, R175). -/
def State.migOpens (s : State) (x a n kind : Nat) : Prop :=
  ∃ t, s.ownTriad x = some t ∧ s.guardOn (24 + t) = true ∧ s.guardCheck (24 + t) false a n kind = none

/-- The registers that a command leaves: all but those listed and, since a source that it fires may be missed, `TIC.MISSED`. -/
def State.keepsRegs (s t : State) (l : List Nat) : Prop :=
  ∀ a, a ∉ l → a < 0x10061020 ∨ 0x10061040 ≤ a → t.rd a = s.rd a

/-- A source that fires is pending afterwards, or its firing is missed, or it is not enabled (R154). -/
def State.fired (s t : State) (n : Nat) : Prop :=
  s.srcEn n = true → s.wouldMiss n = false → t.isPending n = true

/-- The last thing that has gone out in `t` is a frame on the link, which `s` sent with its next number on a lane in block lock
(R353, R354); nothing need have gone out where the link does not carry the frame's class, or no lane is in lock. -/
def State.linked (s t : State) (f : LinkFrame) : Prop :=
  s.anvil.carries f.cls = true → s.anvil.lanes ≠ [] →
    ∃ lane ∈ s.anvil.lanes, t.sent.head? = some (.link lane s.anvil.txSeq (Config.linkCrc s.anvil.txSeq) f)

/-- The commands that may write memory. -/
def writesMemory : Instr → Bool
  | .registerWrite .. | .mainValidAssert .. | .mainValidDeassert .. | .islandPowerLoss .. | .moduleResetRequest ..
  | .triadResetRequest .. | .add .. | .sub .. | .and .. | .or .. | .xor .. | .andn .. | .sll .. | .srl .. | .sra ..
  | .ror .. | .min .. | .max .. | .minu .. | .maxu .. | .cmp .. | .mul .. | .mulh .. | .mulhu .. | .div .. | .divu ..
  | .rem .. | .remu .. | .sel .. | .set .. | .clz .. | .ctz .. | .popc .. | .sextb .. | .sexth .. | .sextw ..
  | .zextb .. | .zexth .. | .zextw .. | .addi .. | .addiw .. | .andi .. | .ori .. | .xori .. | .lui .. | .shi ..
  | .cmpi .. | .limmMov .. | .limmAdd .. | .limmAnd .. | .limmOr .. | .limmXor .. | .limmMovu .. | .limmOrh ..
  | .limmCmp .. | .ld .. | .st .. | .ldx .. | .stx .. | .fld .. | .fst .. | .ilsLoad .. | .ilsStore .. | .ilsFload ..
  | .ilsFstore .. | .bc .. | .bl .. | .jalr .. | .cb .. | .cbz .. | .dbnz .. | .fadd .. | .fsub .. | .fmul ..
  | .fdiv .. | .fsqrt .. | .fmin .. | .fmax .. | .fabs .. | .fneg .. | .fmov .. | .fcmp .. | .fcmps .. | .fcvt ..
  | .fmadd .. | .fmsub .. | .fnmadd .. | .fnmsub .. | .fcviToInt .. | .fcviToFloat .. | .fmvToGeneral ..
  | .fmvToFloat .. | .fli .. | .syscall .. | .break .. | .mfsr .. | .mtsr .. | .rfe .. | .wait ..
  | .cacheCleanLine .. | .cacheInvalidateLine .. | .cacheCleanInvalidateLine .. | .cacheInvalidateIcache ..
  | .cacheCleanDcache .. | .illegalInstruction .. | .fbcall .. | .fbret .. | .fbchk .. | .ton .. | .tof .. | .tp ..
  | .tnow .. | .telap .. | .ctu .. | .ctd .. | .ctud .. | .edgeRising .. | .edgeFalling .. | .edgeBoth ..
  | .bmovCopyStep .. | .bmovFillStep .. | .migrOperationStep .. | .migrHeaderStep .. | .migrEndStep .. | .amoSwap ..
  | .amoAdd .. | .amoAnd .. | .amoOr .. | .amoXor .. | .amoMin .. | .amoMax .. | .amoMinu .. | .amoMaxu ..
  | .amoCas .. | .activationEntry .. | .guardEnable .. | .guardSelfTest .. | .dmaAbort .. | .dmaBurst ..
  | .spareWakeDone .. | .splitEffect .. | .joinDone .. | .startIndep .. | .partitionFilled .. | .outputPhase ..
  | .gridLatch .. | .forceCommandExecute .. | .changeVerify .. | .stationLost .. | .stationReturn .. | .soeCollect ..
  | .sealRecordReceived .. | .takeoverRunning .. | .yieldHandover .. | .yieldOverlapEnd ..
  | .configMessageReceived .. | .sleepPrepareDone .. | .sleepCommitDone .. | .wakeDone .. | .trustOperationDone ..
  | .relayChunkReceived .. | .trialWindowExpire .. | .tuyereMemoryAccess .. | .selfTestsDone .. | .keeperStart ..
  | .systemImageStart .. | .recoveryRetry .. | .claimProbeEnd .. | .copyDataReceived .. | .sleepPrepareTimeout ..
  | .resyncHoldoffEnd .. => true
  | _ => false

/-- The commands that may change the context of some target: its registers, stacks, latches, saved contexts and data cache. -/
def changesContexts : Instr → Bool
  | .registerWrite .. | .mainValidAssert .. | .mainValidDeassert .. | .creditReturn .. | .nullCreditReturn ..
  | .islandPowerLoss .. | .scrubWord .. | .moduleResetRequest .. | .triadResetRequest .. | .add .. | .sub ..
  | .and .. | .or .. | .xor .. | .andn .. | .sll .. | .srl .. | .sra .. | .ror .. | .min .. | .max .. | .minu ..
  | .maxu .. | .cmp .. | .mul .. | .mulh .. | .mulhu .. | .div .. | .divu .. | .rem .. | .remu .. | .sel .. | .set ..
  | .clz .. | .ctz .. | .popc .. | .sextb .. | .sexth .. | .sextw .. | .zextb .. | .zexth .. | .zextw .. | .addi ..
  | .addiw .. | .andi .. | .ori .. | .xori .. | .lui .. | .shi .. | .cmpi .. | .limmMov .. | .limmAdd ..
  | .limmAnd .. | .limmOr .. | .limmXor .. | .limmMovu .. | .limmOrh .. | .limmCmp .. | .ld .. | .st .. | .ldx ..
  | .stx .. | .fld .. | .fst .. | .ilsLoad .. | .ilsStore .. | .ilsFload .. | .ilsFstore .. | .bc .. | .bl ..
  | .jalr .. | .cb .. | .cbz .. | .dbnz .. | .fadd .. | .fsub .. | .fmul .. | .fdiv .. | .fsqrt .. | .fmin ..
  | .fmax .. | .fabs .. | .fneg .. | .fmov .. | .fcmp .. | .fcmps .. | .fcvt .. | .fmadd .. | .fmsub .. | .fnmadd ..
  | .fnmsub .. | .fcviToInt .. | .fcviToFloat .. | .fmvToGeneral .. | .fmvToFloat .. | .fli .. | .syscall ..
  | .break .. | .mfsr .. | .mtsr .. | .rfe .. | .wait .. | .cacheCleanLine .. | .cacheInvalidateLine ..
  | .cacheCleanInvalidateLine .. | .cacheInvalidateIcache .. | .cacheCleanDcache .. | .illegalInstruction ..
  | .fbcall .. | .fbret .. | .fbchk .. | .ton .. | .tof .. | .tp .. | .tnow .. | .telap .. | .ctu .. | .ctd ..
  | .ctud .. | .edgeRising .. | .edgeFalling .. | .edgeBoth .. | .bmovCopyStep .. | .bmovFillStep ..
  | .migrOperationStep .. | .migrHeaderStep .. | .migrEndStep .. | .amoSwap .. | .amoAdd .. | .amoAnd .. | .amoOr ..
  | .amoXor .. | .amoMin .. | .amoMax .. | .amoMinu .. | .amoMaxu .. | .amoCas .. | .activationEntry ..
  | .guardEnable .. | .guardSelfTest .. | .dmaDescriptorRead .. | .dmaBurst .. | .voterTimeout ..
  | .resyncCopyDone .. | .resyncRejoin .. | .splitEffect .. | .joinDone .. | .triRetire .. | .startIndep ..
  | .stopIndep .. | .stopIndepEffect .. | .cachePartitionWrite .. | .partitionFilled .. | .changeVerify ..
  | .verificationDone .. | .sealRecordReceived .. | .yieldAbandon .. | .yieldHandover .. | .yieldOverlapEnd ..
  | .configMessageReceived .. | .wakeDone .. | .trustOperationDone .. | .relayChunkReceived ..
  | .trialWindowExpire .. | .tuyereMemoryAccess .. | .selfTestsDone .. | .keeperStart .. | .systemImageStart ..
  | .recoveryRetry .. | .claimProbeEnd .. | .proofTestRun .. | .copyDataReceived .. | .resyncHoldoffEnd ..
  | .tuyereDebugAccess .. => true
  | _ => false

end Sys2Proof.Machine
end

