-- ==== Sys2Proof/Certificates/Slice0/Obligations.lean ====
section
/-!
DEFINITION. The statements for the provers. Those about an instruction speak of a target that is ready to execute it
(Safety.lean, Ready); the state after it is written out, so that each says what completes, what results and what stays. -/
open Sys2Proof Sys2Proof.Machine

/-- R96, R97, R99: what the fourteen one-cycle operations of OPR leave in rd and, with F = 1, in the flags; everything else is as
it was. R97, R99: the multiplications, with their costs at each width. -/
def Obligations.AluOperations : Prop :=
  (∀ (x : Target) (fm : Meet) (d f : Bool) (rd ra rb : GReg) (s s1 : State) (k : Nat), Ready x fm false s s1 k →
    let c := s1.ctx x
    let a := c.rg ra
    let b := c.rg rb
    let n := b.toNat % wid d
    let done (v : W64) (cy ov : Bool) := Host.Outcome.next (s1.after x (1 + k) ((c.result f rd v cy ov).next false))
    exec (.add x fm d f rd ra rb) s = done (atWidth d (fun _ a b => a + b) a b)
      (flagAt d (fun _ a b => BitVec.uaddOverflow a b) a b) (flagAt d (fun _ a b => BitVec.saddOverflow a b) a b) ∧
    exec (.sub x fm d f rd ra rb) s = done (atWidth d (fun _ a b => a - b) a b)
      (flagAt d (fun _ a b => !BitVec.usubOverflow a b) a b) (flagAt d (fun _ a b => BitVec.ssubOverflow a b) a b) ∧
    exec (.and x fm d f rd ra rb) s = done (atWidth d (fun _ a b => a &&& b) a b) false false ∧
    exec (.or x fm d f rd ra rb) s = done (atWidth d (fun _ a b => a ||| b) a b) false false ∧
    exec (.xor x fm d f rd ra rb) s = done (atWidth d (fun _ a b => a ^^^ b) a b) false false ∧
    exec (.andn x fm d f rd ra rb) s = done (atWidth d (fun _ a b => a &&& ~~~b) a b) false false ∧
    exec (.sll x fm d f rd ra rb) s = done (atWidth d (fun _ a _ => a <<< n) a b) (decide (0 < n) && a.getLsbD (wid d - n)) false ∧
    exec (.srl x fm d f rd ra rb) s = done (atWidth d (fun _ a _ => a >>> n) a b) (decide (0 < n) && a.getLsbD (n - 1)) false ∧
    exec (.sra x fm d f rd ra rb) s =
      done (atWidth d (fun _ a _ => a.sshiftRight n) a b) (decide (0 < n) && a.getLsbD (n - 1)) false ∧
    exec (.ror x fm d f rd ra rb) s = done (atWidth d (fun _ a _ => a.rotateRight n) a b) false false ∧
    exec (.min x fm d f rd ra rb) s = done (atWidth d (fun _ a b => if a.sle b then a else b) a b) false false ∧
    exec (.max x fm d f rd ra rb) s = done (atWidth d (fun _ a b => if a.sle b then b else a) a b) false false ∧
    exec (.minu x fm d f rd ra rb) s = done (atWidth d (fun _ a b => if a.ule b then a else b) a b) false false ∧
    exec (.maxu x fm d f rd ra rb) s = done (atWidth d (fun _ a b => if a.ule b then b else a) a b) false false) ∧
  ∀ (x : Target) (fm : Meet) (d f : Bool) (rd ra rb : GReg) (s s1 : State) (k : Nat), Ready x fm false s s1 k →
    let c := s1.ctx x
    let a := c.rg ra
    let b := c.rg rb
    let done (n : Nat) (v : W64) (ov : Bool) := Host.Outcome.next (s1.after x (n + k) ((c.result f rd v false ov).next false))
    exec (.mul x fm d f rd ra rb) s =
      done (if d then 4 else 3) (atWidth d (fun _ a b => a * b) a b) (flagAt d (fun _ a b => BitVec.smulOverflow a b) a b) ∧
    exec (.mulh x fm d f rd ra rb) s =
      done (if d then 5 else 4)
        (atWidth d (fun w a b => ((a.signExtend (2 * w) * b.signExtend (2 * w)) >>> w).setWidth w) a b) false ∧
    exec (.mulhu x fm d f rd ra rb) s =
      done (if d then 5 else 4)
        (atWidth d (fun w a b => ((a.setWidth (2 * w) * b.setWidth (2 * w)) >>> w).setWidth w) a b) false

/-- R100 as a whole: the divisions take the same cycles for every pair of operands; by zero they raise DIVIDE_BY_ZERO with nothing
written; the most negative value by −1 gives itself and remainder 0 with V set; otherwise the quotient is truncated toward zero
and the remainder has the sign of a. -/
def Obligations.Divisions : Prop :=
  ∀ (x : Target) (fm : Meet) (d f : Bool) (rd ra rb : GReg) (s s1 : State) (k : Nat), Ready x fm false s s1 k →
    let c := s1.ctx x
    let a := c.rg ra
    let b := c.rg rb
    let zero := low (wid d) b = 0
    let corner := flagAt d (fun w a b => a == BitVec.intMin w && b == BitVec.allOnes w) a b
    let done (v : W64) (ov : Bool) :=
      Host.Outcome.next (s1.after x ((if d then 34 else 18) + k) ((c.result f rd v false ov).next false))
    (¬zero →
      exec (.div x fm d f rd ra rb) s = done (if corner then atWidth d (fun _ a _ => a) a b else
        atWidth d (fun w a b => BitVec.ofInt w (a.toInt.tdiv b.toInt)) a b) corner ∧
      exec (.rem x fm d f rd ra rb) s = done (if corner then 0 else
        atWidth d (fun w a b => BitVec.ofInt w (a.toInt.tmod b.toInt)) a b) corner ∧
      exec (.divu x fm d f rd ra rb) s = done (atWidth d (fun w a b => BitVec.ofNat w (a.toNat / b.toNat)) a b) false ∧
      exec (.remu x fm d f rd ra rb) s = done (atWidth d (fun w a b => BitVec.ofNat w (a.toNat % b.toNat)) a b) false) ∧
    (zero →
      exec (.div x fm d f rd ra rb) s = .next (s1.traps x divideByZero k (wordR 0x014 d f rd ra rb)) ∧
      exec (.divu x fm d f rd ra rb) s = .next (s1.traps x divideByZero k (wordR 0x015 d f rd ra rb)) ∧
      exec (.rem x fm d f rd ra rb) s = .next (s1.traps x divideByZero k (wordR 0x016 d f rd ra rb)) ∧
      exec (.remu x fm d f rd ra rb) s = .next (s1.traps x divideByZero k (wordR 0x017 d f rd ra rb)))

/-- R98 as a whole: the fifteen conditions on N, Z, C and V, and code 15, which raises ILLEGAL_INSTRUCTION wherever a condition is
encoded: in SEL, SET, BC and CB. R97 to R99: CMP, the conditional moves, the bit counts and the extensions of OPR. -/
def Obligations.Conditions : Prop :=
  ((∀ st : W32,
    let n := st.getLsbD 31
    let z := st.getLsbD 30
    let c := st.getLsbD 29
    let v := st.getLsbD 28
    (List.range 15).map (fun k => condHolds k st) =
      [z, !z, c, !c, n, !n, v, !v, c && !z, !c || z, n == v, n != v, !z && n == v, z || n != v, true]) ∧
  ∀ (x : Target) (fm : Meet) (d : Bool) (rd ra rb : GReg) (disp : BitVec 22) (near : BitVec 12) (s s1 : State) (k : Nat),
    Ready x fm false s s1 k →
      exec (.sel x fm 15 d rd ra rb) s = .next (s1.traps x illegal k (wordR 0x02F d false rd ra rb)) ∧
      exec (.set x fm 15 d rd ra) s = .next (s1.traps x illegal k (wordR 0x03F d false rd ra 0)) ∧
      exec (.bc x fm 15 disp) s = .next (s1.traps x illegal k (majorWord 0x18 (15 * 2 ^ 22 + disp.toNat))) ∧
      exec (.cb x fm ra rb 15 near) s =
        .next (s1.traps x illegal k (majorWord 0x1B (ra.val * 2 ^ 21 + rb.val * 2 ^ 16 + 15 * 2 ^ 12 + near.toNat)))) ∧
  ∀ (x : Target) (fm : Meet) (d : Bool) (cond : Cond) (rd ra rb : GReg) (s s1 : State) (k : Nat), Ready x fm false s s1 k →
    let c := s1.ctx x
    let a := c.rg ra
    let b := c.rg rb
    let diff := atWidth d (fun _ a b => a - b) a b
    let done (v : W64) := Host.Outcome.next (s1.after x (1 + k) ((c.wg rd v).next false))
    exec (.cmp x fm d ra rb) s = .next (s1.after x (1 + k) ((c.wst (putNzcv diff.msb (diff == 0)
      (flagAt d (fun _ a b => !BitVec.usubOverflow a b) a b) (flagAt d (fun _ a b => BitVec.ssubOverflow a b) a b)
      c.st)).next false)) ∧
    (cond.val ≠ 15 →
      exec (.sel x fm cond d rd ra rb) s = done (atWidth d (fun _ a b => if condHolds cond.val c.st then a else b) a b) ∧
      exec (.set x fm cond d rd ra) s = done (if condHolds cond.val c.st then 1 else 0)) ∧
    (∃ n, n ≤ wid d ∧ (∀ i < wid d, wid d - n ≤ i → a.getLsbD i = false) ∧ (n < wid d → a.getLsbD (wid d - 1 - n) = true) ∧
      exec (.clz x fm d rd ra) s = done (BitVec.ofNat 64 n)) ∧
    (∃ n, n ≤ wid d ∧ (∀ i < n, a.getLsbD i = false) ∧ (n < wid d → a.getLsbD n = true) ∧
      exec (.ctz x fm d rd ra) s = done (BitVec.ofNat 64 n)) ∧
    exec (.popc x fm d rd ra) s = done (BitVec.ofNat 64 ((List.range (wid d)).countP fun i => a.getLsbD i)) ∧
    exec (.sextb x fm rd ra) s = done ((a.setWidth 8).signExtend 64) ∧
    exec (.sexth x fm rd ra) s = done ((a.setWidth 16).signExtend 64) ∧
    exec (.sextw x fm rd ra) s = done ((a.setWidth 32).signExtend 64) ∧
    exec (.zextb x fm rd ra) s = done ((a.setWidth 8).setWidth 64) ∧
    exec (.zexth x fm rd ra) s = done ((a.setWidth 16).setWidth 64) ∧
    exec (.zextw x fm rd ra) s = done ((a.setWidth 32).setWidth 64)

/-- The immediate integer instructions of chapter 04 (ADDI to CMPI). SHI with D = 0 needs amount bit 5 zero. R101: the long-
immediate kinds, 2 cycles each and 8 bytes long; no kind but CMP touches the flags. -/
def Obligations.ImmediateOperations : Prop :=
  (∀ (x : Target) (fm : Meet) (d f : Bool) (rd ra : GReg) (imm : W16) (amt : BitVec 6) (s s1 : State) (k : Nat),
    Ready x fm false s s1 k →
    let c := s1.ctx x
    let a := c.rg ra
    let n := amt.toNat
    let diff := atWidth d (fun _ a b => a - b) a (imm.signExtend 64)
    let done (v : W64) := Host.Outcome.next (s1.after x (1 + k) ((c.wg rd v).next false))
    let shift (v : W64) (cy : Bool) := Host.Outcome.next (s1.after x (1 + k) ((c.result f rd v cy false).next false))
    exec (.addi x fm rd ra imm) s = done (a + imm.signExtend 64) ∧
    exec (.addiw x fm rd ra imm) s = done (((a + imm.signExtend 64).setWidth 32).signExtend 64) ∧
    exec (.andi x fm rd ra imm) s = done (a &&& imm.setWidth 64) ∧
    exec (.ori x fm rd ra imm) s = done (a ||| imm.setWidth 64) ∧
    exec (.xori x fm rd ra imm) s = done (a ^^^ imm.setWidth 64) ∧
    exec (.lui x fm rd imm) s = done (((imm.setWidth 32) <<< 16).signExtend 64) ∧
    exec (.cmpi x fm d ra imm) s = .next (s1.after x (1 + k) ((c.wst (putNzcv diff.msb (diff == 0)
      (flagAt d (fun _ a b => !BitVec.usubOverflow a b) a (imm.signExtend 64))
      (flagAt d (fun _ a b => BitVec.ssubOverflow a b) a (imm.signExtend 64)) c.st)).next false)) ∧
    ((d = true ∨ n < 32) →
      exec (.shi x fm 0 d f rd ra amt) s =
        shift (atWidth d (fun _ a _ => a <<< n) a 0) (decide (0 < n) && a.getLsbD (wid d - n)) ∧
      exec (.shi x fm 1 d f rd ra amt) s = shift (atWidth d (fun _ a _ => a >>> n) a 0) (decide (0 < n) && a.getLsbD (n - 1)) ∧
      exec (.shi x fm 2 d f rd ra amt) s =
        shift (atWidth d (fun _ a _ => a.sshiftRight n) a 0) (decide (0 < n) && a.getLsbD (n - 1)) ∧
      exec (.shi x fm 3 d f rd ra amt) s = shift (atWidth d (fun _ a _ => a.rotateRight n) a 0) false)) ∧
  ∀ (x : Target) (fm : Meet) (d : Bool) (rd ra : GReg) (imm : W32) (s s1 : State) (k : Nat), Ready x fm true s s1 k →
    let c := s1.ctx x
    let a := c.rg ra
    let i : W64 := imm.signExtend 64
    let diff := atWidth d (fun _ a b => a - b) a i
    let done (v : W64) := Host.Outcome.next (s1.after x (2 + k) ((c.wg rd v).next true))
    exec (.limmMov x fm rd imm) s = done i ∧
    exec (.limmAdd x fm d rd ra imm) s = done (atWidth d (fun _ a b => a + b) a i) ∧
    exec (.limmAnd x fm d rd ra imm) s = done (atWidth d (fun _ a b => a &&& b) a i) ∧
    exec (.limmOr x fm d rd ra imm) s = done (atWidth d (fun _ a b => a ||| b) a i) ∧
    exec (.limmXor x fm d rd ra imm) s = done (atWidth d (fun _ a b => a ^^^ b) a i) ∧
    exec (.limmMovu x fm rd imm) s = done (imm.setWidth 64) ∧
    exec (.limmOrh x fm rd ra imm) s = done ((a.setWidth 32).setWidth 64 ||| (imm.setWidth 64 <<< 32)) ∧
    exec (.limmCmp x fm d ra imm) s = .next (s1.after x (2 + k) ((c.wst (putNzcv diff.msb (diff == 0)
      (flagAt d (fun _ a b => !BitVec.usubOverflow a b) a i) (flagAt d (fun _ a b => BitVec.ssubOverflow a b) a i)
      c.st)).next true))

/-- R75, R93, R102, R104, R105, R188: what LD, LDX, FLD and the two loads of ILS do, in the manual's order of checks: alignment,
the vote on the copies of the access, guard, access. An access that halts the triad goes no further. A load that is answered
writes its register, later by the cycles that the answer is late; one that is not, or that finds an uncorrectable error, raises
the exception of the check and writes none. R102, R104, R105: what ST, STX, FST and the two stores of ILS do to plain memory:
where the address names memory that takes a store and has one copy, the bytes of the register stand there afterwards, every other
byte is as it was, and the target goes on; a misaligned address, a refusal of the guard and a place that takes no store raise the
exception of that check. The last clauses are those of any target of a store, registers and DRAM through the data cache among
them, after the vote of R188. -/
def Obligations.LoadsAndStores : Prop :=
  (∀ (i : Instr) (x : Target) (s s1 : State) (k : Nat) (m : Access) (put : List W8 → Ctx → Ctx),
    accessTarget i = some x → Ready x (fetchOf i) false s s1 k → loadForm (s1.ctx x) i = some (m, put) →
    let a := m.addr.toNat
    let s2 := s1.meeting (s1.compared x a) x a (meetOf i)
    let g := s2.guardCheck (s2.targetMaster x) (s2.ctx x).priv a m.size 1
    let r := s2.coreLoad x a m.size false
    let p := r.s.lateBy x a (meetOf i).late.toNat
    let f := p.2.finds x a (meetOf i).read
    let t := if r.data.isSome then f.2 else p.2
    (meetOf i = {} → s2 = s1 ∧ p = (0, r.s) ∧ f = (true, r.s)) ∧
    (a % m.size ≠ 0 → exec i s = .next (s1.traps x misaligned k m.word)) ∧
    (a % m.size = 0 → s2.ceased x = true → exec i s = .next s2) ∧
    (a % m.size = 0 → s2.ceased x = false →
      (∀ b, g = some b →
        exec i s = .next ((s2.guardRefused (s2.targetMaster x) 1 b).traps x (refusedTrap 1 b) k m.word)) ∧
      (g = none → t.ceased x = true → exec i s = .next t) ∧
      (g = none → t.ceased x = false →
        (r.data = none ∨ f.1 = false → exec i s = .next (t.traps x (s2.busTrap x 1 a (r.cost + p.1)) k m.word)) ∧
        ∀ d, r.data = some d → f.1 = true →
          exec i s = .next (t.ended x (r.cost + p.1 + k) ((put d (t.ctx x)).next false))))) ∧
  ∀ (i : Instr) (x : Target) (s s1 : State) (k : Nat) (m : Access) (d : List W8),
    accessTarget i = some x → Ready x (fetchOf i) false s s1 k → storeForm (s1.ctx x) i = some (m, d) →
    let a := m.addr.toNat
    let plain := meetOf i = {} ∧ a % m.size = 0 ∧ s1.guardCheck (s1.targetMaster x) (s1.ctx x).priv a m.size 2 = none ∧
      inWindows a = false ∧ 0x40000 ≤ a ∧ a < 0x80000000
    let c := s1.accessCost x a true
    let s2 := s1.meeting (s1.compared x a) x a (meetOf i)
    let g := s2.guardCheck (s2.targetMaster x) (s2.ctx x).priv a m.size 2
    let r := s2.coreStore x a d false
    let p := r.s.lateBy x a (meetOf i).late.toNat
    (plain → c.2.memSpan (some x) a m.size = none → exec i s = .next (c.2.traps x (s1.busTrap x 2 a c.1) k m.word)) ∧
    (plain → s1.agrees x → ∀ q, c.2.memSpan (some x) a m.size = some q → c.2.storable (!(s1.ctx x).priv) q = true →
      c.2.copies q = [q] →
      ∃ t, exec i s = .next t ∧ (∀ b, b < q ∨ q + m.size ≤ b → t.byte b = s.byte b) ∧
        (∀ j (h : j < d.length), t.byte (q + j) = d[j]) ∧ t.regs = s1.regs ∧
        ∃ u : State, t = u.after x (c.1 + k) ((s1.ctx x).next false)) ∧
    (a % m.size ≠ 0 → exec i s = .next (s1.traps x misaligned k m.word)) ∧
    (a % m.size = 0 → s2.ceased x = true → exec i s = .next s2) ∧
    (a % m.size = 0 → s2.ceased x = false →
      (∀ b, g = some b →
        exec i s = .next ((s2.guardRefused (s2.targetMaster x) 2 b).traps x (refusedTrap 2 b) k m.word)) ∧
      (g = none → r.data = none → exec i s = .next (p.2.traps x (s2.busTrap x 2 a (r.cost + p.1)) k m.word)) ∧
      (g = none → ∀ e, r.data = some e → stillRuns (s2.ctx x) (p.2.ctx x) = true →
        exec i s = .next (p.2.ended x (r.cost + p.1 + k) ((p.2.ctx x).next false))))

/-- R106, R107: where each branch goes and what it writes. A jump to the activation-end address ends the activation. A JALR whose
target is not a multiple of 4 raises ALIGNMENT, and a DBNZ on g0 ILLEGAL_INSTRUCTION. R88, R161: SYSCALL, BREAK and a word that is
no instruction take their exceptions, with the code of the first two in CAUSE. -/
def Obligations.BranchesAndCalls : Prop :=
  (∀ (x : Target) (fm : Meet) (cond : Cond) (rd ra rb : GReg) (nz : Bool) (imm : W16) (d12 : BitVec 12) (d20 : BitVec 20) (d21 : BitVec 21)
    (d22 : BitVec 22) (d26 : BitVec 26) (s s1 : State) (k : Nat), Ready x fm false s s1 k →
    let c := s1.ctx x
    let a := c.rg ra
    let b := c.rg rb
    let stay (c : Ctx) := Host.Outcome.next (s1.after x (1 + k) (c.next false))
    let go (n : Nat) (target : W32) (c : Ctx) := Host.Outcome.next (s1.ended x (n + k) { c with pc := target })
    let t := (a + imm.signExtend 64).setWidth 32
    (cond.val ≠ 15 → exec (.bc x fm cond d22) s =
      if condHolds cond.val c.st then go 3 (c.pc + d22.signExtend 32 * 4) c else stay c) ∧
    exec (.bl x fm d26) s = go 3 (c.pc + d26.signExtend 32 * 4) (c.wg 31 ((c.pc + 4).setWidth 64)) ∧
    (t.getLsbD 0 = false ∧ t.getLsbD 1 = false →
      exec (.jalr x fm rd ra imm) s = go 4 t (c.wg rd ((c.pc + 4).setWidth 64))) ∧
    (t.getLsbD 0 = true ∨ t.getLsbD 1 = true →
      exec (.jalr x fm rd ra imm) s = .next (s1.traps x misaligned k (wordI 0x1A rd ra imm))) ∧
    (cond.val ≠ 15 → exec (.cb x fm ra rb cond d12) s =
      if condHolds cond.val (putNzcv (a - b).msb (a == b) (!BitVec.usubOverflow a b) (BitVec.ssubOverflow a b) 0)
      then go 3 (c.pc + d12.signExtend 32 * 4) c else stay c) ∧
    exec (.cbz x fm ra nz d20) s = (if (a == 0) != nz then go 3 (c.pc + d20.signExtend 32 * 4) c else stay c) ∧
    (ra ≠ 0 → exec (.dbnz x fm ra d21) s =
      if a - 1 ≠ 0 then go 3 (c.pc + d21.signExtend 32 * 4) (c.wg ra (a - 1)) else stay (c.wg ra (a - 1))) ∧
    exec (.dbnz x fm 0 d21) s = .next (s1.traps x illegal k (majorWord 0x1D d21.toNat))) ∧
  ∀ (x : Target) (fm : Meet) (code : W16) (w : W32) (s s1 : State) (k : Nat), Ready x fm false s s1 k →
    exec (.syscall x fm code) s = .next (s1.traps x { vector := 8, cause := code.toNat } k (majorWord 0x38 code.toNat)) ∧
    exec (.break x fm code) s = .next (s1.traps x { vector := 9, cause := code.toNat } k (majorWord 0x39 code.toNat)) ∧
    (wordLegal w = false → exec (.illegalInstruction x fm w) s = .next (s1.traps x illegal k w))

/-- The rounding modes of `ST.RM` (R79): n × 2^-k goes to the nearest integer with ties to even (0), toward zero (1), toward −∞
(2), toward +∞ (3), or to the nearest with ties away from zero (4), the sign taken into account; and it is inexact exactly when n
is no multiple of 2^k. R86, R109, R111, R112: the instructions that round: the result of the operation in the mode that the
instruction, or under 7 `ST.RM`, selects, its sticky flags, and the listed cost; the reserved modes 5 and 6 raise
ILLEGAL_INSTRUCTION. -/
def Obligations.RoundedFloats : Prop :=
  (∀ (rm n k : Nat) (neg : Bool), rm < 5 →
    let q := (roundShift rm neg n k).1
    (roundShift rm neg n k).2 = decide (n % 2 ^ k ≠ 0) ∧
    (rm = 0 → 2 * n ≤ (2 * q + 1) * 2 ^ k ∧ 2 * q * 2 ^ k ≤ 2 * n + 2 ^ k ∧
      (2 * n = (2 * q + 1) * 2 ^ k ∨ 2 * n + 2 ^ k = 2 * q * 2 ^ k → q % 2 = 0)) ∧
    ((rm = 1 ∨ rm = 2 ∧ neg = false ∨ rm = 3 ∧ neg = true) → q * 2 ^ k ≤ n ∧ n < (q + 1) * 2 ^ k) ∧
    ((rm = 2 ∧ neg = true ∨ rm = 3 ∧ neg = false) → n ≤ q * 2 ^ k ∧ q * 2 ^ k < n + 2 ^ k) ∧
    (rm = 4 → 2 * n < (2 * q + 1) * 2 ^ k ∧ 2 * q * 2 ^ k ≤ 2 * n + 2 ^ k)) ∧
  ∀ (x : Target) (fm : Meet) (d w u : Bool) (rm : Fin 8) (rd ra : GReg) (fd fa fb fc : FReg) (s s1 : State) (k : Nat),
    Ready x fm false s s1 k →
    let c := s1.ctx x
    let mode := if rm.val = 7 then getF c.st 21 3 else rm.val
    let a := c.rfd d fa
    let b := c.rfd d fb
    let e := c.rfd d fc
    let done (n : Nat) (o : FRes) := Host.Outcome.next (s1.after x (n + k) ((c.fput d fd o).next false))
    let trap (w : W32) := Host.Outcome.next (s1.traps x illegal k w)
    let i := (fmt d).toInt (wid w) u mode a
    (rm.val ≠ 5 ∧ rm.val ≠ 6 → (rm.val = 7 → getF c.st 21 3 < 5) →
      exec (.fadd x fm d rm fd fa fb) s = done 4 ((fmt d).add false mode a b) ∧
      exec (.fsub x fm d rm fd fa fb) s = done 4 ((fmt d).add true mode a b) ∧
      exec (.fmul x fm d rm fd fa fb) s = done (if d then 5 else 4) ((fmt d).mul mode a b) ∧
      exec (.fdiv x fm d rm fd fa fb) s = done (if d then 20 else 12) ((fmt d).div mode a b) ∧
      exec (.fsqrt x fm d rm fd fa) s = done (if d then 24 else 14) ((fmt d).sqrt mode a) ∧
      exec (.fcvt x fm d rm fd fa) s = done 3 ((fmt !d).convert (fmt d) mode (c.rfd (!d) fa)) ∧
      exec (.fmadd x fm d rm fd fa fb fc) s = done (if d then 6 else 5) ((fmt d).fma false false mode a b e) ∧
      exec (.fmsub x fm d rm fd fa fb fc) s = done (if d then 6 else 5) ((fmt d).fma false true mode a b e) ∧
      exec (.fnmadd x fm d rm fd fa fb fc) s = done (if d then 6 else 5) ((fmt d).fma true false mode a b e) ∧
      exec (.fnmsub x fm d rm fd fa fb fc) s = done (if d then 6 else 5) ((fmt d).fma true true mode a b e) ∧
      exec (.fcviToFloat x fm fd ra rm d w u) s = done 3 ((fmt d).ofInt (wid w) u mode (c.rg ra).toNat) ∧
      exec (.fcviToInt x fm rd fa rm d w u) s =
        .next (s1.after x (3 + k) (((c.wg rd (widen (wid w) i.1)).wst (i.2.sticky c.st)).next false))) ∧
    (rm.val = 5 ∨ rm.val = 6 →
      exec (.fadd x fm d rm fd fa fb) s = trap (wordF 0x00 d rm.val fd fa fb) ∧
      exec (.fsub x fm d rm fd fa fb) s = trap (wordF 0x01 d rm.val fd fa fb) ∧
      exec (.fmul x fm d rm fd fa fb) s = trap (wordF 0x02 d rm.val fd fa fb) ∧
      exec (.fdiv x fm d rm fd fa fb) s = trap (wordF 0x03 d rm.val fd fa fb) ∧
      exec (.fsqrt x fm d rm fd fa) s = trap (wordF 0x04 d rm.val fd fa 0) ∧
      exec (.fcvt x fm d rm fd fa) s = trap (wordF 0x0C d rm.val fd fa 0) ∧
      exec (.fmadd x fm d rm fd fa fb fc) s = trap (wordFMA 0 d rm fd fa fb fc) ∧
      exec (.fmsub x fm d rm fd fa fb fc) s = trap (wordFMA 1 d rm fd fa fb fc) ∧
      exec (.fnmadd x fm d rm fd fa fb fc) s = trap (wordFMA 2 d rm fd fa fb fc) ∧
      exec (.fnmsub x fm d rm fd fa fb fc) s = trap (wordFMA 3 d rm fd fa fb fc) ∧
      exec (.fcviToFloat x fm fd ra rm d w u) s = trap (wordFCVI fd.val ra.val rm d w u true) ∧
      exec (.fcviToInt x fm rd fa rm d w u) s = trap (wordFCVI rd.val fa.val rm d w u false))

/-- R81, R109, R110, R113, R114: the float instructions that do not round. Moves and signs copy bits and touch no flag; a compare
puts one of the four relations into N, Z, C and V; the minimum and maximum return the number beside a NaN. R114: FLI writes its
binary32 value, converted exactly with D = 1, in 2 cycles and without a flag. -/
def Obligations.UnroundedFloats : Prop :=
  (∀ (x : Target) (fm : Meet) (d : Bool) (rd ra : GReg) (fd fa fb : FReg) (s s1 : State) (k : Nat), Ready x fm false s s1 k →
    let c := s1.ctx x
    let bits (r : FReg) : W64 := if d then c.rf r else ((c.rf r).setWidth 32).setWidth 64
    let top := if d then 63 else 31
    let va := (fmt d).read (c.rfd d fa)
    let vb := (fmt d).read (c.rfd d fb)
    let done (n : Nat) (c : Ctx) := Host.Outcome.next (s1.after x (n + k) (c.next false))
    let rel (quiet : Bool) : Ctx :=
      let nv := va.isSnan || vb.isSnan || (!quiet && (va.isNan || vb.isNan))
      let st := if va.isNan || vb.isNan then putNzcv false false true true c.st
        else if va.order vb = .lt then putNzcv true false false false c.st
        else if va.order vb = .eq then putNzcv false true true false c.st
        else putNzcv false false true false c.st
      c.wst (if nv then setB st 20 else st)
    exec (.fabs x fm d fd fa) s = done 1 (c.wf fd (bits fa &&& ~~~(BitVec.twoPow 64 top))) ∧
    exec (.fneg x fm d fd fa) s = done 1 (c.wf fd (bits fa ^^^ BitVec.twoPow 64 top)) ∧
    exec (.fmov x fm d fd fa) s = done 1 (c.wf fd (bits fa)) ∧
    exec (.fmvToGeneral x fm rd fa d) s = done 1 (c.wg rd (bits fa)) ∧
    exec (.fmvToFloat x fm fd ra d) s = done 1 (c.wf fd (if d then c.rg ra else ((c.rg ra).setWidth 32).setWidth 64)) ∧
    exec (.fcmp x fm d fa fb) s = done 2 (rel true) ∧
    exec (.fcmps x fm d fa fb) s = done 2 (rel false) ∧
    (va.isNan = false → vb.isNan = true →
      exec (.fmin x fm d fd fa fb) s = done 4 ((c.wf fd (bits fa)).wst (if vb.isSnan then setB c.st 20 else c.st)) ∧
      exec (.fmax x fm d fd fa fb) s = done 4 ((c.wf fd (bits fa)).wst (if vb.isSnan then setB c.st 20 else c.st))) ∧
    (va.isNan = true → vb.isNan = true →
      exec (.fmin x fm d fd fa fb) s =
        done 4 ((c.wfd d fd (fmt d).nan).wst (if va.isSnan || vb.isSnan then setB c.st 20 else c.st)) ∧
      exec (.fmax x fm d fd fa fb) s =
        done 4 ((c.wfd d fd (fmt d).nan).wst (if va.isSnan || vb.isSnan then setB c.st 20 else c.st))) ∧
    (va.isNan = true → vb.isNan = false →
      exec (.fmin x fm d fd fa fb) s = done 4 ((c.wf fd (bits fb)).wst (if va.isSnan then setB c.st 20 else c.st)) ∧
      exec (.fmax x fm d fd fa fb) s = done 4 ((c.wf fd (bits fb)).wst (if va.isSnan then setB c.st 20 else c.st))) ∧
    (va.isNan = false → vb.isNan = false → va.order vb = .lt →
      exec (.fmin x fm d fd fa fb) s = done 4 ((c.wf fd (bits fa)).wst c.st) ∧
      exec (.fmax x fm d fd fa fb) s = done 4 ((c.wf fd (bits fb)).wst c.st)) ∧
    (va.isNan = false → vb.isNan = false → va.order vb = .gt →
      exec (.fmin x fm d fd fa fb) s = done 4 ((c.wf fd (bits fb)).wst c.st) ∧
      exec (.fmax x fm d fd fa fb) s = done 4 ((c.wf fd (bits fa)).wst c.st)) ∧
    (va.isNan = false → vb.isNan = false → va.order vb = .eq →
      exec (.fmin x fm d fd fa fb) s = done 4 ((c.wf fd (if vb.neg && !va.neg then bits fb else bits fa)).wst c.st) ∧
      exec (.fmax x fm d fd fa fb) s = done 4 ((c.wf fd (if va.neg && !vb.neg then bits fb else bits fa)).wst c.st))) ∧
  ∀ (x : Target) (fm : Meet) (fd : FReg) (imm : W32) (s s1 : State) (k : Nat), Ready x fm true s s1 k →
    let c := s1.ctx x
    exec (.fli x fm fd false imm) s = .next (s1.after x (2 + k) ((c.wf fd (imm.setWidth 64)).next true)) ∧
    exec (.fli x fm fd true imm) s =
      .next (s1.after x (2 + k) ((c.wfd true fd (binary32.convert binary64 0 imm.toNat).r).next true)) ∧
    ((binary32.read imm.toNat).isNan = false →
      (binary32.convert binary64 0 imm.toNat).nx = false ∧ (binary32.convert binary64 0 imm.toNat).of = false)

/-- R80: g0 reads zero and a write of it changes nothing; every other general register reads as last written, and a write leaves
the others. R83, R84, R115, R159: MFSR and MTSR for every special register, and who may write which. Which RM a write keeps is the
model's reading (notes/assumptions/30.md); the cost of each is 1 and 2. -/
def Obligations.CoreRegisters : Prop :=
  (∀ (c : Ctx) (r q : GReg) (v : W64),
    c.rg 0 = 0 ∧ c.wg 0 v = c ∧ (r ≠ 0 → (c.wg r v).rg r = v) ∧ (q ≠ r → (c.wg r v).rg q = c.rg q) ∧
    (∀ f : FReg, (c.wg r v).rf f = c.rf f) ∧ (c.wg r v).st = c.st ∧ (c.wg r v).pc = c.pc) ∧
  ∀ (x : Target) (fm : Meet) (r : GReg) (sr : Fin 32) (s s1 : State) (k : Nat), Ready x fm false s s1 k →
    let c := s1.ctx x
    let v := c.rg r
    let read (v : W64) := Host.Outcome.next (s1.after x (1 + k) ((c.wg r v).next false))
    let done (c : Ctx) := Host.Outcome.next (s1.after x (2 + k) (c.next false))
    let trap (t : Trap) := Host.Outcome.next (s1.traps x t k (majorWord 0x3B (r.val * 2 ^ 16 + sr.val * 2 ^ 11)))
    (sr.val = 0 → exec (.mfsr x fm r sr) s = read (c.pc.setWidth 64)) ∧
    (sr.val = 1 → exec (.mfsr x fm r sr) s = read (c.st.setWidth 64)) ∧
    (sr.val = 2 → exec (.mfsr x fm r sr) s = read (c.ib.setWidth 64)) ∧
    (sr.val = 3 → exec (.mfsr x fm r sr) s = read (c.sb.setWidth 64)) ∧
    (sr.val = 4 → exec (.mfsr x fm r sr) s = read (c.tier.setWidth 64)) ∧
    (sr.val = 5 → exec (.mfsr x fm r sr) s = read c.cyc) ∧
    (sr.val = 6 → exec (.mfsr x fm r sr) s = read c.icnt) ∧
    (6 < sr.val →
      exec (.mfsr x fm r sr) s = .next (s1.traps x illegal k (majorWord 0x3A (r.val * 2 ^ 21 + sr.val * 2 ^ 11)))) ∧
    (sr.val = 0 ∨ 4 < sr.val → exec (.mtsr x fm r sr) s = trap illegal) ∧
    (sr.val = 1 → 5 ≤ getF (v.setWidth 32) 21 3 → exec (.mtsr x fm r sr) s = trap illegal) ∧
    (sr.val = 1 → getF (v.setWidth 32) 21 3 < 5 → exec (.mtsr x fm r sr) s =
      done (c.wst (putB (v.setWidth 32 &&& 0xF0FF0100#32) 8 (v.getLsbD 8 && c.priv)))) ∧
    (sr.val = 2 ∨ sr.val = 3 ∨ sr.val = 4 → c.priv = false → exec (.mtsr x fm r sr) s = trap privileged) ∧
    (sr.val = 2 → c.priv = true → exec (.mtsr x fm r sr) s = done ({ c with ib := v.setWidth 32 }.fold 49 v)) ∧
    (sr.val = 3 → c.priv = true → exec (.mtsr x fm r sr) s = done ({ c with sb := v.setWidth 32 }.fold 50 v)) ∧
    (sr.val = 4 → c.priv = true → exec (.mtsr x fm r sr) s =
      done ({ c with tier := if v.setWidth 4 < c.home then c.home else v.setWidth 4 }.fold 51 v))

/-- R162, R163: what exception entry writes into the save frame of the home tier when no record is live there, where it leaves the
core, and that nothing else changes. EADDR is stated where R166 gives it. The lanes of the triad agree on the access (R184). R165:
an exception at a tier with a live record enters no handler. The record stands but for DOUBLE and the second vector, and the rest
of memory is as it was. R164: RFE without a live record raises ILLEGAL_INSTRUCTION with cause 2; with one, PC and `ST` come back
from the record, EXL is cleared, and a context that may not run in the mode it has come back to is saved at once. The lanes vote
on the frame access first (R184). R386, R115: WAIT in S mode takes one cycle, and the target goes on at the next instruction. With
a control tier enabled on the target it is refused with cause 1; with the Idle state selected and no source that wakes the target,
the target is idle; in U mode it is PRIVILEGED_INSTRUCTION. -/
def Obligations.ExceptionsReturnsAndWaits : Prop :=
  (∀ (x : Target) (t : Trap) (w : W32) (s : State),
    let c := s.ctx x
    let h := c.home.toNat
    let u := s.takeTrap x t w
    s.agrees x → c.halted = false → bit (s.frameWord x h 0x1B8) 0 = false →
      u.frameWord x h 0x1A0 = c.pc ∧ u.frameWord x h 0x1A4 = c.st ∧ u.frameWord x h 0x1A8 = BitVec.ofNat 32 t.vector ∧
      u.frameWord x h 0x1AC = BitVec.ofNat 32 t.cause ∧ u.frameWord x h 0x1B4 = w ∧ u.frameWord x h 0x1B8 = 1 ∧
      (∀ a, t.eaddr = some a → u.frameWord x h 0x1B0 = BitVec.ofNat 32 a) ∧
      (u.ctx x).pc = s.rd (Reg.TIC_TGT_VBASE x) + BitVec.ofNat 32 (64 * t.vector) ∧ (u.ctx x).st = setB c.st 8 ∧
      (u.ctx x).cyc = c.cyc + BitVec.ofNat 64 t.cost + 10 ∧ (u.ctx x).tier = c.tier ∧ (u.ctx x).ib = c.ib ∧
      (u.ctx x).sb = c.sb ∧ (u.ctx x).g = c.g ∧ (u.ctx x).f = c.f ∧ u.regs = s.regs ∧ u.tic = s.tic ∧
      (∀ y : Nat, y ≠ x.val → u.ctx y = s.ctx y) ∧
      ∀ b, b < frameBase x h + 0x1A0 ∨ frameBase x h + 0x1BC ≤ b → u.byte b = s.byte b) ∧
  (∀ (x : Target) (t : Trap) (w : W32) (s : State),
    let h := (s.ctx x).home.toNat
    let u := s.takeTrap x t w
    s.agrees x → (s.ctx x).halted = false → bit (s.frameWord x h 0x1B8) 0 = true →
      u.frameWord x h 0x1B8 = setF (setB (s.frameWord x h 0x1B8) 1) 8 8 t.vector ∧
      ∀ b, b < frameBase x h + 0x1B8 ∨ frameBase x h + 0x1BC ≤ b → u.byte b = s.byte b) ∧
  (∀ (x : Target) (fm : Meet) (s s1 : State) (k : Nat), Ready x fm false s s1 k →
    let c := s1.ctx x
    let h := c.home.toNat
    let l := s1.frameWord x h 0x1B8
    let st := stPut c.st (s1.frameWord x h 0x1A4)
    let v := s1.sigVote x 5
    (bit l 0 = false → exec (.rfe x fm) s = .next ((s1.traps x { illegal with cause := 2 } k (majorWord 0x3C 0)).displace x)) ∧
    (bit l 0 = true → c.priv = false → exec (.rfe x fm) s = .next ((s1.traps x privileged k (majorWord 0x3C 0)).displace x)) ∧
    (bit l 0 = true → c.priv = true →
      ((v.ctx x).halted = false → exec (.rfe x fm) s = .next (((v.putFrame x h 0x1B8 (clrB l 0)).ended x (8 + k)
        ({ c with pc := s1.frameWord x h 0x1A0 &&& 0xFFFFFFFC#32 }.wst st)).displace x)) ∧
      ((v.ctx x).halted = true → exec (.rfe x fm) s = .next v) ∧
      (s1.agrees x → v = s1 ∧ (v.ctx x).halted = false)) ∧
    (bit l 0 = true → c.priv = true → s1.agrees x → s1.frameWord x h 0x1A0 &&& 0xFFFFFFFC#32 ≠ 0x00FFFFFC#32 →
      s1.mayRun x (bit st 8) h = true →
      ∃ t, exec (.rfe x fm) s = .next t ∧ (t.ctx x).pc = s1.frameWord x h 0x1A0 &&& 0xFFFFFFFC#32 ∧ (t.ctx x).st = st ∧
        t.frameWord x h 0x1B8 = clrB l 0 ∧ (t.ctx x).g = c.g ∧ (t.ctx x).f = c.f ∧ (t.ctx x).tier = c.tier ∧
        t.regs = s1.regs ∧ ∀ b, b < frameBase x h + 0x1B8 ∨ frameBase x h + 0x1BC ≤ b → t.byte b = s1.byte b)) ∧
  ∀ (x : Target) (fm : Meet) (s s1 : State) (k : Nat), Ready x fm false s s1 k →
    let c := s1.ctx x
    let u := s1.setCtx x (c.next false)
    let t := (u.sleepWait x).after x (1 + k) ((u.sleepWait x).ctx x)
    let i := s1.islandOf x
    let sel := s1.rdF (Reg.BEL_SLEEP i) 0 2
    let mode := if sel = 3 then 0 else sel
    (c.priv = false → exec (.wait x fm) s = .next (s1.traps x privileged k (majorWord 0x3D 0))) ∧
    (c.priv = true → exec (.wait x fm) s = .next t) ∧
    (s1.agrees x →
      (t.ctx x).pc = c.pc + 4 ∧ (t.ctx x).cyc = c.cyc + BitVec.ofNat 64 (1 + k) ∧ (t.ctx x).g = c.g ∧ t.mem = s.mem ∧
      (u.hasControl x = true → t.rdB Reg.BEL_EVT 2 = true ∧ t.nap x = s1.nap x ∧
        t.rd Reg.BEL_SLP_STAT = BitVec.ofNat 32 (2 * 2 ^ 30 + mode * 2 ^ 28 + (if mode = 2 then 15 else i) * 2 ^ 24 + 63 * 2 ^ 16 + 1)) ∧
      (u.hasControl x = false → mode = 0 → u.ticWakes x = false → t.nap x = .idle ∧
        t.rd Reg.BEL_SLP_STAT = BitVec.ofNat 32 (1 * 2 ^ 30 + i * 2 ^ 24 + 63 * 2 ^ 16)) ∧
      (u.hasControl x = false → mode = 0 → u.ticWakes x = true → t.nap x = s1.nap x) ∧
      (u.hasControl x = false → mode = 2 → s1.pair.role ≠ .unassigned → s1.pair.role ≠ .outOfService →
        t.rd Reg.BEL_SLP_STAT = BitVec.ofNat 32 (2 * 2 ^ 30 + 2 * 2 ^ 28 + 15 * 2 ^ 24 + 63 * 2 ^ 16 + 2)))

/-- R115, R95, R188: the CACHE operations complete in S mode. Cleaning writes what a line holds to its memory, once the copies of
that access are compared, invalidating drops a line without that, and each is PRIVILEGED_INSTRUCTION in U mode. -/
def Obligations.CacheOperations : Prop :=
  ∀ (x : Target) (fm m : Meet) (ra : GReg) (s s1 : State) (k : Nat), Ready x fm false s s1 k →
    let c := s1.ctx x
    let l := ((c.rg ra).setWidth 32).toNat / 64
    let trap (op : Nat) := Host.Outcome.next (s1.traps x privileged k (majorWord 0x3E (ra.val * 2 ^ 16 + op * 2 ^ 12)))
    let done (n : Nat) (u : State) := u.after x (n + k) ((u.ctx x).next false)
    let gone (n : Nat) (v t : State) := (t.ctx x).pc = c.pc + 4 ∧ (t.ctx x).cyc = c.cyc + BitVec.ofNat 64 (n + k) ∧
      (t.ctx x).g = c.g ∧ (t.ctx x).st = c.st ∧ t.regs = v.regs
    let voted (j : Nat) := s1.meeting (s1.lineDirty x j && s1.compared x (64 * j)) x (64 * j) m
    let v := voted l
    let w := voted (s1.firstDirty x)
    let p := v.cleanCost x l
    let cleaned := p.2.cleanLine x l
    let dropped := s1.dropLine x l
    let both := cleaned.dropLine x l
    let written (t : State) := ∀ v, s1.lineOf x l = some v → v.dirty = true →
      (∀ j (h : j < v.data.length), t.byte (64 * l + j) = v.data[j]) ∧
      ∀ b, b < 64 * l ∨ 64 * l + v.data.length ≤ b → t.byte b = s.byte b
    (m = {} → v = s1 ∧ w = s1) ∧
    (c.priv = true → v.ceased x = true →
      exec (.cacheCleanLine x fm ra m) s = .next v ∧ exec (.cacheCleanInvalidateLine x fm ra m) s = .next v) ∧
    (c.priv = true → v.ceased x = false →
      exec (.cacheCleanLine x fm ra m) s = .next (done p.1 cleaned) ∧
      exec (.cacheCleanInvalidateLine x fm ra m) s = .next (done p.1 both)) ∧
    (c.priv = true →
      exec (.cacheInvalidateLine x fm ra) s = .next (done 2 dropped) ∧
      exec (.cacheInvalidateIcache x fm ra) s = .next (s1.after x (1024 + k)
        ({ c with icache := c.icache.filter fun j => s1.inPartition x false (64 * j) }.next false)) ∧
      (w.ceased x = true → exec (.cacheCleanDcache x fm ra m) s = .next w) ∧
      (w.ceased x = false → ∃ n u, exec (.cacheCleanDcache x fm ra m) s = .next (done n u) ∧ 1024 ≤ n ∧
        (w.agrees x → gone n w (done n u) ∧ ∀ j, (done n u).lineDirty x j = false))) ∧
    (v.ceased x = false → v.agrees x →
      gone p.1 v (done p.1 cleaned) ∧ (done p.1 cleaned).lineDirty x l = false ∧ written (done p.1 cleaned) ∧
      (s1.lineDirty x l = false → p.1 = 2 ∧ (done p.1 cleaned).mem = s.mem) ∧
      (s1.lineDirty x l = true → 2 ≤ p.1 ∧ p.1 ≤ 2 + missBound (v.level x) (64 * l)) ∧
      gone p.1 v (done p.1 both) ∧ (done p.1 both).lineOf x l = none ∧ written (done p.1 both) ∧
      (s1.lineDirty x l = false → (done p.1 both).mem = s.mem)) ∧
    (s1.agrees x → gone 2 s1 (done 2 dropped) ∧ (done 2 dropped).lineOf x l = none ∧ (done 2 dropped).mem = s.mem) ∧
    (c.priv = false →
      exec (.cacheCleanLine x fm ra m) s = trap 0 ∧ exec (.cacheInvalidateLine x fm ra) s = trap 1 ∧
      exec (.cacheCleanInvalidateLine x fm ra m) s = trap 2 ∧ exec (.cacheInvalidateIcache x fm ra) s = trap 3 ∧
      exec (.cacheCleanDcache x fm ra m) s = trap 4)

/-- R155, R156: a target that runs below the tier of a pending source enters its activation: the context it leaves lies in the
frame of its home tier, and the activation begins with the registers, the mode and the tier of its source, in 36 cycles. R154,
R168, R465: a source that fires is pending with the plant time of its firing, or its firing is missed, which sets its MISSED bit
and fires source 5; clearing EN discards a pending activation, and setting it fires a level source whose condition holds. R154,
R155, R157: the source that a target starts next is pending, may start, and has the highest tier of those that may; and the saved
context that it restores next has the highest tier of those that may run. -/
def Obligations.ActivationsAndSources : Prop :=
  (∀ (x : Target) (n : Nat) (s : State),
    let c := s.ctx x
    let h := c.home.toNat
    let p := s.srcTier n
    s.awake x = true → c.running = true → s.mayRun x c.priv h = true → s.nextSource x = some n → c.tier.toNat < p → s.agrees x →
    (∀ m, s.nextSaved x = some m → m < p) →
    ∃ t, exec (.activationEntry x) s = .next t ∧
      (t.ctx x).pc = s.rd (Reg.TIC_SRC_ENTRY n) &&& 0xFFFFFFFC#32 ∧ (t.ctx x).sb = s.rd (Reg.TIC_SRC_SB n) ∧
      (t.ctx x).ib = 0 ∧ (t.ctx x).tier.toNat = p ∧ (t.ctx x).home.toNat = p ∧
      (t.ctx x).st = (if s.srcMode n then 0x100 else 0) ∧ (t.ctx x).rg 1 = BitVec.ofNat 64 n ∧
      (t.ctx x).rg 31 = 0x00FFFFFC ∧ (∀ r : GReg, r ≠ 1 → r ≠ 31 → (t.ctx x).rg r = 0) ∧ (∀ r, (t.ctx x).rf r = 0) ∧
      (t.ctx x).stack = [] ∧ (t.ctx x).cyc = c.cyc + 36 ∧ (t.ctx x).running = true ∧ bit (t.ctx x).saved h = true ∧
      (∀ v, look n s.tic = some v → (t.ctx x).latch = v) ∧
      t.frameWord x h 0x180 = c.pc ∧ t.frameWord x h 0x184 = c.st ∧ t.frameWord x h 0x188 = c.ib ∧
      t.frameWord x h 0x18C = c.sb ∧ t.frameWord x h 0x190 = c.tier.setWidth 32 ∧
      (∀ r : GReg, r ≠ 0 → t.peek (frameBase x h + 8 * r.val) 8 = (c.rg r).toNat) ∧
      (∀ r : FReg, t.peek (frameBase x h + 0x100 + 8 * r.val) 8 = (c.rf r).toNat) ∧
      t.regs = s.regs ∧ (∀ y : Nat, y ≠ x.val → t.ctx y = s.ctx y) ∧
      ∀ b, b < frameBase x h + 8 ∨ frameBase x h + 0x194 ≤ b → t.byte b = s.byte b) ∧
  (∀ (n : Fin 256) (v : W32) (s : State),
    let k := 192 + v.toNat % 64
    (s.blockOff Reg.TIC_SWTRIG = false → ∃ t, exec (.swtrig v) s = .next t ∧
      (s.srcEn k = true → s.wouldMiss k = false → look k t.tic = some s.now ∧ t.regs = s.regs) ∧
      (s.srcEn k = true → s.wouldMiss k = true → t.rdB (Reg.TIC_MISSED (k / 32)) (k % 32) = true ∧ s.fired t 5) ∧
      (s.srcEn k = false → t = s)) ∧
    (s.blockOff (Reg.TIC_SRC_CFG n) = false → ∃ t, exec (.sourceConfigWrite n v) s = .next t ∧
      t.rd (Reg.TIC_SRC_CFG n) = v &&& 0x85FF0000#32 ∧
      s.keepsRegs t [Reg.TIC_SRC_CFG n] ∧ (v.getLsbD 31 = false → look n.val t.tic = none) ∧
      (v.getLsbD 31 = true → s.levelCond n = false → t.tic = s.tic) ∧
      (v.getLsbD 31 = true → s.levelCond n = true → s.wouldMiss n = false → (s.rd (Reg.TIC_SRC_CFG n)) = v &&& 0x85FF0000#32 →
        t.isPending n = true))) ∧
  ∀ (x : Target) (s : State),
    (∀ n, s.nextSource x = some n → s.isPending n = true ∧ s.startable x n = true ∧
      ∀ m, s.isPending m = true → s.startable x m = true → s.srcTier m ≤ s.srcTier n) ∧
    (s.nextSource x = none → ∀ m, s.isPending m = true → s.startable x m = false) ∧
    (∀ h, s.nextSaved x = some h → bit (s.ctx x).saved h = true ∧ s.mayRun x (bit (s.frameWord x h 0x184) 8) h = true ∧
      ∀ k, h < k → k < 16 → ¬(bit (s.ctx x).saved k = true ∧ s.mayRun x (bit (s.frameWord x k 0x184) 8) k = true))

/-- R121 to R124: FBCALL, FBRET and FBCHK. With the guard's leave and an aligned, readable header, each INSTANCE_CHECK cause is
that of the first check that fails, with nothing changed; an access whose vote halts the triad is not made (R188); when all pass
FBCALL pushes the return address and IB and goes to the entry of the type, and FBCHK goes on. FBRET takes both back. R125, R126:
TNOW reads the activation-time latch of the current tier, and TELAP the time since ra, held at 0. -/
def Obligations.FunctionBlocks : Prop :=
  (∀ (x : Target) (fm : Meet) (ms : List Meet) (ra : GReg) (n : BitVec 12) (s s1 : State) (k : Nat), Ready x fm false s s1 k →
    let c := s1.ctx x
    let b := (c.rg ra).setWidth 32
    let e := 0x011F0000 + 16 * n.toNat
    let call := majorWord 0x28 (ra.val * 2 ^ 21 + n.toNat)
    let chk := majorWord 0x29 (ra.val * 2 ^ 21 + 2 ^ 12 + n.toNat)
    (b.toNat % 64 ≠ 0 →
      exec (.fbcall x fm ra n ms) s = .next (s1.traps x misaligned k call) ∧
      exec (.fbchk x fm ra n ms) s = .next (s1.traps x misaligned k chk)) ∧
    (b.toNat % 64 = 0 → ∀ s2, s1.stops x b.toNat (meetAt ms 0) s2 →
      exec (.fbcall x fm ra n ms) s = .next s2 ∧ exec (.fbchk x fm ra n ms) s = .next s2) ∧
    (b.toNat % 64 = 0 → ∀ (s2 s3 s4 : State) (cost : Nat) (h t : List W8), s1.passes x b.toNat (meetAt ms 0) s2 →
      s2.opens x b.toNat 16 1 → s2.answers x b.toNat 16 (meetAt ms 0) s3 cost h →
      s3.finds x e (meetAt ms 1).read = (true, s4) → s4.ceased x = false → s3.memLoad (some x) e 16 = some t →
      let valid := wordAt t 12 4 = 1
      let typed := wordAt h 0 4 = wordAt t 4 4 ∧ wordAt h 4 4 = wordAt t 8 4
      let sound := wordAt h 12 4 = 2 ^ 32 - 1 - (wordAt h 0 4 ^^^ wordAt h 4 4 ^^^ b.toNat)
      let fails (code : Nat) :=
        exec (.fbcall x fm ra n ms) s = .next (s4.traps x (instanceCheck code (cost + 7)) k call) ∧
        exec (.fbchk x fm ra n ms) s = .next (s4.traps x (instanceCheck code (cost + 5)) k chk)
      let u := s4.ctx x
      (¬valid → fails 1) ∧ (valid → ¬typed → fails 2) ∧ (valid → typed → ¬sound → fails 3) ∧
      (valid → typed → sound →
        exec (.fbchk x fm ra n ms) s = .next (s4.ended x (cost + 5 + k) (u.next false)) ∧
        (16 ≤ u.stack.length → exec (.fbcall x fm ra n ms) s = .next (s4.traps x (instanceCheck 8 (cost + 7)) k call)) ∧
        (u.stack.length < 16 → exec (.fbcall x fm ra n ms) s = .next (s4.ended x (cost + 7 + k)
          { { u.putStack ((u.pc + 4, u.ib) :: u.stack) with ib := b }.fold 49 (b.setWidth 64) with
            pc := BitVec.ofNat 32 (wordAt t 0 4) &&& 0xFFFFFFFC#32 })))) ∧
    (c.stack = [] → exec (.fbret x fm) s = .next (s1.traps x (instanceCheck 5 4) k (majorWord 0x29 0))) ∧
    (∀ pc ib l, c.stack = (pc, ib) :: l →
      exec (.fbret x fm) s = .next (s1.ended x (4 + k) { { c.putStack l with ib := ib }.fold 49 (ib.setWidth 64) with pc := pc }))) ∧
  ∀ (x : Target) (fm : Meet) (rd ra : GReg) (s s1 : State) (k : Nat), Ready x fm false s s1 k →
    let c := s1.ctx x
    let d := c.latch - c.rg ra
    exec (.tnow x fm rd) s = .next (s1.after x (2 + k) ((c.wg rd c.latch).next false)) ∧
    exec (.telap x fm rd ra) s = .next (s1.after x (2 + k) ((c.wg rd (if d.slt 0 then 0 else d)).next false))

/-- R127, R128, R130 to R133: a cell instruction whose cell has its tag and its kind reads the cell, writes it back once, and
leaves its result in rd; an access whose vote halts the triad is not made (R188); a cell of another tag or kind is INSTANCE_CHECK
with cause 4 at the full cost; an index that names the header is ILLEGAL_INSTRUCTION. What a timer makes of its cell is
Timer.step, which TimersOverTime describes. R130: a timer whose input changes at t0 and stays, executed at any later instants up
to `last`. TON is true from PT on; TOF is true until PT after the input has gone; TP is true for PT, whatever its input does then;
and ET is the elapsed time, at most PT. -/
def Obligations.CellInstructions : Prop :=
  (∀ (x : Target) (fm : Meet) (kind : Fin 3) (rd rin rp : GReg) (i9 : BitVec 9) (i14 : BitVec 14) (ms : List Meet) (s s1 : State)
    (k : Nat), Ready x fm false s s1 k →
    let c := s1.ctx x
    let tmr := if kind.val = 0 then Instr.ton x fm rd rin rp i9 ms else if kind.val = 1 then .tof x fm rd rin rp i9 ms else .tp x fm rd rin rp i9 ms
    let ctr := if kind.val = 0 then Instr.ctu x fm rd rin rp i9 ms else if kind.val = 1 then .ctd x fm rd rin rp i9 ms else .ctud x fm rd rin rp i9 ms
    let edge := if kind.val = 0 then Instr.edgeRising x fm rd rin i14 ms
      else if kind.val = 1 then .edgeFalling x fm rd rin i14 ms else .edgeBoth x fm rd rin i14 ms
    let wt := majorWord 0x2A (rd.val * 2 ^ 21 + rin.val * 2 ^ 16 + (rp.val * 2 ^ 11 + kind.val * 2 ^ 9 + i9.toNat))
    let wc := majorWord 0x2C (rd.val * 2 ^ 21 + rin.val * 2 ^ 16 + (rp.val * 2 ^ 11 + kind.val * 2 ^ 9 + i9.toNat))
    let we := majorWord 0x2D (rd.val * 2 ^ 21 + rin.val * 2 ^ 16 + (kind.val * 2 ^ 14 + i14.toNat))
    let cell (i : Instr) (w : W32) (n index so tag cost : Nat) (make : List W8 → List W8 × W64) : Prop :=
      let a := (c.ib.toNat + index * n) % 2 ^ 32
      (a % n ≠ 0 → exec i s = .next (s1.traps x misaligned k w)) ∧
      (a % n = 0 → ∀ s2, s1.stops x a (meetAt ms 0) s2 → exec i s = .next s2) ∧
      (a % n = 0 → ∀ (s2 s3 : State) (rc : Nat) (d : List W8), s1.passes x a (meetAt ms 0) s2 → s2.opens x a n 3 →
        s2.answers x a n (meetAt ms 0) s3 rc d →
        let sound := wordAt d so 4 / 2 ^ 16 = tag ∧ wordAt d so 4 / 2 ^ 8 % 4 = kind.val
        (¬sound → exec i s = .next (s3.traps x (instanceCheck 4 (2 * rc + cost)) k w)) ∧
        (sound → ∀ (s4 s5 : State) (wc : Nat), s3.passes x a (meetAt ms 1) s4 →
          s4.stores x a (make d).1 (meetAt ms 1) s5 wc →
          exec i s = .next (s5.ended x (rc + wc + cost + k) (((s5.ctx x).wg rd (make d).2).next false))))
    (i9 = 0 → exec tmr s = .next (s1.traps x illegal k wt) ∧ exec ctr s = .next (s1.traps x illegal k wc)) ∧
    (i14.toNat < 4 → exec edge s = .next (s1.traps x illegal k we)) ∧
    (i9 ≠ 0 → cell tmr wt 32 i9.toNat 16 0x544D 6 fun d =>
      let t := (timerOf d).step kind.val c.latch ((c.rg rin).getLsbD 0) (c.rg rp).toNat
      (t.cell d, if t.q then 1 else 0)) ∧
    (i9 ≠ 0 → cell ctr wc 16 i9.toNat 4 0x4354 4 fun d =>
      let st := wordAt d 4 4
      let cv := sextN 32 (wordAt d 0 4)
      let pv := sextN 32 (c.rg rp).toNat
      let cu := (c.rg rin).getLsbD 0
      let cd := (c.rg rin).getLsbD 1
      let up := cu && !st.testBit 0
      let dn := cd && !st.testBit 1
      let inc := min (cv + 1) 2147483647
      let dec := max (cv - 1) (-2147483648)
      let v := if kind.val ≠ 1 ∧ (c.rg rin).getLsbD 2 = true then 0
        else if kind.val ≠ 0 ∧ (c.rg rin).getLsbD 3 = true then pv
        else if kind.val = 0 then if up then inc else cv
        else if kind.val = 1 then if dn then dec else cv
        else if up && !dn then inc else if dn && !up then dec else cv
      let qu := kind.val ≠ 1 && decide (pv ≤ v)
      let qd := kind.val ≠ 0 && decide (v ≤ 0)
      (toBytes 4 (v % 2 ^ 32).toNat ++
        toBytes 4 (st / 16 * 16 + b2n cu + 2 * b2n cd + 4 * b2n qu + 8 * b2n qd) ++ d.drop 8,
       BitVec.ofNat 64 (b2n qu + 2 * b2n qd))) ∧
    (4 ≤ i14.toNat → cell edge we 4 i14.toNat 0 0x4547 3 fun d =>
      let st := wordAt d 0 4
      let i := (c.rg rin).getLsbD 0
      let seen := if kind.val = 0 then i && !st.testBit 0 else if kind.val = 1 then !i && st.testBit 0 else i != st.testBit 0
      (toBytes 4 (st / 2 * 2 + b2n i), if seen then 1 else 0))) ∧
  ∀ (t : Timer) (t0 last : W64) (pt : Nat) (ts : List (W64 × Bool)),
    (t0 :: ts.map Prod.fst ++ [last]).Pairwise (fun a b => elapsed a t0 ≤ elapsed b t0) →
    let run (kind : Nat) (inp : Bool) (u : Timer) :=
      (ts.map Prod.fst ++ [last]).foldl (fun u now => u.step kind now inp pt) u
    let e := elapsed last t0
    (t.inp = false →
      (run 0 true (t.step 0 t0 true pt)).q = decide (pt ≤ e) ∧ (run 0 true (t.step 0 t0 true pt)).et = min pt e) ∧
    (t.inp = true →
      (run 1 false (t.step 1 t0 false pt)).q = decide (e < pt) ∧ (run 1 false (t.step 1 t0 false pt)).et = min pt e) ∧
    (t.inp = false → t.run = false → e < pt →
      ((ts ++ [(last, false)]).foldl (fun u p => u.step 2 p.1 p.2 pt) (t.step 2 t0 true pt)).q = true ∧
      ((ts ++ [(last, false)]).foldl (fun u p => u.step 2 p.1 p.2 pt) (t.step 2 t0 true pt)).et = e) ∧
    (t.inp = false → t.run = false →
      (run 2 true (t.step 2 t0 true pt)).q = decide (e < pt) ∧ (run 2 true (t.step 2 t0 true pt)).et = min pt e)

/-- R136, R137: one step of BMOV. A count of zero ends it; addresses or a count that are no multiples of the unit raise ALIGNMENT;
otherwise one unit is copied, or filled from ra, the addresses move on and the count falls, and PC stays; an access whose vote
halts the triad is not made (R188). The order in which registers named twice move is the model's reading. -/
def Obligations.BlockMoves : Prop :=
  ∀ (x : Target) (fm : Meet) (l : Bool) (rd ra rb : GReg) (ms : List Meet) (m : Meet) (s s1 : State) (k : Nat),
    Ready x fm false s s1 k →
    let c := s1.ctx x
    let u := if l then 64 else 8
    let dst := ((c.rg rd).setWidth 32).toNat
    let src := ((c.rg ra).setWidth 32).toNat
    let w (fill : Bool) := majorWord 0x30 (rd.val * 2 ^ 21 + ra.val * 2 ^ 16 + rb.val * 2 ^ 11 + (b2n l * 2 ^ 10 + b2n fill * 2 ^ 9))
    let odd := dst % u ≠ 0 ∨ (c.rg rb).toNat % u ≠ 0
    (c.rg rb = 0 →
      exec (.bmovCopyStep x fm l rd ra rb ms) s = .next (s1.after x (2 + k) (c.next false)) ∧
      exec (.bmovFillStep x fm l rd ra rb m) s = .next (s1.after x (2 + k) (c.next false))) ∧
    (c.rg rb ≠ 0 → odd →
      exec (.bmovCopyStep x fm l rd ra rb ms) s = .next (s1.traps x misaligned k (w false)) ∧
      exec (.bmovFillStep x fm l rd ra rb m) s = .next (s1.traps x misaligned k (w true))) ∧
    (c.rg rb ≠ 0 → src % u ≠ 0 → exec (.bmovCopyStep x fm l rd ra rb ms) s = .next (s1.traps x misaligned k (w false))) ∧
    (c.rg rb ≠ 0 → ¬odd → src % u = 0 → ∀ (s2 s3 s4 s5 : State) (rc wc : Nat) (d : List W8),
      s1.passes x src (meetAt ms 0) s2 → s2.opens x dst u 2 → s2.opens x src u 1 →
      s2.answers x src u (meetAt ms 0) s3 rc d → s3.passes x dst (meetAt ms 1) s4 →
      s4.stores x dst d (meetAt ms 1) s5 wc →
      let e := s5.ctx x
      let e1 := e.wg rd (e.rg rd + BitVec.ofNat 64 u)
      let e2 := e1.wg ra (e1.rg ra + BitVec.ofNat 64 u)
      exec (.bmovCopyStep x fm l rd ra rb ms) s =
        .next (s5.ended x (rc + wc + k) (e2.wg rb (e2.rg rb - BitVec.ofNat 64 u)))) ∧
    (c.rg rb ≠ 0 → ¬odd → ∀ (s2 s3 : State) (wc : Nat), s1.opens x dst u 2 → s1.passes x dst m s2 →
      s2.stores x dst ((List.replicate (u / 8) (toBytes 8 (c.rg ra).toNat)).flatten) m s3 wc →
      let e := s3.ctx x
      let e1 := e.wg rd (e.rg rd + BitVec.ofNat 64 u)
      exec (.bmovFillStep x fm l rd ra rb m) s = .next (s3.ended x (wc + k) (e1.wg rb (e1.rg rb - BitVec.ofNat 64 u)))) ∧
    (c.rg rb ≠ 0 → ¬odd → ∀ s2,
      (src % u = 0 → s1.stops x src (meetAt ms 0) s2 → exec (.bmovCopyStep x fm l rd ra rb ms) s = .next s2) ∧
      (s1.opens x dst u 2 → s1.stops x dst m s2 → exec (.bmovFillStep x fm l rd ra rb m) s = .next s2))

/-- R138 to R140: the steps of MIGR. The end entry completes it and, while the change is migrating, sets MDONE of its triad; an
entry whose operations are done gets its new header; a step of an operation puts one unit into the new instance; and U mode may
run none of them. The copies of each access are compared first (R188). R139: what CVT makes of an element under each PARAM: the
sign extensions and zero extensions, and the conversions between integers and floats, which are exact but for a binary64 that goes
to binary32. -/
def Obligations.Migration : Prop :=
  (∀ (x : Target) (fm : Meet) (rd ra rb : GReg) (ms : List Meet) (s s1 : State) (k : Nat), Ready x fm false s s1 k →
    let c := s1.ctx x
    let ea := ((c.rg ra).setWidth 32).toNat
    let w := majorWord 0x32 (rd.val * 2 ^ 21 + ra.val * 2 ^ 16 + rb.val * 2 ^ 11)
    ∀ (s2 s3 : State) (cost : Nat) (d : List W8), s.memLoad (some x) ea 16 = some d →
    let e := migEntry d
    let ends := e.new = 0 ∧ e.ops = 0
    let more := (c.rg rb).toNat < e.ops
    (c.priv = false →
      (ends → exec (.migrEndStep x fm rd ra rb ms) s = .next (s1.traps x privileged k w)) ∧
      (¬ends → more → exec (.migrOperationStep x fm rd ra rb ms) s = .next (s1.traps x privileged k w)) ∧
      (¬ends → ¬more → exec (.migrHeaderStep x fm rd ra rb ms) s = .next (s1.traps x privileged k w))) ∧
    (c.priv = true → ea % 16 = 0 → s1.stops x ea (meetAt ms 0) s2 →
      (ends → exec (.migrEndStep x fm rd ra rb ms) s = .next s2) ∧
      (¬ends → more → exec (.migrOperationStep x fm rd ra rb ms) s = .next s2) ∧
      (¬ends → ¬more → exec (.migrHeaderStep x fm rd ra rb ms) s = .next s2)) ∧
    (c.priv = true → ea % 16 = 0 → s1.passes x ea (meetAt ms 0) s2 → s2.migOpens x ea 16 1 →
      s2.answers x ea 16 (meetAt ms 0) s3 cost d →
      (ends → exec (.migrEndStep x fm rd ra rb ms) s =
        .next ((if x.val < 4 ∧ s3.chgState = 4 then s3.wrB Reg.SCN_CHG_STAT (24 + x.val) true else s3).ended x (2 + cost + k)
          ((s3.ctx x).next false))) ∧
      (¬ends → ¬more → e.ok = true → c.rg rb = BitVec.ofNat 64 e.ops → s3.migOpens x e.new 16 2 →
        ∀ (s4 s5 : State) (wc : Nat), s3.passes x e.new (meetAt ms 4) s4 →
        s4.stores x e.new (toBytes 4 e.ty ++ toBytes 4 e.size ++ toBytes 4 1 ++
          toBytes 4 (2 ^ 32 - 1 - (e.ty ^^^ e.size ^^^ e.new))) (meetAt ms 4) s5 wc →
        let f := s5.ctx x
        exec (.migrHeaderStep x fm rd ra rb ms) s = .next (s5.ended x (2 + cost + wc + k)
          (((f.wg ra (f.rg ra + BitVec.ofNat 64 (16 * (1 + e.ops)))).wg rb 0).wg rd 0))) ∧
      (¬ends → more →
        let oa := (ea + 16 + 16 * (c.rg rb).toNat) % 2 ^ 32
        ∀ (s4 s5 : State) (oc : Nat) (d2 : List W8), s3.passes x oa (meetAt ms 1) s4 → s4.migOpens x oa 16 1 →
        s4.answers x oa 16 (meetAt ms 1) s5 oc d2 →
        let o := migOp d2
        let prog := (c.rg rd).toNat
        let u := o.unit e prog
        let moved (f : Ctx) :=
          if o.count ≤ prog + u.step then (f.wg rb (f.rg rb + 1)).wg rd 0 else f.wg rd (BitVec.ofNat 64 (prog + u.step))
        e.ok = true → o.ok = true → prog < o.count →
        (¬((c.rg rb).toNat = 0 ∧ prog = 0) → o.reads = false → o.inside e.size none = true → s5.migOpens x u.da u.dn 2 →
          ∀ (s6 s7 : State) (wc : Nat), s5.passes x u.da (meetAt ms 4) s6 →
          s6.stores x u.da (if o.op = 1 then List.replicate u.dn 0 else toBytes u.dn (o.src + o.chi * 2 ^ 32)) (meetAt ms 4) s7
            wc →
          exec (.migrOperationStep x fm rd ra rb ms) s = .next (s7.ended x (2 + cost + oc + wc + k) (moved (s7.ctx x)))) ∧
        (o.reads = true →
          ∀ (s6 s7 s8 : State) (hc : Nat) (b : List W8), s5.passes x e.old (meetAt ms 2) s6 → s6.migOpens x e.old 16 1 →
          s6.answers x e.old 16 (meetAt ms 2) s7 hc b → o.inside e.size (some (wordAt b 4 4)) = true →
          ((c.rg rb).toNat = 0 ∧ prog = 0 → wordAt b 12 4 = 2 ^ 32 - 1 - (wordAt b 0 4 ^^^ wordAt b 4 4 ^^^ e.old)) →
          s7.passes x u.sa (meetAt ms 3) s8 → s8.migOpens x u.sa u.sn 1 → s8.migOpens x u.da u.dn 2 →
          let v := s8.spanLoad x u.sa u.sn (meetAt ms 3)
          ∀ m, v.data = some m → v.s.ceased x = false → (o.op = 4 → cellCopies o.param m = true) →
          ∀ (s9 s10 : State) (wc : Nat), v.s.passes x u.da (meetAt ms 4) s9 →
          s9.stores x u.da (if o.op = 3 then toBytes u.dn (convertElement o.param (ofBytes m)) else m) (meetAt ms 4) s10 wc →
          exec (.migrOperationStep x fm rd ra rb ms) s =
            .next (s10.ended x (2 + cost + oc + hc + v.cost + o.extra + wc + k) (moved (s10.ctx x))))))) ∧
  ∀ v : Nat,
    (v < 2 ^ 8 → BitVec.ofNat 16 (convertElement 0 v) = (BitVec.ofNat 8 v).signExtend 16 ∧ convertElement 3 v = v) ∧
    (v < 2 ^ 16 → BitVec.ofNat 32 (convertElement 1 v) = (BitVec.ofNat 16 v).signExtend 32 ∧ convertElement 4 v = v) ∧
    (v < 2 ^ 32 → BitVec.ofNat 64 (convertElement 2 v) = (BitVec.ofNat 32 v).signExtend 64 ∧ convertElement 5 v = v) ∧
    (v < 2 ^ 32 → (binary32.read v).isNan = false → (binary32.convert binary64 0 v).nx = false ∧
      convertElement 6 v = (binary32.convert binary64 0 v).r) ∧
    convertElement 7 v = (binary64.convert binary32 0 v).r ∧
    (v < 2 ^ 32 → (binary64.ofInt 32 false 0 v).nx = false ∧ convertElement 8 v = (binary64.ofInt 32 false 0 v).r) ∧
    (v < 2 ^ 16 → (binary32.ofInt 16 false 0 v).nx = false ∧ convertElement 9 v = (binary32.ofInt 16 false 0 v).r)

/-- R141: each atomic operation reads the working store, writes what it makes of the old value and g[rb], and leaves the old value
in rd; CAS writes g[rb] where the old value equals g[rd], and Z says whether it did. Elsewhere it is BUS_ERROR, and ALIGNMENT at
an address that is no multiple of its width. The guard checks it as a store. The copies of the access are voted (R188), and a read
that finds an uncorrectable error is BUS_ERROR (R75). -/
def Obligations.AtomicOperations : Prop :=
  ∀ (x : Target) (fm : Meet) (d : Bool) (rd ra rb : GReg) (m : Meet) (s s1 : State) (k : Nat), Ready x fm false s s1 k →
    let c := s1.ctx x
    let a := ((c.rg ra).setWidth 32).toNat
    let n := if d then 8 else 4
    let s2 := s1.meeting (s1.compared x a) x a m
    let r := s2.coreRead x a n false m
    let word (op : Nat) := majorWord 0x33 (rd.val * 2 ^ 21 + ra.val * 2 ^ 16 + rb.val * 2 ^ 11 + (b2n d * 2 ^ 10 + op * 2 ^ 6))
    let ops : List (Instr × ((w : Nat) → BitVec w → BitVec w → BitVec w)) :=
      [(.amoSwap x fm d rd ra rb m, fun _ _ b => b), (.amoAdd x fm d rd ra rb m, fun _ a b => a + b),
       (.amoAnd x fm d rd ra rb m, fun _ a b => a &&& b), (.amoOr x fm d rd ra rb m, fun _ a b => a ||| b),
       (.amoXor x fm d rd ra rb m, fun _ a b => a ^^^ b), (.amoMin x fm d rd ra rb m, fun _ a b => if a.sle b then a else b),
       (.amoMax x fm d rd ra rb m, fun _ a b => if a.sle b then b else a),
       (.amoMinu x fm d rd ra rb m, fun _ a b => if a.ule b then a else b),
       (.amoMaxu x fm d rd ra rb m, fun _ a b => if a.ule b then b else a)]
    let all (t : Nat → State) : Prop :=
      (∀ j (h : j < ops.length), exec ops[j].1 s = .next (t j)) ∧ exec (.amoCas x fm d rd ra rb m) s = .next (t 9)
    (m = {} → s2 = s1 ∧ r = s1.coreLoad x a n false) ∧
    (a % n ≠ 0 → all fun j => s1.traps x misaligned k (word j)) ∧
    (a % n = 0 → s2.ceased x = true → all fun _ => s2) ∧
    (a % n = 0 → s2.ceased x = false → ∀ b, s2.guardCheck (s2.targetMaster x) (s2.ctx x).priv a n 2 = some b →
      all fun j => (s2.guardRefused (s2.targetMaster x) 2 b).traps x (refusedTrap 2 b) k (word j)) ∧
    (a % n = 0 → s2.ceased x = false → s2.opens x a n 2 → inWS a = false →
      let p := s2.accessCost x a true
      all fun j => p.2.traps x (s2.busTrap x 2 a (p.1 + 2)) k (word j)) ∧
    (a % n = 0 → s2.ceased x = false → s2.opens x a n 2 → inWS a = true →
      (r.s.ceased x = true → all fun _ => r.s) ∧
      (r.s.ceased x = false → r.data = none → all fun j => r.s.traps x (s2.busTrap x 2 a (2 * r.cost + 2)) k (word j)) ∧
      (r.s.ceased x = false → ∀ b, r.data = some b →
        let old : W64 := BitVec.ofNat 64 (ofBytes b)
        let ret := atWidth d (fun _ a _ => a) old 0
        (∀ p ∈ ops,
          let q := r.s.coreStore x a (toBytes n (atWidth d p.2 old (c.rg rb)).toNat) false
          q.data ≠ none → exec p.1 s = .next (q.s.ended x (r.cost + q.cost + 2 + k) (((q.s.ctx x).wg rd ret).next false))) ∧
        (flagAt d (fun _ a b => a == b) old (c.rg rd) = true →
          let q := r.s.coreStore x a (toBytes n (c.rg rb).toNat) false
          q.data ≠ none → exec (.amoCas x fm d rd ra rb m) s = .next (q.s.ended x (r.cost + q.cost + 2 + k)
            ((((q.s.ctx x).wst (setB (q.s.ctx x).st 30)).wg rd ret).next false))) ∧
        (flagAt d (fun _ a b => a == b) old (c.rg rd) = false →
          let p := r.s.accessCost x a true
          exec (.amoCas x fm d rd ra rb m) s = .next (p.2.ended x (r.cost + p.1 + 2 + k)
            ((((p.2.ctx x).wst (clrB (p.2.ctx x).st 30)).wg rd ret).next false)))))

/-- R341 to R345: the commands of the time base. EPOCH_ADV without WRAP_PENDING and SET while the grid runs are ignored with
CMD_ERR; a value of INC outside its range is ignored with RATE_RANGE; a step beyond the limit is refused with STEP_ERR. R341,
R342, R343: NS wraps with WRAP_PENDING set and EPOCH unchanged, and extended time still rises; a wrap that software has not taken
in by the middle of the range is taken in by the module, with EPOCH_LATE; and the reads that capture. R342: extended time read at
any NS, EPOCH and WRAP_PENDING is EPOCH and NS, with EPOCH one more when a wrap is pending and NS lies in its lower half. R345,
R214: a pending step is applied outside the phases of the grid when no wrap is pending: NS and EPOCH move together by the step, an
alarm that the step has passed fires with LATE, and a backward step holds the grid. R347: a write of an alarm's control and the
firing of an alarm. A periodic alarm with a period below 1,000 ns is not armed; an alarm that fires sets FIRED, and clears EN or
takes its next target after the present time. -/
def Obligations.TimeBaseAndAlarms : Prop :=
  (∀ (v : W32) (s : State),
    let inRange := 0x07FDF3B6 ≤ v.toNat ∧ v.toNat ≤ 0x08020C4A
    let step := s.rd64 Reg.TIME_STEP_LO Reg.TIME_STEP_HI
    let fits := step.toInt.natAbs ≤ (s.rd Reg.TIME_STEP_LIMIT).toNat
    (s.time.wrapPending = true →
      exec .epochAdv s = .next { s with time := { s.time with epoch := s.time.epoch + 1, wrapPending := false } }) ∧
    (s.time.wrapPending = false → ∃ t, exec .epochAdv s = .next t ∧ t.time = s.time ∧ t.rdB Reg.TIME_CTRL 11 = true ∧
      s.keepsRegs t [Reg.TIME_CTRL]) ∧
    (inRange → ∃ t, exec (.incWrite v) s = .next t ∧ t.rd Reg.TIME_INC = v ∧ t.time = s.time ∧ s.keepsRegs t [Reg.TIME_INC]) ∧
    (¬inRange → ∃ t, exec (.incWrite v) s = .next t ∧ t.rdB Reg.TIME_EVT 3 = true ∧ t.time = s.time ∧
      s.keepsRegs t [Reg.TIME_EVT]) ∧
    (s.run = false → ∃ t, exec .timeSet s = .next t ∧ t.now = s.rd64 Reg.TIME_SET_LO Reg.TIME_SET_HI ∧ t.time.frac = 0 ∧
      t.time.wrapPending = false ∧ t.rdB Reg.TIME_EVT 2 = true ∧ t.start.timeKnown = true) ∧
    (s.run = true → ∃ t, exec .timeSet s = .next t ∧ t.time = s.time ∧ t.rdB Reg.TIME_CTRL 11 = true ∧
      s.keepsRegs t [Reg.TIME_CTRL]) ∧
    (s.time.step = none → fits → exec .timeStep s = .next { s with time := { s.time with step := some step } }) ∧
    (s.time.step = none → ¬fits → ∃ t, exec .timeStep s = .next t ∧ t.time = s.time ∧ t.rdB Reg.TIME_EVT 8 = true) ∧
    (s.time.step ≠ none → ∃ t, exec .timeStep s = .next t ∧ t.time = s.time ∧ t.rdB Reg.TIME_CTRL 11 = true) ∧
    exec .stepCancel s = .next { s with time := { s.time with step := none } }) ∧
  (∀ s : State,
    (s.time.wrapPending = false → s.inc ≠ 0 → ∃ t, exec .nsWrap s = .next t ∧ t.time.wrapPending = true ∧
      t.time.epoch = s.time.epoch ∧ t.time.fix < s.inc ∧ t.rdB Reg.TIME_EVT 0 = true ∧
      (s.time.epoch ≠ BitVec.allOnes 32 → s.now.toNat < t.now.toNat)) ∧
    (s.time.wrapPending = true → exec .nsWrap s = .next s) ∧
    (s.time.wrapPending = true → s.inc ≠ 0 → ∃ t, exec .epochLate s = .next t ∧ t.time.wrapPending = false ∧
      t.time.epoch = s.time.epoch + 1 ∧ 2 ^ 55 ≤ t.time.fix ∧ t.rdB Reg.TIME_EVT 9 = true) ∧
    (∃ t, exec .nsRead s = .next t ∧ t.resp = { data := s.time.ns.setWidth 64, err := false } ∧
      t.rd Reg.TIME_RAW_EP = s.time.epoch ∧ t.rd Reg.TIME_RAW_WP = (if s.time.wrapPending then 1 else 0) ∧
      s.keepsRegs t [Reg.TIME_RAW_EP, Reg.TIME_RAW_WP]) ∧
    (∃ t, exec .nowLoRead s = .next t ∧ t.resp = { data := (s.now.setWidth 32).setWidth 64, err := false } ∧
      t.rd Reg.TIME_NOW_HI ++ t.resp.data.setWidth 32 = s.now ∧ s.keepsRegs t [Reg.TIME_NOW_HI])) ∧
  (∀ (ns ep : W32) (wp : Bool),
    (combine ns ep wp).toNat =
      (if wp = true ∧ ns.toNat < 2 ^ 31 then (ep.toNat + 1) % 2 ^ 32 else ep.toNat) * 2 ^ 32 + ns.toNat) ∧
  (∀ (when v : W64) (s : State),
    let s1 := s.atTime when
    let after := s1.now + v
    (s1.time.step = some v → s1.time.wrapPending = false → s1.inPhase s1.now.toNat = false →
      ∃ t, exec (.stepApply when) s = .next t ∧ t.now = after ∧ t.time.step = none ∧ t.rdB Reg.TIME_EVT 1 = true ∧
        (∀ a < 3, s1.rdB (Reg.TIME_ALM_CTRL a) 31 = true → s1.now.toNat < s1.alarmAt a → s1.alarmAt a ≤ after.toNat →
          t.rdB (Reg.TIME_ALM_CTRL a) 28 = true ∧ t.rdB (Reg.TIME_ALM_CTRL a) 29 = true) ∧
        (s1.run = true → after.toNat < s1.now.toNat →
          t.grid.held = true ∧ t.rdB Reg.SCN_GRIDSTAT 30 = true)) ∧
    (s1.time.step = none ∨ s1.time.wrapPending = true ∨ s1.inPhase s1.now.toNat = true → exec (.stepApply when) s = .next s1)) ∧
  ∀ (a : Fin 3) (v : W32) (when : W64) (s : State),
    let ctl := Reg.TIME_ALM_CTRL a.val
    let short := v.getLsbD 31 = true ∧ v.getLsbD 30 = true ∧ (s.rd (Reg.TIME_ALM_PER a.val)).toNat < 1000
    let s1 := s.atTime when
    let due := s1.rdB ctl 31 = true ∧ s1.alarmAt a.val ≤ s1.now.toNat
    (short → ∃ t, exec (.alarmArm a v) s = .next t ∧ t.rdB ctl 31 = s.rdB ctl 31 ∧ t.rdB Reg.TIME_CTRL 11 = true ∧
      s.keepsRegs t [ctl, Reg.TIME_CTRL]) ∧
    (¬short → ∃ t, exec (.alarmArm a v) s = .next t ∧ t.rdB ctl 31 = v.getLsbD 31 ∧ t.rdB ctl 30 = v.getLsbD 30 ∧
      t.rdB ctl 29 = (s.rdB ctl 29 && !v.getLsbD 29) ∧ t.rdB ctl 28 = (s.rdB ctl 28 && !v.getLsbD 28) ∧ s.keepsRegs t [ctl]) ∧
    (due → ∃ t, exec (.alarmFire a when) s = .next t ∧ t.rdB ctl 29 = true ∧ s1.fired t (28 + a.val) ∧
      (s1.rdB ctl 30 = false → t.rdB ctl 31 = false ∧ t.alarmAt a.val = s1.alarmAt a.val) ∧
      (s1.rdB ctl 30 = true → t.rdB ctl 31 = true ∧
        let per := max 1 (s1.rd (Reg.TIME_ALM_PER a.val)).toNat
        (s1.rd (Reg.TIME_ALM_PER a.val) ≠ 0 → s1.now.toNat + per < 2 ^ 64 →
          s1.now.toNat < t.alarmAt a.val ∧ t.alarmAt a.val ≤ s1.now.toNat + per ∧
            t.alarmAt a.val % per = s1.alarmAt a.val % per))) ∧
    (¬due → exec (.alarmFire a when) s = .next s1)

/-- R32, R394, R399: when main-valid deasserts, the claim and every slice are released, the snapshot of RTC and plant time is
latched, the counters are saved, the lockout begins, and only Hearth and MRAM keep their contents. R31, R400, R428: when main-
valid asserts, PWRCYC counts and a power-on reset leaves T0 alone running, at PC 0 in S mode at tier 15; a gap that began at the
snapshot is the number of RTC pulses since, as the RTC counts them, with RP set. R21, R25, R30, R31, R36, R37, R51: the logic
feeds, the loss of one of which is recorded, the thermal warning, and the presence loop, whose opening releases the claim and the
slices, and takes an Active module out of its role. R44 to R46: what the feeds of a connector and the draw of a group do to the
status of its groups and to their channels. A shed takes the highest-numbered digital output that is not shed. A lost combined
feed turns the stage of a current output off, and SUPPLY stays until the energy has been back for 10 ms (FAULT_CLEAR, R254). -/
def Obligations.PowerAndFeeds : Prop :=
  (∀ (pulses : W32) (a b : W16) (lost : Fin 256) (s : State),
    (s.power.mainValid = false → exec (.mainValidDeassert pulses a b lost) s = .next s) ∧
    (s.power.mainValid = true → ∃ t, exec (.mainValidDeassert pulses a b lost) s = .next t ∧
      let k := (s.rtcRun pulses.toNat).backup
      t.power.mainValid = false ∧ t.pair.claim = false ∧ t.pair.drive = .highZ ∧ t.pair.role = .unassigned ∧
      t.backup.lockout = true ∧ t.backup.onCell = true ∧ t.rd Reg.BKD_LOSS_SEC_LO = k.sec.setWidth 32 ∧
      t.rdF Reg.BKD_LOSS_SEC_HI 0 16 = k.sec.toNat / 2 ^ 32 ∧ t.rdF Reg.BKD_LOSS_SEC_HI 16 15 = k.sub.toNat ∧
      t.rdB Reg.BKD_LOSS_SEC_HI 31 = true ∧ t.rd64 Reg.BKD_LOSS_PT_LO Reg.BKD_LOSS_PT_HI = s.now ∧
      t.backup.savedOpsec = k.opsec ∧ t.backup.savedPwrcyc = k.pwrcyc ∧ (∀ x, t.canRun x = false) ∧
      ∀ i, t.byte i = if i < 0x40000 ∨ 0x40000000 ≤ i ∧ i < 0x43C00000 then s.byte i else 0)) ∧
  (∀ (pulses : BitVec 48) (s : State), s.power.mainValid = false →
    ∃ t, exec (.mainValidAssert pulses) s = .next t ∧ t.power.mainValid = true ∧ t.pair.role = .unassigned ∧
      t.pair.claim = false ∧ t.pair.drive = .highZ ∧ t.ctx 0 = { running := true } ∧ (∀ x, x ≠ 0 → t.ctx x = {}) ∧
      t.tic = [] ∧ t.rd Reg.SYS_RESET_CAUSE = (if s.backup.stopped then 9 else 1) ∧ t.backup.lockout = true ∧
        t.backup.onCell = false ∧
      (∀ i, t.byte i = if i < 0x40000 ∨ 0x40000000 ≤ i ∧ i < 0x43C00000 then s.byte i else 0) ∧
      (s.backup.stopped = false → s.backup.pwrcyc ≠ BitVec.allOnes 32 → t.backup.pwrcyc = s.backup.pwrcyc + 1) ∧
      (s.backup.stopped = false → s.rdB Reg.BKD_STAT 29 = false → s.rdB Reg.BKD_LOSS_SEC_HI 31 = true →
        s.rdF Reg.BKD_LOSS_SEC_HI 0 16 * 2 ^ 32 + (s.rd Reg.BKD_LOSS_SEC_LO).toNat = s.backup.sec.toNat →
        s.rdF Reg.BKD_LOSS_SEC_HI 16 15 = s.backup.sub.toNat → s.backup.sec.toNat + 2 * pulses.toNat + 255 < 2 ^ 48 →
        let gap := s.backup.counted pulses.toNat - (s.backup.sec.toNat * 32768 + s.backup.sub.toNat)
        t.rdB Reg.BKD_STAT 28 = true ∧ t.rd Reg.BKD_GAP_LO = BitVec.ofNat 32 gap ∧
        t.rdF Reg.BKD_GAP_HI 0 16 = gap / 2 ^ 32 % 2 ^ 16 ∧ (s.backup.trim = 0 → gap = pulses.toNat))) ∧
  (∀ (f : Feed) (pos : BitVec 2) (peer : Bool) (s : State),
    let p := s.power
    (p.mainValid = true → ∃ t, exec (.feedLost f) s = .next t ∧
      t.power = (if f = .pa then { p with paLost := true } else { p with pbLost := true }) ∧ t.pair = s.pair ∧ t.mem = s.mem ∧
      t.cores = s.cores ∧ (s.recorder.closed = false → s.recorder.queue.length < 256 →
        t.recorder.queue.length = s.recorder.queue.length + 1)) ∧
    (p.mainValid = false → exec (.feedLost f) s = .next s) ∧
    exec (.feedOvervoltage f) s =
      .next { s with power := if f = .pa then { p with paOver := true } else { p with pbOver := true } } ∧
    exec (.logicFeedReturn f) s =
      .next { s with power := if f = .pa then { p with paLost := false } else { p with pbLost := false } } ∧
    exec .thermalWarning s = .next { s with power := { p with thermal := true } } ∧
    (∃ t, exec .presenceLoopOpen s = .next t ∧ t.power = { p with loop := false } ∧ t.pair.claim = false ∧ t.pair.drive = .highZ ∧
      t.pair.role = (if s.pair.role = .active then .outOfService else s.pair.role)) ∧
    (∃ t, exec (.positionSample pos peer) s = .next t ∧ t.power.loop = true ∧ t.power.peerPres = peer ∧
      t.power.pos = (if s.start.stage = .hearth then pos else p.pos) ∧
      (s.start.stage = .hearth → t.power.posInvalid = decide (pos ≠ 1 ∧ pos ≠ 2)) ∧ t.pair = s.pair ∧ t.regs = s.regs)) ∧
  ∀ (c : Fin 4) (g : Fin 32) (b : Bool) (what : Fin 3) (volts draw : W16) (s : State),
    let mine (k : Nat) := 8 * c.val ≤ k ∧ k < 8 * c.val + 8
    (volts.toInt < 1920 → ∃ t, exec (.connectorFeedDiagnostic c b volts) s = .next t ∧
      ∀ k, mine k → t.rdB (Reg.FCH_GRP_STAT k) (if b then 29 else 30) = true ∧
        t.rdF (Reg.FCH_GRP_FEED k) (if b then 16 else 0) 16 = volts.toNat) ∧
    (1920 ≤ volts.toInt → exec (.connectorFeedDiagnostic c b volts) s = .next s) ∧
    (∃ t, exec (.connectorFeedLow c) s = .next t ∧ ∀ k, mine k → t.rdB (Reg.FCH_GRP_STAT k) 31 = true ∧
      ∀ i < 16, s.fmode k i ≠ 0 → t.stat k i 21 = true ∧
        (s.fmode k i = 7 → s.stat k i 21 = false → (t.slice k i).dac = 0)) ∧
    (∃ t, exec (.groupShed g draw) s = .next t ∧ t.rdF (Reg.FCH_GRP_DRAW g) 0 16 = draw.toNat ∧
      t.rdB (Reg.FCH_GRP_STAT g) 27 = decide (6000 < draw.toNat) ∧
      (draw.toNat ≤ 6000 → ∀ k i, t.stat k i 21 = s.stat k i 21) ∧
      ∀ i < 16, 6000 < draw.toNat → s.fmode g i = 4 → s.stat g i 21 = false →
        (∀ j, i < j → j < 16 → ¬(s.fmode g j = 4 ∧ s.stat g j 21 = false)) →
        t.stat g i 21 = true ∧ (t.slice g i).closed = false ∧ ∀ j < 16, j ≠ i → t.stat g j 21 = s.stat g j 21) ∧
    (∃ t, exec (.connectorOverBudget c draw) s = .next t ∧ ∀ k, mine k → t.rdF (Reg.FCH_GRP_DRAW k) 16 16 = draw.toNat ∧
      (2400 < draw.toNat → t.rdB (Reg.FCH_GRP_STAT k) 28 = true)) ∧
    (∃ t, exec (.fieldFeedReturn c what volts) s = .next t ∧ ∀ k, mine k →
      (what.val < 2 → t.rdB (Reg.FCH_GRP_STAT k) (if what.val = 1 then 29 else 30) = false ∧
        t.rdF (Reg.FCH_GRP_FEED k) (if what.val = 1 then 16 else 0) 16 = volts.toNat) ∧
      (what.val = 2 → t.rdB (Reg.FCH_GRP_STAT k) 31 = false) ∧ ∀ i < 16, t.stat k i 21 = s.stat k i 21)

/-- R57 to R60, R455: the references XA and XB. A lost one is marked, and with AUTO_SWITCH every island goes over to the other if
that is good; with both lost the module holds over, and after 1 s, or when they failed together, it takes itself out of service.
One that comes back lies within 100 ppm. That every island then follows it is the model's choice (notes/assumptions/70.md). R61: a
launch takes one credit, and none is launched without one; a removal sends one back unless two returns are under way; a return
gives one credit. These keep the books of R62. R61, R62, R63, R65, R66: a credit return moves the books on by what happened since
the last, and by the credit that it brings, and is checked with the occupancy that it carries; a null return is checked alike.
Books that balance stand; others are reported with their kind, and take the module out of service where the path serves control,
or restart the crossing elsewhere. Island power follows; the loss of an island on the control rail stops the module. The depth of
a FIFO is free (notes/assumptions/7.md), and which kind comes first the model's choice (notes/assumptions/68.md). -/
def Obligations.ReferencesAndIslands : Prop :=
  (∀ (r : Ref) (ppm : W16) (s : State),
    let ok := if r = .xa then 0 else 1
    let other := if r = .xa then 1 else 0
    let err := if ppm = 0x8000#16 then 0x8001 else ppm.toNat
    let all (x : Ref) (t : State) := t.rd Reg.CLK_ACT_LO = (if x = .xa then 0 else 0xFFFFFFFF#32) ∧
      t.rd Reg.CLK_ACT_HI = (if x = .xa then 0 else 0xFFFF#32)
    let out (t : State) := t.pair.role = .outOfService ∧ t.pair.claim = false ∧ t.pair.drive = .highZ ∧ t.pair.ctlFault = true
    (s.rdB Reg.CLK_REFSTAT ok = true → ∃ t, exec (.referenceLost r ppm) s = .next t ∧ t.rdB Reg.CLK_REFSTAT ok = false ∧
      t.rdF Reg.CLK_REFERR (if r = .xa then 0 else 16) 16 = err ∧
      t.rdB Reg.CLK_REFSTAT (ok + 2) = true ∧ s.fired t 3 ∧
      (s.rdB Reg.CLK_AUTO 0 = true → s.rdB Reg.CLK_REFSTAT other = true → all r.other t) ∧
      (s.rdB Reg.CLK_AUTO 0 = false ∨ s.rdB Reg.CLK_REFSTAT other = false →
        t.rd Reg.CLK_ACT_LO = s.rd Reg.CLK_ACT_LO ∧ t.rd Reg.CLK_ACT_HI = s.rd Reg.CLK_ACT_HI)) ∧
    (s.rdB Reg.CLK_REFSTAT ok = false → exec (.referenceLost r ppm) s = .next s) ∧
    (s.rdB Reg.CLK_REFSTAT ok = false → ppm.toInt.natAbs ≤ 1000 → ∃ t, exec (.referenceGood r ppm) s = .next t ∧
      t.rdB Reg.CLK_REFSTAT ok = true ∧ t.rdF Reg.CLK_REFERR (if r = .xa then 0 else 16) 16 = err ∧
      t.holdover = false ∧ (s.holdover = true → all r t)) ∧
    (s.rdB Reg.CLK_REFSTAT ok = true ∨ 1000 < ppm.toInt.natAbs → exec (.referenceGood r ppm) s = .next s) ∧
    (s.bothLost = true → ∃ t, exec .bothReferencesLost s = .next t ∧ t.holdover = true ∧ t.rdB Reg.CLK_REFSTAT 4 = true ∧
      s.fired t 4) ∧
    (s.bothLost = true → s.holdover = true → ∃ t, exec .holdoverTimeout s = .next t ∧ out t) ∧
    (s.bothLost = true → ∃ t, exec .timeBaseFault s = .next t ∧ out t) ∧
    (s.bothLost = false → exec .bothReferencesLost s = .next s ∧ exec .holdoverTimeout s = .next s ∧
      exec .timeBaseFault s = .next s)) ∧
  (∀ x : Crossing,
    let sound (y : Crossing) := y.c + y.o + y.r = y.depth ∧ y.r ≤ 2
    (0 < x.c → x.launch = { x with c := x.c - 1, o := x.o + 1 }) ∧ (x.c = 0 → x.launch = x) ∧
    (0 < x.o → x.r < 2 → x.remove = { x with o := x.o - 1, r := x.r + 1 }) ∧ (x.o = 0 ∨ 2 ≤ x.r → x.remove = x) ∧
    (0 < x.r → x.returned = { x with c := x.c + 1, r := x.r - 1 }) ∧
    (sound x → sound (x.move .launch) ∧ sound (x.move .remove) ∧ sound x.returned) ∧
    (sound x → 0 < x.r → ¬sound (x.move .lost)) ∧ (sound x → ¬sound (x.move .doubled))) ∧
  ∀ (null : Bool) (a b : Fin 48) (moves : List CrossMove) (o : Nat) (s : State),
    let d := Config.fifoDepth a b
    let cmd := if null then Instr.nullCreditReturn a b o else .creditReturn a b moves o
    let x := if null then s.books a b else (moves.foldl Crossing.move (s.books a b)).returned
    let sound := x.r ≤ 2 ∧ x.c + o + x.r = x.depth
    let kind := if 2 < x.r then 3 else if x.depth < x.c + o + x.r then 1 else 2
    let control (i : Nat) := i < 4 ∨ i = 8 ∨ i = 9 ∨ i = 10
    (s.islandOff a = false → s.islandOff b = false →
      (sound → ∃ t, exec cmd s = .next t ∧ t.books a b = x ∧ t.regs = s.regs ∧ t.pair = s.pair) ∧
      (¬sound → ∃ t, exec cmd s = .next t ∧
        t.rd Reg.SYS_FABERR = BitVec.ofNat 32 (2 ^ 31 + b.val * 2 ^ 8 + a.val * 2 ^ 2 + kind) ∧
        (control a.val ∨ control b.val → s.fired t 2 ∧ t.pair.role = .outOfService ∧ t.pair.claim = false) ∧
        (¬control a.val → ¬control b.val → t.books a b = { c := d, o := 0, r := 0, depth := d }))) ∧
    (s.islandOff a = true ∨ s.islandOff b = true → exec cmd s = .next s) ∧
    (∃ t, exec (.islandPowerLoss a) s = .next t ∧ t.islandOff a = true ∧ t.resp.err = true ∧
      t.books a b = { c := 0, o := 0, r := 0, depth := d } ∧
      (control a.val → s.power.mainValid = true →
        t.power.mainValid = false ∧ t.pair.role = .unassigned ∧ t.pair.claim = false ∧ t.pair.drive = .highZ ∧
        ∀ x, t.canRun x = false) ∧
      (¬control a.val → t.pair = s.pair ∧ t.regs = s.regs ∧ ∀ i, i ≠ a.val → t.islandOff i = s.islandOff i)) ∧
    (∃ t, exec (.islandPowerUp a) s = .next t ∧ t.islandOff a = false ∧ (∀ i, i ≠ a.val → t.islandOff i = s.islandOff i) ∧
      (a ≠ b → s.islandOff b = false → t.books a b = { c := d, o := 0, r := 0, depth := d }) ∧ t.regs = s.regs)

/-- R73 to R76, R428: what a scrubber finds, and the replacement of memory elements by spares. An element that has reached the
threshold of corrected errors within 24 h, and that a pool can replace, is entered and copied; with the pool empty a spares
warning is raised. R59, R77, R203, R428, R429: resets through `SYS.RESET_CTRL`, and the choice of references. A module reset
releases the claim and leaves T0 alone running at PC 0; a triad reset stops the triad and clears its tightly coupled data; without
the key, a write does nothing. -/
def Obligations.MemoryErrorsAndResets : Prop :=
  (∀ (a : W32) (lane : Fin 3) (device : Fin 11) (bank : Fin 16) (row : Fin 16384) (mb : Fin 64) (pool : Fin 9) (el : W32)
    (s : State),
    let n := a.toNat
    (∀ cnt scrub, memKind n = some (cnt, scrub) → s.rdF Reg.SYS_SCRUB scrub 4 ≠ 0 →
      exec (.scrubWord a .clean) s = .next s ∧
      (∀ double, ∃ t, exec (.scrubWord a (.corrected double device bank row)) s = .next t ∧ s.fired t 0 ∧ t.mem = s.mem ∧
        t.rdF Reg.SYS_MEMERR_CNT cnt 8 = min 255 (s.rdF Reg.SYS_MEMERR_CNT cnt 8 + 1)) ∧
      (∃ t, exec (.scrubWord a .uncorrectable) s = .next t ∧ s.fired t 1 ∧ t.rd Reg.SYS_MEMERR_ADDR = a ∧
        (n < 0x40000000 → t.pair.role = .outOfService ∧ t.pair.claim = false) ∧ (0x40000000 ≤ n → t.pair = s.pair)) ∧
      (0x05000000 ≤ n → n < 0x05400000 → s.laneOk (viewTriad n) lane = true → ∃ t,
        exec (.scrubWord a (.laneCopy lane)) s = .next t ∧
        t.rd Reg.SYS_MEMERR_ADDR = a ∧ s.fired t 1 ∧
        (s.triMode (viewTriad n) ≤ 2 → t.rd (Reg.TRI_LASTMIS_ADDR (viewTriad n)) = a) ∧
        (s.triMode (viewTriad n) = 1 ∨ s.triMode (viewTriad n) = 2 → t.pair.role = .outOfService))) ∧
    (let old := BitVec.ofNat 32 (device.val * 2 ^ 24 + bank.val * 2 ^ 16 + row.val)
     let replaced (i : Instr) (p sub size : Nat) (old : W32) (e : MemError → Bool) :=
      (s.poolUsed p sub < size → ∃ t, exec i s = .next t ∧ t.poolUsed p sub = s.poolUsed p sub + 1 ∧
        (p, old) ∈ t.ledger.copying ∧ (s.ledger.log.length < 65536 → ∃ e, t.ledger.log = s.ledger.log ++ [e] ∧
          e.pool = p ∧ e.action = 1 ∧ e.cause = 10 ∧ e.old = old ∧ e.opsec = s.opsec)) ∧
      (size ≤ s.poolUsed p sub → exec i s =
        .next { s.memForget e with pair := { s.pair with sparesWarning := true } })
     let mine (x : MemError) := x.device == 11 && x.bank == mb.val
     let sick (x : MemError) := x.device == device.val
     let rows := ((s.memRecent sick).map fun x => (x.bank, x.row)).eraseDups.length
     (3 ≤ (s.memRecent (rowError bank row)).length →
       replaced (.dramRowReplace device bank row) 2 bank 16 old (rowError bank row)) ∧
     (16 ≤ rows → replaced (.dramDeviceReplace device) 3 0 1 (BitVec.ofNat 32 device) sick) ∧
     (8 ≤ (s.memRecent mine).length → replaced (.mramBankReplace mb) 4 0 4 (BitVec.ofNat 32 mb) mine) ∧
     ((s.memRecent (rowError bank row)).length < 3 → exec (.dramRowReplace device bank row) s = .next s) ∧
     (rows < 16 → exec (.dramDeviceReplace device) s = .next s) ∧
     ((s.memRecent mine).length < 8 → exec (.mramBankReplace mb) s = .next s)) ∧
    exec (.replacementCopyDone pool el) s =
      .next { s with ledger := { s.ledger with copying := s.ledger.copying.erase (pool.val, el) } } ∧
    exec .dramZeroDone s = .next { s with dramReady := true }) ∧
  ∀ (v : W32) (hi : Bool) (s : State),
    let key := v.toNat / 2 ^ 24 = 0xA5
    let bits := if hi then 16 else 32
    let act := if hi then Reg.CLK_ACT_HI else Reg.CLK_ACT_LO
    let sel := if hi then Reg.CLK_SEL_HI else Reg.CLK_SEL_LO
    (key → v.getLsbD 0 = true → ∃ t, exec (.moduleResetRequest v) s = .next t ∧ t.pair.claim = false ∧
      t.pair.drive = .highZ ∧ t.tic = [] ∧
      ((∀ x < 4, ∃ k < 3, ∀ j < 3, j ≠ k → s.laneValid x j = true) →
        t.pair.role = .unassigned ∧ t.ctx 0 = { running := true } ∧ ∀ x, x ≠ 0 → t.ctx x = {}) ∧
      t.rdB Reg.SYS_RESET_CAUSE 1 = true ∧ t.rdB Reg.SYS_RESET_CAUSE 2 = true ∧ t.start.stage = .hearth ∧
      t.backup.savedOpsec = s.backup.opsec ∧
      ∀ i, t.byte i = if i < 0x40000 ∨ 0x40000000 ≤ i ∧ i < 0x43C00000 then s.byte i else 0) ∧
    (¬key → exec (.moduleResetRequest v) s = .next s ∧ exec (.triadResetRequest v) s = .next s) ∧
    (key → v.getLsbD 0 = false → ∃ t, exec (.triadResetRequest v) s = .next t ∧
      (∀ k < 4, v.getLsbD (1 + k) = true → t.rdB Reg.SYS_RESET_CAUSE (4 + k) = true ∧ t.ctx k = {} ∧
        t.rd (Reg.TRI_CTRL k) = 0 ∧ t.rd (Reg.TRI_ICP k) = 0 ∧ t.rd (Reg.TRI_DCP k) = 0 ∧
        ∀ i, 0x05000000 + 0x100000 * k ≤ i → i < 0x05080000 + 0x100000 * k → t.byte i = 0) ∧
      (∀ i, i < 0x05000000 ∨ 0x05400000 ≤ i ∧ i < 2 ^ 32 → t.byte i = s.byte i)) ∧
    (s.rdB Reg.SYS_LOCK 0 = true → exec (.clockSelectWrite hi v) s = .next s) ∧
    (s.rdB Reg.SYS_LOCK 0 = false → ∃ t, exec (.clockSelectWrite hi v) s = .next t ∧
      t.rd sel = (if hi then v &&& 0xFFFF#32 else v) ∧ s.keepsRegs t [sel, act] ∧
      ∀ i < bits, t.rdB act i = if v.getLsbD i = true then s.rdB act i || s.rdB Reg.CLK_REFSTAT 1
        else s.rdB act i && !s.rdB Reg.CLK_REFSTAT 0)

/-- R239 to R241: a slice's configuration write leaves PEND set and the old value in effect until the slice confirms; a change of
MODE withdraws the slice at once; and a slice that becomes ready is in the mode it is configured for, reserved modes as 0, unless
it has been isolated as failed. R265: a read of `FCH.EVT_INFO` takes the oldest entry of the group's queue, unless the collector
owns it; R264: a read of `FCH.EDGE_LO` captures the high word, that of the terminal where slice 16 serves one (R263). -/
def Obligations.SliceRegisters : Prop :=
  (∀ (g : Fin 32) (i : Fin 17) (off : Fin 1024) (v : W32) (raw : Bool) (s : State),
    let cfg := Reg.FCH_CFG g i
    let mode := s.rdF cfg 0 4
    (isSliceConfig off = true → ¬(i.val = 16 ∧ s.rdB (Reg.FCH_SPARE g) 15 = true) → s.blockOff (cfg + off.val) = false →
      ∃ t, exec (.sliceConfigWrite g i off v) s = .next t ∧ t.rdB cfg 31 = true ∧
        s.keepsRegs t [cfg, cfg + off.val, Reg.FCH_STATUS g i] ∧
        (off.val ≠ 0 → t.inEffect g i off = s.inEffect g i off ∧ t.slice g i = { s.slice g i with eff := (t.slice g i).eff }) ∧
        (off.val = 0 → v.toNat % 16 ≠ mode → (t.slice g i).ready = false ∧ (t.slice g i).closed = false ∧
          (t.slice g i).dac = 0 ∧ t.stat g i 29 = true ∧ t.stat g i 31 = false ∧ t.rdF cfg 0 4 = v.toNat % 16)) ∧
    (s.rdB cfg 31 = true → ∃ t, exec (.sliceConfigConfirm g i) s = .next t ∧ t.rdB cfg 31 = false ∧
      (∀ o, t.inEffect g i o = t.rd (cfg + o)) ∧
      ((s.slice g i).conv = true → (t.slice g i).ready = false ∧ t.fmode g i = if mode ≤ 8 then mode else 0)) ∧
    (s.rdB cfg 31 = false → exec (.sliceConfigConfirm g i) s = .next s) ∧
    ((s.slice g i).ready = false → (s.slice g i).failed = false → s.unserved g i = false → ∃ t,
      exec (.sliceReady g i raw) s = .next t ∧
      (t.slice g i).ready = true ∧ t.rdB cfg 31 = false ∧ t.fmode g i = (if mode ≤ 8 then mode else 0) ∧ t.stat g i 29 = false ∧
      t.stat g i 30 = s.served g i ∧ (8 < mode → t.stat g i 23 = true ∧ t.stat g i 31 = false) ∧
      (mode ≤ 8 → t.stat g i 23 = false ∧ t.stat g i 31 = decide (s.rd (Reg.FCH_STATUS g i) &&& 0x007F0000#32 = 0))) ∧
    ((s.slice g i).failed = true → exec (.sliceReady g i raw) s = .next s)) ∧
  ∀ (g : Fin 32) (i : Fin 17) (s : State),
    let k := s.shows g i
    let e := (s.slice g k).edge
    let on (a : Nat) := s.blockOff a = false
    (on (Reg.FCH_EVT_INFO g) → s.collects g = true ∨ (s.group g).queue = [] →
      exec (.evtInfoRead g) s = .next { s with resp := { data := 0, err := false } }) ∧
    (∀ h q, on (Reg.FCH_EVT_INFO g) → s.collects g = false → (s.group g).queue = h :: q → ∃ t, exec (.evtInfoRead g) s = .next t ∧
      (t.group g).queue = q ∧ t.resp.err = false ∧ t.rdF (Reg.FCH_EVT_STAT g) 0 7 = q.length % 128 ∧
      t.resp.data = BitVec.ofNat 64
        (2 ^ 31 + b2n h.stby * 2 ^ 30 + b2n h.level * 2 ^ 8 + b2n h.subst * 2 ^ 7 + h.slice) % 2 ^ 32) ∧
    (on (Reg.FCH_CFG g i) → ∃ t, exec (.edgeLoRead g i) s = .next t ∧
      t.resp = { data := (e.setWidth 32).setWidth 64, err := false } ∧
      t.rd (Reg.FCH_EDGE_HI g k) ++ t.resp.data.setWidth 32 = e ∧ s.keepsRegs t [Reg.FCH_EDGE_HI g k])

/-- R246, R247, R249: the debounce filter of a digital input. A sample that differs from the level opens a window; one that goes
back before the debounce time closes it; a window that completes changes the level, with the stamp of its start as the last edge
and an event where enabled. A filter that is stopped takes the raw level alone. Stamps are multiples of 125 ns, each 375 ns before
the sample (R245), and none is taken while a stimulus runs or the spare takes the terminal (R256, R260), nor before the filter's
first sample, 2 us after source-on (R258). R244: the bands of a line-monitored input, and the report of a finding that has held
for 10 ms: SHORT, BREAK or LINE_INVALID, or none of them. -/
def Obligations.DigitalInputs : Prop :=
  (∀ (g : Fin 32) (i : Fin 17) (stamp : W64) (raw : Bool) (s : State),
    let s0 := s.atTime (stamp + 375)
    let v := s0.slice g i
    let takes := stamp.toNat % 125 = 0 ∧ s0.stat g i 28 = false ∧ s0.replacing g i = false
    let early := stamp.toNat < v.filterFrom.toNat
    let runs (s : State) := s.filterRuns g i = true ∧ s.filterStops g i = false
    let ended := v.start.toNat + s0.debounce g i ≤ stamp.toNat
    let accepted (v : Slice) (old t : State) := t.rd (Reg.FCH_VALUE g i) = (if v.new then 1 else 0) ∧
      (bit (old.inEffect g i 4) (if v.new then 16 else 17) = true → (old.group g).queue.length < 64 →
        (t.group g).queue = (old.group g).queue ++ [⟨v.start, i, v.new, old.stat g i 30, decide (old.pair.role ≠ .active)⟩])
    (takes → runs s0 → early → exec (.digitalInputEdge g i stamp raw) s = .next s0) ∧
    (takes → runs s0 → ¬early → ∃ t, exec (.digitalInputEdge g i stamp raw) s = .next t ∧ (t.slice g i).raw = raw ∧
      (v.waiting = false → raw ≠ v.level →
        t.slice g i = { v with waiting := true, new := raw, start := stamp, raw := raw }) ∧
      (v.waiting = false → raw = v.level → t.slice g i = { v with raw := raw }) ∧
      (v.waiting = true → ¬ended → raw = v.new → t.slice g i = { v with raw := raw }) ∧
      (v.waiting = true → ¬ended → raw ≠ v.new → raw = v.level → t.slice g i = { v with waiting := false, raw := raw }) ∧
      (v.waiting = true → ended → accepted v s0 t ∧ (t.slice g i).level = v.new ∧ (t.slice g i).edge = v.start ∧
        (t.slice g i).waiting = decide (raw ≠ v.new))) ∧
    (takes → ¬runs s0 → ∃ t, exec (.digitalInputEdge g i stamp raw) s = .next t ∧
      t.slice g i = { v with raw := raw } ∧ t.regs = s0.regs) ∧
    (stamp.toNat % 125 = 0 → ¬takes → exec (.digitalInputEdge g i stamp raw) s = .next s0) ∧
    (stamp.toNat % 125 ≠ 0 → exec (.digitalInputEdge g i stamp raw) s = .next s) ∧
    (let w := s.slice g i
     w.waiting = true → runs s → ∃ t, exec (.debounceAccept g i) s = .next t ∧
       t.slice g i = { w with level := w.new, edge := w.start, waiting := false } ∧ accepted w s t)) ∧
  ∀ (g : Fin 32) (i : Fin 17) (ohms : W32) (when : W64) (s : State),
    let s0 := s.atTime when
    let v := s0.slice g i
    let n := ohms.toNat
    let due := v.bandAt.toNat + 10000000 ≤ s0.now.toNat ∧ v.quiet.toNat ≤ s0.now.toNat
    s0.filterRuns g i = true → s0.fmode g i = 3 →
      (∃ t, exec (.lineBandMeasure g i ohms when) s = .next t ∧ t.regs = s0.regs ∧
        (t.slice g i).band = (if n < 300 then 0 else if n < 3000 then 1 else if n < 6000 then 2 else if n < 25000 then 3
          else if n ≤ 50000 then 4 else 5) ∧
        (bandFinding (t.slice g i).band ≠ bandFinding v.band → (t.slice g i).bandAt = when)) ∧
      (due → ∃ t, exec (.lineBandReport g i when) s = .next t ∧ t.stat g i 16 = decide (v.band = 0) ∧
        t.stat g i 17 = decide (v.band = 5) ∧ t.stat g i 8 = decide (v.band = 2 ∨ v.band = 4)) ∧
      (¬due → exec (.lineBandReport g i when) s = .next s0)

/-- R251, R252, R254, R255: what opens a digital output, when it is tried again and when it stays open, and the faults a slice
detects and clears. The protection trips when the output has stood at its limit for the overload time. -/
def Obligations.DigitalOutputs : Prop :=
  ∀ (g : Fin 32) (i : Fin 17) (b : Fin 32) (when : W64) (s : State),
    let s0 := s.atTime when
    let v := s0.slice g i
    let most := getF (s0.inEffect g i 8) 8 8
    let count := s0.rdF (Reg.FCH_RETRY g i) 0 8
    let ovl := min 100 (max 1 (getF (s0.inEffect g i 8) 0 8)) * 1000000
    let last := most = 0 ∨ most ≠ 255 ∧ count = most
    let opened (t : State) := (t.slice g i).closed = false ∧ t.stat g i 11 = false ∧
      (last → t.stat g i 9 = true) ∧ (¬last → t.stat g i 10 = true ∧ (t.slice g i).offAt = some s0.now)
    (s0.fmode g i = 4 → s0.stat g i 11 = true → v.closed = true →
      (∀ at0, v.limitAt = some at0 → at0.toNat + ovl ≤ s0.now.toNat →
        ∃ t, exec (.overloadTrip g i when) s = .next t ∧ opened t ∧ t.stat g i 19 = true) ∧
      (∀ at0, v.limitAt = some at0 → s0.now.toNat < at0.toNat + ovl → exec (.overloadTrip g i when) s = .next s0)) ∧
    (s0.fmode g i = 4 → v.ready = true → ∃ t, exec (.thermalShutdown g i when) s = .next t ∧ t.stat g i 19 = true ∧
      t.stat g i 20 = true ∧ (v.closed = true → opened t) ∧ (v.closed = false → (t.slice g i).closed = false)) ∧
    (∀ off, v.offAt = some off → s0.stat g i 10 = true → s0.isTick when.toNat = true → off.toNat + s0.retryInt g i ≤ when.toNat →
      ∃ t, exec (.retryAttempt g i when) s = .next t ∧ t.stat g i 10 = false ∧ (t.slice g i).offAt = none ∧
        (v.cmd.getLsbD 0 = true → v.ready = true → s0.stat g i 9 = false → s0.stat g i 18 = false → s0.stat g i 21 = false →
          s0.stat g i 23 = false → s0.pair.drive ≠ .standby → (t.slice g i).closed = true ∧
            t.rdF (Reg.FCH_RETRY g i) 0 8 = min 255 (count + 1))) ∧
    (i.val ≠ 16 → s.blockOff (Reg.FCH_RETRY g i) = false → ∃ t, exec (.retryRearm g i) s = .next t ∧ t.stat g i 9 = false ∧
      t.rdF (Reg.FCH_RETRY g i) 0 8 = 0 ∧
      s.keepsRegs t [Reg.FCH_STATUS g i, Reg.FCH_RETRY g i]) ∧
    (v.ready = true → detects (s0.fmode g i) b = true → s0.detectable g i b = true →
      ∃ t, exec (.faultDetect g i b when) s = .next t ∧ t.stat g i b = true ∧
        (s0.stat g i b = false → 16 ≤ b.val → b.val ≤ 23 → t.stat g i 31 = false) ∧
        (s0.fmode g i = 4 → b.val = 18 → (t.slice g i).closed = false) ∧
        (s0.fmode g i = 4 → b.val = 11 → v.limitAt = none → (t.slice g i).limitAt = some s0.now) ∧
        (s0.fmode g i = 7 → b.val = 18 ∨ b.val = 20 → (t.slice g i).dac = 0)) ∧
    (s0.stat g i b = true → clears (s0.fmode g i) b = true → b.val ≠ 19 →
      ∃ t, exec (.faultClear g i b when) s = .next t ∧ t.stat g i b = false) ∧
    (s0.stat g i b = true → b.val = 19 → s0.fmode g i = 4 →
      ∃ t, exec (.faultClear g i b when) s = .next t ∧
        (t.stat g i b = false ↔ v.closed = true ∧ s0.stat g i 11 = false ∧ v.heldAt.toNat + ovl ≤ s0.now.toNat)) ∧
    (s0.stat g i b = true → b.val = 21 → s0.rdB (Reg.FCH_GRP_STAT g) 31 = false → s0.rdB (Reg.FCH_GRP_STAT g) 27 = false →
      ∃ t, exec (.faultClear g i b when) s = .next t ∧ t.stat g i b = false) ∧
    (let w := s.slice g i
     s.fmode g i = 4 ∧ w.cmd.getLsbD 0 = false ∨ s.fmode g i = 7 ∧ w.cmd = 0 → w.ready = true → bit (s.inEffect g i 0) 8 = false →
      ∃ t, exec (.backfeed g i) s = .next t ∧ t.stat g i 22 = true)

/-- R259 to R263: a failed slice is substituted by the group's spare where that is enabled and ready, and is isolated otherwise; a
failure on a critical channel that is not substituted takes the module out of service; a planned substitution tracks, overlaps and
ends. A spare is not READY while its test runs, and its window takes no command while it serves a terminal. R256, R283: a stimulus
is started with its key where the mode has one, at once or in the next gap of the line, and TEST stands while it runs; a first
failure is recorded, and a second one within 24 h is a slice fault. -/
def Obligations.SubstitutionAndStimuli : Prop :=
  (∀ (g : Fin 32) (i : Fin 17) (s : State),
    let spare := Reg.FCH_SPARE g
    let p := s.rd spare
    let able := bit (s.inEffect g i 0) 30 && (bit p 12 || bit p 13)
    let whole := i.val < 16 ∧ (s.slice g i).failed = false ∧ bit p (16 + i.val) = false ∧ s.served g i = false
    let substituted (j : Nat) (t : State) := t.rdB spare (16 + j) = true ∧ t.rdB spare 15 = true ∧ t.rdB spare 12 = false ∧
      t.rdF spare 0 4 = j ∧ t.rdB (Reg.FCH_DIAG g j) 25 = true
    let fails (c : Instr) := whole → ∃ t, exec c s = .next t ∧
      (able = true → substituted i t ∧ (t.group g).work = some (i.val, .replacing) ∧ (t.slice g i).closed = false ∧
        (t.slice g i).dac = 0 ∧ t.rdB spare 13 = false ∧ t.pair.role = s.pair.role ∧
        t.pair.claim = s.pair.claim) ∧
      (able = false → t.stat g i 23 = true ∧ (s.stat g i 23 = false → t.stat g i 31 = false) ∧ (t.slice g i).failed = true ∧
        (t.slice g i).closed = false ∧ (t.slice g i).dac = 0 ∧
        (16 * g.val + i.val ∈ s.critical → t.pair.role = .outOfService ∧ t.pair.claim = false))
    let on (a : Nat) := s.blockOff a = false
    let planned := bit p 12 = true ∧ i.val ≠ 16 ∧ bit p (16 + i.val) = false ∧ s.fmode g i ≠ 0
    fails (.sliceFailure g i) ∧ fails (.referenceMonitorFailure g i) ∧
    (∀ j w, (s.group g).work = some (j, w) → s.yielding = false → w ≠ .overlap →
      ∃ t, exec (.substitutionComplete g) s = .next t ∧ t.stat g j 30 = true ∧
        (w = .replacing → (t.group g).work = none) ∧
        (w = .tracking → j < 16 → substituted j t ∧ (t.group g).work = some (j, .overlap))) ∧
    (s.yielding = true → exec (.substitutionComplete g) s = .next s) ∧
    (planned → on (Reg.FCH_CTRL g i) → ∃ t, exec (.subst g i) s = .next t ∧ (t.group g).work = some (i.val, .tracking) ∧
      t.regs = s.regs) ∧
    (i.val = 16 → bit p 15 = true →
      (on (Reg.FCH_CTRL g i) → exec (.subst g i) s = .next s ∧ exec (.stim g i) s = .next s ∧ exec (.sreset g i) s = .next s) ∧
      (on (Reg.FCH_RETRY g i) → exec (.retryRearm g i) s = .next s) ∧ (on (Reg.FCH_CFG g i) → exec (.injSw g i) s = .next s)) ∧
    (¬planned → ¬(i.val = 16 ∧ bit p 15 = true) → on (Reg.FCH_CTRL g i) → ∃ t, exec (.subst g i) s = .next t ∧
      (t.group g).work = (s.group g).work ∧
      t.rdB (Reg.FCH_DIAG g i) 26 = true) ∧
    (∀ j, (s.group g).work = some (j, .overlap) → ∃ t, exec (.substitutionOverlapEnd g) s = .next t ∧ (t.group g).work = none ∧
      t.regs = s.regs) ∧
    (¬(i.val = 16 ∧ bit p 15 = true) → on (Reg.FCH_CTRL g i) → ∃ t, exec (.sreset g i) s = .next t ∧ (t.slice g i).ready = false ∧
      (t.slice g i).closed = false ∧ t.stat g i 29 = true ∧ t.stat g i 31 = false ∧ t.rd (Reg.FCH_DIAG g i) = 0 ∧
      t.rd (Reg.FCH_RETRY g i) = 0 ∧ t.rd (Reg.FCH_VALUE g i) = 0 ∧ t.rd (Reg.FCH_CFG g i) = s.rd (Reg.FCH_CFG g i)) ∧
    (s.rdB Reg.EVR_PT_EN 4 = true →
      (bit p 12 = true → (s.group g).work = none → ∃ t, exec (.spareSliceTest g .begins) s = .next t ∧ t.rdB spare 12 = false ∧
        t.rdB spare 13 = true ∧
        s.keepsRegs t [spare]) ∧
      (bit p 13 = true → ∃ t, exec (.spareSliceTest g .passed) s = .next t ∧ t.rdB spare 12 = true ∧ t.rdB spare 13 = false ∧
        s.keepsRegs t [spare]) ∧
      (bit p 13 = true → ∃ t, exec (.spareSliceTest g .failed) s = .next t ∧ t.rdB spare 14 = true ∧ t.rdB spare 12 = false ∧
        t.rdB spare 13 = false ∧ t.rdB Reg.EVR_EVT 12 = true ∧
        t.rd Reg.EVR_PT_STAT = BitVec.ofNat 32 (2 ^ 31 + 4 * 2 ^ 16 + (32 * g.val + 16)))) ∧
    (s.rdB Reg.EVR_PT_EN 4 = false → ∀ phase, exec (.spareSliceTest g phase) s = .next s)) ∧
  ∀ (g : Fin 32) (i : Fin 17) (pass : Bool) (value : W32) (s : State),
    let m := s.fmode g i
    let v := s.slice g i
    let first (t : State) := (t.slice g i).stimFail = some s.opsec ∧ t.rdB (Reg.FCH_DIAG g i) 24 = true
    let near := if m = 6 then (value.toInt - 5000000).natAbs ≤ 10000 else (value.toInt - v.grid.toInt - 1000000).natAbs ≤ 12000
    let gap := ∀ k, v.inj ≠ some (true, k)
    let on := s.blockOff (Reg.FCH_CTRL g i) = false
    (on → i.val ≠ 16 → v.ready = true → 1 ≤ m ∧ m ≤ 3 ∨ m = 8 → ∃ t, exec (.stim g i) s = .next t ∧ t.stat g i 28 = true) ∧
    (on → i.val ≠ 16 → v.ready = true → 5 ≤ m ∧ m ≤ 7 → ∃ t, exec (.stim g i) s = .next t ∧ (t.slice g i).stim = true ∧
      (gap → t.stat g i 28 = true) ∧ (¬gap → t.regs = s.regs)) ∧
    (on → i.val ≠ 16 → v.ready = false ∨ m = 0 ∨ m = 4 → ∃ t, exec (.stim g i) s = .next t ∧ t.rdB (Reg.FCH_DIAG g i) 26 = true ∧
      t.slices = s.slices) ∧
    (s.stat g i 28 = true → v.stim = false → ∃ t, exec (.stimulusEnd g i pass) s = .next t ∧ t.stat g i 28 = false ∧
      (pass = true → s.keepsRegs t [Reg.FCH_STATUS g i] ∧ t.slices = s.slices) ∧
      (pass = false → v.stimFail = none → first t)) ∧
    (s.stat g i 28 = false ∨ v.stim = true → exec (.stimulusEnd g i pass) s = .next s) ∧
    (v.stim = true → s.stat g i 28 = true → ∃ t, exec (.analogStimulus g i value) s = .next t ∧ (t.slice g i).stim = false ∧
      t.stat g i 28 = false ∧ (near → s.keepsRegs t [Reg.FCH_STATUS g i]) ∧ (¬near → v.stimFail = none → first t)) ∧
    (v.stim = true → s.stat g i 28 = true → ¬near → ∀ at0, v.stimFail = some at0 → s.opsec < at0 + 86400 → i.val < 16 →
      v.failed = false →
      s.rdB (Reg.FCH_SPARE g) (16 + i.val) = false → s.served g i = false → bit (s.inEffect g i 0) 30 = false →
      ∃ t, exec (.analogStimulus g i value) s = .next t ∧ t.stat g i 23 = true)

/-- R267 to R272, R275 to R278: what a completed conversion leaves: the result of its entry, the next entry, and, for the grid
conversion, VALUE with its range bits and DISC. The latest zero result is taken from each result of a terminal (R268). R270, R274:
when a grid run starts, what it interrupts, that none does within a hold of the grid, when a run of the FAULT and SW triggers
starts, and re-phasing. -/
def Obligations.ConversionsAndSequences : Prop :=
  (∀ (g : Fin 32) (i : Fin 17) (x : W32) (s : State),
    let v := s.slice g i
    let m := s.fmode g i
    let entry (o : Nat) := getF (s.inEffect g i o) 28 3
    let reg := s.corrected g i (entry (0x110 + 4 * (v.reg % 8))) x
    let inj (k : Nat) := s.corrected g i (entry (0x130 + 4 * (k % 4))) x
    let y := inj 0
    let sat := y = 0x7FFFFFFF#32 ∨ y = 0x80000000#32
    let beyond := sat ∨ (if m = 6 then 10800000 else 25920000) < y.toInt.natAbs
    (s.corrected g i 0 0x7FFFFFFF#32 = 0x7FFFFFFF#32 ∧
      ((v.zero.toInt * 24).natAbs < 2 ^ 24 → x.toInt.natAbs < 2 ^ 30 →
        (s.corrected g i 0 x).toInt = x.toInt - v.zero.toInt * 24)) ∧ (v.ready = true → v.conv = false →
      (m ≤ 4 → v.reg < 6 → v.reg % 2 = 0 → ∃ t, exec (.conversionDone g i x) s = .next t ∧ t.regs = s.regs ∧
        t.slice g i = { v with reg := v.reg + 1, cur := s.corrected g i 0 x }) ∧
      (m ≤ 4 → v.reg < 6 → v.reg % 2 = 1 → ∃ t, exec (.conversionDone g i x) s = .next t ∧
        t.slice g i = { v with reg := v.reg + 1 } ∧
        t.rd (Reg.FCH_RDBK g i) = measWord v.cur.toInt (s.corrected g i 1 x).toInt ∧
        s.keepsRegs t [Reg.FCH_RDBK g i]) ∧
      (5 ≤ m → v.inj = none → ∃ t, exec (.conversionDone g i x) s = .next t ∧ t.rd (Reg.FCH_REG_RES g i (v.reg % 8)) = reg ∧
        (t.slice g i).reg = (if v.reg % 8 + 1 < s.regLen g i then v.reg % 8 + 1 else 0)) ∧
      (5 ≤ m → ∀ grid k, v.inj = some (grid, k) → ∃ t, exec (.conversionDone g i x) s = .next t ∧
        t.rd (Reg.FCH_INJ_RES g i (k % 4)) = inj k ∧ (t.slice g i).reg = v.reg ∧
        (k + 1 < s.injLen g i → (t.slice g i).inj = some (grid, k + 1)) ∧
        (s.injLen g i ≤ k + 1 → (t.slice g i).inj = if grid then v.held.map (fun j => (false, j)) else none) ∧
        (m = 5 ∨ m = 6 → grid = true → k = 0 → t.rd (Reg.FCH_VALUE g i) = y ∧ (t.slice g i).grid = y ∧
          t.stat g i 9 = decide sat ∧ t.stat g i 8 = decide beyond ∧ t.stat g i 14 = v.disc)))) ∧
  ∀ (g : Fin 32) (i : Fin 17) (when : W64) (s : State),
    let v := s.slice g i
    let put (w : Slice) := Host.Outcome.next (s.setSlice g i w)
    let s0 := s.atTime when
    let v0 := s0.slice g i
    let put0 (w : Slice) := Host.Outcome.next (s0.setSlice g i w)
    let able0 := 5 ≤ s0.fmode g i ∧ v0.ready = true ∧ 0 < s0.injLen g i
    let able := 5 ≤ s.fmode g i ∧ v.ready = true ∧ 0 < s.injLen g i
    let idle := v.held = none ∧ ∀ k, v.inj ≠ some (false, k)
    let on := s.blockOff (Reg.FCH_CFG g i) = false
    (able0 → bit (s0.inEffect g i 0x104) 8 = true → s0.gridHeld = false → s0.run = true →
      (∀ k, v0.inj = some (false, k) →
        exec (.gridRunStart g i when) s = put0 { v0 with inj := some (true, 0), disc := false, held := some k }) ∧
      ((∀ k, v0.inj ≠ some (false, k)) →
        exec (.gridRunStart g i when) s = put0 { v0 with inj := some (true, 0), disc := false })) ∧
    (¬able0 ∨ bit (s0.inEffect g i 0x104) 8 = false ∨ s0.gridHeld = true ∨ s0.run = false →
      exec (.gridRunStart g i when) s = .next s0) ∧
    (able → v.trig = true → v.inj = none → exec (.faultRunStart g i) s = put { v with inj := some (false, 0), trig := false }) ∧
    (v.trig = false ∨ v.inj ≠ none → exec (.faultRunStart g i) s = .next s) ∧
    (on → i.val ≠ 16 → bit (s.inEffect g i 0x104) 10 = true → 5 ≤ s.fmode g i → idle →
      exec (.injSw g i) s = put { v with trig := true }) ∧
    (on → bit (s.inEffect g i 0x104) 10 = false ∨ s.fmode g i < 5 ∨ ¬idle → exec (.injSw g i) s = .next s) ∧
    (bit s.time.rephase g = true → ∃ t, exec (.rePhase g) s = .next t ∧
      t.time = { s.time with rephase := clrB s.time.rephase g } ∧
      (v.inj = some (true, 0) → (t.slice g i).disc = true) ∧ (v.inj ≠ some (true, 0) → t.slice g i = v) ∧ t.regs = s.regs) ∧
    (bit s.time.rephase g = false → exec (.rePhase g) s = .next s)

/-- R285 to R290: COMPLY and DEV of a current output, its user trim, and the pulse counter, which takes a level that has stood for
MINW + 1 samples. R294, R295, R297: a HART transaction: started when no condition refuses it, refused with a code otherwise,
aborted with code 6, and ended with its response or with an error. -/
def Obligations.CurrentOutputsAndHart : Prop :=
  (∀ (g : Fin 32) (i : Fin 17) (x : W32) (stamp : W64) (rising : Bool) (n : W16) (s : State),
    let v := s.slice g i
    let ctl := Reg.FCH_AO_TRIM_CTRL g i
    let lo := s.rd (Reg.FCH_AO_TRIM_LO g i)
    let hi := s.rd (Reg.FCH_AO_TRIM_HI g i)
    let d := hi.toInt - lo.toInt
    let sound := 0 < d ∧ 995 * d ≤ 16000000000 ∧ 16000000000 ≤ 1005 * d ∧ (lo.toInt - 4000000).natAbs ≤ 120000
    let need := getF (s.inEffect g i 0x184) 8 8 + 1
    let s0 := s.atTime (stamp + BitVec.ofNat 64 (125 * (min n.toNat need - 1)) + 375)
    let w := s0.slice g i
    let dir := getF (s0.inEffect g i 0x184) 0 2
    let on := s.blockOff (Reg.FCH_CFG g i) = false
    let shut := i.val = 16 ∧ s.rdB (Reg.FCH_SPARE g) 15 = true
    let counted := dir = 0 ∧ rising = true ∨ dir = 1 ∧ rising = false ∨ dir = 2
    (s.fmode g i = 7 → v.ready = true → s.stat g i 17 = false → ∃ t, exec (.complySet g i x) s = .next t ∧
      t.stat g i 10 = true ∧ t.rd (Reg.FCH_VALUE g i) = x ∧ (bit (s.inEffect g i 0x100) 8 = true → t.stat g i 13 = true)) ∧
    (s.fmode g i = 7 → v.ready = true → s.deviates g i = true → ∃ t, exec (.devSet g i) s = .next t ∧
      t.stat g i 12 = true ∧ (bit (s.inEffect g i 0x100) 9 = true → t.stat g i 13 = true)) ∧
    (on → ¬shut → sound → ∃ t, exec (.aoTrimApply g i) s = .next t ∧ look (17 * g.val + i.val) t.trims = some (lo, hi) ∧
      t.rdB ctl 2 = true ∧
      s.keepsRegs t [ctl]) ∧
    (on → ¬shut → ¬sound → ∃ t, exec (.aoTrimApply g i) s = .next t ∧ t.trims = s.trims ∧ t.rdB ctl 3 = true ∧
      s.keepsRegs t [ctl]) ∧
    (on → shut → exec (.aoTrimApply g i) s = .next s ∧ exec (.aoTrimClear g i) s = .next s) ∧
    (on → ¬shut → ∃ t, exec (.aoTrimClear g i) s = .next t ∧ look (17 * g.val + i.val) t.trims = none ∧ t.rdB ctl 2 = false ∧
      s.keepsRegs t [ctl]) ∧
    (stamp.toNat % 125 = 0 → need ≤ n.toNat → s0.fmode g i = 8 → w.ready = true → s0.stat g i 28 = false →
      s0.replacing g i = false →
      (counted → ∃ t, exec (.counterEdge g i stamp rising n) s = .next t ∧ (t.slice g i).count = w.count + 1 ∧
        t.rd (Reg.FCH_VALUE g i) = w.count + 1 ∧ (t.slice g i).edge = stamp) ∧
      (¬counted → ∃ t, exec (.counterEdge g i stamp rising n) s = .next t ∧ t.slice g i = { w with raw := rising } ∧
        t.regs = s0.regs)) ∧
    (n.toNat < need → exec (.counterEdge g i stamp rising n) s = .next s0)) ∧
  ∀ (g : Fin 32) (m : Fin 4) (err : Fin 3) (bytes : List W8) (retried : Fin 4) (burst : W8) (s : State),
    let st := Reg.FCH_HM_STAT g m
    let q := s.rd (Reg.FCH_HM_REQ g m)
    let i := getF q 24 4
    let ends (code : Nat) (t : State) := t.rdB st 31 = false ∧ t.rdB st 29 = true ∧ t.rdF st 16 8 = code ∧
      look m.val (t.group g).modems = none
    let on := s.blockOff (Reg.FCH_HM_CTRL g m) = false
    (on → s.rdB st 31 = false →
      (s.hartRefusal g m = 0 → ∃ t, exec (.hartStart g m) s = .next t ∧ t.rdB st 31 = true ∧ t.rdF st 16 8 = 0 ∧
        look m.val (t.group g).modems = some i ∧ t.sent = .hart g m (s.hartRequest g m) :: s.sent) ∧
      (s.hartRefusal g m ≠ 0 → ∃ t, exec (.hartStart g m) s = .next t ∧ ends (s.hartRefusal g m) t ∧ t.sent = s.sent) ∧
      exec (.hartAbort g m) s = .next s) ∧
    (s.rdB st 31 = false → exec (.hartDone g m err bytes retried burst) s = .next s) ∧
    (s.rdB st 31 = true → (on → exec (.hartStart g m) s = .next s ∧ ∃ t, exec (.hartAbort g m) s = .next t ∧ ends 6 t) ∧
      (err.val ≠ 0 → ∃ t, exec (.hartDone g m err bytes retried burst) s = .next t ∧ ends err.val t) ∧
      (err.val = 0 → ∃ t, exec (.hartDone g m err bytes retried burst) s = .next t ∧ t.rdB st 31 = false ∧ t.rdB st 30 = true ∧
        t.rdF st 8 8 = min 255 bytes.length ∧ look m.val (t.group g).modems = none)) ∧
    (s.hartRefusal g m =
      if 253 < getF q 16 8 ∧ 255 < getF q 0 16 then 7 else if s.pair.role ≠ .active then 5
      else if bit (s.inEffect g i 0x180) 0 = false ∨ (s.fmode g i ≠ 5 ∧ s.fmode g i ≠ 7) then 3
      else if (s.group g).modems.any (fun e => e.2 == i) then 4 else 0)

/-- R170 to R174: the guard's decision. While enabled, the highest-numbered enabled region that covers a byte decides by its bits;
where none does, and while the guard is not enabled, S mode falls to the default map and U mode is refused. Every byte of an
access is decided, in fallback the first alone. R169, R174, R175, R177: a guard is disabled, at once or by draining, and enabled
again in every window that acts as one; its regions are written while it is disabled and not locked, and answered with a bus error
otherwise; an engine that waited for its guard goes on when it is enabled; a comparator that fails its test falls back and fires
source 7. -/
def Obligations.Guards : Prop :=
  (∀ (m a n kind : Nat) (priv : Bool) (s : State),
    let covers (r x : Nat) := bit (s.rd (Reg.GRD_RATR m r)) 7 = true ∧
      regionCovers (s.rd (Reg.GRD_RBAR m r)) (s.rd (Reg.GRD_RATR m r)) x = true
    (∀ r < 16, s.guardOn m = true → covers r a → (∀ q, r < q → q < 16 → ¬covers q a) →
      s.permitted m priv a kind = (regionBits (s.rd (Reg.GRD_RATR m r)) priv kind, r)) ∧
    (s.guardOn m = false ∨ (∀ r < 16, ¬covers r a) →
      s.permitted m priv a kind = if priv then (defaultMap a kind, 0xFE) else (false, 0xFF)) ∧
    (s.rdB (Reg.GRD_CTRL m) 16 = false →
      (s.guardCheck m priv a n kind = none ↔ ∀ i < n, (s.permitted m priv (a + i) kind).1 = true) ∧
      ∀ f, s.guardCheck m priv a n kind = some f → a ≤ f.addr ∧ f.addr < a + n ∧
        (s.permitted m priv f.addr kind) = (false, f.region) ∧ (∀ y, a ≤ y → y < f.addr → (s.permitted m priv y kind).1 = true) ∧
        (f.straddle = true ↔ ∃ i < n, (s.permitted m priv (a + i) kind).1 = true)) ∧
    (s.rdB (Reg.GRD_CTRL m) 16 = true →
      (s.guardCheck m priv a n kind = none ↔ (s.permitted m priv a kind).1 = true) ∧
      ∀ f, s.guardCheck m priv a n kind = some f → f.addr = a ∧ f.straddle = false ∧ f.fallback = true)) ∧
  ∀ (m : Fin 48) (n : Fin 16) (attr inFlight : Bool) (lane : Fin 3) (v : W32) (s : State), guardMaster m = true →
    let locked := s.rdB (Reg.GRD_CTRL m) 31
    let mates := s.guardMates m
    let on (a : Nat) := s.blockOff a = false
    m.val ∈ mates ∧
    (on (Reg.GRD_CTRL m) → locked = false → s.rdB (Reg.GRD_CTRL m) 0 = true → ∃ t, exec (.guardDisable m inFlight) s = .next t ∧
      ∀ q ∈ mates, t.guardState q = (if inFlight then 1 else 2) ∧ t.rdB (Reg.GRD_CTRL q) 0 = false) ∧
    (on (Reg.GRD_CTRL m) → locked = true ∨ s.rdB (Reg.GRD_CTRL m) 0 = false →
      ∃ t, exec (.guardDisable m inFlight) s = .next t ∧ t.regs = s.regs) ∧
    (s.guardState m = 1 → ∃ t, exec (.guardDrainDone m) s = .next t ∧ ∀ q ∈ mates, t.guardState q = 2) ∧
    (s.guardState m ≠ 1 → exec (.guardDrainDone m) s = .next s) ∧
    (on (Reg.GRD_CTRL m) → locked = false → ∃ t u : State, exec (.guardEnable m) s = .next u ∧
      (s.mirrors = false → u = t.engineResume m) ∧ u.regs = (t.engineResume m).regs ∧ u.mem = (t.engineResume m).mem ∧
      (∀ q ∈ mates, t.guardOn q = true ∧ t.rdB (Reg.GRD_CTRL q) 0 = true) ∧
      ((∀ e ∈ s.stalls, e.1 ≠ m.val) → t.engineResume m = t)) ∧
    (on (Reg.GRD_CTRL m) → locked = true → (∀ e ∈ s.stalls, e.1 ≠ m.val) →
      ∃ t, exec (.guardEnable m) s = .next t ∧ t.regs = s.regs) ∧
    (on (if attr then Reg.GRD_RATR m n else Reg.GRD_RBAR m n) → s.guardState m = 2 → locked = false →
      ∃ t, exec (.guardRegionWrite m n attr v) s = .next t ∧ t.resp.err = false ∧
      ∀ q ∈ mates, if attr then t.rd (Reg.GRD_RATR q n) = v &&& 0x00FF1FF7#32 else t.rd (Reg.GRD_RBAR q n) = v &&& 0xFFFFFF00#32) ∧
    (s.guardState m ≠ 2 ∨ locked = true →
      exec (.guardRegionWrite m n attr v) s = .next { s with resp := { data := 0, err := true } }) ∧
    exec (.guardSelfTest m lane true) s = .next s ∧
    (∃ t, exec (.guardSelfTest m lane false) s = .next t ∧ t.rdB (Reg.GRD_CTRL m) 16 = true ∧ s.fired t 7)

/-- R178 to R183: the commands of a DMA channel, the reading of a descriptor, and one burst. A channel runs only while its guard
is enabled; a burst that the guard stops at its first byte faults with nothing moved, as does one whose source, or whose
descriptor, has an uncorrectable error (R75); one that it permits moves its bytes and the three registers. -/
def Obligations.DmaChannels : Prop :=
  ∀ (c : Fin 16) (v : W32) (read : Finding) (s : State),
    let st := s.chanState c
    let stat := Reg.DMA_CH_STAT c
    let runs (t : State) := t.chanState c = if t.guardOn (t.chanGuard c) then 1 else 2
    let on (a : Nat) := s.blockOff a = false
    let ctl := on (Reg.DMA_CH_CTRL c)
    let desc := on (Reg.DMA_CH_DESC c)
    let err (t : State) := t.rdB stat 28 = true ∧ t.chanState c = st ∧ s.keepsRegs t [stat]
    let faulted (code a : Nat) (t : State) := t.chanState c = 3 ∧ t.rdF stat 16 8 = code ∧ t.rdB stat 30 = true ∧
      t.rd (Reg.DMA_CH_FADDR c) = BitVec.ofNat 32 a ∧ s.fired t (80 + c.val)
    (st = 0 → (ctl → ∃ t, exec (.dmaStart c) s = .next t ∧ runs t ∧ (t.chan c).loaded = false ∧
        t.rd (Reg.DMA_CH_DESC c) = s.rd (Reg.DMA_CH_DESC c)) ∧
      (desc → ∃ t, exec (.dmaDescWrite c v) s = .next t ∧ t.rd (Reg.DMA_CH_DESC c) = v &&& 0xFFFFFFE0#32 ∧ t.resp.err = false)) ∧
    (st ≠ 0 → (ctl → ∃ t, exec (.dmaStart c) s = .next t ∧ err t) ∧
      exec (.dmaDescWrite c v) s = .next { s with resp := { data := 0, err := true } }) ∧
    (ctl → st = 3 ∨ st = 4 → ∃ t, exec (.dmaResume c) s = .next t ∧ runs t ∧
      (t.chan c).loaded = (if st = 4 then false else (s.chan c).loaded)) ∧
    (ctl → st ≠ 3 → st ≠ 4 → ∃ t, exec (.dmaResume c) s = .next t ∧ err t) ∧
    (ctl → st = 4 ∨ (st = 1 ∨ st = 3) ∧ (s.chan c).loaded = false → ∃ t, exec (.dmaAbort c) s = .next t ∧ t.chanState c = 0 ∧
      (t.chan c).loaded = false ∧ (st ≠ 4 → t.rdF stat 16 8 = 9)) ∧
    (ctl → st = 1 ∨ st = 3 → (s.chan c).loaded = true →
      ∀ u, s.dmaRelease c (2 ^ 30 + (if st = 1 then 9 else s.rdF stat 16 8) * 2 ^ 24 + s.dmaMoved c) = (u, true) →
      ∃ t, exec (.dmaAbort c) s = .next t ∧ t.chanState c = 0 ∧ t.rdF stat 16 8 = 9 ∧ t.mem = u.mem) ∧
    (ctl → st = 0 ∨ st = 2 → ∃ t, exec (.dmaAbort c) s = .next t ∧ err t) ∧
    (st = 1 → (s.chan c).loaded = false → s.descAccess c 1 = none →
      ∀ d, s.memLoad none (s.rd (Reg.DMA_CH_DESC c)).toNat 32 = some d →
      let w (o : Nat) : W32 := BitVec.ofNat 32 (wordAt d o 4)
      ∃ t, exec (.dmaDescriptorRead c .clean) s = .next t ∧ t.mem = s.mem ∧
        ((w 0).getLsbD 31 = false → t.chanState c = 4 ∧ t.rdB stat 29 = true) ∧
        ((w 0).getLsbD 31 = true → t.rd (Reg.DMA_CH_SRC c) = w 4 ∧ t.rd (Reg.DMA_CH_DST c) = w 8 ∧
          (t.rd (Reg.DMA_CH_REMAIN c)).toNat = (w 0).toNat % 2 ^ 24 ∧ (t.chan c).ctrl = w 0 ∧ (t.chan c).next = w 0xC ∧
          (descOk (w 0) (w 4) (w 8) (w 0xC) (w 0x1C) = false → faulted 7 (s.rd (Reg.DMA_CH_DESC c)).toNat t) ∧
          (descOk (w 0) (w 4) (w 8) (w 0xC) (w 0x1C) = true → t.chanState c = 1 ∧ (t.chan c).loaded = true))) ∧
    (st = 1 → (s.chan c).loaded = false → s.descAccess c 1 = none →
      ∀ q, s.memKey none (s.rd (Reg.DMA_CH_DESC c)).toNat = some q → memKind q ≠ none →
      ∃ t, exec (.dmaDescriptorRead c .uncorrectable) s = .next t ∧ t.chanState c = 3 ∧ t.rdF stat 16 8 = 6 ∧
        t.rd (Reg.DMA_CH_FADDR c) = s.rd (Reg.DMA_CH_DESC c) ∧ (t.chan c).loaded = false ∧ t.mem = s.mem) ∧
    (st = 1 → (s.chan c).loaded = true → (s.chan c).bad = false →
      let src := (s.rd (Reg.DMA_CH_SRC c)).toNat
      let dst := (s.rd (Reg.DMA_CH_DST c)).toNat
      let rem := (s.rd (Reg.DMA_CH_REMAIN c)).toNat
      let g := s.chanGuard c
      let fill := bit (s.chan c).ctrl 28
      let size := if (s.chan c).big && !s.rdB (Reg.GRD_CTRL g) 16 then 256 else 64
      let n := min rem (size - dst % size)
      (∀ code a, 0 < rem → s.burstStop g src dst n fill = some (0, code, a) →
        ∃ t, exec (.dmaBurst c read) s = .next t ∧ faulted code a t ∧ t.mem = s.mem) ∧
      (n < rem → s.burstStop g src dst n fill = none →
        ∀ u, s.burstMove c src dst n fill = .ok u → ∃ t, exec (.dmaBurst c .clean) s = .next t ∧ t.mem = u.mem ∧
          t.chanState c = 1 ∧
          t.rd (Reg.DMA_CH_SRC c) = BitVec.ofNat 32 (src + n) ∧
          t.rd (Reg.DMA_CH_DST c) = BitVec.ofNat 32 (dst + n) ∧ (t.rd (Reg.DMA_CH_REMAIN c)).toNat = rem - n) ∧
      (∀ e a, 0 < rem → s.burstStop g src dst n fill = none → s.burstMove c src dst n fill = .error (e, a) →
        ∃ t, exec (.dmaBurst c .clean) s = .next t ∧ faulted e a t ∧ t.mem = s.mem) ∧
      (∀ q, 0 < rem → s.burstStop g src dst n fill = none → fill = false → s.memKey none src = some q → memKind q ≠ none →
        ∃ t, exec (.dmaBurst c .uncorrectable) s = .next t ∧ t.chanState c = 3 ∧ t.rdF stat 16 8 = 3 ∧
          t.rd (Reg.DMA_CH_FADDR c) = BitVec.ofNat 32 src ∧ t.rd Reg.SYS_MEMERR_ADDR = BitVec.ofNat 32 q ∧ t.mem = s.mem))

/-- R185, R190 to R198: a lane that disagrees leaves the vote and is repaired, or is retired at its third mismatch within the
window; a disagreement in duplex halts the triad and takes the module out of service; and the steps of a repair. -/
def Obligations.LaneRepair : Prop :=
  ∀ (x : Fin 4) (lane : Fin 3) (icnt : W16) (slot : Fin 4) (when : W64) (s : State),
    let mode := s.triMode x
    let core := s.laneCore x lane
    let seen := mismatchWindow s.opsec (s.history core) ++ [s.opsec]
    (mode = 0 → ∃ t, exec (.voterTimeout x lane icnt) s = .next t ∧ t.history core = seen ∧ s.fired t (176 + 4 * x.val) ∧
      (seen.length < 3 → t.triMode x = 1 ∧ t.laneOk x lane = false ∧
        (t.triad x).repair = some { lane := lane, core := none, phase := 2, kind := 6, since := s.now }) ∧
      (3 ≤ seen.length → t.laneValid x lane = false ∧ t.laneOk x lane = false ∧ (t.triMode x = 1 ∨ t.triMode x = 2))) ∧
    (mode = 1 ∨ mode = 2 → ∃ t, exec (.voterTimeout x lane icnt) s = .next t ∧ t.triMode x = 5 ∧ (t.ctx x).halted = true ∧
      t.pair.role = .outOfService ∧ t.pair.claim = false) ∧
    (2 < mode → exec (.voterTimeout x lane icnt) s = .next s) ∧
    (∀ r c, (s.triad x).repair = some r → r.core = some c → r.phase = 1 → mode = 1 → (s.triad x).holdoff = false →
      s.slotCore slot = c →
      (∀ i < slot.val, s.slotCore i ≠ c) → ∃ t, exec (.resyncSpareConnected x) s = .next t ∧
        (t.triad x).repair = some { r with phase := 2 } ∧ t.slotState slot = 0) ∧
    (∀ r, (s.triad x).repair = some r → r.phase = 1 ∨ r.phase = 2 → (s.triad x).holdoff = true →
      exec (.resyncSpareConnected x) s = .next s ∧ ∀ same, exec (.resyncCopyDone x same) s = .next s) ∧
    (∀ r, (s.triad x).repair = some r → r.phase = 2 → mode = 1 → (s.triad x).holdoff = false →
      exec (.resyncCopyDone x true) s = .next (s.setTriad x { s.triad x with repair := some { r with phase := 3 } }) ∧
      ∃ t, exec (.resyncCopyDone x false) s = .next t ∧ t.laneValid x r.lane = false ∧ s.fired t (176 + 4 * x.val) ∧
        t.history (r.core.getD (s.laneCore x r.lane)) =
          mismatchWindow s.opsec (s.history (r.core.getD (s.laneCore x r.lane))) ++ [s.opsec]) ∧
    (∀ r, (s.triad x).repair = some r → r.phase = 3 → mode = 1 → r.lane < 3 → ∃ t, exec (.resyncRejoin x when) s = .next t ∧
      t.triMode x = 0 ∧ (∀ k < 3, t.laneOk x k = true) ∧ t.laneValid x r.lane = true ∧ (t.triad x).repair = none ∧
      (t.triad x).holdoff = true ∧ (t.ctx x).cyc = (s.ctx x).cyc + 64 ∧ s.fired t (177 + 4 * x.val) ∧
      t.laneCore x r.lane = (r.core.getD (s.laneCore x r.lane)) % 16) ∧
    (s.slotState slot = 2 →
      (∃ y < 4, ∃ r, (s.triad y).repair = some r ∧ r.phase = 0 ∧ r.core = some (s.slotCore slot)) ∨
        (s.pledged (s.slotCore slot) = false ∧ ∀ i < slot.val, s.slotState i = 2 → s.pledged (s.slotCore i) = true) →
      (∀ y < 4, s.triMode y ≠ 3) → ∃ t, exec (.spareWakeDone slot) s = .next t ∧ t.slotState slot = 1 ∧
      ∀ y < 4, ∀ r, (s.triad y).repair = some r → r.phase = 0 → r.core = some (s.slotCore slot) →
        (∀ z < y, ∀ q, (s.triad z).repair = some q → ¬(q.phase = 0 ∧ q.core = some (s.slotCore slot))) →
        (t.triad y).repair = some { r with phase := 1 }) ∧
    (s.slotState slot ≠ 2 → exec (.spareWakeDone slot) s = .next s) ∧
    ((s.triad x).deferred = [] → exec (.resyncHoldoffEnd x) s = .next (s.setTriad x { s.triad x with holdoff := false })) ∧
    (∀ l rest, (s.triad x).deferred = (0, l) :: rest → mode = 0 → l < 3 → ∃ t, exec (.resyncHoldoffEnd x) s = .next t ∧
      t.triMode x = 1 ∧ t.laneOk x l = false ∧ (t.triad x).deferred = rest ∧ (t.triad x).holdoff = false)

/-- R192, R193, R195, R196, R200 to R202: the commands of `TRI.CTRL`, each accepted in the mode it needs and an error elsewhere,
and what a split and a join leave: the three cores each with its own copy of the tightly coupled data, and L0's copy back as that
of the triad. A core whose copy fails its check at the join is retired (R194). Memory is taken in its canonical form. R199, R206:
a spare goes into service as an independent core, unless a lane has called on it (the model's choice, notes/assumptions/106.md),
and out of it when it holds nothing, and the cache partitions of a triad: a write that breaks a rule is ignored with CMD_ERR, and
a filled partition is locked with every line of it present. -/
def Obligations.TriadsAndSpareCores : Prop :=
  (∀ (x : Fin 4) (lane : Fin 4) (when : W64) (same1 same2 : Bool) (s : State), Memory.wf s.mem = true →
    let mode := s.triMode x
    let stat := Reg.TRI_STATE x
    let busy := s.repairing x
    let err (t : State) := t.rdB stat 31 = true ∧ t.triMode x = mode ∧ s.keepsRegs t [stat]
    let able := mode = 0 ∧ busy = false ∧ lane.val < 3
    let on := s.blockOff (Reg.TRI_CTRL x) = false
    let held := (s.triad x).holdoff
    let core (k : Nat) := 0x100000000 + s.laneCore x k * 0x100000
    (on → mode = 0 → busy = false → s.hasControl x = false → ∃ t, exec (.triSplit x) s = .next t ∧ t.rdB stat 30 = true ∧
      s.keepsRegs t [stat]) ∧
    (on → mode ≠ 0 ∨ busy = true ∨ s.hasControl x = true → ∃ t, exec (.triSplit x) s = .next t ∧ err t) ∧
    (s.rdB stat 30 = true → (s.ctx x).tiers = 0 → mode = 0 → ∃ t, exec (.splitEffect x) s = .next t ∧ t.triMode x = 3 ∧
      t.rdB stat 30 = false ∧ t.ctx x = {} ∧ s.fired t (177 + 4 * x.val) ∧
      ∀ k < 3, t.ctx (16 + s.laneCore x k) = s.ctx x ∧
        ∀ a < 0x80000, t.byte (core k + a) = s.byte (0x05000000 + x.val * 0x100000 + a)) ∧
    (on → busy = true → ∃ t, exec (.triJoin x) s = .next t ∧ err t) ∧
    (on → busy = false → s.rdB stat 30 = true → ∃ t, exec (.triJoin x) s = .next t ∧ t.rdB stat 30 = false ∧
      s.keepsRegs t [stat]) ∧
    (on → busy = false → s.rdB stat 30 = false → mode = 3 → (∀ k < 3, (s.ctx (16 + s.laneCore x k)).tiers = 0) →
      ∃ t, exec (.triJoin x) s = .next t ∧ t.triMode x = 4 ∧ t.repairing x = true) ∧
    (mode = 4 → ∃ t, exec (.joinDone x when same1 same2) s = .next t ∧
      (∀ a < 0x80000, t.byte (0x05000000 + x.val * 0x100000 + a) = s.byte (core 0 + a)) ∧
      (same1 = true → same2 = true → t.triMode x = (if (List.range 3).all fun k => s.laneValid x k then 0 else 2) ∧
        t.ctx x = s.ctx (16 + s.laneCore x 0) ∧ ((s.ctx (16 + s.laneCore x 0)).tiers = 0 → s.fired t (177 + 4 * x.val))) ∧
      (same1 = false ∨ same2 = false → t.triMode x ≠ 0) ∧
      (same1 = false → same2 = true → (∀ k < 3, s.laneValid x k = true) → t.laneValid x 1 = false ∧ t.laneOk x 1 = false)) ∧
    (on → able → held = false →
      (∃ t, exec (.triResync x lane) s = .next t ∧ t.triMode x = 1 ∧ t.laneOk x lane = false ∧
        (t.triad x).repair = some { lane := lane, core := none, phase := 2, kind := 11, since := s.now }) ∧
      (∃ t, exec (.triRetire x lane) s = .next t ∧ t.laneValid x lane = false ∧ t.laneOk x lane = false ∧
        s.fired t (178 + 4 * x.val))) ∧
    (on → able → held = true →
      (∃ t, exec (.triResync x lane) s = .next t ∧ (t.triad x).deferred = (s.triad x).deferred ++ [(0, lane.val)] ∧
        t.regs = s.regs) ∧
      (∃ t, exec (.triRetire x lane) s = .next t ∧ (t.triad x).deferred = (s.triad x).deferred ++ [(11, lane.val)] ∧
        t.regs = s.regs)) ∧
    (on → ¬able → (∃ t, exec (.triResync x lane) s = .next t ∧ err t) ∧ ∃ t, exec (.triRetire x lane) s = .next t ∧ err t)) ∧
  ∀ (w slot : Fin 4) (dcp : Bool) (v : W32) (s : State),
    let x := 16 + s.slotCore slot
    let slots := Reg.TRI_POOL 0
    let stat := Reg.TRI_STATE w
    let part := if dcp then Reg.TRI_DCP w else Reg.TRI_ICP w
    let old := s.rd part
    let new := v &&& 0xFFFFF0F1#32
    let bad := old.getLsbD 0 = true ∧ old &&& 0xFFFFF0F0#32 ≠ new &&& 0xFFFFF0F0#32 ∨ new.getLsbD 0 = true ∧
      partOk dcp new = false
    (s.slotState slot = 1 ∨ s.slotState slot = 2 → s.pledged (s.slotCore slot) = false →
      ∃ t, exec (.startIndep w slot) s = .next t ∧ t.slotState slot = 4 ∧
      t.ctx x = {} ∧ ∀ a < 0x80000, t.byte (0x100000000 + s.slotCore slot * 0x100000 + a) = 0) ∧
    (s.slotState slot ≠ 1 ∧ s.slotState slot ≠ 2 ∨ s.pledged (s.slotCore slot) = true → ∃ t,
      exec (.startIndep w slot) s = .next t ∧ t.rdB stat 31 = true ∧
      s.keepsRegs t [stat]) ∧
    (s.slotState slot = 4 → (s.ctx x).tiers = 0 → ∃ t, exec (.stopIndep w slot) s = .next t ∧ t.slotState slot = 2 ∧
      t.ctx x = {} ∧ s.keepsRegs t [slots, Reg.BEL_STATE]) ∧
    (s.slotState slot = 4 → (s.ctx x).tiers ≠ 0 →
      exec (.stopIndep w slot) s = .next (s.setCtx x { s.ctx x with stopping := true })) ∧
    (s.slotState slot ≠ 4 → ∃ t, exec (.stopIndep w slot) s = .next t ∧ t.rdB stat 31 = true ∧ s.keepsRegs t [stat]) ∧
    (s.slotState slot = 4 → (s.ctx x).stopping = true → (s.ctx x).tiers = 0 → ∃ t, exec (.stopIndepEffect slot) s = .next t ∧
      t.slotState slot = 2 ∧ t.ctx x = {}) ∧
    (s.slotState slot ≠ 4 ∨ (s.ctx x).stopping = false ∨ (s.ctx x).tiers ≠ 0 → exec (.stopIndepEffect slot) s = .next s) ∧
    (s.blockOff part = false → bad → ∃ t, exec (.cachePartitionWrite w dcp v) s = .next t ∧ t.rdB stat 31 = true ∧
      s.keepsRegs t [stat]) ∧
    (s.blockOff part = false → ¬bad → ¬(old.getLsbD 0 = true ∧ new.getLsbD 0 = true) → ∃ t,
      exec (.cachePartitionWrite w dcp v) s = .next t ∧
      t.rd part = new ∧ s.keepsRegs t [part]) ∧
    (s.rdB part 0 = true → ∃ t, exec (.partitionFilled w dcp) s = .next t ∧ t.rdB part 1 = true ∧
      (dcp = false → t.mem = s.mem ∧ t.cores = s.cores) ∧
      (dcp = true → (∀ y ∈ s.triTargets w, (s.ctx y).dcache.length + partBytes (getF old 4 4) / 64 ≤ 512) → t.mem = s.mem ∧
        ∀ y ∈ s.triTargets w, ∀ i < partBytes (getF old 4 4) / 64, t.lineOf y (getF old 12 20 * 64 + i) ≠ none)) ∧
    (s.rdB part 0 = false → exec (.partitionFilled w dcp) s = .next s)

/-- R208 to R210, R213, R358, R364: what the phases of a base tick do. At the output phase every channel with a valid output entry
on a line whose image is sent gets the forced value or the image's, and the shadow record goes out; at the tick every slice
applies the command it holds; and the sources of the lines that tick fire with the tick as their snapshot, after the holds of a
change that end by then (R229). R253, R284: a direct command is taken while the grid stands still, or by a module that holds the
claim for a channel without an output entry; it waits for the next base tick, or is applied at once while RUN is 0. Otherwise it
is an event of the slice. -/
def Obligations.GridAndDirectCommands : Prop :=
  (∀ (t : W64) (s : State),
    let due := s.run = true ∧ s.isTick t.toNat = true ∧ s.grid.last.toNat < t.toNat
    let so := s.atTime (t - BitVec.ofNat 64 s.woutNs)
    let w0 (e i : Nat) := so.scanWord e (so.listBank e) i 0
    let img (e i : Nat) := so.imgBase (so.listBank e) + getF (so.scanWord e (so.listBank e) i 1) 0 24
    let goes (e i : Nat) := so.scanValid e i = true ∧ (w0 e i).getLsbD 30 = true ∧
      so.outputLines t.toNat (getF (w0 e i) 26 4) = true
    let sl := (s.atTime t).latchFilters t.toNat
    let sw := s.atTime (t + BitVec.ofNat 64 s.winNs)
    let sf := if sw.change.holdTill.toNat ≤ sw.now.toNat then sw.holdsEnd else sw
    (due → so.pair.role = .active → so.force = none →
      (∀ j < 12, so.lineTicks j t.toNat = true → so.holdsSource (16 + j) = false) →
      (∀ e < 2, so.guardOn (16 + e) = true → ∀ i < 1024, so.guardCheck (16 + e) false (img e i) 4 1 = none) →
      ∃ u, exec (.outputPhase t) s = .next u ∧ so.linked u (.shadowRecord t u.shadowCommands) ∧
        u.grid.skippedFrom = none ∧ u.mem = so.mem ∧
        ∀ e < 2, so.guardOn (16 + e) = true → ∀ i < 1024, goes e i →
          (∀ k, i < k → k < 1024 → goes e k → getF (w0 e k) 0 9 ≠ getF (w0 e i) 0 9) →
          (u.slice (getF (w0 e i) 0 9 / 16) (getF (w0 e i) 0 9 % 16)).direct =
            some (if (w0 e i).getLsbD 23 then so.forceValue (fidx (w0 e i)) else BitVec.ofNat 32 (so.peek (img e i) 4))) ∧
    (due → so.pair.role ≠ .active → exec (.outputPhase t) s = .next so) ∧
    (due → ∃ u, exec (.gridLatch t) s = .next u ∧ u.grid.last = t ∧ u.grid.held = false ∧
      u.rd Reg.SCN_TICK_LO = t.setWidth 32 ∧
      (sl.pair.role = .active → ∀ g < 32, ∀ i < 17, ∀ v, (sl.slice g i).direct = some v → sl.fmode g i = 4 →
        (u.slice g i).direct = none ∧ (u.slice g i).cmd = v ∧ u.rd (Reg.FCH_VALUE g i) = (if v.getLsbD 0 then 1 else 0) ∧
        ((u.slice g i).closed = true → v.getLsbD 0 = true))) ∧
    (¬due → exec (.outputPhase t) s = .next s ∧ exec (.gridLatch t) s = .next s) ∧
    (s.run = true → s.grid.last = t → ∃ u, exec (.lineTickFire t) s = .next u ∧
      (sw.change.holdTill.toNat ≤ sw.now.toNat → u.change.holding = []) ∧
      ∀ j < 12, sf.lineTicks j t.toNat = true → sf.srcEn (16 + j) = true → sf.wouldMiss (16 + j) = false →
        look (16 + j) u.tic = some t) ∧
    (s.run = false ∨ s.grid.last ≠ t → exec (.lineTickFire t) s = .next s) ∧
    (due → s.pair.role = .active → s.isBoundary t.toNat = true → ∃ u, exec (.epochHoldBegin t) s = .next u ∧
      u.grid = { s.grid with holding := true } ∧ u.pair = s.pair ∧ u.mem = s.mem) ∧
    (¬(due ∧ s.pair.role = .active ∧ s.isBoundary t.toNat = true) → exec (.epochHoldBegin t) s = .next s) ∧
    (∀ line : Fin 12, s.run = true → s.pair.role = .active → ∃ u, exec (.scanOverrun line t) s = .next u ∧
      u.rdB Reg.SCN_GRIDSTAT 29 = true ∧ u.rdF Reg.SCN_GRIDSTAT 20 4 = line.val ∧ s.fired u 14 ∧
      u.pair.role = .outOfService ∧ u.pair.claim = false ∧ u.pair.drive = .highZ) ∧
    (∀ line : Fin 12, s.run = false ∨ s.pair.role ≠ .active → exec (.scanOverrun line t) s = .next s) ∧
    (s.blockOff Reg.SCN_TICK_LO = false → ∃ u, exec .tickLoRead s = .next u ∧
      u.resp = { data := (s.grid.last.setWidth 32).setWidth 64, err := false } ∧
      u.rd Reg.SCN_TICK_HI ++ u.resp.data.setWidth 32 = s.grid.last ∧ s.keepsRegs u [Reg.SCN_TICK_HI])) ∧
  ∀ (g : Fin 32) (i : Fin 17) (ao : Bool) (v : W32) (s : State),
    let a := if ao then Reg.FCH_AO_CMD g i else Reg.FCH_CMD g i
    let shown := i.val = 16 ∧ s.rdB (Reg.FCH_SPARE g) 15 = true
    let taken := s.run = false ∨ s.pair.claim = true ∧ (i.val = 16 ∨ s.outputListed (16 * g.val + i.val) = false)
    let on := s.blockOff (Reg.FCH_CFG g i) = false
    (on → shown → exec (.directCommand g i ao v) s = .next s) ∧
    (on → ¬shown → taken → ∃ t, exec (.directCommand g i ao v) s = .next t ∧ t.rd a = (if ao then v else v &&& 1#32) ∧
      (s.fmode g i = (if ao then 7 else 4) → s.run = true → t.slice g i = { s.slice g i with direct := some v }) ∧
      (s.fmode g i = (if ao then 7 else 4) → s.run = false → (t.slice g i).cmd = v ∧
        (ao = false → ((t.slice g i).closed = true ↔ v.getLsbD 0 = true ∧ t.heldOpen g i = false))) ∧
      (s.fmode g i ≠ (if ao then 7 else 4) → t.slices = s.slices)) ∧
    (on → ¬shown → ¬taken → ∃ t, exec (.directCommand g i ao v) s = .next t ∧ t.rdB (Reg.FCH_DIAG g i) 26 = true ∧
      t.slices = s.slices ∧
      t.rd a = s.rd a)

/-- R220, R222, R235: a force command as written. It waits for its output phase with BUSY, or is refused with the code of the
first reason: 7 while another waits or for OP 3, 5 in a module that is not Active or whose yield holds, 1 for APPLY and RELEASE
before the first swap, when no directory is in force. R218 to R223, R172, R175: a waiting force command at its output phase. It
ends with DONE or with the code of what is wrong; APPLY puts the value into the variable's entry or a free one and marks its scan
entry, RELEASE frees the entry, RELEASE_ALL every entry. It waits for master 16's guard to be enabled; a line of the table that
the guard refuses ends it with code 8, the refusal standing in the guard. Two codes that hold at once are told apart in the
model's order. -/
def Obligations.Forces : Prop :=
  (∀ (node : W16) (v : W32) (s : State),
    let st := Reg.SCN_FORCE_STAT
    let refused (code : Nat) (t : State) := t.rdB st 29 = true ∧ t.rdF st 16 8 = code ∧ t.force = s.force ∧ s.fired t 13
    let off := s.pair.role ≠ .active ∨ s.yieldHolds = true
    let key := getF v 24 8 = 0xA5
    let on := s.blockOff Reg.SCN_FORCE_CMD = false
    (on → ∀ op < 3,
      let cmd := if op = 0 then Instr.forceApply node else if op = 1 then .forceRelease node else .forceReleaseAll node
      (s.force ≠ none → ∃ t, exec cmd s = .next t ∧ refused 7 t) ∧
      (s.force = none → off → ∃ t, exec cmd s = .next t ∧ refused 5 t) ∧
      (s.force = none → ¬off → s.run = false → op < 2 → ∃ t, exec cmd s = .next t ∧ refused 1 t) ∧
      (s.force = none → ¬off → s.run = true ∨ op = 2 → ∃ t, exec cmd s = .next t ∧ t.rdB st 31 = true ∧ t.rdF st 16 8 = 0 ∧
        s.keepsRegs t [st] ∧
        t.force = some { op := op, node := node.toNat, id := s.rd Reg.SCN_FORCE_ARG_ID, since := s.now,
                         value := s.rd64 Reg.SCN_FORCE_ARG_LO Reg.SCN_FORCE_ARG_HI })) ∧
    (on → key → getF v 16 2 = 3 ∨ s.force ≠ none → ∃ t, exec (.forceCmdMalformed v) s = .next t ∧ refused 7 t) ∧
    (on → ¬key ∨ getF v 16 2 ≠ 3 ∧ s.force = none → exec (.forceCmdMalformed v) s = .next s)) ∧
  ∀ (tick : W64) (s : State),
    let due := s.run = true ∧ s.isTick tick.toNat = true ∧ s.grid.last.toNat < tick.toNat
    let u := s.atTime (tick - BitVec.ofNat 64 s.woutNs)
    let st := Reg.SCN_FORCE_STAT
    let off := u.pair.role ≠ .active ∨ u.yieldHolds = true
    let count (x : State) := x.rdF Reg.SCN_FORCE_CNT 0 10
    let cmd := Instr.forceCommandExecute tick
    let ends (code : Nat) (t : State) := t.force = none ∧ t.rdF st 16 8 = code ∧ t.rdB st 31 = false ∧
      t.rdB st (if code = 0 then 30 else 29) = true ∧ u.fired t 13
    let barred (r : Refused) (t : State) := ends 8 t ∧ t.mem = u.mem ∧ t.rdB (Reg.GRD_STAT 16) 31 = true ∧
      t.rdF (Reg.GRD_STAT 16) 28 2 = 3 ∧ t.rd (Reg.GRD_FADDR 16) = BitVec.ofNat 32 r.addr
    let all := ((List.range 512).filter u.forceV).map u.forceAddr
    (¬due → exec cmd s = .next s) ∧
    (due → u.force = none → exec cmd s = .next u) ∧
    (due → ∀ c, u.force = some c →
      let waits := u.now.toNat < c.since.toNat + 1000 ∨ u.guardOn 16 = false
      let entry := u.dirFind (u.rd Reg.SCN_DIR_BASE).toNat (u.rd Reg.SCN_DIR_N).toNat c.id
      (off → ∃ t, exec cmd s = .next t ∧ ends 5 t ∧ t.mem = u.mem) ∧
      (¬off → waits → exec cmd s = .next u) ∧
      (¬off → ¬waits → u.forceTable = false → ∃ t, exec cmd s = .next t ∧ ends 8 t ∧ t.mem = u.mem) ∧
      (¬off → ¬waits → u.forceTable = true → ∀ r, u.forceBarred [u.forceBase] = some r → ∃ t, exec cmd s = .next t ∧ barred r t) ∧
      (¬off → ¬waits → u.forceTable = true → u.forceBarred [u.forceBase] = none →
        (c.op < 2 → entry = none → ∃ t, exec cmd s = .next t ∧ ends 1 t ∧ t.mem = u.mem) ∧
        (c.op = 0 → ∀ ty w, entry = some (ty, w) →
          let clash := (u.chgState = 3 ∨ u.chgState = 4) ∧ u.changeBreaks c.id ty = true
          (u.forceable w = false → ∃ t, exec cmd s = .next t ∧ ends 2 t ∧ t.mem = u.mem) ∧
          (u.forceable w = true → clash → ∃ t, exec cmd s = .next t ∧ ends 4 t ∧ t.mem = u.mem) ∧
          (u.forceable w = true → ¬clash → ∀ i, u.forceOf c.id = some i → ∀ r, u.forceBarred [u.forceAddr i] = some r →
            ∃ t, exec cmd s = .next t ∧ barred r t) ∧
          (u.forceable w = true → ¬clash → ∀ i, u.forceOf c.id = some i → u.forceBarred [u.forceAddr i] = none →
            ∃ t, exec cmd s = .next t ∧ ends 0 t ∧ t.forceV i = true ∧ t.forceValue i = c.value.setWidth 32 ∧ count t = count u) ∧
          (u.forceable w = true → ¬clash → u.forceOf c.id = none → (∀ i < 512, u.forceV i = true) →
            ∃ t, exec cmd s = .next t ∧ ends 3 t ∧ t.mem = u.mem) ∧
          (u.forceable w = true → ¬clash → u.forceOf c.id = none → ∀ i < 512, u.forceV i = false →
            (∀ j < i, u.forceV j = true) → u.forceBarred [u.forceAddr i] = none → count u < 512 →
            ∃ t, exec cmd s = .next t ∧ ends 0 t ∧ t.forceV i = true ∧ t.forceValue i = c.value.setWidth 32 ∧
              count t = count u + 1 ∧ t.peek (t.forceAddr i) 4 = c.id.toNat ∧
              (getF w 30 2 < 2 →
                let e := t.scanWord (getF w 30 2) (u.listBank (getF w 30 2)) (getF w 0 16) 0
                e.getLsbD 23 = true ∧ fidx e = i))) ∧
        (c.op = 1 → entry ≠ none →
          (u.forceOf c.id = none → ∃ t, exec cmd s = .next t ∧ ends 6 t ∧ t.mem = u.mem) ∧
          (∀ i, u.forceOf c.id = some i → u.forceBarred [u.forceAddr i] = none → ∃ t, exec cmd s = .next t ∧ ends 0 t ∧
            t.forceV i = false ∧ count t = count u - 1 ∧ ∀ j < 512, j ≠ i → t.forceV j = u.forceV j)) ∧
        (2 ≤ c.op → ∀ r, u.forceBarred all = some r → ∃ t, exec cmd s = .next t ∧ barred r t) ∧
        (2 ≤ c.op → u.forceBarred all = none →
          ∃ t, exec cmd s = .next t ∧ ends 0 t ∧ count t = 0 ∧ ∀ i < 512, t.forceV i = false)))

/-- R225, R226, R233, R384, R442: VERIFY takes the CHANGE_ID, TRIADS and the bytes, and begins verification, a Standby's on its
lowest READY spare, or else PARKED one, that no lane has called on, or else T0; its end is READY with each triad's MINLVL
recorded, or REFUSED with the code of the lowest check that fails; CANCEL abandons an armed change. A command that does not fit
the state is ignored with CMD_ERR. R227, R228, R229, R376: ARM sets the first boundary between 10 ms and 60 s ahead at which every
line ticks, old and new, or refuses with its code; the Standby arms with the Active module; and migration of a triad begins at S
with source 8 + t. -/
def Obligations.ChangeVerifiedAndArmed : Prop :=
  (∀ s : State,
    let st := Reg.SCN_CHG_STAT
    let code (t : State) := t.rdF st 16 8
    let err (t : State) := t.rdB st 31 = true ∧ s.keepsRegs t [st] ∧ t.change = s.change ∧ t.chgState = s.chgState
    let on := s.blockOff Reg.SCN_CHG_CTRL = false
    let free (i k : Nat) := s.slotState i = k ∧ s.pledged (s.slotCore i) = false
    let busy := s.chgState = 1 ∨ s.chgState = 3 ∨ s.chgState = 4
    let u := s.underShadow
    let c := u.verifyCode u.triadChecks
    (on → busy → ∃ t, exec .changeVerify s = .next t ∧ err t) ∧
    (on → ¬busy → ∃ t, exec .changeVerify s = .next t ∧ t.chgState = 1 ∧ code t = 0 ∧ t.rdF st 24 4 = 0 ∧
      (s.pair.role ≠ .standby → s.keepsRegs t [st] ∧ t.change = { s.change with
        id := BitVec.ofNat 32 (s.desc 0), triads := s.desc 4 % 16, taken := s.changeBytes, starts := [] }) ∧
      (s.pair.role = .standby →
        (∀ i < 4, ∀ k, (k = 1 ∨ k = 2 ∧ ∀ j < 4, ¬free j 1) → free i k → (∀ j < i, ¬free j k) →
          t.change.runner = some i ∧ t.slotState i = 4) ∧
        ((∀ i < 4, ¬free i 1 ∧ ¬free i 2) → t.change.runner = some 4 ∧ look 0 t.bellows.asleep = none))) ∧
    (s.chgState ≠ 1 → exec .verificationDone s = .next s) ∧
    (s.chgState = 1 → s.start.starting = false →
      (c = 0 → ∃ t, exec .verificationDone s = .next t ∧ t.chgState = 2 ∧ code t = 0 ∧ s.fired t 12 ∧
        t.change = { s.change with found := u.results u.triadChecks, runner := none } ∧
        (∀ y < 4, t.rdF (Reg.BEL_PL y) 16 2 = u.slowest y % 4) ∧
        (s.pair.role = .standby → s.linked t (.control 6 [s.change.id.toNat]))) ∧
      (c ≠ 0 → ∃ t, exec .verificationDone s = .next t ∧ t.chgState = 6 ∧ code t = c % 256 ∧ s.fired t 12 ∧
        t.change = { s.change with runner := none } ∧ t.pair = s.pair)) ∧
    (s.chgState = 1 → s.start.starting = true → c ≠ 0 → ∃ t, exec .verificationDone s = .next t ∧ t.start.starting = false ∧
      t.chgState = 6 ∧ (s.pair.role = .active → t.pair.role = .outOfService ∧ t.pair.claim = false)) ∧
    (on → s.chgState = 3 → ∃ t, exec .changeCancel s = .next t ∧ t.chgState = 7 ∧ code t = 0x18 ∧ s.fired t 12 ∧
      t.change = { s.change with starts := [] }) ∧
    (on → s.chgState ≠ 3 → ∃ t, exec .changeCancel s = .next t ∧ err t)) ∧
  ∀ (when : W64) (id : W32) (ts : W64) (x : Fin 4) (s : State),
    let st := Reg.SCN_CHG_STAT
    let code (t : State) := t.rdF st 16 8
    let u := s.atTime when
    let able := u.chgState = 2 ∧ u.pair.role = .active ∧ u.pair.yield = .none
    let on := s.blockOff Reg.SCN_CHG_CTRL = false
    let good (b : Nat) := u.isBoundary b = true ∧ u.oldLinesTick b = true ∧ ∀ i < 256, i < u.nTasks → u.newLineTicks i b = true
    let far (b : Nat) := u.now.toNat + 10000000 ≤ b ∧ b < u.now.toNat + 60000000000
    let tight := ∃ t < 4, u.migrates t = true ∧
      (u.swapWindow t < u.migTime t ∨ u.underShadow.heldSourcesOk t (u.migTime t * 1000) = false)
    let joins := s.pair.role = .standby ∧ s.chgState = 2 ∧ s.change.id = id
    let heard := s.heard
    let moving := s.chgState = 3 ∨ s.chgState = 4
    (on → ¬able → ∃ t, exec (.changeArm when) s = .next t ∧ t.rdB st 31 = true ∧ u.keepsRegs t [st] ∧ t.change = u.change) ∧
    (on → able → u.armCode ≠ 0 → ∃ t, exec (.changeArm when) s = .next t ∧ t.chgState = 6 ∧ code t = u.armCode ∧ u.fired t 12) ∧
    (on → able → u.armCode = 0 → (∀ b, far b → ¬good b) → ∃ t, exec (.changeArm when) s = .next t ∧ t.chgState = 6 ∧
      code t = 0x15) ∧
    (∀ b, on → able → u.armCode = 0 → 500000 ≤ u.epochNs → far b → good b → (∀ a < b, far a → ¬good a) →
      (tight → ∃ t, exec (.changeArm when) s = .next t ∧ t.chgState = 6 ∧ code t = 0x0E) ∧
      (¬tight → ∃ t, exec (.changeArm when) s = .next t ∧ t.chgState = 3 ∧ code t = 0 ∧ t.swapTick = b % 2 ^ 64 ∧
        u.linked t (.control 7 [u.change.id.toNat, b]) ∧
        ∀ y < 4, look y t.change.starts =
          if u.migrates y then some (BitVec.ofNat 64 (b - u.woutNs - u.migTime y * 1000)) else none)) ∧
    (joins → ∃ t, exec (.changeArmingReceived id ts) s = .next t ∧ t.chgState = 3 ∧ t.swapTick = ts.toNat ∧
      s.keepsRegs t [st, Reg.SCN_CHG_TS_LO, Reg.SCN_CHG_TS_HI]) ∧
    (¬joins → exec (.changeArmingReceived id ts) s = .next heard) ∧
    (∀ at', look x.val s.change.starts = some at' → moving → ∃ t, exec (.migrationStart x) s = .next t ∧ t.chgState = 4 ∧
      ((s.atTime at').srcEn (8 + x.val) = true → t.isPending (8 + x.val) = true) ∧ t.srcTier (8 + x.val) = 15 ∧
      t.srcTarget (8 + x.val) = x.val ∧ t.srcMode (8 + x.val) = true ∧ look x.val t.change.starts = none ∧
      x.val ∈ t.change.holding ∧ x.val ∈ t.change.routine ∧ t.change.holdTill = BitVec.ofNat 64 (s.swapTick + s.winNs)) ∧
    (look x.val s.change.starts = none ∨ ¬moving → exec (.migrationStart x) s = .next s)

/-- R224, R230 to R232: the swap in one step: the banks of the triads that change, the list banks, the sources and lines of the
new tasks, and the state DONE. A triad that has not ended its migration at the deadline or at the swap abandons the change, whose
holds stand until ts + Win (R229). -/
def Obligations.ChangeSwap : Prop :=
  ∀ s : State,
    let st := Reg.SCN_CHG_STAT
    let moves := s.pair.role = .active ∧ (s.chgState = 3 ∨ s.chgState = 4)
    let d := s.atTime (BitVec.ofNat 64 (s.swapTick - s.woutNs))
    let u := s.atTime (BitVec.ofNat 64 s.swapTick)
    let dropped (v t : State) := t.chgState = 7 ∧ t.rdF st 16 8 = 0x16 ∧ v.fired t 12 ∧ t.change.starts = [] ∧
      t.change.holding = v.change.holding ∧
      t.triads = v.triads ∧ ∀ e < 2, t.listBank e = v.listBank e
    (¬moves → exec .migrationDeadline s = .next s ∧ exec .changeSwap s = .next s) ∧
    (moves → d.migrationOpen = true → ∃ t, exec .migrationDeadline s = .next t ∧ dropped d t) ∧
    (moves → d.migrationOpen = false → exec .migrationDeadline s = .next d) ∧
    (moves → u.migrationOpen = true → ∃ t, exec .changeSwap s = .next t ∧ dropped u t) ∧
    (moves → u.migrationOpen = false → ∃ t, exec .changeSwap s = .next t ∧ t.chgState = 5 ∧ t.rdF st 16 8 = 0 ∧
      t.rdF st 8 8 = (u.rdF st 8 8 + 1) % 256 ∧ t.run = true ∧
      (∀ y < 4, (t.triad y).bankB = if u.change.triads.testBit y then !(u.triad y).bankB else (u.triad y).bankB) ∧
      t.listBank 0 = !u.listBank 0 ∧ t.listBank 1 = !u.listBank 0 ∧
      t.change.inForce = u.change.found ∧ t.change.idNow = u.change.id ∧
      (u.run = false → t.grid.last = BitVec.ofNat 64 (t.swapTick - t.gridNs)) ∧
      ∀ i, i < 256 → i < u.nTasks →
        let w := u.taskWord i 0
        let src := getF w 0 8
        (∀ j, j < 256 → j < u.nTasks → j ≠ i → getF (u.taskWord j 0) 0 8 ≠ src) →
        t.srcEn src = true ∧ t.srcTarget src = getF w 16 5 ∧ t.srcTier src = getF w 24 4 ∧ t.srcMode src = w.getLsbD 31 ∧
        t.rd (Reg.TIC_SRC_ENTRY src) = u.taskWord i 4 &&& 0xFFFFFFFC#32 ∧ t.rd (Reg.TIC_SRC_SB src) = u.taskWord i 8 ∧
        (16 ≤ src → src < 28 → t.rd (Reg.SCN_LINE (src - 16)) = setB (u.taskWord i 0xC &&& 0x03FF03FF#32) 31))

/-- R382 to R384: a write of a level is refused with LVL_ERR when it is slower than MINLVL; the fields that differ from what is in
effect stall with SEQ_ERR while they would break FREQ ≥ VOLT, and are otherwise the goal; the changes are made one at a time, a
raised voltage first, and none breaks the order. -/
def Obligations.PerformanceLevels : Prop :=
  ∀ (i : Fin 8) (w : W32) (s : State),
    let p := s.plan i
    let v := getF w 8 2
    let evt := Reg.BEL_EVT
    let slow := s.rdF (Reg.BEL_PL i) 16 2 < getF w 0 2
    let f := if slow then p.freq else getF w 0 2
    let put (q : Plan) := ∃ t, exec (.plWrite i w) s = .next t ∧ t.plan i = q ∧ (slow → t.rdB evt 1 = true) ∧
      (¬slow → t.rd evt = s.rd evt)
    let stalls (q : Plan) := ∃ t, exec (.plWrite i w) s = .next t ∧ t.plan i = q ∧ t.rdB evt 0 = true ∧
      t.rdB (Reg.BEL_PL i) 31 = true ∧ (slow → t.rdB evt 1 = true)
    let sound (s : State) := s.volt i ≤ s.freq i ∧ (s.plan i).f < 4 ∧ (s.plan i).v < 4 ∧
      (∀ x, (s.plan i).sf = some x → x < 4) ∧ ∀ x, (s.plan i).sv = some x → x < 4
    (f = p.freq → v = p.volt → put p) ∧
    (f ≠ p.freq → v ≠ p.volt → v ≤ f → put { p with f := f, v := v, sf := none, sv := none }) ∧
    (f ≠ p.freq → v = p.volt → v ≤ f → put { p with f := f, sf := none }) ∧
    (f ≠ p.freq → v = p.volt → f < v → stalls { p with sf := some f }) ∧
    (f = p.freq → v ≠ p.volt → v ≤ f → put { p with v := v, sv := none }) ∧
    (f = p.freq → v ≠ p.volt → f < v → stalls { p with sv := some v }) ∧
    (p.freq < f → v ≠ p.volt → f < v → p.volt ≤ f → stalls { p with f := f, sf := none, sv := some v }) ∧
    (f < p.freq → v ≠ p.volt → f < v → v ≤ p.freq → stalls { p with v := v, sv := none, sf := some f }) ∧
    (p.v < s.volt i → ∃ t, exec (.levelChangeDone i) s = .next t ∧ t.volt i = p.v ∧ t.freq i = s.freq i) ∧
    (s.volt i ≤ p.v → s.volt i ≤ p.f → p.f ≠ s.freq i → s.plHeld i = false → ∃ t, exec (.levelChangeDone i) s = .next t ∧
      t.freq i = p.f % 4 ∧ t.volt i = s.volt i ∧ (s.islandControl i = true → i.val ∈ t.bellows.holdoff)) ∧
    (s.volt i < p.v → p.f = s.freq i → p.v ≤ p.f → ∃ t, exec (.levelChangeDone i) s = .next t ∧ t.volt i = p.v % 4 ∧
      t.freq i = s.freq i) ∧
    (∃ t, exec (.levelChangeHoldoffEnd i) s = .next t ∧ t.bellows.holdoff = s.bellows.holdoff.erase i ∧ t.freq i = s.freq i ∧
      t.volt i = s.volt i ∧ t.rdB (Reg.BEL_PL i) 31 = ((t.plan i).sf.isSome || (t.plan i).sv.isSome ||
        decide ((t.plan i).f < (t.plan i).v) || t.plHeld i && (t.plan i).f != t.freq i) ∧ (p.sf = none → (t.plan i).f = p.f)) ∧
    (sound s → ∀ c ∈ [Instr.plWrite i w, .levelChangeDone i, .levelChangeHoldoffEnd i], ∃ t, exec c s = .next t ∧ sound t)

/-- R385 to R391: the two phases of an entry into Banked or Ember, what each leaves, and the wakes. What a triad does not retain
in Banked reads 0 afterwards (notes/assumptions/11.md); the codes of the records are the model's (notes/assumptions/127.md). -/
def Obligations.SleepAndWakes : Prop :=
  ∀ (block : Fin 49) (cause : Fin 9) (i : Fin 9) (src : Fin 10) (s : State),
    let st := Reg.BEL_SLP_STAT
    let ended (o : Nat) (e : SleepEntry) (b c : Nat) (t : State) := t.bellows.entries = s.bellows.entries.erase e ∧
      t.rd st = BitVec.ofNat 32 (o * 2 ^ 30 + e.mode * 2 ^ 28 + e.target * 2 ^ 24 + b * 2 ^ 16 + c)
    let freed (e : SleepEntry) (t : State) := (∀ x ∈ e.cores, t.nap x = .awake) ∧
      ∀ k ∈ t.crossings, e.target ≠ 15 ∧ k.1 / 64 ≠ e.target ∧ k.1 % 64 ≠ e.target
    let recorded (n : Nat) (t : State) := s.recorder.closed = false → s.recorder.queue.length < 256 →
      ∃ r, t.recorder.queue = s.recorder.queue ++ [r] ∧ r.code = BitVec.ofNat 16 n ∧ r.seq = s.recorder.next
    let refused (e : SleepEntry) (b c : Nat) (t : State) := ended 2 e b c t ∧ t.rdB Reg.BEL_EVT 2 = true ∧ freed e t ∧ recorded 0x0B02 t
    let xs := s.islandTargets i
    let woken (t : State) := t.rdB Reg.BEL_WAKE_CAUSE 31 = true ∧ t.rdB Reg.BEL_WAKE_CAUSE src = true
    let idle (c : Instr) := exec c s = .next s
    (s.entryOf i = none →
      idle (.sleepPrepareDone i block cause) ∧ idle (.sleepPrepareTimeout i block) ∧ idle (.sleepCommitDone i block cause)) ∧
    (∀ e, s.entryOf i = some e →
      (cause.val = 3 ∨ cause.val = 6 → s.slpCause e block cause = some (block.val, cause.val)) ∧
      (e.commit = false →
        idle (.sleepCommitDone i block cause) ∧
        (∃ t, exec (.sleepPrepareTimeout i block) s = .next t ∧ refused e block 8 t) ∧
        (∀ b c, s.slpCause e block cause = some (b, c) → ∃ t, exec (.sleepPrepareDone i block cause) s = .next t ∧
          refused e b c t) ∧
        (s.slpCause e block cause = none → exec (.sleepPrepareDone i block cause) s =
          .next { s with bellows := { s.bellows with
            entries := s.bellows.entries.map fun x => if x = e then { x with commit := true } else x } })) ∧
      (e.commit = true →
        idle (.sleepPrepareDone i block cause) ∧ idle (.sleepPrepareTimeout i block) ∧
        (∀ b c, s.slpCause e block cause = some (b, c) → ∃ t, exec (.sleepCommitDone i block cause) s = .next t ∧
          refused e b c t) ∧
        (s.slpCause e block cause = none → e.mode = 2 → ∃ t, exec (.sleepCommitDone i block cause) s = .next t ∧
          ended 1 e 63 0 t ∧ t.bellows.ember = true ∧ (∀ k < 48, t.islandOff k = true) ∧ t.pair.drive = .highZ ∧ t.mem = s.mem) ∧
        (s.slpCause e block cause = none → e.mode ≠ 2 → e.target < 8 → ∃ t,
          exec (.sleepCommitDone i block cause) s = .next t ∧
          ended 1 e 63 0 t ∧ t.islandOff e.target = true ∧ (∀ x ∈ e.cores, t.nap x = .banked) ∧
          (4 ≤ e.target → t.mem = s.mem) ∧
          (e.target < 4 → ∀ n < 0x200000,
            let a := 0x04000000 + e.target * 0x400000 + n
            t.byte a = (if s.rdB (Reg.BEL_SLEEP e.target) 8 then s.byte a else 0) ∧
            t.byte (a + 0x200000) = (if s.rdB (Reg.BEL_SLEEP e.target) 9 then s.byte (a + 0x200000) else 0))))) ∧
    (s.entryOf i = none → i.val = 8 →
      (3 ≤ src.val → s.rdB (Reg.BEL_WAKE_EN 8) src = true → s.bellows.ember = true →
        ∃ t, exec (.wakeSource i src) s = .next t ∧ woken t ∧ t.bellows.waking = true) ∧
      (src.val < 3 ∨ s.rdB (Reg.BEL_WAKE_EN 8) src = false ∨ s.bellows.ember = false → idle (.wakeSource i src))) ∧
    (s.entryOf i = none → i.val < 8 → xs.Nodup → ∀ x ∈ xs, s.wakes i src x = true →
      (s.nap x = .idle ∨ s.nap x = .waits → ∃ t, exec (.wakeSource i src) s = .next t ∧ woken t ∧ t.nap x = .wakesIdle ∧
        t.rdF Reg.BEL_WAKE_CAUSE 24 4 = i.val) ∧
      (s.nap x = .banked → ∃ t, exec (.wakeSource i src) s = .next t ∧ woken t ∧ t.nap x = .wakesBanked ∧
        t.rdF Reg.BEL_WAKE_CAUSE 24 4 = i.val)) ∧
    (∀ e, s.entryOf i = some e → (i.val < 8 → ∃ x ∈ xs, s.wakes i src x = true) →
      (i.val = 8 → 3 ≤ src.val ∧ s.rdB (Reg.BEL_WAKE_EN 8) src = true) →
      ∃ t, exec (.wakeSource i src) s = .next t ∧ ended 3 e 63 0 t ∧ woken t ∧ t.rdB Reg.BEL_EVT 3 = true ∧ freed e t ∧
        recorded 0x0B03 t) ∧
    (i.val < 8 → (∀ x ∈ xs, s.wakes i src x = false) → idle (.wakeSource i src)) ∧
    (i.val = 8 → s.bellows.ember = true → s.bellows.waking = true → ∃ t, exec (.wakeDone i) s = .next t ∧ t.bellows = {} ∧
      t.islandsOff = 0 ∧ t.rdB Reg.SYS_RESET_CAUSE 1 = true ∧ t.rdB Reg.BEL_WAKE_CAUSE 30 = true ∧
      t.rdF Reg.BEL_WAKE_CAUSE 0 10 = s.rdF Reg.BEL_WAKE_CAUSE 0 10 ∧ t.ctx 0 = { running := true } ∧ ∀ x, x ≠ 0 → t.ctx x = {}) ∧
    (i.val = 8 → s.bellows.ember = false ∨ s.bellows.waking = false → idle (.wakeDone i)) ∧
    (i.val < 8 → (∃ x ∈ xs, s.nap x = .wakesBanked) → ∃ t, exec (.wakeDone i) s = .next t ∧ t.islandOff i = false ∧
      (∀ x ∈ xs, t.nap x = .awake ∧ t.ctx x = {}) ∧ t.rdF Reg.BEL_STATE (2 * i) 2 = 0) ∧
    (i.val < 8 → (∀ x ∈ xs, s.nap x ≠ .wakesBanked) → ∃ t, exec (.wakeDone i) s = .next t ∧ t.cores = s.cores ∧ t.mem = s.mem ∧
      ∀ x, t.nap x = if x ∈ xs ∧ s.nap x = .wakesIdle then .awake else s.nap x)

/-- R394, R396 to R399, R403: the commands of the backup domain, none of which acts during the lockout, and which are ignored with
CMD_ERR while a write is in transfer; the RTC, which the trim pulses of its window correct, and the counters as read and as a
window ends; and the backup-domain reset, which keeps the two counters. R393 to R395, R401: the cell as measured, the stop of the
domain, the end of the lockout, and PWR_ON_REQ as the line, the pull-up and STORE drive it; the codes of the records are the
model's (notes/assumptions/127.md). -/
def Obligations.BackupDomain : Prop :=
  (∀ (n : W32) (meas : W16) (when : W64) (s : State),
    let st := Reg.BKD_STAT
    let b := s.backup
    let pulses (b : Backup) := b.sec.toNat * 32768 + b.sub.toNat
    let ran (t : State) := (b.counted n.toNat < 2 ^ 63 → pulses t.backup = b.counted n.toNat) ∧
      (b.trim = 0 → b.counted n.toNat = pulses b + n.toNat) ∧ t.backup.raw = b.raw + n.toNat ∧ t.backup.pwrcyc = b.pwrcyc ∧
      t.backup.opsec = (if s.power.mainValid then BitVec.ofNat 40 (b.opsec.toNat + (b.pulses + n.toNat) / 32768) else b.opsec)
    let u := s.atTime when
    let v := u.rtcRun u.backup.windowLeft
    let sent (c : Backup) (t : State) := ∃ n ≤ 100000, t.backup = { c with busyTill := BitVec.ofNat 64 (s.now.toNat + n) }
    (b.lockout = true → ∀ c ∈ [Instr.breset, .rtcSet, .store, .unstore], exec c s = .next s) ∧
    (b.lockout = false → s.bkdBusy = true → ∀ c ∈ [Instr.breset, .rtcSet, .store, .unstore], ∃ t, exec c s = .next t ∧
      t.backup = b ∧ t.rdB st 21 = true ∧ s.keepsRegs t [st]) ∧
    (b.lockout = false → s.bkdBusy = false →
      (∃ t, exec .breset s = .next t ∧ (∀ a, bkdRegs a = true → t.rd a = resetVal a) ∧ t.backup.sec = 0 ∧ t.backup.sub = 0 ∧
        t.backup.trim = 0 ∧ t.backup.raw = 0 ∧ t.backup.opsec = b.opsec ∧ t.backup.pwrcyc = b.pwrcyc ∧
          t.backup.req = .released ∧ (s.levelCond 146 = false → s.fired t 146) ∧
        ∀ a, bkdRegs a = false → a < 0x10061020 ∨ 0x10061040 ≤ a → t.rd a = s.rd a) ∧
      (∃ t, exec .rtcSet s = .next t ∧ t.backup.sub = 0 ∧ t.rdB st 29 = false ∧ s.keepsRegs t [st] ∧
        t.backup.raw = t.backup.sec.toNat % 32 * 32768 ∧
        t.backup.sec.toNat = s.rdF Reg.BKD_RTC_SET_HI 0 16 * 2 ^ 32 + (s.rd Reg.BKD_RTC_SET_LO).toNat) ∧
      (s.pair.role = .unassigned ∨ s.pair.role = .outOfService →
        ∃ t, exec .store s = .next t ∧ sent { b with req := .released } t ∧ t.rdB st 22 = true ∧ s.keepsRegs t [st]) ∧
      (s.pair.role ≠ .unassigned → s.pair.role ≠ .outOfService →
        ∃ t, exec .store s = .next t ∧ sent b t ∧ t.rdB st 21 = true ∧ s.keepsRegs t [st]) ∧
      (s.rdB st 22 = true →
        ∃ t, exec .unstore s = .next t ∧ sent { b with req := .sinking } t ∧ t.rdB st 22 = false ∧ s.keepsRegs t [st]) ∧
      (s.rdB st 22 = false → ∃ t, exec .unstore s = .next t ∧ sent b t ∧ t.regs = s.regs)) ∧
    (∃ t, exec (.rtcSubRead n) s = .next t ∧ ran t ∧ t.resp = { data := t.backup.sub.setWidth 64, err := false } ∧
      t.rd Reg.BKD_RTC_SEC_LO = t.backup.sec.setWidth 32 ∧ (t.rd Reg.BKD_RTC_SEC_HI).toNat = t.backup.sec.toNat / 2 ^ 32 ∧
      (let day := t.backup.sec.toNat % 86400
       (t.rd Reg.BKD_CAL_TIME).toNat = day / 3600 * 65536 + day % 3600 / 60 * 256 + day % 60) ∧
      s.keepsRegs t [Reg.BKD_RTC_SEC_LO, Reg.BKD_RTC_SEC_HI, Reg.BKD_CAL_DATE, Reg.BKD_CAL_TIME]) ∧
    (∃ t, exec (.opsecLoRead n) s = .next t ∧ ran t ∧
      t.resp = { data := (t.backup.opsec.setWidth 32).setWidth 64, err := false } ∧
      (t.rd Reg.BKD_OPSEC_HI).toNat = t.backup.opsec.toNat / 2 ^ 32 ∧ s.keepsRegs t [Reg.BKD_OPSEC_HI]) ∧
    (∃ t, exec (.counterSave n) s = .next t ∧ ran t ∧ t.backup.savedOpsec = t.backup.opsec ∧
      t.backup.savedPwrcyc = t.backup.pwrcyc ∧
      t.regs = s.regs) ∧
    (u.rdB Reg.BKD_CFG 31 = true ∧ u.rdB Reg.NET_PTP_STAT 31 = true → ∃ t, exec (.rtcWindow meas when) s = .next t ∧
      (u.now.toNat / 1000000000 < 2 ^ 48 → t.backup.sec.toNat = u.now.toNat / 1000000000) ∧
      t.backup.sub.toNat = u.now.toNat % 1000000000 * 32768 / 1000000000 ∧ t.rdB st 29 = false ∧
      t.rd Reg.BKD_TRIM_MEAS = BitVec.ofNat 32 (2 ^ 31 + meas.toNat) ∧ t.backup.trim.toNat = u.rdF Reg.BKD_CFG 0 9 ∧
      t.backup.opsec = v.backup.opsec) ∧
    (u.rdB Reg.BKD_CFG 31 = false ∨ u.rdB Reg.NET_PTP_STAT 31 = false → exec (.rtcWindow meas when) s =
      .next { v with backup := { v.backup with
        sec := BitVec.ofNat 48 ((u.backup.sec.toNat / 32 + 1) * 32), sub := 0, raw := 0,
        trim := BitVec.ofNat 9 (u.rdF Reg.BKD_CFG 0 9) } })) ∧
  ∀ (hours mv : W16) (failed first : Bool) (s : State),
    let b := s.backup
    let st := Reg.BKD_STAT
    let put (r : PwrReq) := Host.Outcome.next (σ := State) (φ := Fault) (ρ := Refusal) { s with backup := { b with req := r } }
    let stop := Host.Outcome.next (σ := State) (φ := Fault) (ρ := Refusal) { s with backup := { b with stopped := true, req := .released } }
    let off := s.power.mainValid = false
    let recorded (n : Nat) (t : State) := ∃ r, t.recorder.queue = s.recorder.queue ++ [r] ∧ r.code = BitVec.ofNat 16 n ∧
      r.seq = s.recorder.next
    (∃ t, exec (.cellLow hours mv failed) s = .next t ∧ t.backup = { b with holdup := hours, cellMv := mv } ∧
      t.regView Reg.BKD_CELL = mv.setWidth 32 ∧ t.rdB st 27 = (s.rdB st 27 || decide (hours.toNat < 168)) ∧
      t.rdB st 26 = (s.rdB st 26 || failed) ∧ s.keepsRegs t [st, Reg.EVR_EVT, Reg.EVR_DROP] ∧
      (s.recorder.closed = false → s.recorder.queue.length < 256 → (hours.toNat < 168 ∧ s.rdB st 27 = false →
          failed = false ∨ s.rdB st 26 = true → recorded 0x0B1B t) ∧
        (failed = true → s.rdB st 26 = false → 168 ≤ hours.toNat ∨ s.rdB st 27 = true → recorded 0x0B1A t)) ∧
      (s.levelCond 146 = false → hours.toNat < 168 ∨ failed = true → s.fired t 146)) ∧
    exec (.brownoutArbitration first) s = (if first then .next { s with backup := { b with onCell := false } } else stop) ∧
    (off → exec .cellExhausted s = stop ∧ exec .backupLockoutEnd s = .next s) ∧
    (¬off → (∃ t, exec .cellExhausted s = .next t ∧ t.backup = b ∧ t.rdB st 26 = true ∧ s.keepsRegs t [st, Reg.EVR_EVT, Reg.EVR_DROP] ∧
      (s.levelCond 146 = false → s.fired t 146)) ∧
        exec .backupLockoutEnd s = .next { s with backup := { b with lockout := false } }) ∧
    (off → b.req = .sinking → exec .pullupLost s = put .watching) ∧
    (¬off ∨ b.req ≠ .sinking → exec .pullupLost s = .next s) ∧
    (b.req = .watching → exec .pullupReturn s = put (if s.rdF Reg.BKD_CFG 16 10 = 0 then .sinking else .delay)) ∧
    (b.req ≠ .watching → exec .pullupReturn s = .next s) ∧
    (b.req = .delay → exec .restartDelayExpire s = put .sinking) ∧
    (b.req ≠ .delay → exec .restartDelayExpire s = .next s) ∧
    (off → s.rdB st 22 = true → b.stopped = false → ∃ t, exec .storeReleaseDone s = .next t ∧
      t.backup = { b with req := .watching } ∧
      t.rdB st 22 = false ∧ s.keepsRegs t [st]) ∧
    (¬off ∨ s.rdB st 22 = false ∨ b.stopped = true → exec .storeReleaseDone s = .next s)

/-- R10, R23, R50, R353, R354, R371: lanes lost, found once the lasers are on, and retrained, the state of the link that follows,
and what leaves with it: a full copy is over, an Active module raises the pair alarm, and a Joining module returns to Unassigned.
A frame goes out on a lane in lock while the link carries its class, and one that is not acknowledged in time goes out again. -/
def Obligations.AnvilLanes : Prop :=
  ∀ (lane : Fin 3) (lanes : BitVec 3) (seq : W32) (frame : LinkFrame) (ok : Bool) (when : W64) (s : State),
    let v := s.anvil
    let evt := Reg.ANV_EVT
    let follows (t : State) := t.anvil.link = (if 2 ≤ t.anvil.inService then .full else if 0 < t.anvil.inService then .degraded
      else if v.link = .lost then .lost else .degraded)
    let left (t : State) := v.link = .full → t.anvil.link ≠ .full → t.rd Reg.ANV_COPY = 0 ∧
      (s.pair.role = .joining → t.pair.role = .unassigned ∧ t.pair.drive = .highZ) ∧ (s.pair.role = .active →
        t.pair.pairAlarm = true)
    let spared := v.spare.toNat < 3 ∧ v.spare.toNat ≠ lane.val ∧ v.lock.getLsbD v.spare.toNat = true
    let u := s.atTime when
    let recent (k : Nat) := (u.anvil.retries.filter fun e => decide (u.now.toNat < e.2 + 1000000)) ++ [(k, u.now.toNat)]
    let unacked := u.inFlight.find? fun e => e.seq == seq.toNat
    let out := s.send frame
    (v.lock.getLsbD lane = false → exec (.laneLockLost lane) s = .next s) ∧
    (v.lock.getLsbD lane = true → ∃ t, exec (.laneLockLost lane) s = .next t ∧ t.anvil.lock = clrB v.lock lane ∧
      t.anvil.failed = setB v.failed lane ∧ t.rdB evt 0 = true ∧
      (v.service.getLsbD lane = true → spared → t.anvil.service = setB (clrB v.service lane) v.spare.toNat ∧ t.anvil.spare = 3 ∧
        t.rdB evt 1 = true ∧ (s.ledger.log.length < 65536 → t.ledger.count = s.ledger.count + 1) ∧ follows t ∧ left t) ∧
      (v.service.getLsbD lane = true → ¬spared → t.anvil.service = clrB v.service lane ∧ follows t ∧ left t) ∧
      (v.service.getLsbD lane = false → t.anvil.service = v.service ∧ t.anvil.link = v.link ∧
        t.anvil.spare = (if v.spare.toNat = lane.val then 3 else v.spare))) ∧
    (v.inService = 0 → v.link ≠ .lost → ∃ t, exec .linkLost s = .next t ∧ t.anvil.link = .lost ∧ t.rdB evt 2 = true ∧
      t.anvil.flight = [] ∧ (s.pair.role = .joining → t.pair.role = .unassigned) ∧
      (s.pair.role = .active → t.pair.pairAlarm = true ∧ t.pair.role = .active) ∧
      (s.pair.role = .standby → s.pair.sense = true → t.pair.pairAlarm = true)) ∧
    (v.inService ≠ 0 ∨ v.link = .lost → exec .linkLost s = .next s) ∧
    (lanes = 0 ∨ s.lasersOn = false → exec (.linkUp lanes) s = .next s) ∧
    (lanes ≠ 0 → s.lasersOn = true → ∃ t, exec (.linkUp lanes) s = .next t ∧ t.anvil.lock = lanes ∧
      t.anvil.service = (if lanes = 7 then 3 else lanes) ∧ t.anvil.spare = (if lanes = 7 then 2 else 3) ∧ follows t ∧ left t ∧
      (v.link = .lost → t.rdB evt 3 = true) ∧
      (v.link ≠ .full → 2 ≤ t.anvil.inService → s.pair.role = .standby → v.missed = true → t.pair.role = .joining)) ∧
    (v.carries frame.cls = false → out = s) ∧
    (v.carries frame.cls = true → out.anvil.txSeq = v.txSeq + 1 ∧ (v.lanes = [] → out.sent = s.sent) ∧
      (v.lanes ≠ [] → ∃ k ∈ v.lanes, out.sent = .link k v.txSeq (Config.linkCrc v.txSeq) frame :: s.sent) ∧
      (frame.cls ≠ 1 → ∃ e ∈ out.anvil.flight, e.seq = v.txSeq ∧ e.frame = frame ∧ e.sentAt = s.now)) ∧
    ((∀ e, unacked = some e → e.lane = none) → exec (.frameAckTimeout seq when) s = .next u) ∧
    (∀ e k, unacked = some e → e.lane = some k → ∃ t, exec (.frameAckTimeout seq when) s = .next t ∧
      (u.anvil.carries e.frame.cls = true → ∀ j, u.anvil.laneOf e.seq = some j →
        .link j e.seq (Config.linkCrc e.seq) e.frame ∈ t.sent) ∧
      t.rdF Reg.ANV_LANEERR (8 * k) 8 = min 255 (u.rdF Reg.ANV_LANEERR (8 * k) 8 + 1) ∧
      t.anvil.retries = recent k ∧
      (k < 3 → 16 < (recent k).countP (fun e => e.1 == k) → t.anvil.failed.getLsbD k = true) ∧
      ((recent k).countP (fun e => e.1 == k) ≤ 16 → t.anvil.failed = u.anvil.failed ∧ t.anvil.link = u.anvil.link)) ∧
    (ok = true → v.failed.getLsbD lane = true → ∃ t, exec (.laneRetrain lane ok) s = .next t ∧
      t.anvil.failed = clrB v.failed lane ∧ t.anvil.lock = setB v.lock lane ∧ follows t ∧
      (s.ledger.log.length < 65536 → t.ledger.count = s.ledger.count + 1)) ∧
    (ok = false ∨ v.failed.getLsbD lane = false → exec (.laneRetrain lane ok) s = .next s)

/-- R8, R50, R356, R370, R421, R435: the heartbeat as it goes out and what one that arrives leaves, which counts for the half-open
window that holds its instant, a partner that is not Standby holding no change READY; seven windows without one; and the release
order. A stalled Active module sends none, and nor does a module whose lasers are off. R34, R366, R368, R370, R380: each reason
for which an Active module resigns, with its leave code; the claim goes, every slice is released and the role is Out of service.
-/
def Obligations.HeartbeatsAndResignations : Prop :=
  (∀ (when : W64) (role : Fin 5) (claim ready recovering trial : Bool) (fmt acc : W8) (merit : W64) (serial : BitVec 128) (ofs : W32)
    (s : State),
    let u := s.atTime when
    let beat := Instr.heartbeatReceived role claim ready recovering trial fmt acc merit serial ofs when
    let window := u.now.toNat / 125000
    let missed (s : State) := s.rdF Reg.ANV_STAT 16 8
    let evt := Reg.ANV_EVT
    (∃ t, exec (.heartbeatSend when) s = .next t ∧
      missed t = (if window ≤ u.anvil.hbWin.toNat then missed u else min 255 (missed u + 1)) ∧
      (u.lasersOn = false ∨ u.pair.role = .active ∧ u.stalled = true → t.sent = u.sent ∧ t.anvil = u.anvil) ∧
      (u.anvil.link = .lost → t.sent = u.sent) ∧
      (u.lasersOn = true → ¬(u.pair.role = .active ∧ u.stalled = true) →
        u.linked t (.heartbeat t.pair.role t.pair.claim (t.pair.role == .standby && t.ready) (t.rdB Reg.TRU_TRIAL 31)
          (BitVec.ofNat 32 t.start.recoverWhy) t.formats.1 t.formats.2 t.merit t.anvil.sealed t.anvil.committed t.now))) ∧
    (s.anvil.link = .lost → exec beat s = .next u) ∧
    (s.anvil.link ≠ .lost → ∃ t, exec beat s = .next t ∧ t.anvil.hbWin = BitVec.ofNat 64 (window + 1) ∧ missed t = 0 ∧
      t.rd Reg.ANV_TOFS = ofs ∧
      (∃ r, roleCode r = role.val ∧ t.pair.peer = some r ∧ (s.pair.peer ≠ some r → t.rdB Reg.COL_EVT 7 = true)) ∧
      t.pair.peerReady = ready ∧ t.pair.peerClaim = claim ∧ t.pair.peerTrial = trial ∧ t.pair.peerRecovering = recovering ∧
      t.pair.peerFmt = fmt ∧ t.pair.peerAcc = acc ∧ t.start.peerMerit = merit ∧ t.start.peerSerial = serial ∧
      (role.val ≠ 2 → t.change.partnerReady = none) ∧
      t.pair.role = (if s.pair.role = .joining ∧ role.val ≠ 3 then .unassigned else s.pair.role) ∧
      (s.pair.role = .active → recovering = true ∨ s.pair.peer = some .standby ∧ (role.val = 4 ∨ role.val = 2 ∧ ready = false) →
        t.pair.pairAlarm = true) ∧
      (s.pair.role = .active → role.val = 0 → t.sharesFormat = false → t.pair.pairAlarm = true) ∧
      (s.pair.role = .active → recovering = false → role.val = 2 → ready = true → s.anvil.link = .full →
        t.pair.pairAlarm = false)) ∧
    (missed s < 7 → exec .partnerSilent s = .next s) ∧
    (7 ≤ missed s → ∃ t, exec .partnerSilent s = .next t ∧ t.rdB evt 4 = true ∧
      (s.pair.role = .standby → s.pair.peer = some .active → s.anvil.lock ≠ 0 →
        t.sent = (((s.send .releaseOrder).send .releaseOrder).send .releaseOrder).sent ∧ t.rdB evt 10 = true) ∧
      (s.pair.role = .active → t.pair.peerReady = false ∧ t.pair.pairAlarm = true)) ∧
    (s.pair.role = .standby → s.pair.sense = true → ∃ t, exec .releaseFail s = .next t ∧ t.rdB evt 11 = true ∧
      t.pair.pairAlarm = true) ∧
    (s.pair.role ≠ .standby ∨ s.pair.sense = false → exec .releaseFail s = .next s)) ∧
  ∀ s : State,
    let act := s.pair.role = .active
    let gone (code : Nat) (t : State) := t.pair.role = .outOfService ∧ t.pair.claim = false ∧ t.pair.drive = .highZ ∧
      t.pair.yield = .none ∧ t.anvil.sealing = false ∧ t.rdF Reg.COL_CAUSE 16 8 = code ∧ t.rdB Reg.COL_CAUSE 31 = true ∧
      t.rdB Reg.COL_EVT 1 = true ∧ s.linked t (.control 1 [code]) ∧ t.mem = s.mem
    let wired := { s with pair := { s.pair with returned := false } }
    let seen := { s with pair := { s.pair with sense := true } }
    (act → ∃ t, exec .releaseOrderReceived s = .next t ∧ gone 5 t) ∧
    (¬act → exec .releaseOrderReceived s = .next s.heard) ∧
    (act → s.pair.yield ≠ .overlap → ∃ t, exec .claimConflict s = .next t ∧ gone 4 t ∧ t.rdB Reg.COL_EVT 3 = true) ∧
    (¬act ∨ s.pair.yield = .overlap → exec .claimConflict s = .next seen) ∧
    (act → s.pair.claim = true → s.start.probing = false → ∃ t, exec .claimReleasedByWire s = .next t ∧ gone 3 t) ∧
    (¬act ∨ s.pair.claim = false ∨ s.start.probing = true → exec .claimReleasedByWire s = .next wired) ∧
    (act → (∃ t, exec (.resign false) s = .next t ∧ gone 2 t) ∧ ∃ t, exec (.resign true) s = .next t ∧ gone 1 t) ∧
    (¬act → (∃ t, exec (.resign false) s = .next t ∧ t.rdB Reg.COL_EVT 6 = true ∧ t.pair = s.pair) ∧
      ∃ t, exec (.resign true) s = .next t ∧ t.pair.role = .outOfService ∧ t.pair.ownFault = true ∧ t.pair.claim = false ∧
        t.pair.drive = .highZ) ∧
    (∀ b, s.blockOff Reg.ANV_SEALED_LO = false → ∃ t, exec (.sealedLoRead b) s = .next t ∧ t.resp.err = false ∧
      t.rd (if b then Reg.ANV_COMMIT_HI else Reg.ANV_SEALED_HI) ++ t.resp.data.setWidth 32 =
        (if b then s.anvil.committed else s.anvil.sealed) ∧
      s.keepsRegs t [if b then Reg.ANV_COMMIT_HI else Reg.ANV_SEALED_HI]) ∧
    ∃ t, exec .ytsLoRead s = .next t ∧ t.resp.err = false ∧ t.rd Reg.COL_YTS_HI ++ t.resp.data.setWidth 32 = s.pair.yts ∧
      s.keepsRegs t [Reg.COL_YTS_HI]

/-- R172, R175, R357 to R362, R377: an epoch boundary. A module that may seal sends every dirty line that the Anvil engine's guard
permits and then the seal record, and clears the bank; while the guard is not enabled the engine waits with the lines; an
acknowledgement still owed is an overrun; a Standby that has not committed the epoch before has missed it. R10, R54, R175, R360,
R361, R364, R377: what the receiving side makes of line records, a seal record and a shadow record. A sound epoch is committed
whole and acknowledged, and the force count follows it; one that fails LINES, CHECK or order is dropped, and the module joins
again, with a new copy where one was in progress. While the Anvil engine's guard is not enabled the epoch waits. -/
def Obligations.Epochs : Prop :=
  (∀ (b epoch when : W64) (s : State),
    let due := s.run = true ∧ s.isBoundary b.toNat = true ∧ s.anvil.endTime.toNat < b.toNat
    let at' := s.atTime b
    let u := { at' with grid := { at'.grid with holding := false } }
    let seals := u.pair.role = .active ∧ ¬(u.pair.yield = .hold ∧ u.pair.yieldOff = false) ∧
      ¬(u.pair.yield = .preparing ∧ u.pair.hts = b)
    let cleared (t : State) := t.pair.yield ≠ .hold ∧ t.grid.holding = false ∧ t.anvil.endTime = b ∧
      (if u.anvil.bank then t.anvil.dirty1 = [] else t.anvil.dirty0 = [])
    let lines := u.dirtyLines.map fun l => (l, u.bytes (0x20000000 + 64 * l) 64)
    let sent := lines.filter fun e => (u.guardCheck 20 false (0x20000000 + 64 * e.1) 64 1).isNone
    let n := u.anvil.sealed + 1
    let id := if u.swapMark b.toNat then u.change.id else 0
    let owed := u.anvil.owed ≠ [] ∧ u.copyRuns = false
    let awaited := s.pair.role = .active ∧ ∃ e ∈ s.anvil.owed, e.1 = epoch
    let records := sent.foldl (fun s e => s.send (.lineRecord e.1 n e.2)) u
    (¬due → exec (.epochSeal b) s = .next s) ∧
    (due → seals → u.mayseal = false → ∃ t, exec (.epochSeal b) s = .next t ∧ cleared t ∧ t.anvil.sealing = false ∧
      t.sent = u.sent) ∧
    (due → seals → u.mayseal = true → u.anvil.sealing = false → ∃ t, exec (.epochSeal b) s = .next t ∧ cleared t ∧
      t.anvil.sealing = true ∧ t.anvil.owed = [] ∧ t.sent = u.sent) ∧
    (due → seals → u.mayseal = true → u.anvil.sealing = true → owed → ∃ t, exec (.epochSeal b) s = .next t ∧ cleared t ∧
      t.anvil.sealing = false ∧ t.anvil.overrun = true ∧ t.anvil.owed = [] ∧ t.rdB Reg.ANV_EVT 5 = true ∧
        t.pair.peerReady = false ∧
      t.pair.pairAlarm = true ∧ t.sent = u.sent) ∧
    (due → seals → u.mayseal = true → u.anvil.sealing = true → ¬owed → ∃ t, exec (.epochSeal b) s = .next t ∧ cleared t ∧
      t.anvil.sealed = n ∧ t.anvil.owed = u.anvil.owed ++ [(n, u.now)] ∧ t.anvil.bank = !u.anvil.bank ∧
      (u.guardOn 20 = true →
        t.sent = (records.send (.sealRecord n b sent.length
          (crc64 (sent.flatMap fun e => lineBytes e.1 (n.toNat % 2 ^ 32) e.2)) (u.rd Reg.SCN_FORCE_CNT)
          (b2n (u.swapMark b.toNat)) id u.writeFormat)).sent ∧
        (sent.length < lines.length → t.rdB (Reg.GRD_STAT 20) 31 = true)) ∧
      (u.guardOn 20 = false → t.sent = u.sent ∧
        t.stalls = u.stalls ++ [(20, .seal n b lines (b2n (u.swapMark b.toNat)) (u.rd Reg.SCN_FORCE_CNT) id)])) ∧
    (due → u.pair.role = .standby → u.anvil.endTime.toNat + u.epochNs < b.toNat → ∃ t, exec (.epochSeal b) s = .next t ∧
      t.anvil.missed = true ∧ t.pair.role = (if u.anvil.link = .full then .joining else .standby)) ∧
    (due → u.pair.role ≠ .active → u.pair.role ≠ .standby ∨ b.toNat ≤ u.anvil.endTime.toNat + u.epochNs →
      exec (.epochSeal b) s = .next u) ∧
    (awaited → ∃ t, exec (.commitAckReceived epoch when) s = .next t ∧ t.anvil.committed = epoch ∧
      (∀ e ∈ t.anvil.owed, e ∈ s.anvil.owed ∧ epoch.toNat < e.1.toNat) ∧
      t.rdB Reg.ANV_EVT 7 = true ∧
      ((s.atTime when).rdB Reg.ANV_COPY 30 = true → s.anvil.copyEpoch.toNat < epoch.toNat →
        t.rdB Reg.ANV_COPY 30 = false ∧ t.rdB Reg.ANV_EVT 9 = true)) ∧
    (due → u.pair.role = .active → u.pair.yield = .hold → u.pair.yieldOff = false → exec (.epochSeal b) s = .next u) ∧
    (¬awaited → exec (.commitAckReceived epoch when) s = .next (s.atTime when).heard)) ∧
  ∀ (line : BitVec 19) (low : W32) (data : List W8) (epoch ends check tick : W64) (lines force change : W32) (final : Bool)
    (cmds : List (Fin 512 × W32)) (s : State),
    let takes := s.pair.role = .standby ∨ s.pair.role = .joining
    let v := s.anvil
    let h := s.heard
    let sound := lines.toNat = v.rxLines.length ∧ check = s.rxCheck ∧ (s.pair.role = .joining ∨ epoch = v.committed + 1)
    let cmd := Instr.sealRecordReceived epoch ends lines check force false final change
    let place (e : Nat × List W8) := 0x20000000 + 64 * (e.1 % 524288)
    let u := s.atTime tick
    (takes → exec (.lineRecordReceived line low data) s =
      .next { h with anvil := { h.anvil with rxLines := v.rxLines ++ [(line.toNat + 524288 * low.toNat, padTo 64 data)] } }) ∧
    let on := s.guardOn 20 = true
    (takes → on → sound → (∀ e ∈ v.rxLines, e.2.length = 64 ∧ s.guardCheck 20 false (place e) 64 2 = none) →
      (v.rxLines.map fun e => e.1 % 524288).Nodup →
      ∃ t, exec cmd s = .next t ∧ t.anvil.committed = epoch ∧ t.anvil.endTime = ends ∧ t.anvil.rxLines = [] ∧
        t.rdB Reg.ANV_EVT 7 = true ∧ t.rdF Reg.SCN_FORCE_CNT 0 10 = force.toNat % 1024 ∧
        (v.carries 3 = true → ∀ k, v.laneOf v.txSeq = some k →
          .link k v.txSeq (Config.linkCrc v.txSeq) (.control 3 [epoch.toNat]) ∈ t.sent) ∧
        (∀ e ∈ v.rxLines, t.bytes (place e) 64 = e.2) ∧
        (∀ a, (∀ e ∈ v.rxLines, a < place e ∨ place e + 64 ≤ a) → t.byte a = s.byte a) ∧
        t.anvil.dirty0 = v.dirty0 ∧ t.anvil.dirty1 = v.dirty1 ∧
        (s.pair.role = .joining → s.rdB Reg.ANV_COPY 30 = true → v.copyEpoch.toNat < epoch.toNat → v.missed = true →
          t.pair.role = .joining ∧ t.rd Reg.ANV_COPY = 0) ∧
        (s.pair.role = .joining → s.rdB Reg.ANV_COPY 30 = true → v.copyEpoch.toNat < epoch.toNat → v.missed = false →
          t.pair.role = .standby ∧ t.pair.drive = .standby ∧ t.anvil.copyDone = true ∧ t.rdB Reg.ANV_COPY 30 = false ∧
          ∀ k < 4, ∀ x ∈ s.islandTargets k, t.nap x = .banked)) ∧
    (takes → ¬on → exec cmd s = .next { h with
      anvil := { h.anvil with rxLines := [] }
      stalls := s.stalls ++ [(20, .commit epoch ends lines check force false final change v.rxLines)] }) ∧
    (takes → on → ¬sound → ∃ t, exec cmd s = .next t ∧ t.rdB Reg.ANV_EVT 6 = true ∧ t.anvil.rxLines = [] ∧
      t.anvil.copyDone = false ∧ t.anvil.missed = true ∧
      t.pair.role = .joining ∧ t.mem = s.mem ∧ t.anvil.committed = v.committed) ∧
    (takes → (cmds.map Prod.fst).Nodup → ∃ t, exec (.shadowRecordReceived tick cmds) s = .next t ∧ t.anvil.shadowTick = tick ∧
      ∀ c ∈ cmds, t.slice (c.1.val / 16) (c.1.val % 16) = { s.slice (c.1.val / 16) (c.1.val % 16) with cmd := c.2 }) ∧
    (¬takes → exec (.lineRecordReceived line low data) s = .next h ∧ exec (.shadowRecordReceived tick cmds) s = .next h ∧
      exec cmd s = .next h) ∧
    (takes → u.run = true → u.isTick tick.toNat = true → v.shadowTick.toNat < tick.toNat →
      ∃ t, exec (.shadowLate tick) s = .next t ∧ t.rdB Reg.ANV_EVT 8 = true) ∧
    (¬takes ∨ u.run = false ∨ u.isTick tick.toNat = false ∨ tick.toNat ≤ v.shadowTick.toNat → exec (.shadowLate tick) s = .next u)

/-- R52, R175, R227, R233, R373, R374: a planned yield as requested by software or by the lever, its refusal codes, its messages,
and how it is cancelled or abandoned, a hold that has begun lasting until the yield tick; a change that either module holds ARMED
is abandoned by it. The yield tick is the first boundary from 10 ms to 60 s ahead at which every line ticks. -/
def Obligations.YieldRequests : Prop :=
  ∀ (when ty ts : W64) (s : State),
    let u := s.atTime when
    let act (s : State) := s.pair.role = .active
    let able := act u ∧ u.pair.peer = some .standby ∧ u.pair.peerReady = true ∧ u.anvil.link = .full
    let clear := u.pair.yield = .none ∧ u.copyRuns = false
    let good (b : Nat) := u.isBoundary b = true ∧ u.allTick b = true
    let far (b : Nat) := u.now.toNat + 10000000 ≤ b ∧ b < u.now.toNat + 60000000000
    let failed (code : Nat) (t : State) := t.rdF Reg.COL_CAUSE 8 8 = code ∧ t.rdB Reg.COL_EVT 5 = true
    let dropped (r : State) (code : Nat) (t : State) := failed code t ∧ r.linked t (.control 5 [code])
    let off (t : State) := if u.pair.yield = .hold then t.pair.yield = .hold ∧ t.pair.yieldOff = true else t.pair.yield = .none
    let h := s.atTime s.pair.hts
    let dropped' (t : State) := failed 4 t ∧ (h.anvil.carries 3 = true → ∀ lane, h.anvil.laneOf h.anvil.txSeq = some lane →
      .link lane h.anvil.txSeq (Config.linkCrc h.anvil.txSeq) (.control 5 [4]) ∈ t.sent)
    let waits := { s.heard.pair with yield := .preparing, yts := ty, hts := ts }
    let hold := act s ∧ s.pair.yield = .preparing
    let on := u.pair.yield = .preparing ∨ u.pair.yield = .hold
    let known := u.pair.yieldOff = true
    let bad := u.anvil.link ≠ .full ∨ u.pair.peer ≠ some .standby ∨ u.pair.peerReady = false
    let late := u.pair.yield = .hold ∧ u.anvil.finalAcked = false ∧ u.pair.yts.toNat ≤ u.now.toNat + 5000
    let lever (r : Lamp) (t : State) := t.power = { u.power with lever := true, remove := r }
    (¬able → ∃ t, exec (.yield when) s = .next t ∧ failed 1 t ∧ t.pair.yield = u.pair.yield) ∧
    (able → ¬clear → ∃ t, exec (.yield when) s = .next t ∧ failed 2 t ∧ t.pair.yield = u.pair.yield) ∧
    (able → clear → u.chgState = 4 → exec (.yield when) s = .next { u with pair := { u.pair with yieldWaits := true } }) ∧
    (able → clear → u.chgState ≠ 4 → (∀ b, far b → ¬good b) → ∃ t, exec (.yield when) s = .next t ∧ failed 6 t ∧
      t.pair.yield = .none) ∧
    (∀ b, able → clear → u.chgState ≠ 4 → 500000 ≤ u.epochNs → far b → good b → (∀ a < b, far a → ¬good a) →
      ∃ t, exec (.yield when) s = .next t ∧ t.pair.yield = .preparing ∧ t.pair.yts = BitVec.ofNat 64 b ∧
        t.pair.hts = BitVec.ofNat 64 (b - u.epochNs) ∧ u.linked t (.control 4 [b, b - u.epochNs]) ∧
        (u.chgState = 3 → t.chgState = 7 ∧ t.rdF Reg.SCN_CHG_STAT 16 8 = 0x17)) ∧
    (¬act u → ∃ t, exec (.leverSwitchOpen when) s = .next t ∧ lever .steady t ∧ t.pair = u.pair) ∧
    (act u → ¬able → u.pair.yield ≠ .none ∨ u.pair.yieldWaits = false → ∃ t, exec (.leverSwitchOpen when) s = .next t ∧
      lever .flash4 t ∧ failed 1 t) ∧
    (able → ¬clear → u.pair.yield ≠ .none ∨ u.pair.yieldWaits = false → ∃ t, exec (.leverSwitchOpen when) s = .next t ∧
      lever .flash4 t ∧ failed 2 t) ∧
    (∀ b, able → clear → u.chgState ≠ 4 → 500000 ≤ u.epochNs → far b → good b → (∀ a < b, far a → ¬good a) →
      ∃ t, exec (.leverSwitchOpen when) s = .next t ∧ lever u.power.remove t ∧ t.pair.yield = .preparing ∧
        t.pair.yts = BitVec.ofNat 64 b) ∧
    exec .leverSwitchClose s = .next { s with power := { s.power with lever := false, remove := .off } } ∧
    (s.pair.role = .standby → ∃ t, exec (.yieldMessageReceived ty ts) s = .next t ∧ t.pair = waits ∧
      t.anvil.finalAcked = false ∧ (s.chgState = 3 → t.chgState = 7 ∧ t.rdF Reg.SCN_CHG_STAT 16 8 = 0x17) ∧
      (s.chgState ≠ 3 → t.chgState = s.chgState) ∧ ∀ k < 4, ∀ x ∈ s.islandTargets k, t.nap x = .awake) ∧
    (s.pair.role ≠ .standby → exec (.yieldMessageReceived ty ts) s = .next s.heard) ∧
    (hold → h.mayseal = true → h.pair.peerReady = true → h.anvil.sealing = true → h.anvil.owed = [] →
      ∃ t, exec .yieldHold s = .next t ∧ t.pair.yield = .hold ∧ t.pair.yieldOff = false ∧ t.anvil.finalAcked = false ∧
        t.anvil.sealed = h.anvil.sealed + 1 ∧
        (h.guardOn 20 = true → h.anvil.lanes ≠ [] → ∃ lane q c n check force flags change fmt, flags.testBit 1 = true ∧
          t.sent.head? = some (.link lane q c (.sealRecord t.anvil.sealed h.pair.hts n check force flags change fmt))) ∧
        (h.guardOn 20 = false → t.sent = h.sent ∧ t.stalls.length = h.stalls.length + 1)) ∧
    (hold → h.mayseal = false ∨ h.pair.peerReady = false → ∃ t, exec .yieldHold s = .next t ∧ dropped' t ∧
      t.pair.yield = .none ∧ t.anvil.endTime = h.pair.hts) ∧
    (¬hold → exec .yieldHold s = .next s) ∧
    (hold → ∃ t, exec .yieldCancel s = .next t ∧ dropped s 5 t ∧ t.pair.yield = .none) ∧
    (¬hold → ∃ t, exec .yieldCancel s = .next t ∧ t.rdB Reg.COL_EVT 6 = true ∧ t.pair = s.pair) ∧
    (on → act u → ¬known → bad → ∃ t, exec (.yieldAbandon when) s = .next t ∧ dropped u 4 t ∧ off t) ∧
    (on → act u → ¬known → ¬bad → late → ∃ t, exec (.yieldAbandon when) s = .next t ∧ dropped u 3 t ∧ off t) ∧
    (on → u.pair.role = .standby → ∃ t, exec (.yieldAbandon when) s = .next t ∧ t.pair = { u.pair with yield := .none } ∧
      ∀ k < 4, ∀ x ∈ u.islandTargets k, t.nap x = .banked) ∧
    (on → ¬act u → u.pair.role ≠ .standby → exec (.yieldAbandon when) s = .next { u with pair := { u.pair with yield := .none } }) ∧
    (¬on ∨ act u ∧ (known ∨ ¬bad ∧ ¬late) → exec (.yieldAbandon when) s = .next u)

/-- R35, R175, R257, R258, R292, R367 to R369, R371, R374 to R377: the ways in which the Active role passes: the yield tick in
both modules, the end of the overlap, after which the new Active module's stages carry the whole current, a catch, the moment at
which the new Active module runs; and a full copy as it starts and as its pass ends. A module whose claim driver cannot source the
claim takes no role. R5, R6, R172, R175, R376 to R378: what arrives from the Active module beside epochs. A mirrored write goes to
the own block, or into the shadow where it belongs to a triad; one that the block does not take sets CFG_ERR and ends readiness. A
full copy fills line by line and register by register, in the bits that it carries and no others, clears no LOCK, and waits while
the Anvil engine's guard is not enabled. -/
def Obligations.HandoversAndMirror : Prop :=
  (∀ (levels : BitVec 512) (when b epoch : W64) (kib : W16) (s : State),
    let u := s.atTime when
    let y := s.atTime s.pair.yts
    let passes := s.pair.role = .active ∧ s.pair.yield = .hold ∧ s.pair.yieldOff = false ∧ s.anvil.finalAcked = true
    let takes := s.pair.role = .standby ∧ s.pair.yield = .preparing ∧ s.anvil.finalAcked = true ∧ s.claimable = true
    let all (n : Nap) (t : State) := ∀ k < 4, ∀ x ∈ s.islandTargets k, t.nap x = n
    let unseen := { u with pair := { u.pair with sense := false } }
    let joining := u.pair.role = .joining
    let catches := u.catchArmed = true ∧ u.claimable = true
    let ends := s.rdB Reg.ANV_COPY 31 = true ∧ (s.pair.role = .active → s.guardOn 20 = true)
    let joins := s.pair.role = .active ∧ s.pair.peer = some .joining ∧ s.anvil.link = .full ∧ s.sharesFormat = true ∧
      s.copyRuns = false ∧ s.chgState ≠ 3 ∧ s.chgState ≠ 4 ∧ s.pair.yield = .none ∧ s.isBoundary b.toNat = true ∧
        s.now.toNat ≤ b.toNat
    (passes → ∃ t, exec (.yieldHandover levels) s = .next t ∧ t.pair.role = .standby ∧ t.pair.claim = false ∧
      t.pair.yield = .overlap ∧ t.pair.running = false ∧ t.pair.peer = s.pair.peer ∧ t.rdF Reg.COL_CAUSE 16 8 = 7 ∧
      t.anvil.sealing = false ∧ all .banked t ∧ ∀ k < 4, ∀ x ∈ s.islandTargets k, t.ctx x = {}) ∧
    (takes → ∃ t, exec (.yieldHandover levels) s = .next t ∧ t.pair.role = .active ∧ t.pair.claim = true ∧
      t.pair.yield = .overlap ∧ t.pair.running = true ∧ t.pair.drive = .driving ∧ t.pair.peer = s.pair.peer ∧
      t.anvil.sealed = y.anvil.committed ∧ t.anvil.endTime = s.pair.yts ∧ t.anvil.shadow = [] ∧ t.grid.live = 0 ∧ all .awake t) ∧
    (¬passes → ¬takes → exec (.yieldHandover levels) s = .next s) ∧
    (s.pair.yield = .overlap → s.trust.yieldReset = false → ∃ t, exec (.yieldOverlapEnd when) s = .next t ∧ t.pair.yield = .none ∧
      t.rdB Reg.COL_EVT 4 = true ∧ t.pair.role = s.pair.role ∧ (s.pair.role = .standby → t.pair.drive = .standby ∧
        ∀ g < 32, ∀ i < 16, (u.fmode g i = 4 → (t.slice g i).closed = false) ∧ (u.fmode g i = 7 → (t.slice g i).dac = 0)) ∧
      (s.pair.role ≠ .standby → ∀ g < 32, ∀ i < 16, u.fmode g i = 7 → (t.slice g i).dac =
        if u.stageBarred g i then 0 else dacCode (u.trimmed g i (u.slice g i).applied.toNat))) ∧
    (s.pair.yield = .overlap → s.trust.yieldReset = true → s.pair.role = .standby → ∃ t,
      exec (.yieldOverlapEnd when) s = .next t ∧
      t.pair.role = .unassigned ∧ t.rdB Reg.SYS_RESET_CAUSE 1 = true ∧ t.ctx 0 = { running := true }) ∧
    (s.pair.yield ≠ .overlap → exec (.yieldOverlapEnd when) s = .next s) ∧
    (catches → ∃ t, exec (.colReleaseSeen levels when) s = .next t ∧ t.pair.role = .active ∧ t.pair.claim = true ∧
      t.pair.drive = .driving ∧ t.pair.running = false ∧ t.pair.yield = .none ∧ t.grid.live = 0 ∧ t.rdB Reg.COL_EVT 2 = true ∧
      t.anvil.sealed = u.anvil.committed ∧ t.anvil.rxLines = [] ∧
      (u.anvil.link ≠ .full → t.rdB Reg.ANV_EVT 12 = true) ∧ (u.chgState = 3 ∨ u.chgState = 4 → t.chgState = 7) ∧
      t.net.tkFrom = u.anvil.endTime ∧ t.net.tkTo = u.now ∧
      ∀ g < 32, ∀ i < 16, u.fmode g i = 4 → (t.slice g i).cmd = (u.slice g i).cmd ∧
        ((t.slice g i).closed = true → (u.slice g i).cmd.getLsbD 0 = true)) ∧
    (joining → ∃ t, exec (.colReleaseSeen levels when) s = .next t ∧ t.pair.role = .unassigned ∧ t.pair.drive = .highZ ∧
      t.pair.sense = false ∧ t.rd Reg.ANV_COPY = 0) ∧
    (¬joining → ¬catches → exec (.colReleaseSeen levels when) s = .next unseen) ∧
    (s.pair.role = .active → s.pair.running = false → ∃ t, exec (.takeoverRunning when) s = .next t ∧ t.pair.running = true ∧
      t.anvil.shadow = [] ∧ all .awake t ∧
      ∀ g < 32, (t.group g).queue = ((u.group g).queue.filter fun e => decide (u.net.tkFrom.toNat ≤ e.stamp.toNat)).map fun e =>
        { e with stby := false }) ∧
    (s.pair.role ≠ .active ∨ s.pair.running = true → exec (.takeoverRunning when) s = .next s) ∧
    (joins → ∃ t, exec (.fullCopyStart b) s = .next t ∧ t.rd Reg.ANV_COPY = 0x80000000#32 ∧ t.anvil.sealing = true ∧
      t.anvil.overrun = false ∧ t.anvil.endTime = b ∧ (if s.anvil.bank then t.anvil.dirty1 = [] else t.anvil.dirty0 = [])) ∧
    (¬joins → exec (.fullCopyStart b) s = .next s) ∧
    (ends → ∃ t, exec (.copyPassDone epoch kib) s = .next t ∧
      t.rd Reg.ANV_COPY = BitVec.ofNat 32 (2 ^ 30 + kib.toNat) ∧
      t.anvil.copyEpoch = (if s.pair.role = .active then s.anvil.sealed + 1 else epoch) ∧
      (s.pair.role ≠ .active → s.keepsRegs t [Reg.ANV_COPY]) ∧ (s.pair.role = .active → t.sent = (s.copyContent.foldl
        (fun s i => s.send (.copy s.writeFormat i)) (s.noteRefused 20 1 (copyPlaces.map fun a => (a, 64)))).sent)) ∧
    (¬ends → exec (.copyPassDone epoch kib) s = .next s)) ∧
  ∀ (a v id : W32) (d : List W8) (kib : W16) (l : Fin 524288) (ts : BitVec 4) (lists : Bool) (w : Verified) (cs : List (Fin 512))
    (cid : Option W32) (s : State),
    let h := s.heard
    let takes := s.pair.role = .standby ∨ s.pair.role = .joining
    let frozen (o : Nat) := o / 0x10000 = 0x1004 ∧ s.guardFrozen (o % 0x10000 / 0x100) = true
    let begun := if s.copyRuns then h.anvil else { h.anvil with missed := false }
    let copies := s.pair.role = .joining ∧ s.anvil.link = .full
    let bad (t : State) := t.rdB Reg.ANV_EVT 13 = true ∧ t.anvil.copyDone = false ∧ t.pair.role ≠ .standby
    let on := s.guardOn 20 = true
    let still := ∀ e ∈ s.stalls, e.1 < 16 ∨ 20 ≤ e.1
    let opens (p n : Nat) := s.guardCheck 20 false p n 2 = none
    let apart (o : Nat) := o < 0x10040000 ∨ 0x10050000 ≤ o ∧ o < 0x11000000 ∨ 0x11100000 ≤ o
    let copied (t : State) := s.rdB Reg.ANV_COPY 30 = false → t.rd Reg.ANV_COPY = BitVec.ofNat 32 (2 ^ 31 + kib.toNat)
    exec (.configMessageReceived (.changeReady cid)) s =
      .next (if s.pair.role = .active then { h with change := { h.change with partnerReady := cid } } else h) ∧
    (¬takes → exec (.configMessageReceived (.reg a v)) s = .next h ∧ (on →
      exec (.configMessageReceived (.mem a d)) s = .next h)) ∧
    (takes → ∀ o, s.ownAddrs a.toNat = [o] → ¬frozen o → s.toShadow o v = false →
      let q := h.regWrite none o (crossValue a.toNat v)
      (tookEffect o (crossValue a.toNat v) h q = true → exec (.configMessageReceived (.reg a v)) s = .next q) ∧
      (tookEffect o (crossValue a.toNat v) h q = false → ∃ t, exec (.configMessageReceived (.reg a v)) s = .next t ∧ bad t)) ∧
    (takes → (∃ o ∈ s.ownAddrs a.toNat, frozen o) → ∃ t, exec (.configMessageReceived (.reg a v)) s = .next t ∧ bad t) ∧
    (takes → ∀ x < 4, (∀ k < 3, s.laneValid x k = true) → ∀ o < 0x100, a.toNat = 0x10040000 + 0x300 * x + o →
      (∀ k < 3, bit (s.shadowWord (Reg.GRD_CTRL (s.laneCore x k))) 31 = false) →
      ∃ t, exec (.configMessageReceived (.reg a v)) s = .next t ∧ t.regs = s.regs ∧
        ∀ k < 3, look (0x10040000 + 0x100 * s.laneCore x k + o) t.anvil.shadow = some (v &&& guardCopied o)) ∧
    (takes → on → opens a.toNat d.length → (∀ t, h.memStore none false a.toNat d = some t →
      exec (.configMessageReceived (.mem a d)) s = .next t) ∧
      (h.memStore none false a.toNat d = none → ∃ t, exec (.configMessageReceived (.mem a d)) s = .next t ∧ bad t ∧
        t.mem = s.mem)) ∧
    (takes → on → ¬opens a.toNat d.length → ∃ t, exec (.configMessageReceived (.mem a d)) s = .next t ∧ bad t ∧ t.mem = s.mem ∧
      t.rdB (Reg.GRD_STAT 20) 31 = true) ∧
    (takes → ¬on → exec (.configMessageReceived (.mem a d)) s = .next { h with stalls := s.stalls ++ [(20, .bank a.toNat d)] }) ∧
    (¬copies → ∀ items, (on → still → exec (.copyDataReceived items kib) s = .next h) ∧
      (s.pair.role ≠ .joining → ¬on → exec (.copyDataReceived items kib) s = .next h)) ∧
    (s.pair.role = .joining → ¬on → ∀ items, exec (.copyDataReceived items kib) s =
      .next { h with stalls := s.stalls ++ [(20, .copy items kib)] }) ∧
    (copies → on → still → d.length = 64 → opens (0x20000000 + 64 * l.val) 64 → ∃ t,
      exec (.copyDataReceived [.line l d] kib) s = .next t ∧ copied t ∧
      t.bytes (0x20000000 + 64 * l.val) 64 = d ∧ (∀ n, n < 64 * l.val ∨ 64 * l.val + 64 ≤ n →
        t.byte (0x20000000 + n) = s.byte (0x20000000 + n)) ∧
      t.anvil = begun) ∧
    (copies → on → still → opens a.toNat d.length → ∃ t, exec (.copyDataReceived [.mem a d] kib) s = .next t ∧ copied t ∧
      t.bytes a.toNat d.length = d) ∧
    (copies → on → still → ∃ t, exec (.copyDataReceived [.banks ts lists] kib) s = .next t ∧ copied t ∧ t.listBank 0 = lists ∧
      t.listBank 1 = lists ∧
      ∀ x < 4, (t.triad x).bankB = ts.getLsbD x) ∧
    (copies → on → still → ∃ t, exec (.copyDataReceived [.change id w] kib) s = .next t ∧ copied t ∧ t.change.inForce = w ∧
      t.change.idNow = id) ∧
    (copies → on → still → ∃ t, exec (.copyDataReceived [.critical cs] kib) s = .next t ∧ copied t ∧
      t.critical = cs.map fun c => c.val) ∧
    (copies → on → still → ∃ t, exec (.copyDataReceived [.reg a v] kib) s = .next t ∧ copied t ∧
      (∀ o, s.ownAddrs a.toNat = [o] → apart o →
        (s.toShadow o v = true → ∀ r, regRow o = some r →
          look o t.anvil.shadow = some (v &&& BitVec.ofNat 32 (r.rw + r.rwl + r.w1s))) ∧
        (s.toShadow o v = false → canonReg o ≠ Reg.ANV_COPY → t.rd (canonReg o) =
          (s.rd (canonReg o) &&& ~~~(s.copyMask o)) ||| (crossValue a.toNat v &&& s.copyMask o))) ∧
      ∀ m < 48, s.rdB (Reg.GRD_CTRL m) 31 = true → look (Reg.GRD_CTRL m) s.anvil.shadow = none → t.rdB (Reg.GRD_CTRL m) 31 = true)

/-- R3 to R6, R65, R71, R72, R378: a write of a register. Off the map, misaligned or in a block without power it is a bus error; a
field rw takes what is written, a field w1c is cleared where a 1 is written; a register that is a command is that command; and an
Active module sends what took effect to its partner. R65: a command that is an access to a register of a block whose island has no
power is answered with a bus error and has no other effect. -/
def Obligations.RegisterWrites : Prop :=
  (∀ (a v : W32) (s : State),
    let ok := { s with resp := { data := 0, err := false } }
    let n := a.toNat
    let reached := s.blockOff n = false
    let plain : List (Nat × W32) :=
      [(Reg.SYS_SCRATCH, 0xFFFFFFFF), (Reg.SCN_FORCE_ARG_ID, 0xFFFFFFFF), (Reg.SCN_FORCE_ARG_LO, 0xFFFFFFFF),
       (Reg.SCN_FORCE_ARG_HI, 0xFFFFFFFF), (Reg.TIME_STEP_LO, 0xFFFFFFFF), (Reg.TIME_STEP_HI, 0xFFFFFFFF),
       (Reg.TIME_SET_LO, 0xFFFFFFFF), (Reg.TIME_SET_HI, 0xFFFFFFFF)] ++
      (List.range 9).map (fun i => (Reg.BEL_WAKE_EN i, 0x3FF#32)) ++
      (List.range 256).map (fun i => (Reg.TIC_SRC_ENTRY i, 0xFFFFFFFC#32)) ++
      (List.range 256).map (fun i => (Reg.TIC_SRC_SB i, 0xFFFFFFFF#32)) ++
      ((List.range 32).filter fun i => decide (i < 4 ∨ 16 ≤ i)).map (fun i => (Reg.TIC_TGT_VBASE i, 0xFFFFF800#32))
    let cleared : List (Nat × W32) :=
      [(Reg.SYS_RESET_CAUSE, 0xFF), (Reg.SYS_MEMERR_CNT, 0xFFFFFFFF), (Reg.SYS_FABERR, 0x80000000), (Reg.CLK_REFSTAT, 0x1C),
       (Reg.BEL_WAKE_CAUSE, 0x80000000), (Reg.BEL_EVT, 0xF), (Reg.TIME_EVT, 0xFFFFFFFF), (Reg.ANV_EVT, 0xFFFFFFFF),
       (Reg.ANV_LANEERR, 0xFFFFFFFF), (Reg.COL_EVT, 0xFFFFFFFF), (Reg.COL_CAUSE, 0x80000000), (Reg.TRU_EVT, 0xFF),
       (Reg.SCN_GRIDSTAT, 0xF000FFFF), (Reg.SCN_FORCE_STAT, 0x60000000)] ++
      (List.range 16).map fun c => (Reg.DMA_CH_STAT c, 0xF0000000#32)
    let is (r : Nat) (c : Instr) := n = r → reached → s.pair.role ≠ .active → exec (.registerWrite a v) s = exec c ok
    (inWindows n = false ∨ n % 4 ≠ 0 ∨ s.blockOff n = true →
      exec (.registerWrite a v) s = .next { s with resp := { data := 0, err := true } }) ∧
    (reached → ∀ p ∈ plain, n = p.1 → ∃ t, exec (.registerWrite a v) s = .next t ∧ t.rd n = v &&& p.2 ∧ s.keepsRegs t [n] ∧
      t.resp = ok.resp ∧ t.mem = s.mem) ∧
    (reached → ∀ p ∈ cleared, n = p.1 → ∃ t, exec (.registerWrite a v) s = .next t ∧ t.rd n = s.rd n &&& ~~~(v &&& p.2) ∧
      s.keepsRegs t [n] ∧ t.resp = ok.resp ∧ t.mem = s.mem) ∧
    (reached → ∀ x, 4 ≤ x → x < 16 → n = Reg.TIC_TGT_VBASE x → exec (.registerWrite a v) s = .next ok) ∧
    is Reg.TIC_SWTRIG (.swtrig v) ∧ is Reg.TIME_INC (.incWrite v) ∧ is Reg.CLK_SEL_LO (.clockSelectWrite false v) ∧
    is Reg.CLK_SEL_HI (.clockSelectWrite true v) ∧
    (∀ i : Fin 256, is (Reg.TIC_SRC_CFG i) (.sourceConfigWrite i v)) ∧ (∀ i : Fin 8, is (Reg.BEL_PL i) (.plWrite i v)) ∧
    (∀ i : Fin 3, is (Reg.TIME_ALM_CTRL i) (.alarmArm i v)) ∧ (∀ c : Fin 16, is (Reg.DMA_CH_DESC c) (.dmaDescWrite c v)) ∧
    (∀ x : Fin 4, is (Reg.TRI_ICP x) (.cachePartitionWrite x false v) ∧ is (Reg.TRI_DCP x) (.cachePartitionWrite x true v)) ∧
    (∀ (g : Fin 32) (i : Fin 17), is (Reg.FCH_CMD g i) (.directCommand g i false v) ∧
      is (Reg.FCH_AO_CMD g i) (.directCommand g i true v)) ∧
    (∀ (m : Fin 48) (i : Fin 16), is (Reg.GRD_RBAR m i) (.guardRegionWrite m i false v) ∧
      is (Reg.GRD_RATR m i) (.guardRegionWrite m i true v)) ∧
    (n = Reg.SCN_CHG_DESC → reached → s.mirrors = true → s.chgState = 0 ∨ 5 ≤ s.chgState →
      ∃ t, exec (.registerWrite a v) s = .next t ∧ s.linked t (.control 20 [n, (v &&& 0xFFFFFFC0#32).toNat]))) ∧
  ∀ (g : Fin 32) (i : Fin 17) (n : Fin 256) (m : Fin 48) (r : Fin 16) (c : Fin 16) (x : Fin 4) (lane : Fin 4) (k : Fin 8)
    (off : Fin 1024) (flag attr : Bool) (node : W16) (v : W32) (when : W64) (s : State),
    let dark (a : Nat) (cmd : Instr) := s.blockOff a = true → exec cmd s = .next { s with resp := { data := 0, err := true } }
    let part := if flag then Reg.TRI_DCP x else Reg.TRI_ICP x
    let late (a : Nat) (cmd : Instr) := (s.atTime when).blockOff a = true →
      exec cmd s = .next { s.atTime when with resp := { data := 0, err := true } }
    (dark (Reg.FCH_CFG g i + off.val) (.sliceConfigWrite g i off v) ∧ dark (Reg.FCH_EVT_INFO g) (.evtInfoRead g) ∧
      dark (Reg.FCH_CFG g i) (.edgeLoRead g i) ∧ dark (Reg.FCH_CFG g i) (.directCommand g i flag v) ∧
      dark (Reg.FCH_RETRY g i) (.retryRearm g i) ∧ dark (Reg.FCH_CTRL g i) (.subst g i) ∧
      dark (Reg.FCH_CTRL g i) (.sreset g i) ∧ dark (Reg.FCH_CTRL g i) (.stim g i) ∧ dark (Reg.FCH_CFG g i) (.injSw g i) ∧
      dark (Reg.FCH_CFG g i) (.aoTrimApply g i) ∧ dark (Reg.FCH_CFG g i) (.aoTrimClear g i) ∧
      dark (Reg.FCH_HM_CTRL g x) (.hartStart g x) ∧ dark (Reg.FCH_HM_CTRL g x) (.hartAbort g x)) ∧
    (dark (Reg.DMA_CH_CTRL c) (.dmaStart c) ∧ dark (Reg.DMA_CH_CTRL c) (.dmaResume c) ∧ dark (Reg.DMA_CH_CTRL c) (.dmaAbort c) ∧
      dark (Reg.DMA_CH_DESC c) (.dmaDescWrite c v)) ∧
    (dark (Reg.TRI_CTRL x) (.triSplit x) ∧ dark (Reg.TRI_CTRL x) (.triJoin x) ∧ dark (Reg.TRI_CTRL x) (.triResync x lane) ∧
      dark (Reg.TRI_CTRL x) (.triRetire x lane) ∧ dark part (.cachePartitionWrite x flag v)) ∧
    (dark Reg.TIC_SWTRIG (.swtrig v) ∧ dark (Reg.TIC_SRC_CFG n) (.sourceConfigWrite n v)) ∧
    (guardMaster m = true → dark (Reg.GRD_CTRL m) (.guardEnable m) ∧ dark (Reg.GRD_CTRL m) (.guardDisable m flag) ∧
      dark (if attr then Reg.GRD_RATR m r else Reg.GRD_RBAR m r) (.guardRegionWrite m r attr v)) ∧
    (dark Reg.SCN_TICK_LO .tickLoRead ∧ dark Reg.SCN_FORCE_CMD (.forceApply node) ∧
      dark Reg.SCN_FORCE_CMD (.forceRelease node) ∧ dark Reg.SCN_FORCE_CMD (.forceReleaseAll node) ∧
      dark Reg.SCN_FORCE_CMD (.forceCmdMalformed v) ∧ dark Reg.SCN_CHG_CTRL .changeVerify ∧
      dark Reg.SCN_CHG_CTRL .changeCancel ∧ late Reg.SCN_CHG_CTRL (.changeArm when)) ∧
    (dark (Reg.STB_CFG k) (.portOn k) ∧ dark (Reg.STB_CFG k) (.portOff k) ∧ dark (Reg.STB_CTRL k) (.recover k) ∧
      dark (Reg.STB_AC_CTRL k) (.acyclicStart k) ∧ dark (Reg.STB_AC_CTRL k) (.acyclicAbort k) ∧
        dark (Reg.STB_CTRL k) (.refLoRead k) ∧
      dark Reg.NET_FRAME (.netFrameWrite v) ∧ dark Reg.ANV_SEALED_LO (.sealedLoRead flag)) ∧
    (dark Reg.TRU_CMD .quote ∧ dark Reg.TRU_CMD .chunk ∧ dark Reg.TRU_CMD .finish ∧ dark Reg.TRU_CMD .install ∧
      dark Reg.TRU_CMD .discard ∧ dark Reg.TRU_CMD .relay ∧ dark Reg.TRU_CMD .token ∧ dark Reg.TRU_CMD .extend ∧
      dark Reg.TRU_CMD .cert ∧ dark Reg.TRU_CMD (.healthConfirm v) ∧ dark Reg.TRU_CMD .chalLoRead ∧
      late Reg.TRU_CMD (.seal when))

/-- R404, R411, R416 to R418, R422, R426, R427: a command of the trust engine begins its operation with BUSY and the code that its
checks give, or is ignored while one runs. SEAL takes two writes within 1 ms; an operation that does not exist is code 16. R405 to
R408, R414, R415: the operation of TOKEN or of a first CHUNK passes its checks exactly when the object is well formed, its
signature verifies under the key of a signer that is allowed, and it names this module, its challenge, and no version below the
floor. -/
def Obligations.TrustCommands : Prop :=
  (∀ (when : W64) (n : Fin 16) (s : State),
    let st := Reg.TRU_STAT
    let arg := s.rd Reg.TRU_ARG
    let code (t : State) := t.rdF st 16 8
    let ignored (s t : State) := t.rdB Reg.TRU_EVT 6 = true ∧ t.trust = s.trust ∧ s.keepsRegs t [Reg.TRU_EVT]
    let ops : List (Instr × Nat × Nat) :=
      [(.quote, 1, 0), (.chunk, 2, if s.relaying = true then 11 else s.chunkCode arg.toNat (s.rd Reg.TRU_CRC) s.truBuf),
       (.finish, 3, s.finishCode), (.install, 4, s.installCode), (.discard, 5, 0), (.relay, 6, s.relayCode arg),
       (.token, 7, s.tokenCode s.truBuf), (.extend, 8, if arg = 6 ∨ arg = 7 then 0 else 16), (.cert, 9, 0)]
    let u := s.atTime when
    let on := s.blockOff Reg.TRU_CMD = false
    let on' := u.blockOff Reg.TRU_CMD = false
    let ua := u.rd Reg.TRU_ARG
    let second := ∃ t0, u.trust.sealFirst = some t0 ∧ u.now.toNat < t0.toNat + 1000000
    (on → s.truBusy = true → ∀ p ∈ ops, ∃ t, exec p.1 s = .next t ∧ ignored s t) ∧
    (on → s.truBusy = false → ∀ p ∈ ops, ∃ t, exec p.1 s = .next t ∧ t.rdB st 31 = true ∧ t.rdF st 0 4 = p.2.1 ∧
      t.trust.op = some (p.2.1, arg, p.2.2) ∧ t.trust.sealFirst = none) ∧
    (on → s.truBusy = false → ∃ t, exec .quote s = .next t ∧ t.trust.quote = s.quoteBody ∧ s.keepsRegs t [st]) ∧
    (on → s.truBusy = false → s.installCode = 0 → ∃ t, exec .install s = .next t ∧ t.slotSt s.installTarget = 0) ∧
    (on' → u.truBusy = true → ∃ t, exec (.seal when) s = .next t ∧ ignored u t) ∧
    (on' → u.truBusy = false → ua = 0x5EA10001 → u.atRest = true → ∃ t, exec (.seal when) s = .next t ∧
      t.trust = { u.trust with sealFirst := some u.now } ∧ code t = 0 ∧ t.rdB st 30 = true) ∧
    (on' → u.truBusy = false → ua = 0x5EA10002 → u.atRest = true → second → ∃ t, exec (.seal when) s = .next t ∧
      t.trust = { u.trust with sealFirst := none, sealing := true, op := some (10, ua, 0) } ∧ t.rdB st 31 = true) ∧
    (on' → u.truBusy = false → ¬(u.atRest = true ∧ (ua = 0x5EA10001 ∨ ua = 0x5EA10002 ∧ second)) → ∃ t,
      exec (.seal when) s = .next t ∧
      t.trust = { u.trust with sealFirst := none } ∧ code t = 12 ∧ t.rdB st 29 = true) ∧
    (on → n.val = 0 ∨ 11 ≤ n.val → s.truBusy = false → ∃ t, exec (.truCmdInvalid n) s = .next t ∧ code t = 16 ∧
      t.rdB st 29 = true ∧
      s.keepsRegs t [st]) ∧
    (on → n.val = 0 ∨ 11 ≤ n.val → s.truBusy = true → ∃ t, exec (.truCmdInvalid n) s = .next t ∧ ignored s t) ∧
    (n.val ≠ 0 → n.val < 11 → exec (.truCmdInvalid n) s = .next s)) ∧
  ∀ s : State, s.blockOff Reg.TRU_CMD = false → s.truBusy = false →
    let l := s.truBuf
    let arg := s.rd Reg.TRU_ARG
    let sealed := l.getD 0x80 0 = 0x0A ∧ l.getD 0x800 0 = 0x3A ∧
      Config.falconVerify ((l.drop 0x80).take 1793) (l.take 0x800) ((l.drop 0x800).take 1280) = true
    let key (n : Nat) := Config.shake256 ((l.drop 0x80).take 1793) = s.keyDigest n
    let spare := objZero l 0x781 127 = true ∧ objZero l 0xD00 768 = true
    let purpose := objN l 4 4
    let slot := objN l 0x20 4
    let signer := objN l 0x24 4
    let kind := objN l 8 4
    let owner := objN l 0x34 4
    let len := objN l 0x28 4
    ((∃ t, exec .token s = .next t ∧ t.trust.op = some (7, arg, 0)) ↔
      objN l 0 4 = 0x4E4B4F54 ∧ 1 ≤ purpose ∧ purpose ≤ 3 ∧ signer ≤ 4 ∧ (if purpose = 3 then slot = 0 else 1 ≤ slot ∧ slot ≤ 4) ∧
      (purpose = 1 ∨ objZero l 0x40 64 = true) ∧ objZero l 0x28 24 = true ∧ spare ∧
      objN l 8 16 = Config.serial.toNat ∧ objN l 0x18 8 = s.challenge.toNat ∧ sealed ∧ key signer ∧
      (if signer = 0 then purpose = 1 ∧ ∀ n, 1 ≤ n → n ≤ 4 → s.owner n ≠ 1 else s.owner signer = 1 ∧ (purpose = 3 ∨
        signer ≠ slot)) ∧
      (purpose = 2 → (∃ n, 1 ≤ n ∧ n ≤ 4 ∧ n ≠ slot ∧ s.owner n = 1) ∧ s.owner slot = 1 ∧
        ∀ k, k = 4 ∨ k = 5 → ¬(s.slotSt k = 3 ∧ s.rdF (Reg.TRU_SLOT k) 20 4 = slot)) ∧
      (purpose = 1 → s.owner slot = 0)) ∧
    (s.trust.relay = none → s.xfer = 0 → arg = 0 →
      ((∃ t, exec .chunk s = .next t ∧ t.trust.op = some (2, arg, 0)) ↔
        objN l 0 4 = 0x4D495A50 ∧ objN l 4 4 = 1 ∧ 1 ≤ kind ∧ kind ≤ 3 ∧ objZero l 0x38 8 = true ∧ spare ∧ sealed ∧ key owner ∧
        (if kind = 3 then 1 ≤ owner ∧ owner ≤ 4 ∧ s.owner owner = 1 else owner = 0) ∧ objN l 0xC 4 = 0x5A120001 ∧
        (objN l 0x10 16 = 0 ∨ objN l 0x10 16 = Config.serial.toNat) ∧ (s.rd (Reg.TRU_FLOOR (kind - 1))).toNat ≤ objN l 0x20 4 ∧
        len % 4096 = 0 ∧ len + 4096 ≤ slotChunks kind * 4096))

/-- R404, R408 to R412, R416 to R418, R422, R426, R435: what an operation leaves when it is done: DONE or ERR with its code, a new
challenge after TOKEN, and the effect of each operation whose checks passed. R404, R415, R419, R420, R427: the confirmation and
the end of a trial; a floor fuse; and the challenge as read. -/
def Obligations.TrustResultsAndTrials : Prop :=
  (∀ (op code : Nat) (arg : W32) (b : BitVec 24) (s : State), s.trust.op = some (op, arg, code) → s.start.stage ≠ .recovery →
    s.trust.waiting = [] →
    let st := Reg.TRU_STAT
    let l := s.truBuf
    let img := s.chunk 6 0
    let k := s.installTarget
    let slot := objN l 0x20 4
    let ends (c : Nat) (t : State) := t.trust.op = none ∧ t.rdB st 31 = false ∧ t.rdF st 16 8 = c % 256 ∧ t.rdF st 0 4 = op % 16 ∧
      t.rdB st (if c = 0 then 30 else 29) = true
    let gives (p : State → Prop) := ∃ t, exec (.trustOperationDone none) s = .next t ∧ ends code t ∧ p t
    (code ≠ 0 → op ≠ 3 → gives fun t => s.keepsRegs t [st] ∧ t.trust.store = s.trust.store ∧
      t.trust.chal = (if op = 7 then s.free else s.trust.chal)) ∧
    (code ≠ 0 → op = 3 → gives fun t => if code = 9 then t.xfer = 0 ∧ t.trust.relay = none else t.trust.store = s.trust.store) ∧
    (code = 0 →
      (op = 1 → s.trust.quote.length = 672 → gives fun t =>
        t.truBuf.take 1952 = s.trust.quote ++ 0x3A#8 :: padTo 1279 (Config.falconSign s.trust.quote)) ∧
      (op = 2 → s.xfer = 0 → arg = 0 → gives fun t => t.chunk 6 0 = l ∧ t.xfer = 1 ∧ t.rdF Reg.TRU_XFER 28 2 = objN l 8 4 % 4 ∧
        t.xferTotal = (payloadChunks l + 1) % 2 ^ 17) ∧
      (op = 2 → s.xfer ≠ 0 → s.chunkHeld arg.toNat = false → gives fun t => t.chunk 6 arg.toNat = l) ∧
      (op = 3 → gives fun t => t.xfer = 2) ∧
      (op = 4 → payloadChunks img ≤ slotChunks (k / 2 + 1) → gives fun t => t.xfer = 0 ∧
        (∀ i ≤ payloadChunks img, t.chunk k i = s.chunk 6 i) ∧ t.rd (Reg.TRU_SVN k) = BitVec.ofNat 32 (objN img 0x20 4) ∧
        (k < 4 → t.slotSt k = 2) ∧
        (4 ≤ k → t.slotSt k = 3 ∧ t.measure 2 = Config.shake256 (digestBytes (s.measure 2) ++ img))) ∧
      (op = 5 → gives fun t => t.xfer = 0 ∧ t.trust.relay = none ∧ ∀ i < 2 ^ 18, t.chunk 6 i = []) ∧
      (op = 6 → gives fun t => t.trust.relay = some (getF arg 30 2, getF arg 28 2, getF arg 0 16) ∧
        (getF arg 30 2 = 0 → s.linked t (.relay (relayRequest (getF arg 28 2)))) ∧
        (getF arg 30 2 = 1 → t.sent = (s.tunnelSend (getF arg 0 16) (relayRequest (getF arg 28 2))).sent) ∧
        (getF arg 30 2 = 2 → t.sent = (([3, 2].filter fun p => s.linkUp p).map fun p =>
          .udp p (getF arg 0 16) (relayRequest (getF arg 28 2))) ++ s.sent)) ∧
      (op = 7 → 1 ≤ slot → slot ≤ 4 →
        (objN l 4 4 = 1 → gives fun t => t.owner slot = 1 ∧ t.keyDigest slot = BitVec.ofNat 512 (objN l 0x40 64) ∧
          t.trust.chal = s.free) ∧
        (objN l 4 4 = 2 → gives fun t => t.owner slot = 3 ∧ t.trust.chal = s.free)) ∧
      (op = 7 → objN l 4 4 = 3 → s.recorder.closed = false → gives fun t => t.recorder.low = s.recorder.next ∧
        t.recorder.next = s.recorder.next + 1 ∧ t.recorder.queue = [] ∧ t.rdB Reg.EVR_EVT 3 = true ∧
        ∃ r, t.recorder.scree = [(s.recorder.next % 65536, some r)] ∧ r.code = 0x0002 ∧ r.seq = s.recorder.next) ∧
      (op = 8 → gives fun t => t.measure arg.toNat = Config.shake256 (digestBytes (s.measure arg.toNat) ++ l.take 64)) ∧
      (op = 9 → (s.chunk 7 0).length = 4096 → gives fun t => t.truBuf = s.chunk 7 0) ∧
      (op = 10 → gives fun t => t.rdB Reg.TRU_FUSE 31 = true ∧ t.trust.sealing = false)) ∧
    (op = 2 ∨ op = 3 ∨ op = 4 ∨ op = 9 → ∃ t, exec (.trustOperationDone (some b)) s = .next t ∧
      ends (if code = 0 ∨ op = 3 ∧ code = 9 then 15 else code) t ∧ t.rd Reg.TRU_IMGERR = setB (b.setWidth 32) 31 ∧
      t.rdB Reg.TRU_EVT 7 = true)) ∧
  ∀ (v : W32) (j : Fin 3) (s : State),
    let on := s.blockOff Reg.TRU_CMD = false
    let confirmed (k : Nat) := s.inTrial = true ∧ s.onTrial k = true ∧ s.confirmWord k = v.toNat
    let w := s.toOpsec (s.trust.trialAt + s.trialSec)
    let stays (t : State) := t.rdB Reg.TRU_TRIAL 30 = true ∧ t.rdB Reg.TRU_TRIAL 31 = false ∧ t.rdB Reg.TRU_EVT 3 = true ∧
      t.pair.role = .active
    (on → ∀ k < 4, confirmed k → (∀ i < k, ¬confirmed i) → ∃ t, exec (.healthConfirm v) s = .next t ∧ t.slotSt k = 3 ∧
      t.rdB Reg.TRU_EVT 1 = true ∧ (s.rd (Reg.TRU_SVN k)).toNat ≤ (t.rd (Reg.TRU_FLOOR (k / 2))).toNat ∧
      (s.slotSt (k + 1 - 2 * (k % 2)) = 3 → t.slotSt (k + 1 - 2 * (k % 2)) = 4)) ∧
    (on → (∀ k < 4, ¬confirmed k) → ∃ t, exec (.healthConfirm v) s = .next t ∧ t.rdB Reg.TRU_EVT 5 = true ∧ t.trust = s.trust ∧
      s.keepsRegs t [Reg.TRU_EVT]) ∧
    (s.rdB Reg.TRU_TRIAL 31 = false → exec .trialWindowExpire s = .next s) ∧
    (s.rdB Reg.TRU_TRIAL 31 = true →
      (s.pair.role ≠ .active → ∃ t, exec .trialWindowExpire s = .next t ∧ t.pair.role = .unassigned ∧
        t.rdB Reg.SYS_RESET_CAUSE 1 = true ∧ t.ctx 0 = { running := true }) ∧
      (s.pair.role = .active → s.pair.peer ≠ some .standby ∨ s.pair.peerReady = false →
        ∃ t, exec .trialWindowExpire s = .next t ∧ stays t) ∧
      (s.pair.role = .active → s.pair.peer = some .standby → s.pair.peerReady = true →
        let under := w.pair.yield = .preparing ∨ w.pair.yield = .hold ∧ w.pair.yieldOff = false
        let y := w.yieldTry
        (under → ∃ t, exec .trialWindowExpire s = .next t ∧ t.trust.yieldReset = true ∧ t.rdB Reg.TRU_TRIAL 31 = false ∧
          t.pair = w.pair) ∧
        (¬under → y.pair.yield = .preparing ∨ y.pair.yieldWaits = true → ∃ t, exec .trialWindowExpire s = .next t ∧
          t.trust.yieldReset = true ∧ t.rdB Reg.TRU_TRIAL 31 = false ∧ t.pair = y.pair) ∧
        (¬under → y.pair.yield ≠ .preparing → y.pair.yieldWaits = false → ∃ t, exec .trialWindowExpire s = .next t ∧ stays t))) ∧
    (s.fuseBits j < s.floorCount j / 256 → s.fuseBits j < 128 → ∃ t, exec (.floorFuseBlown j) s = .next t ∧
      t.fuseBits j = s.fuseBits j + 1 ∧ t.rd (Reg.TRU_FLOOR j) = BitVec.ofNat 32 (max (s.floorCount j) (256 * (s.fuseBits j + 1)))) ∧
    (s.floorCount j / 256 ≤ s.fuseBits j ∨ 128 ≤ s.fuseBits j → exec (.floorFuseBlown j) s = .next s) ∧
    (on → ∃ t, exec .chalLoRead s = .next t ∧ t.resp.err = false ∧ s.keepsRegs t [] ∧
      ∃ high, t.trust.chalHi = some high ∧ high ++ t.resp.data.setWidth 32 = s.challenge)

/-- R412, R422, R435, R436: relays. A server verifies what it holds, answers with its chunks as the trust engine reads them, each
in four fragments, and refuses a kind that it does not know, a ring port while it runs, an image that it does not hold and one for
another unit; a receiver puts the fragments of a chunk together and takes it into staging, and a Standby without an application
installs what it has received. R40, R199, R424 to R426: the Tuyere port. An instruction that the role or the fuse does not allow
acts as BYPASS; the first use of one is measured; MEM reads and writes under the guard of master 22; DBG halts, steps and reads an
independent core. -/
def Obligations.RelaysAndTuyerePort : Prop :=
  (∀ (via : Option (Fin 4)) (kind : Fin 256) (serial : BitVec 128) (node : W16) (idx crc : W32) (frag : Fin 4) (data : List W8)
    (c : W8) (b : BitVec 24) (k : Fin 6) (r s : State),
    let st := Reg.TRU_STAT
    let ask := Instr.relayRequestReceived via kind serial node none
    let refusal (code : Nat) := toBytes 1 3 ++ toBytes 1 code ++ toBytes 10 0
    let refuse (code : Nat) := Host.Outcome.next (σ := State) (φ := Fault) (ρ := Refusal) (r.relayOut via node.toNat (refusal code))
    let good := 1 ≤ kind.val ∧ kind.val ≤ 3
    let shut (v : Option (Fin 4)) := (v = some 0 ∨ v = some 1) ∧ s.run = true
    let arrives := s.relayIn via node = some r
    let reply := Instr.relayChunkReceived via node
    let holds (v : Serving) := if v.area = 6 then s.xfer = 2 else s.slotSt v.area = 3
    (∀ m, (s.relayOut none node.toNat m).sent = (s.send (.relay m)).sent) ∧
    (∀ p : Fin 4, 2 ≤ p.val → ∀ m, (s.relayOut (some p) node.toNat m).sent =
      if s.linkUp p = true then .udp p node.toNat m :: s.sent else s.sent) ∧
    (via = none → (arrives ↔ r = s.heard ∧ s.start.hearthBad = false ∧ s.start.stage ≠ .stopped)) ∧
    (∀ p : Fin 4, via = some p → 2 ≤ p.val → (arrives ↔ r = s ∧ s.linkUp p = true ∧ s.start.hearthBad = false)) ∧
    (s.relayIn via node = none → exec ask s = .next s ∧ exec (reply (.refused c)) s = .next s ∧
      exec (reply (.fragment frag idx crc data)) s = .next s) ∧
    (arrives → ¬good → exec ask s = refuse 16) ∧ (arrives → good → shut via → exec ask s = refuse 12) ∧
    (arrives → good → ¬shut via → r.relaySource kind [] = none → exec ask s = refuse 12) ∧
    (arrives → good → ¬shut via → ∀ a, r.relaySource kind [] = some a →
      let unit := objN (r.chunk a 0) 0x10 16
      (unit ≠ 0 ∧ unit ≠ serial.toNat → exec ask s = refuse 4) ∧
      let l : List Serving := r.trust.serving.filter (fun e => e.via != via || e.node != node.toNat) ++ [⟨via, node.toNat, a, 0⟩]
      (unit = 0 ∨ unit = serial.toNat → exec ask s = .next { r with trust := { r.trust with serving := l } })) ∧
    (arrives → good → ¬shut via → ∃ t, exec (.relayRequestReceived via kind serial node (some (k, b))) s = .next t ∧
      t.rd Reg.TRU_IMGERR = setB (b.setWidth 32) 31 ∧ t.rdB Reg.TRU_EVT 7 = true) ∧
    (s.trust.op = none → s.trust.serving = [] → ∀ err, exec (.trustOperationDone err) s = .next s) ∧
    (∀ v rest, s.trust.op = none → s.trust.serving = v :: rest →
      (shut v.via ∨ ¬holds v → ∀ err, exec (.trustOperationDone err) s =
        .next (State.relayOut v.via v.node (refusal 12) { s with trust := { s.trust with serving := rest } })) ∧
      (¬shut v.via → holds v → ∃ t, exec (.trustOperationDone (some b)) s = .next t ∧ t.trust.serving = rest ∧
        t.rd Reg.TRU_IMGERR = setB (b.setWidth 32) 31 ∧ t.rdB Reg.TRU_EVT 7 = true) ∧
      (¬shut v.via → holds v → v.via = none ∨ (∃ p : Fin 4, 2 ≤ p.val ∧ v.via = some p) → ∃ t,
        exec (.trustOperationDone none) s = .next t ∧ t.regs.filter (fun e => e.1 / 65536 != 0x1010) =
          s.regs.filter (fun e => e.1 / 65536 != 0x1010) ∧
        t.trust.serving = (if v.next < payloadChunks (s.chunk v.area 0) then rest ++ [{ v with next := v.next + 1 }] else rest) ∧
        ∀ f < 4, let m := toBytes 1 2 ++ toBytes 1 f ++ toBytes 2 0 ++ toBytes 4 v.next ++
            toBytes 4 (crc32 (s.chunk v.area v.next)).toNat ++ ((s.chunk v.area v.next).drop (1024 * f)).take 1024
          (∀ p : Fin 4, v.via = some p → s.linkUp p = true → .udp p v.node m ∈ t.sent) ∧
          (v.via = none → s.anvil.link = .full → ∀ lane, s.anvil.laneOf (s.anvil.txSeq + f) = some lane →
            .link lane (s.anvil.txSeq + f) (Config.linkCrc (s.anvil.txSeq + f)) (.relay m) ∈ t.sent))) ∧
    (arrives → r.trust.relay = none → exec (reply (.refused c)) s = .next r ∧
      exec (reply (.fragment frag idx crc data)) s = .next r) ∧
    (∀ path want n, arrives → r.trust.relay = some (path, want, n) →
      let mine := path = 3 ∨ path = relayPath via
      let l := r.partsWith frag idx crc data
      let q := { r with trust := { r.trust with relay := some (relayPath via, want, n) } }
      let u := { q with trust := { q.trust with parts := none } }
      let got := exec (reply (.fragment frag idx crc data)) s
      let w := l.flatMap fun e => e.2
      let code := if crc32 w ≠ crc then 7 else if idx = 0 ∧ objN w 8 4 ≠ want then 16 else u.chunkCode idx.toNat crc w
      let ended (n : Nat) (t : State) := t.trust.relay = none ∧ t.trust.parts = none ∧
        (s.truBusy = true → t.rd st = s.rd st) ∧
        (s.truBusy = false → t.rdB st 31 = false ∧ t.rdF st 16 8 = n % 256 ∧ t.rdF st 0 4 = 6)
      (¬mine → exec (reply (.refused c)) s = .next r ∧ got = .next r) ∧
      (path = 3 → exec (reply (.refused c)) s = .next r) ∧
      (mine → path ≠ 3 → ∃ t, exec (reply (.refused c)) s = .next t ∧ ended c.toNat t) ∧
      (mine → l.length < 4 → got = .next { q with trust := { q.trust with parts := some (idx, crc, l) } }) ∧
      (mine → 4 ≤ l.length → s.start.stage ≠ .recovery →
        (code ≠ 0 → ∃ t, got = .next t ∧ ended code t ∧ t.trust.store = s.trust.store ∧
          (s.lacksApp = true → idx = 0 → code ≠ 7 → t.start.noApp = true)) ∧
        (code = 0 →
          let q := u.chunkTake idx.toNat true w
          (q.chunkNext < q.xferTotal → got = .next q) ∧
          let f := (q.finishTake q.finishCode).relayEnd q.finishCode
          let installs := f.lacksApp = true ∧ f.rdF Reg.TRU_XFER 28 2 = 3
          (q.xferTotal ≤ q.chunkNext → ∃ t, got = .next t ∧ ended q.finishCode t ∧
            (q.finishCode = 9 → t.xfer = 0) ∧
            (q.finishCode = 0 → ¬installs → t.xfer = 2) ∧
            (q.finishCode = 0 → installs → f.installCode = 0 → t.xfer = 0 ∧ t.slotSt f.installTarget = 3 ∧
              t.start.noApp = false) ∧
            (q.finishCode = 0 → installs → f.installCode ≠ 0 → t.xfer = 2 ∧ t.start.noApp = true)))))) ∧
  ∀ (code : W8) (c : Fin 16) (g : GReg) (f : FReg) (a d : W32) (s : State),
    let uses := code = 0x02 ∨ code = 0x08 ∨ code = 0x10 ∨ code = 0x11
    let shut := s.rdB Reg.TRU_FUSE 31 = true ∨ s.trust.sealing = true
    let allowed := code = 0x01 ∨ ¬shut ∧ (if code = 0x10 ∨ code = 0x11 then s.atRest = true else code = 0x02 ∨ code = 0x08)
    let x := 16 + c.val
    let v := s.ctx x
    let dbg (op : DebugOp) := exec (.tuyereDebugAccess c op) s
    let n := a.toNat
    let ok (v : W64) := { s with resp := { data := v, err := false } }
    let on := s.tuyereDead = false
    let used (code : W8) := code ∈ s.trust.used
    let first (code : W8) (t : State) := t.rdB Reg.TRU_FUSE 30 = true ∧ t.trust.used = code :: s.trust.used ∧
      (s.quoting = false → t.measure 5 = Config.shake256 (digestBytes (s.measure 5) ++ [code]))
    let blocked (t : State) := t.resp = { data := 0, err := false } ∧ t.mem = s.mem ∧ t.cores = s.cores ∧
      (s.atRest = false → t.rdB Reg.TRU_EVT 4 = true) ∧ s.keepsRegs t [Reg.TRU_EVT]
    (¬on → ∀ i ∈ ([.tuyereInstruction code, .tuyereMemoryAccess a (some d), .tuyereMemoryAccess a none,
        .tuyereDebugAccess c .halt] : List Instr),
      exec i s = .next { s with free := s.free + 1, resp := { data := Config.freeValue s.free, err := false } }) ∧
    (on → ∃ t, exec (.tuyereInstruction code) s = .next t ∧ t.trust.ir = code ∧ t.trust.tap = 0xC ∧ t.resp.err = false ∧
      (allowed → uses → ¬used code → first code t) ∧
      (¬allowed → t.resp.data = 0 ∧ t.trust.used = s.trust.used ∧
        (code = 0x10 ∨ code = 0x11 → s.atRest = false → t.rdB Reg.TRU_EVT 4 = true)) ∧
      (code = 0x01 → t.resp.data.toNat % 0x10000000 = 0x0512056F % 0x10000000)) ∧
    exec .tuyereTestReset s = .next { s with trust := { s.trust with tap := 0xF, ir := 0x01 } } ∧
    (on → s.trust.ir ≠ 0x10 ∨ s.indepSlot c = none → ∀ op, dbg op = .next s) ∧
    (on → s.trust.ir = 0x10 → s.indepSlot c ≠ none → shut ∨ s.atRest = false → ∀ op, ∃ t, dbg op = .next t ∧ blocked t) ∧
    (on → s.trust.ir = 0x10 → s.indepSlot c ≠ none → ¬shut → s.atRest = true → ¬used 0x10 →
      ∀ op, ∃ t, dbg op = .next t ∧ first 0x10 t) ∧
    (on → s.trust.ir = 0x10 → s.indepSlot c ≠ none → ¬shut → s.atRest = true → used 0x10 →
      (∃ t, dbg .halt = .next t ∧ t.ctx x = { v with dbg := true, steps := 0 }) ∧
      (∃ t, dbg .resume = .next t ∧ t.ctx x = { v with dbg := false, steps := 0 }) ∧
      (∃ t, dbg .step = .next t ∧ t.ctx x = { v with steps := if v.dbg then v.steps + 1 else v.steps }) ∧
      dbg (.readG g) = .next (ok (sget (fun _ => 0) v.g g)) ∧ dbg (.readF f) = .next (ok (sget (fun _ => 0) v.f f)) ∧
      dbg .readPc = .next (ok (v.pc.setWidth 64)) ∧ dbg .readSt = .next (ok (v.st.setWidth 64))) ∧
    (on → s.trust.ir ≠ 0x11 → ∀ w, exec (.tuyereMemoryAccess a w) s = .next s) ∧
    (on → s.trust.ir = 0x11 → shut ∨ s.atRest = false → ∀ w, ∃ t, exec (.tuyereMemoryAccess a w) s = .next t ∧ blocked t) ∧
    (on → s.trust.ir = 0x11 → ¬shut → s.atRest = true → ¬used 0x11 → ∃ t, exec (.tuyereMemoryAccess a none) s = .next t ∧
      first 0x11 t) ∧
    (on → s.trust.ir = 0x11 → ¬shut → s.atRest = true → used 0x11 →
      (∀ r, s.guardCheck 22 true n 4 1 = some r → exec (.tuyereMemoryAccess a none) s =
        .next { s.guardRefused 22 1 r with resp := { data := 0, err := true } }) ∧
      (∀ r, s.guardCheck 22 true n 4 2 = some r → exec (.tuyereMemoryAccess a (some d)) s =
        .next { s.guardRefused 22 2 r with resp := { data := 0, err := true } }) ∧
      (s.guardCheck 22 true n 4 1 = none → inWindows n = false → ∀ p, s.memSpan none n 4 = some p →
        exec (.tuyereMemoryAccess a none) s = .next (ok (BitVec.ofNat 64 (ofBytes (s.votedBytes p 4))))) ∧
      (s.guardCheck 22 true n 4 2 = none → inWindows n = false → ∀ p, s.memSpan none n 4 = some p → s.storable false p = true →
        s.copies p = [p] → ∃ t, exec (.tuyereMemoryAccess a (some d)) s = .next t ∧ t.resp = { data := 0, err := false } ∧
          t.bytes p 4 = toBytes 4 d.toNat ∧ ∀ b, b < p ∨ p + 4 ≤ b → t.byte b = s.byte b) ∧
      (s.guardCheck 22 true n 4 2 = none → n = Reg.SYS_SCRATCH → ∃ t, exec (.tuyereMemoryAccess a (some d)) s = .next t ∧
        t.rd Reg.SYS_SCRATCH = d ∧ s.keepsRegs t [Reg.SYS_SCRATCH]))

/-- R410, R419, R431 to R435, R457: the self-tests, at whose end a masked voter copy rejoins or stays masked, and the choice of
the keeper and of the system image. A TRIAL that has not been tried is tried first, then CURRENT, then PREVIOUS; what runs is
measured; where nothing verifies the module seeks an image. -/
def Obligations.StartImages : Prop :=
  ∀ (findings : BitVec 7) (cores : BitVec 16) (copies : BitVec 12) (s : State), s.quoting = false →
    let fused := s.hearthDigest = Config.hearthDigest
    let tests := exec (.selfTestsDone findings cores copies) s
    let dead (t : State) := (t.ctx 0).running = false ∧ t.start.stage = .stopped ∧ t.start.hearthBad = true
    let gate := s.start.stage = .hearth ∧ fused ∧ s.power.mainValid = true ∧ s.power.loop = true ∧ s.power.posInvalid = false
    let rec0 := 0x05000000 + 0x7D000
    let found := if s.rdB Reg.SYS_RESET_CAUSE 1 then findings &&& 0x4F#7 else findings
    let stops := findings.getLsbD 2 = true ∨ ∃ x < 4, s.triMode x = 5
    let add (m : BitVec 512) (d : List W8) := Config.shake256 (digestBytes m ++ d)
    let runs (k : Nat) (u t : State) := t.rdB (Reg.TRU_SLOT k) 27 = true ∧
      (u.slotSt k = 2 → t.rdB Reg.TRU_TRIAL 31 = true ∧ t.rdB Reg.TRU_EVT 0 = true ∧ t.trust.trialAt = s.opsec)
    let asks (kind : Nat) (t : State) := s.relayRoom kind = true → t.trust.relay = some (3, kind, 0) ∧
      (∀ p, p = 2 ∨ p = 3 → s.linkUp p = true → .udp p 0 (relayRequest kind) ∈ t.sent) ∧
      (s.anvil.link = .full → ∀ lane, s.anvil.laneOf s.anvil.txSeq = some lane →
        .link lane s.anvil.txSeq (Config.linkCrc s.anvil.txSeq) (.relay (relayRequest kind)) ∈ t.sent)
    let seeks (kind : Nat) (t : State) := t.start.stage = .recovery ∧ t.start.recoverKind = kind ∧ asks kind t
    let staged (kind : Nat) := s.xfer = 2 ∧ s.rdF Reg.TRU_XFER 28 2 = kind
    let hd := digestBytes s.hearthDigest
    let s0 := s.extend 0 hd
    (s.start.stage = .hearth → ¬fused → ∃ t, tests = .next t ∧ dead t) ∧
    (¬gate → s.start.stage ≠ .hearth ∨ fused → tests = .next s) ∧
    (gate → cores = 0 → ∃ t, tests = .next t ∧
      (∀ x < 4, ∀ k < 3, (t.triad x).voterMasked.getLsbD k = ((s.triad x).voterMasked.getLsbD k && copies.getLsbD (3 * x + k))) ∧ t.peek rec0 4 = 0x54525453 ∧
      t.peek (rec0 + 4) 4 = (s.rd Reg.SYS_RESET_CAUSE).toNat ∧ t.peek (rec0 + 0xC) 4 = found.toNat ∧
      t.peek (rec0 + 0x14) 4 = s.backup.pwrcyc.toNat ∧ t.start.finding = found.setWidth 32 ∧
      (¬stops → t.start.stage = .tests ∧ ((∀ x < 4, (s.triad x).voterMasked = 0) → t.pair = s.pair)) ∧
      (stops → t.start.stage = .stopped ∧ t.pair.role = .outOfService ∧ t.pair.ownFault = true)) ∧
    (gate → ∀ c < 16, cores = BitVec.ofNat 16 (2 ^ c) → s.coreLane c = none → ∀ i < 4, s.slotCore i = c →
      s.slotState i = 1 ∨ s.slotState i = 2 → (∀ j < i, s.slotCore j ≠ c) →
      ∃ t, tests = .next t ∧ t.slotState i = 5) ∧
    (s.start.stage ≠ .tests → ∀ bad, exec (.keeperStart bad) s = .next s) ∧
    (s.start.stage = .tests → ¬fused → ∀ bad, ∃ t, exec (.keeperStart bad) s = .next t ∧ dead t) ∧
    (s.start.stage = .tests → fused →
      (∀ k u, s0.choose 1 [] = (some k, u) → ∃ t, exec (.keeperStart none) s = .next t ∧ t.start.stage = .keeper ∧ runs k u t ∧
        t.measure 0 = add (add (add (s.measure 0) hd) (u.chunk k 0)) (digestBytes (u.areaDigest k))) ∧
      (∀ u, s0.choose 1 [] = (none, u) → ¬staged 1 → ∃ t, exec (.keeperStart none) s = .next t ∧ seeks 1 t)) ∧
    (s.start.stage ≠ .keeper → ∀ bad, exec (.systemImageStart bad) s = .next s) ∧
    (s.start.stage = .keeper →
      (∀ k u, s.choose 2 [] = (some k, u) → ∃ t, exec (.systemImageStart none) s = .next t ∧ t.start.stage = .system ∧
        t.start.listening = true ∧ runs k u t ∧
        t.measure 1 = add (add (s.measure 1) (u.chunk k 0)) (digestBytes (u.areaDigest k))) ∧
      (∀ u, s.choose 2 [] = (none, u) → ¬staged 2 → ∃ t, exec (.systemImageStart none) s = .next t ∧ seeks 2 t)) ∧
    (∀ kind, kind = 1 ∨ kind = 2 → ∀ o u, s.choose kind [] = (o, u) →
      let mine (j : Nat) := j = 2 * (kind - 1) ∨ j = 2 * (kind - 1) + 1
      (∀ k, o = some k → mine k ∧ u.slotVerifies [] k = true ∧ (u.slotSt k = 2 ∨ u.slotSt k = 3 ∨ u.slotSt k = 4) ∧
        (u.slotSt k = 2 → s.rdB (Reg.TRU_SLOT k) 26 = false ∧ u.rdB (Reg.TRU_SLOT k) 26 = true) ∧
        (u.slotSt k = 4 → ∀ j, mine j → u.slotSt j = 3 → u.slotVerifies [] j = false)) ∧
      (o = none → ∀ j, mine j → u.slotSt j = 3 ∨ u.slotSt j = 4 → u.slotVerifies [] j = false) ∧
      ∀ j, mine j → s.slotSt j = 2 → s.rdB (Reg.TRU_SLOT j) 26 = true → (∀ i < j, mine i → s.slotSt i ≠ 2) → u.slotSt j = 5) ∧
    (s.start.stage = .recovery → s.xfer ≠ 2 → ∃ t, exec .recoveryRetry s = .next t ∧ asks s.start.recoverKind t ∧
      t.start = s.start) ∧
    (s.start.stage = .recovery → s.xfer = 2 → s.rdF Reg.TRU_XFER 28 2 = s.start.recoverKind → s.installCode = 0 →
      ∃ t, exec .recoveryRetry s = .next t ∧ t.start.stage = .hearth ∧ t.rdB Reg.SYS_RESET_CAUSE 1 = true ∧
        t.pair.role = .unassigned) ∧
    (s.start.stage ≠ .recovery → exec .recoveryRetry s = .next s)

/-- R11, R23, R35, R436 to R445: plant time at start from the first source available, the role decision at each of its occasions,
the claim probe, and the start of the application; and a retain copy. -/
def Obligations.StartRoles : Prop :=
  ∀ (ptp : W64) (run chg seen fault : Bool) (image : List (W32 × List W8)) (crit : List (Fin 512)) (desc : W32) (levels : BitVec 512)
    (lines : List (Fin 524288)) (a b : W64) (s : State),
    let time := s.start.stage = .system ∧ s.run = false
    let probes (u t : State) := if u.mayStart = true ∧ u.claimable = true then t.pair.claim = true ∧
      t.pair.role = .unassigned ∧ t.start.probing = true else t = u
    let decided (u : State) (run chg : Bool) (t : State) :=
      if u.start.stage ≠ .system ∨ u.pair.role ≠ .unassigned ∨ u.start.listening = true ∨ u.start.probing = true ∨
        u.start.backoff = true then
        t = u
      else if u.anvil.link = .full then
        if u.pair.sense = true then
          if u.pair.peer = some .active ∧ run = true ∧ u.sharesFormat = true ∧ chg = false then t.pair.role = .joining else t = u
        else if u.pair.peer = some .outOfService ∨ u.pair.peerRecovering = true ∨
            u.pair.peer = some .unassigned ∧ (u.starter = true ∨ u.start.starterGone = true) then probes u t
        else t = u
      else if u.pair.sense = true then t = u
      else if u.power.peerPres = true ∧ u.start.waited = false then t = { u with start := { u.start with waiting := true } }
      else probes u t
    let becomes (c : Instr) (v : Start) (run chg : Bool) := ∃ t, exec c s = .next t ∧ decided { s with start := v } run chg t
    let v := s.start
    let cold := s.warmFrom = none ∧ v.coldAuto = false ∧ v.startReq = false
    let probeEnd := Instr.claimProbeEnd seen fault image crit desc levels
    let on := v.probing = true ∧ s.pair.claim = true
    let keeps := (s.pair.role = .active ∨ s.pair.role = .standby) ∧ lines ≠ [] ∧ lines.length ≤ 16384 ∧ (s.slotSt 4 = 3 ∨
      s.slotSt 5 = 3)
    let later := s.atTime b
    (time → ∀ n, s.timeBest = some n → v.timeKnown = false ∨ n < v.timeSource → ∃ t, exec (.timeEstablish ptp) s = .next t ∧
      t.now = s.timeValue n ptp ∧ t.start.timeKnown = true ∧ t.start.timeSource = n) ∧
    (¬time ∨ s.timeBest = none → exec (.timeEstablish ptp) s = .next s) ∧
    (∀ n, s.timeBest = some n → v.timeKnown = true → v.timeSource ≤ n → exec (.timeEstablish ptp) s = .next s) ∧
    (∀ n, s.timeBest = some n ↔ (1 ≤ n ∧ n ≤ 4 ∧ s.timeSourceOn n = true ∧ ¬(3 ≤ n ∧ s.ptpAwaited = true) ∧
      ∀ m, 1 ≤ m → m < n → s.timeSourceOn m = false ∨ 3 ≤ m ∧ s.ptpAwaited = true)) ∧
    exec .ptpWaitExpire s = .next (if v.stage = .system then { s with start := { v with ptpWaited := true } } else s) ∧
    becomes (.roleDecision run chg) v run chg ∧
    (v.listening = true → becomes (.listeningEnd run chg) { v with listening := false } run chg) ∧
    (v.listening = false → exec (.listeningEnd run chg) s = .next s) ∧
    (v.waiting = true → becomes .startWaitExpire { v with waiting := false, waited := true } false false) ∧
    (v.waiting = false → exec .startWaitExpire s = .next s) ∧
    (s.awaitsStarter = true → becomes .starterTimeout { v with starterGone := true } false false) ∧
    (s.awaitsStarter = false → exec .starterTimeout s = .next s) ∧
    (v.backoff = true → becomes (.probeBackoffExpire run chg) { v with backoff := false } run chg) ∧
    (v.backoff = false → exec (.probeBackoffExpire run chg) s = .next s) ∧
    (∀ (p : Fin 4) (r : State), s.managed p.val none = some r → ∃ t, exec (.startRequest p) s = .next t ∧
      decided { r with start := { r.start with startReq := true } } false false t) ∧
    (∀ p : Fin 4, s.managed p.val none = none → exec (.startRequest p) s = .next s) ∧
    (¬on → exec probeEnd s = .next s) ∧
    (on → seen = true ∨ fault = true → ∃ t, exec probeEnd s = .next t ∧ t.pair.claim = false ∧ t.pair.sense = seen ∧
      t.pair.role = s.pair.role ∧ t.start.backoff = true ∧ t.start.probing = false ∧ (fault = true → t.start.loopDiag = true)) ∧
    (on → seen = false → fault = false → cold → ∃ t, exec probeEnd s = .next t ∧ t.pair.role = .unassigned ∧
      t.pair.claim = false ∧ t.pair.drive = .highZ) ∧
    (on → seen = false → fault = false → ¬cold → s.chgState = 0 → s.anvil.shadow = [] → ∃ t, exec probeEnd s = .next t ∧
      t.pair.role = .active ∧ t.pair.running = true ∧ t.start.starting = true ∧ t.chgState = 1 ∧ t.critical = crit.map Fin.val ∧
      t.rd Reg.SCN_CHG_DESC = desc &&& 0xFFFFFFC0#32 ∧
      (s.forceBase = 0 → ∀ r, s.warmFrom = some r → (r.lines.map Prod.fst).Nodup → (∀ e ∈ r.lines, e.2.length = 64) →
        ∀ e ∈ r.lines, e.1 < 524288 → t.bytes (0x20000000 + 64 * e.1) 64 = e.2)) ∧
    (keeps → ∃ t, exec (.retainCopy lines a b) s = .next t ∧ t.start.retain = (v.retain + 1) % 2 ∧ t.now = later.now ∧
      ∃ m, sget (fun _ => none) t.start.copies (v.retain % 2) = some ⟨if later.now.toNat < a.toNat then later.now else a,
        later.now, s.change.idNow, m, lines.map fun l => (l.val, s.bytes (0x20000000 + 64 * l.val) 64)⟩) ∧
    (¬keeps → exec (.retainCopy lines a b) s = .next later)

/-- R447 to R453, R464: records as they are queued, written, dropped and held; software's records; the cursors and the two
numbers. That records wait for the placeholders is in notes/assumptions/56.md. R24, R198, R262, R456, R458 to R463: proof tests
from their begin to their result and what a failure does, the forecast of every pool, a phase of the power stage, and the state
block of the ledger. -/
def Obligations.RecorderAndPools : Prop :=
  (∀ (c : Fin 2) (v : W32) (byOpsec low : Bool) (s : State),
    let q := s.recorder.queue
    let evt := Reg.EVR_EVT
    let at' (n : Nat) (t : State) := t.rd (Reg.EVR_CUR_STAT c) = BitVec.ofNat 32 (s.recorder.find n).2 ∧
      ∀ i < 16, t.rd (Reg.EVR_WIN c i) = BitVec.ofNat 32 (ofBytes (((s.recorder.find n).1.drop (4 * i)).take 4))
    let full := 256 ≤ q.length
    let code := s.rdF Reg.EVR_SW_CODE 0 16
    let gap := s.recorder.next - q.length - s.recorder.written
    (s.unfilled = true ∨ q = [] → exec .recordWrite s = .next s) ∧
    (∀ r rest, q = r :: rest → s.unfilled = false → ∃ t, exec .recordWrite s = .next t ∧ t.recorder.queue = rest ∧ t.rdB evt 0 = true ∧
      sget (fun _ => none) t.recorder.scree (r.seq % 65536) = some r ∧
      (r.seq < 4096 → sget (fun _ => none) t.recorder.cairn r.seq = some r) ∧ (4096 ≤ r.seq →
        t.recorder.cairn = s.recorder.cairn) ∧
      t.recorder.low = max s.recorder.low (r.seq + 1 - 65536) ∧ t.recorder.next = s.recorder.next) ∧
    (s.recorder.dropCount ≠ 0 → q.length ≤ 128 → s.recorder.closed = false → ∃ t, exec .dropRecord s = .next t ∧
      t.recorder.dropCount = 0 ∧ ∃ r, t.recorder.queue = q ++ [r] ∧ r.code = 0x0003 ∧ r.seq = s.recorder.next ∧
      r.data.take 6 = toBytes 4 s.recorder.dropCount ++ toBytes 2 s.recorder.dropFirst.toNat) ∧
    (s.recorder.dropCount = 0 ∨ 128 < q.length → exec .dropRecord s = .next s) ∧
    (gap = 0 → exec .placeholderFill s = .next s) ∧
    (gap ≠ 0 → gap ≤ 65536 → ∃ t, exec .placeholderFill s = .next t ∧ t.rdB evt 4 = true ∧ t.recorder.queue = q ∧ t.unfilled = false ∧
      ∀ i < gap, ∃ r, sget (fun _ => none) t.recorder.scree ((s.recorder.written + i) % 65536) = some r ∧ r.code = 0x0001 ∧
        r.seq = s.recorder.written + i) ∧
    (code < 0xF000 → ∃ t, exec .swWrite s = .next t ∧ t.rdB evt 6 = true ∧ t.recorder = s.recorder) ∧
    (0xF000 ≤ code → full → ∃ t, exec .swWrite s = .next t ∧ t.rdB evt 5 = true ∧ t.recorder = s.recorder) ∧
    (0xF000 ≤ code → ¬full → s.recorder.closed = false → ∃ t, exec .swWrite s = .next t ∧ t.recorder.next = s.recorder.next + 1 ∧
      ∃ r, t.recorder.queue = q ++ [r] ∧ r.code.toNat = code ∧ r.seq = s.recorder.next ∧ r.opsec = s.opsec ∧
        r.pwrcyc = s.backup.pwrcyc ∧ r.ptime = (if s.start.timeKnown then s.now else 0) ∧
        r.data = (List.range 7).flatMap fun i => toBytes 4 (s.rd (Reg.EVR_SW_DATA i)).toNat) ∧
    (∃ t, exec (.cursorLoad c v) s = .next t ∧ t.rd (Reg.EVR_CUR_LO c) = v ∧
      at' (s.rdF (Reg.EVR_CUR_HI c) 0 16 * 2 ^ 32 + v.toNat) t ∧ t.recorder = s.recorder) ∧
    (s.recorder.search byOpsec (s.rd64 (Reg.EVR_FIND_LO c) (Reg.EVR_FIND_HI c)).toNat = none →
      ∃ t, exec (.find c byOpsec) s = .next t ∧ t.rd (Reg.EVR_CUR_STAT c) = 0x04000000#32 ∧ s.keepsRegs t [Reg.EVR_CUR_STAT c]) ∧
    (∀ r, s.recorder.search byOpsec (s.rd64 (Reg.EVR_FIND_LO c) (Reg.EVR_FIND_HI c)).toNat = some r → r.seq < 2 ^ 48 →
      ∃ t, exec (.find c byOpsec) s = .next t ∧ t.cursor c = r.seq ∧ at' r.seq t) ∧
    (∃ t, exec (.windowWord15Read c) s = .next t ∧ t.resp = { data := (s.rd (Reg.EVR_WIN c 15)).setWidth 64, err := false } ∧
      (s.rdB (Reg.EVR_CUR_CTRL c) 8 = false → t.regs = s.regs) ∧
      (s.rdB (Reg.EVR_CUR_CTRL c) 8 = true → t.cursor c = (s.cursor c + 1) % 2 ^ 48)) ∧
    (let n := if low then s.recorder.low else s.recorder.next
     let hi := if low then Reg.EVR_LOW_HI else Reg.EVR_NEXT_HI
     ∃ t, exec (.nextLoRead low) s = .next t ∧ t.resp.err = false ∧ (t.rd hi).toNat * 2 ^ 32 + t.resp.data.toNat = n % 2 ^ 48 ∧
       s.keepsRegs t [hi]) ∧
    (∀ n r, s.recorder.low ≤ n → n < s.recorder.next → sget (fun _ => none) s.recorder.scree (n % 65536) = some r → r.seq = n →
      s.recorder.find n = (r.toBytes, 2 ^ 31)) ∧
    ∀ n, s.recorder.next ≤ n → s.recorder.find n = (List.replicate 64 0, 2 ^ 29)) ∧
  ∀ (test : Fin 9) (elem : W16) (lostA lostB : Bool) (v : W32) (phase : Fin 10) (s : State),
    let n := elem.toNat
    let cmd (p : TestPhase) := Instr.proofTestRun test elem p
    let runs := s.testRuns test n = true
    let spare := Reg.FCH_SPARE (n / 32)
    let own (i st : Nat) := s.ledger.tested = some (i, st) ∧ s.slotCore i = n ∧ s.slotState i = 3
    let fails := runs ∧ (test.val = 0 → ∃ p, s.ledger.tested = some p ∧ s.slotCore p.1 = n) ∧ (test.val = 4 →
      s.rdB spare 13 = true)
    let newest := max (if lostA then 0 else s.ledger.blockA) (if lostB then 0 else s.ledger.blockB)
    let off := s.rd Reg.EVR_PT_EN &&& ~~~v &&& 0x1FF#32
    (¬runs → ∀ p, exec (cmd p) s = .next s) ∧
    (runs → test.val ≠ 0 → test.val ≠ 1 → test.val ≠ 4 → exec (cmd .begins) s = .next s ∧ exec (cmd .passed) s = .next s) ∧
    (runs → test.val = 0 → s.ledger.tested = none → ∀ i < 4, s.slotCore i = n → s.slotState i = 1 ∨ s.slotState i = 2 →
      (∀ j < i, s.slotCore j ≠ n) → ∃ t, exec (cmd .begins) s = .next t ∧ t.slotState i = 3 ∧
        t.ledger = { s.ledger with tested := some (i, s.slotState i) }) ∧
    (runs → test.val = 0 → ∀ i < 4, ∀ st < 16, own i st → ∃ t, exec (cmd .passed) s = .next t ∧ t.slotState i = st ∧
      t.ledger = { s.ledger with tested := none }) ∧
    (runs → test.val = 1 → ∀ x k, s.coreLane n = some (x, k) →
      (∃ t, exec (cmd .begins) s = .next t ∧ ∀ y ∈ s.islandTargets x, t.nap y = .awake) ∧
      ∃ t, exec (cmd .passed) s = .next t ∧ ∀ y ∈ s.islandTargets x, t.nap y = .banked) ∧
    (runs → test.val = 4 →
      (s.rdB spare 12 = true → ∃ t, exec (cmd .begins) s = .next t ∧ t.rd spare = setB (clrB (s.rd spare) 12) 13) ∧
      (s.rdB spare 12 = false → exec (cmd .begins) s = .next s) ∧
      (s.rdB spare 13 = true → ∃ t, exec (cmd .passed) s = .next t ∧ t.rd spare = setB (clrB (s.rd spare) 13) 12) ∧
      (s.rdB spare 13 = false → exec (cmd .passed) s = .next s)) ∧
    (runs → ¬fails → exec (cmd .failed) s = .next s) ∧
    (fails → ∃ t, exec (cmd .failed) s = .next t ∧ t.rd Reg.EVR_PT_STAT = BitVec.ofNat 32 (2 ^ 31 + test.val * 2 ^ 16 + n) ∧
      t.rdB Reg.EVR_EVT 12 = true ∧
      (test.val = 0 → s.coreLane n = none → ∀ i < 4, ∀ st, own i st → st = 1 ∨ st = 2 → (∀ j < i, s.slotCore j ≠ n) →
        t.slotState i = 5) ∧
      (test.val = 4 → t.rdB spare 14 = true ∧ t.rdB spare 13 = false) ∧
      (test.val = 6 → t.pair.ownFault = true ∧ t.pair.role = .outOfService) ∧
      (test.val = 7 → t.power.phases = s.power.phases - 1) ∧
      (test.val = 7 ∨ test.val = 8 → s.ledger.log.length < 65536 → t.ledger.count = s.ledger.count + 1)) ∧
    (∃ t, exec (.ptEnClear v) s = .next t ∧ t.rd Reg.EVR_PT_EN = v &&& 0x1FF#32 ∧ (off ≠ 0 → t.rdB Reg.EVR_EVT 13 = true) ∧
      (off = 0 → s.keepsRegs t [Reg.EVR_PT_EN] ∧ t.recorder = s.recorder)) ∧
    (∃ t, exec .sparesForecast s = .next t ∧ t.ledger = s.ledger ∧ ∀ p < 9, t.rdF (Reg.EVR_POOL p) 20 12 = s.forecast p ∧
      t.rdF (Reg.EVR_POOL p) 8 8 = min 255 (s.poolLeft p) ∧ t.rdB (Reg.EVR_POOL p) 18 = decide (s.forecast p < 12) ∧
      t.rdB (Reg.EVR_POOL p) 19 = decide (s.poolLeft p = 0) ∧ (s.forecast p < 12 → s.rdB (Reg.EVR_POOL p) 18 = false →
        t.rdB Reg.EVR_EVT 9 = true) ∧
      (s.poolLeft p = 0 → s.rdB (Reg.EVR_POOL p) 19 = false → t.rdB Reg.EVR_EVT 8 = true)) ∧
    (s.poolLeft 8 ≠ 0 → ∃ t, exec (.phaseCurrentFault phase) s = .next t ∧ t.power.phases = s.power.phases - 1 ∧
      t.pair.role = s.pair.role ∧ (s.ledger.log.length < 65536 → t.ledger.count = s.ledger.count + 1)) ∧
    (s.poolLeft 8 = 0 → ∃ t, exec (.phaseCurrentFault phase) s = .next t ∧ t.power.phases = s.power.phases - 1 ∧
      t.pair.role = .outOfService ∧ t.pair.claim = false ∧ t.pair.ctlFault = true) ∧
    (newest < s.ledger.count → ∃ t, exec (.ledgerRebuild lostA lostB) s = .next t ∧
      t.ledger = { s.ledger with blockA := s.ledger.count, blockB := newest } ∧ t.rdB Reg.EVR_LEDGER 31 = true ∧
      s.keepsRegs t [Reg.EVR_LEDGER]) ∧
    (s.ledger.count ≤ newest → exec (.ledgerRebuild lostA lostB) s = .next s)

/-- R298 to R300, R302, R304, R321: a port goes on only with a configuration that ON checks; it integrates, after ON and after a
recessive res bit, is stopped, an acyclic request among the frames withdrawn ending with code 2, recovers from bus off with its
counters at 0, loses its transmitter to a dominant timeout, and follows its error counters. R321: an acyclic request is refused
with its code or released into the slots, and ends with a response, by its time limit, or by ABORT. -/
def Obligations.StationPorts : Prop :=
  (∀ (k : Fin 8) (big : Bool) (s : State),
    let st := s.portState k
    let a := Reg.STB_STATE k
    let cfg := Reg.STB_CFG k
    let evt := Reg.STB_EVT k
    let ac := Reg.STB_AC_STAT k
    let rcv := s.rdF a 8 8 + if big then 8 else 1
    let tec := s.rdF a 16 9
    let onBus := (s.port k).onbus.isSome = true ∧ s.portUp k = true
    let on := s.blockOff cfg = false
    let taken (t : State) := t.resp = { data := 0, err := false }
    (on → st ≠ 0 → ∃ t, exec (.portOn k) s = .next t ∧ taken t ∧ t.regs = s.regs ∧ t.ports = s.ports) ∧
    (on → st = 0 → s.portConfigOk k = true → ∃ t, exec (.portOn k) s = .next t ∧ t.portState k = 1 ∧ t.rdB cfg 0 = true ∧
      t.port k = (s.port k).kept ∧ taken t ∧ s.keepsRegs t [cfg, a]) ∧
    (on → st = 0 → s.portConfigOk k = false → ∃ t, exec (.portOn k) s = .next t ∧ t.portState k = 0 ∧ t.rdB cfg 0 = false ∧
      t.rdB evt 6 = true ∧ taken t ∧ s.keepsRegs t [cfg, evt]) ∧
    (on → ∃ t, exec (.portOff k) s = .next t ∧ t.rdB cfg 0 = false ∧
      (st ≠ 0 → onBus → t.portState k = st ∧ (t.port k).queue = [] ∧ (t.port k).stopping = true ∧
        (t.port k).onbus = (s.port k).onbus ∧
        ((∃ f ∈ (s.port k).queue, f.id / 64 = 4 ∧ f.aborted = false) → t.rdB ac 31 = false ∧ t.rdF ac 16 8 = 2)) ∧
      (st ≠ 0 → ¬onBus → t.portState k = 0 ∧ t.port k = (s.port k).kept) ∧
      taken t ∧ s.keepsRegs t [cfg, a, ac]) ∧
    (st = 1 → ∃ t, exec (.integrationDone k) s = .next t ∧ t.portState k = 2 ∧ (t.port k).refGood = false ∧ s.keepsRegs t [a]) ∧
    (st ≠ 1 → (s.port k).excepted = true → ∃ t, exec (.integrationDone k) s = .next t ∧ (t.port k).excepted = false ∧
      t.regs = s.regs) ∧
    (st ≠ 1 → (s.port k).excepted = false → exec (.integrationDone k) s = .next s) ∧
    (on → getF (s.stbState k) 0 3 = 4 → ∃ t, exec (.recover k) s = .next t ∧ t.portState k = 5 ∧ s.keepsRegs t [a]) ∧
    (on → getF (s.stbState k) 0 3 ≠ 4 → ∃ t, exec (.recover k) s = .next t ∧ t.rdB evt 5 = true ∧ s.keepsRegs t [evt]) ∧
    (st = 5 → ∃ t, exec (.recoveryDone k) s = .next t ∧ t.rd a = 2#32 ∧ t.rdB evt 3 = true ∧ s.keepsRegs t [a, evt]) ∧
    (st ≠ 5 → exec (.recoveryDone k) s = .next s) ∧
    (st = 0 → exec (.dominantTimeout k) s = .next s) ∧
    (st ≠ 0 → ∃ t, exec (.dominantTimeout k) s = .next t ∧ t.rdB evt 4 = true ∧ t.port k = { s.port k with txOff := true } ∧
      s.keepsRegs t [evt]) ∧
    (s.portUp k = false → exec (.canErrorDetected k big) s = .next s) ∧
    (s.portUp k = true → ∃ t, exec (.canErrorDetected k big) s = .next t ∧ t.rdF a 16 9 = min 256 tec ∧
      t.rdF a 8 8 = min 255 rcv ∧
      t.rdB a 4 = decide (96 ≤ tec ∨ 96 ≤ rcv) ∧
      (t.port k).txOff = false ∧
      t.portState k = (if 255 < tec then 4 else if 128 ≤ tec ∨ 128 ≤ rcv then 3 else 2) ∧ s.keepsRegs t [a, evt, ac])) ∧
  ∀ (k : Fin 8) (data : List W8) (when : W64) (s : State),
    let stat := Reg.STB_AC_STAT k
    let q := s.rd (Reg.STB_AC_REQ k)
    let len := getF q 16 8
    let most := if s.rdB (Reg.STB_CFG k) 8 then 64 else 8
    let busy := s.rdB stat 31
    let code := if s.pair.role ≠ .active then 4 else if s.portUp k = false then 3
      else if len = 0 ∨ most < len ∨ getF q 0 16 = 0 ∨ 1000 < getF q 0 16 then 5 else 0
    let ends (c : Nat) (t : State) := t.rdB stat 31 = false ∧ t.rdB stat (if c = 0 then 30 else 29) = true ∧ t.rdF stat 16 8 = c ∧
      (t.port k).acTill = none
    let u := s.atTime when
    let on := s.blockOff (Reg.STB_AC_CTRL k) = false
    (on → busy = true → ∃ t, exec (.acyclicStart k) s = .next t ∧ t.rdB stat 31 = true ∧ t.rdB stat 29 = true ∧
      t.rdF stat 16 8 = 7 ∧
      s.keepsRegs t [stat] ∧ t.ports = s.ports) ∧
    (on → busy = false → code ≠ 0 → ∃ t, exec (.acyclicStart k) s = .next t ∧ ends code t ∧ s.keepsRegs t [stat] ∧
      (t.port k).queue = (s.port k).queue) ∧
    (on → busy = false → code = 0 → ∃ t, exec (.acyclicStart k) s = .next t ∧ t.rdB stat 31 = true ∧ t.rdF stat 16 8 = 0 ∧
      s.keepsRegs t [stat] ∧ ∃ f : TxFrame, f.id = 0x100 + getF q 24 6 ∧ f.cyclic = false ∧ f.aborted = false ∧
        f.data = (List.range len).map (fun i => BitVec.ofNat 8 (getF (s.rd (Reg.STB_CFG k + 0x100 + i / 4 * 4)) (8 * (i % 4)) 8)) ∧
        ((t.port k).onbus = some f ∨ f ∈ (t.port k).queue ∨ f ∈ (t.port k).waits)) ∧
    (on → busy = true → ∃ t, exec (.acyclicAbort k) s = .next t ∧ ends 6 t ∧ (∀ f ∈ (t.port k).queue, f.id / 64 ≠ 4) ∧
      (∀ f ∈ (s.port k).queue, f.id / 64 ≠ 4 → f.aborted = false → f ∈ (t.port k).queue) ∧ s.keepsRegs t [stat] ∧
      ∀ f, (s.port k).onbus = some f → (t.port k).onbus = some (if f.id / 64 = 4 then { f with aborted := true } else f)) ∧
    (on → busy = false → exec (.acyclicAbort k) s = .next s) ∧
    ((s.port k).acTill = none → exec (.acyclicResponse k data) s = .next s) ∧
    ((s.port k).acTill ≠ none → ∃ t, exec (.acyclicResponse k data) s = .next t ∧ ends 0 t ∧
      t.rdF stat 8 8 = min 64 data.length ∧ ∀ i b, i < 64 → data[i]? = some b →
        getF (t.rd (Reg.STB_CFG k + 0x140 + i / 4 * 4)) (8 * (i % 4)) 8 = b.toNat) ∧
    (∀ x, (s.port k).acTill = some x → x.toNat ≤ u.now.toNat → ∃ t, exec (.acyclicTimeout k when) s = .next t ∧ ends 1 t) ∧
    ((s.port k).acTill = none → exec (.acyclicTimeout k when) s = .next u) ∧
    (∀ x, (s.port k).acTill = some x → u.now.toNat < x.toNat → exec (.acyclicTimeout k when) s = .next u)

/-- R298, R299, R302, R303, R305, R306, R308, R313, R324, R325, R327: a frame on the bus is sent, in the format of its port, tried
again up to the limit, or lost with bus off, and a port whose books fail is reset to OFF; a frame received acts by its identifier;
references are released at their period; late frames are withdrawn. The rise and fall of the error counters is ISO 11898-1, which
the manual cites. -/
def Obligations.CanFrames : Prop :=
  ∀ (k : Fin 8) (res : Fin 4) (delay : BitVec 7) (id : Fin 2048) (form : Fin 3) (data : List W8) (stamp : W64) (r : Fin 9) (s : State),
    let a := Reg.STB_STATE k
    let evt := Reg.STB_EVT k
    let tec := s.rdF a 16 9
    let rcv := s.rdF a 8 8
    let counts (x y : Nat) (t : State) := t.rdF a 16 9 = min 256 x ∧ t.rdF a 8 8 = min 255 y ∧
      t.portState k = (if 255 < x then 4 else if 128 ≤ x ∨ 128 ≤ y then 3 else 2)
    let sent := exec (.canFrameTransmitted k res delay stamp) s
    let got := exec (.canFrameReceived k id form data stamp) s
    let plain := form.val = 0
    let full (f : TxFrame) := s.rdB (Reg.STB_CFG k) 21 = false ∧ s.rdF (Reg.STB_CFG k) 16 5 ≤ f.tries
    let waits (k : Nat) (f : TxFrame) (t : State) := (t.port k).onbus = some f ∨ f ∈ (t.port k).queue ∨ f ∈ (t.port k).waits
    let runs := (s.portState k = 2 ∨ s.portState k = 3) ∧ (s.port k).excepted = false
    let dead := (s.port k).txOff = true ∧ res.val < 2
    let active := s.pair.role = .active
    let kind := id.val / 64
    let n := id.val % 64
    let u := s.atTime stamp
    let per := if r.val = 8 then s.rdF Reg.NET_SCHED 12 10 else s.rdF (Reg.STB_SCHED r) 16 10
    let due := active ∧ s.isTick stamp.toNat = true ∧ 0 < per ∧ stamp.toNat % (per * s.gridNs) = 0 ∧ (r.val = 8 ∨
      s.portUp r = true)
    let mute := r.val = 8 ∧ (s.rdB Reg.NET_NODE 31 = false ∨ s.ringPorts = 0)
    let head : RinfaHead := { bcast := true, kind := 0, src := s.rdF Reg.NET_NODE 0 16, dst := 0, seq := s.net.seq.toNat, frag := 0,
                              tag := BitVec.ofNat 8 (s.tagOf stamp.toNat) }
    let late (f : TxFrame) := f.cyclic = true ∧ f.release.toNat + s.lag r ≤ u.now.toNat + 10000
    let lates := ((s.port r).onbus.toList ++ (s.port r).queue ++ (s.port r).waits).filter fun f =>
      f.cyclic && decide (f.release.toNat + s.lag r ≤ u.now.toNat + 10000)
    ((s.port k).onbus = none ∨ s.portUp k = false ∨ dead → sent = .next s) ∧
    (∀ f, (s.port k).onbus = some f → s.portUp k = true → res.val = 3 → ∃ t, sent = .next t ∧ t.portState k = 0 ∧
      t.rdB (Reg.STB_CFG k) 0 = false ∧ t.rdB evt 7 = true ∧ (t.port k).queue = [] ∧ (t.port k).onbus = none) ∧
    (∀ f, (s.port k).onbus = some f → s.portUp k = true → (s.port k).stopping = true → res.val = 2 → 255 < tec + 8 →
      ∃ t, sent = .next t ∧ t.portState k = 0 ∧ t.rdB evt 0 = true ∧ (t.port k).onbus = none) ∧
    (∀ f, (s.port k).onbus = some f → s.portUp k = true → ¬dead → (s.port k).stopping = false →
      (res.val = 0 → ∃ t, sent = .next t ∧ counts (tec - 1) rcv t ∧
        .can k f.id (s.fdFrame k f) (if f.id = 0 then s.refData k else f.data) ∈ t.sent ∧
        (s.fdFrame k f = true → s.rdB (Reg.STB_TDC k) 31 = true → t.rdF (Reg.STB_TDC k) 16 7 = delay.toNat) ∧
        (f.id = 0 → (t.port k).ref = stamp ∧ (t.port k).refGood = true ∧ (t.port k).refStamp = stamp ∧
          (t.port k).refSeq = (s.port k).refSeq + 1 ∧ bit t.time.refStep k = false) ∧
        (f.id / 64 = 4 → f.aborted = false → (t.port k).acTill = some (stamp + BitVec.ofNat 64 (s.rdF (Reg.STB_AC_REQ k) 0 16 * 1000000)))) ∧
      (res.val = 1 → full f → ∃ t, sent = .next t ∧ t.rd a = s.rd a ∧ t.rdB evt 9 = true ∧
        t.rdF (Reg.STB_CNT_A k) 0 16 = min 65535 (s.rdF (Reg.STB_CNT_A k) 0 16 + 1)) ∧
      (res.val = 1 → ¬full f → f.aborted = true → ∃ t, sent = .next t ∧ t.regs = s.regs ∧ t.sent.length ≤ s.sent.length + 1) ∧
      (res.val = 1 → ¬full f → f.aborted = false → ∃ t, sent = .next t ∧ t.rd a = s.rd a ∧
        waits k { f with tries := f.tries + 1 } t ∧
        t.rdF (Reg.STB_CNT_B k) 16 16 = min 65535 (s.rdF (Reg.STB_CNT_B k) 16 16 + 1)) ∧
      (res.val = 2 → tec + 8 ≤ 255 → ∃ t, sent = .next t ∧ counts (tec + 8) rcv t ∧
        (full f → t.rdB evt 9 = true) ∧ (¬full f → f.aborted = false → waits k { f with tries := f.tries + 1 } t)) ∧
      (res.val = 2 → 255 < tec + 8 → ∃ t, sent = .next t ∧ counts (tec + 8) rcv t ∧ t.rdB evt 0 = true ∧
        (t.port k).queue = [] ∧ (t.port k).onbus = none)) ∧
    (¬runs → got = .next s) ∧
    (runs → ∃ t, got = .next t ∧ (s.portUp k = true → counts tec (if rcv = 0 then 0 else if rcv < 128 then rcv - 1 else 127) t) ∧
      (s.portUp k = false → t.rd a = s.rd a) ∧
      (form.val = 2 → (t.port k).excepted = true) ∧
      (¬plain ∨ 6 ≤ kind ∨ kind = 0 ∧ n ≠ 0 ∧ ¬active → t.rdB evt 10 = true ∧
        t.rdF (Reg.STB_CNT_B k) 0 16 = min 65535 (s.rdF (Reg.STB_CNT_B k) 0 16 + 1)) ∧
      (plain → active → (s.port k).held = false → kind = 0 ∨ kind = 1 ∨ kind = 4 → t.rdB evt 11 = true) ∧
      (plain → ¬active → kind = 0 → n = 0 → (t.port k).ref = stamp) ∧
      (plain → kind = 2 → ∀ h g body, data = h :: g :: body → u.tagAhead k g.toNat = true →
        { station := n, tag := g.toNat, index := getF h 4 4, last := getF h 0 4, data := body } ∈ (t.port k).frags) ∧
      (plain → kind = 3 → t.net.records = s.net.records ++
        if active ∧ s.pair.running = true ∧ s.rdB Reg.NET_SOE_CTRL 31 = true then
          (List.range (data.length / 16)).map fun i => (0xFFFF, 0x8000 + 0x100 * k.val + n, (data.drop (16 * i)).take 16)
        else []) ∧
      (plain → kind = 5 → tec ≤ 255 → (s.port k).acTill.isSome = true → s.rdF (Reg.STB_AC_REQ k) 24 6 = n →
        t.rdB (Reg.STB_AC_STAT k) 30 = true ∧ t.rdB (Reg.STB_AC_STAT k) 31 = false ∧ (t.port k).acTill = none)) ∧
    (¬due → exec (.referenceRelease r stamp) s = .next s) ∧
    (due → mute → exec (.referenceRelease r stamp) s = .next u) ∧
    (due → ¬mute → r.val = 8 → ∃ t, exec (.referenceRelease r stamp) s = .next t ∧ (t.port 8).refSeq = (s.port 8).refSeq + 1 ∧
      bit t.time.refStep 8 = false ∧ (t.port 8).refGood = s.linkUp 0 ∧
      (s.linkUp 0 = true → (t.port 8).refStamp = u.draw &&& ~~~7#64) ∧ t.net.seq = s.net.seq + 1 ∧
      t.sent.head? = some (.rinfa s.ringPorts (s.rinfaTop ++ head.bytes (s.refData 8)))) ∧
    (due → r.val ≠ 8 → ∃ t, exec (.referenceRelease r stamp) s = .next t ∧ (t.port r).refSeq = (s.port r).refSeq ∧
      t.sent = s.sent ∧
      waits r { id := 0, data := [], tries := 0, release := stamp, cyclic := false } t) ∧
    (∃ t, exec (.frameDeadlineWithdraw r stamp) s = .next t ∧ (∀ f, waits r f t → ¬late f) ∧
      (lates ≠ [] → r.val < 8 → t.rdB (Reg.STB_EVT r) 8 = true ∧
        t.rdF (Reg.STB_CNT_A r) 16 16 = min 65535 (s.rdF (Reg.STB_CNT_A r) 16 16 + lates.length)) ∧
      (lates ≠ [] → r.val = 8 → t.rdF Reg.NET_CNT 16 16 = min 65535 (s.rdF Reg.NET_CNT 16 16 + lates.length)) ∧
      (lates = [] → t = u)) ∧
    (∃ t, exec (.queueEmptyReport k) s = .next t ∧ (t.port k).held = false ∧ (t.port k).waits = [] ∧ t.regs = s.regs ∧
      (∀ f ∈ (s.port k).waits, (t.port k).onbus = some f ∨ f ∈ (t.port k).queue) ∧
      ((s.port k).waits = [] → (t.port k).queue = (s.port k).queue ∧ (t.port k).onbus = (s.port k).onbus)) ∧
    (s.blockOff (Reg.STB_CTRL k) = false → ∃ t, exec (.refLoRead k) s = .next t ∧
      t.resp = { data := ((s.port k).ref.setWidth 32).setWidth 64, err := false } ∧
      t.rd (Reg.STB_REF_HI k) = ((s.port k).ref >>> 32).setWidth 32 ∧ s.keepsRegs t [Reg.STB_REF_LO k, Reg.STB_REF_HI k])

/-- R316, R318, R319: at the first input phase of a tick outside its window a station is lost, and it is back when it has
completed RETURN sets in a row; LIVE, LOST, the events and the status word follow. The last is said of a station without points
whose status word lies outside its own table entry. -/
def Obligations.StationsLostAndBack : Prop :=
  ∀ (n : Fin 4608) (t : W64) (s : State),
    let here := s.stOn n = true ∧ s.lineTicks (s.stLine n) t.toNat = true ∧ s.pair.role = .active ∧ s.pair.running = true ∧
      s.yieldHolds = false
    let v := s.station n
    let set := s.stationSet n (s.tagOf t.toNat)
    let ret := getF (s.stWord n 8) 8 8
    let lost := here ∧ v.lost = false ∧ s.outside n t.toNat = true ∧ set = none
    let back := here ∧ v.lost = true ∧ ret ≤ v.runs + 1 ∧ set ≠ none
    let img := s.imgBase (s.listBank 0) + getF (s.stWord n 0xC) 0 24
    let plain := s.stPoints n = [] ∧ (img + 4 ≤ s.stEntry n ∨ s.stEntry n + 32 ≤ img)
    let a := s.stAddr n
    let k := s.stPort n
    let live := if s.stNet n then Reg.NET_LIVE ((n.val - 512) / 32) else if a < 32 then Reg.STB_LIVE_LO k else Reg.STB_LIVE_HI k
    let gone := if s.stNet n then Reg.NET_LOST ((n.val - 512) / 32) else if a < 32 then Reg.STB_LOST_LO k else Reg.STB_LOST_HI k
    let i := if s.stNet n then (n.val - 512) % 32 else a % 32
    let evt (b : Nat) (u : State) := if s.stNet n then u.rdB Reg.NET_EVT b = true else u.rdB (Reg.STB_EVT k) (16 + b) = true
    let m := if s.stNet n then 19 else 18
    let open' := s.guardCheck m false img 4 2 = none
    let reads := (s.stEntry n, 32) :: (s.stPoints n).map fun q => (s.ptEntry q, 16)
    let able := s.guardOn m = true ∧ s.refusedIn m 1 reads = none
    (¬lost → exec (.stationLost n t) s = .next s) ∧
    (lost → v.phase.toNat < t.toNat → able → ∃ u, exec (.stationLost n t) s = .next u ∧
      u.station n = { v with lost := true, runs := 0, phase := t } ∧
      (plain → u.rdB live i = false ∧ u.rdB gone i = true ∧ evt 0 u ∧
        (open' → u.peek img 4 = 2 ^ 30 + 2 ^ 29 + (v.data.getD 0 0).toNat))) ∧
    (¬back → exec (.stationReturn n t) s = .next s) ∧
    (back → v.phase.toNat < t.toNat → able → ∀ d, set = some d → ∃ u, exec (.stationReturn n t) s = .next u ∧
      u.station n = { v with lost := false, runs := v.runs + 1, phase := t, seen := some t, data := d, hold := d } ∧
      (plain → u.rdB live i = true ∧ evt 1 u ∧ (open' → u.peek img 4 = 2 ^ 31 + (d.getD 0 0).toNat))) ∧
    (∀ c : Instr, lost ∧ c = .stationLost n t ∨ back ∧ c = .stationReturn n t → v.phase.toNat < t.toNat →
      (s.guardOn m = false → exec c s = .next { s with stalls := s.stalls ++ [(m, .stationIn n t.toNat)] }) ∧
      (s.guardOn m = true → ∀ r, s.refusedIn m 1 reads = some r → exec c s = .next (s.guardRefused m 1 r))) ∧
    ((lost ∨ back) → t.toNat ≤ v.phase.toNat → exec (.stationLost n t) s = .next s ∧ exec (.stationReturn n t) s = .next s)

/-- R329 to R334, R337: own frames and announces; a frame received on a port, whose tag, EtherType, header and data are taken
apart, which on the ring is forwarded, and accepted once; and an open ring, in which every frame that did not return is an
occurrence. -/
def Obligations.RinfaFrames : Prop :=
  ∀ (p : Fin 4) (fcs : Bool) (frame pad d : List W8) (h : RinfaHead) (node : W16) (serial : BitVec 128) (when : W64) (s : State),
    let got := exec (.rinfaFrameReceived p fcs frame when) s
    let u := s.atTime when
    let prx := Reg.NET_PRX p
    let parsed := rinfaParse (frame.drop s.rinfaTop.length)
    let reserved (k : Nat) := k = 6 ∨ k = 7 ∨ 10 ≤ k
    let own := s.nodeValid = true ∧ h.src = s.node
    let ring := s.rdB Reg.NET_RING 0 = true
    let mine := h.bcast = true ∨ s.nodeValid = true ∧ h.dst = s.node ∨ h.dst = s.rdF Reg.NET_PARTNER 0 16
    let other := s.nodeValid = true ∧ node.toNat = s.node ∧ serial ≠ Config.serial
    let late := ((u.net.owed.filter fun e => decide (e.2.2.toNat + 1000000 ≤ u.now.toNat)).map fun e => e.1).eraseDups
    let sends := s.nodeValid = true ∧ s.ringPorts ≠ 0
    let mark : RinfaHead := ⟨true, 9, s.node, 0, s.net.seq.toNat, 0, 0⟩
    let counted (t : State) := t.rdF Reg.NET_CNT 0 16 = min 65535 (s.rdF Reg.NET_CNT 0 16 + 1) ∧ u.keepsRegs t [prx, Reg.NET_CNT]
    let same (t : State) := t.net = s.net ∧ t.ports = s.ports
    (h.kind < 256 → h.src < 65536 → h.dst < 65536 → h.seq < 65536 → d.length ≤ 1024 → rinfaParse (h.bytes d ++ pad) = some (h,
      d)) ∧
    (∀ w : List W8, w.length < 16 ∨ (w.getD 0 0).toNat / 16 ≠ 1 → rinfaParse w = none) ∧
    (¬sends → exec .announceSend s = .next s) ∧
    (sends → ∃ t, exec .announceSend s = .next t ∧ t.net.seq = s.net.seq + 1 ∧
      t.sent.head? = some (.rinfa s.ringPorts (s.rinfaTop ++ mark.bytes (toBytes 16 Config.serial.toNat))) ∧
      (ring → ∀ x < 2, s.linkUp x = true → (s.net.seq.toNat, 1 - x, s.now) ∈ t.net.owed) ∧
      (¬ring → t.net.owed = s.net.owed) ∧ s.keepsRegs t [Reg.NET_PTX 0, Reg.NET_PTX 1]) ∧
    (other → ∃ t, exec (.announceReceived node serial) s = .next t ∧ t.rdB Reg.NET_EVT 10 = true) ∧
    (¬other → exec (.announceReceived node serial) s = .next s) ∧
    (s.linkUp p = false → got = .next s) ∧
    (s.linkUp p = true → fcs = false → ∃ t, got = .next t ∧ t.rdB (Reg.NET_PSTAT p) 29 = true ∧
      (t.rd (Reg.NET_PERR p)).toNat = min 0xFFFFFFFF ((s.rd (Reg.NET_PERR p)).toNat + 1) ∧ same t) ∧
    (s.linkUp p = true → fcs = true → ∃ t, got = .next t ∧ t.rd prx = s.rd prx + 1 ∧
      (s.isRinfa frame = false → same t ∧ u.keepsRegs t [prx]) ∧
      (s.isRinfa frame = true → parsed = none → same t ∧ counted t) ∧
      (s.isRinfa frame = true → parsed = some (h, d) →
        (reserved h.kind → same t ∧ counted t) ∧
        (¬reserved h.kind → 2 ≤ p.val → same t ∧ u.keepsRegs t [prx]) ∧
        (¬reserved h.kind → p.val < 2 → own → t.ports = s.ports ∧
          t.net = { s.net with owed := s.net.owed.filter fun e => !(e.1 == h.seq && e.2.1 == p.val) } ∧
          (h.kind = 9 → BitVec.ofNat 128 (ofBytes (d.take 16)) ≠ Config.serial → t.rdB Reg.NET_EVT 10 = true)) ∧
        (¬reserved h.kind → p.val < 2 → ¬own →
          (ring → s.linkUp (1 - p.val) = true → .rinfa (2 ^ (1 - p.val)) frame ∈ t.sent) ∧
          (¬ring → t.sent = s.sent) ∧
          (u.duplicate h.src h.seq = true → same t) ∧
          (u.duplicate h.src h.seq = false → (h.src, h.seq, u.now) ∈ t.net.accepted ∧
            (h.kind ≤ 1 → s.pair.role = .active → h.src = s.rdF Reg.NET_PARTNER 0 16 → t.rdB Reg.NET_EVT 9 = true) ∧
            (h.kind = 2 → mine → u.tagAhead 8 h.tag.toNat = true →
              { station := h.src, tag := h.tag.toNat, index := getF h.frag 4 4, last := getF h.frag 0 4, data := d } ∈
                (t.port 8).frags) ∧
            (h.kind = 3 → mine → s.pair.role = .active → s.pair.running = true → s.rdB Reg.NET_SOE_CTRL 31 = true →
              t.net.records = s.net.records ++ (List.range (d.length / 16)).map fun i =>
                (h.src, 0x8000 + objN ((d.drop (16 * i)).take 16) 0xA 2 % 0x8000, (d.drop (16 * i)).take 16)) ∧
            (h.kind = 8 → mine → getF h.frag 4 4 = 0 → t.net.tunnels = s.net.tunnels ++ [(h.src, h.frag, d)]))))) ∧
    (ring → ∃ t, exec (.ringOpen when) s = .next t ∧ (late ≠ [] → t.rdB Reg.NET_EVT 11 = true) ∧
      (∀ e ∈ t.net.owed, u.now.toNat < e.2.2.toNat + 1000000) ∧
      (u.recorder.closed = false → u.recorder.queue.length + late.length ≤ 256 →
        t.recorder.next = u.recorder.next + late.length)) ∧
    (¬ring ∨ late = [] → exec (.ringOpen when) s = .next u)

/-- R1, R50, R328, R338, R339, R348, R351: the link of a port; Syncs, requests and answers by which the offset and the mean path
delay are measured, in the transport and the domain of the port, their stamps of 8 ns; the loss of Syncs; and the PTP messages and
timers, whose fields stand most significant byte first. That a port whose link is down has state 0, and the formulas of the two
delays, which are those of IEEE 1588, are the model's choice (log 26). R349 to R351: the collector takes the head of a group's
queue, or of the records that stations have sent, into its ring buffer, and overruns where that is full; the frame format is
written only while RUN = 0 and to a permitted EtherType. -/
def Obligations.TimeServiceAndCollector : Prop :=
  (∀ (p : Fin 4) (up udp two : Bool) (media : Fin 4) (when origin time : W64) (domain prio1 cls prio2 : W8) (quality : BitVec 24)
    (id : W64) (steps : W16) (scale : Bool) (port : BitVec 80) (s : State),
    let a := Reg.NET_PSTAT p
    let up' := up && s.rdB (Reg.NET_PCFG p) 0 && (decide (2 ≤ p.val) || s.lasersOn && (media.val == 1 || media.val == 2))
    let u := s.atTime when
    let stamp := u.now &&& ~~~7#64
    let prx (x : State) := x.wr (Reg.NET_PRX p) (x.rd (Reg.NET_PRX p) + 1)
    let g := prx u
    let link := s.linkUp p = true
    let on := s.ptpOn p = true
    let takes := on ∧ udp = s.rdB Reg.NET_PTP_CTRL 27 ∧ domain.toNat = s.rdF Reg.NET_PTP_DS 24 8
    let slave := s.ptpState p = 8 ∨ s.ptpState p = 9
    let master := s.ptpState p = 6
    let peer := s.rdB Reg.NET_PTP_CTRL 28 = true
    let v := s.ptpPort p
    let mean := (s.rd (Reg.NET_PMPD p)).setWidth 64
    let measured (receipt : W64) (t : State) :=
      let o := (receipt - origin - mean).toInt
      let row := if -50 ≤ o ∧ o ≤ 50 then min 16 (s.net.inRow + 1) else 0
      t.ptpState p = 9 ∧ t.rd Reg.NET_PTP_OFS = ofsWord o ∧ t.net.inRow = row ∧ t.rd (Reg.NET_PMPD p) = s.rd (Reg.NET_PMPD p) ∧
        0x07FDF3B6 ≤ (t.rd Reg.TIME_INC).toNat ∧ (t.rd Reg.TIME_INC).toNat ≤ 0x08020C4A ∧
        (row = 16 → t.rdB Reg.NET_PTP_STAT 31 = true ∧ t.rdB Reg.NET_PTP_STAT 30 = false) ∧
        (o < -1000 ∨ 1000 < o → t.rdB Reg.NET_PTP_STAT 31 = false ∧ t.rdB Reg.NET_PTP_STAT 30 = true)
    let delay (twice : Int) (t : State) := t.rd (Reg.NET_PMPD p) = BitVec.ofNat 32 (min 0xFFFFFFFF (twice / 2).toNat) ∧
      (t.ptpPort p).asked = none
    let event (m : PtpEvent) := exec (.syncReceived p udp domain m when) s
    let general (m : PtpGeneral) := exec (.ptpGeneralMessageReceived p udp domain m) s
    let ann := PtpGeneral.announce prio1 cls quality prio2 id steps scale
    let timer (t : PtpTimer) := exec (.ptpIntervalTimer p t when) s
    let out (k : Nat) (b : List W8) (t : State) := t.sent.head? = some (.ptp p (s.rdB Reg.NET_PTP_CTRL 27) k b)
    let goes (k : Nat) (b : List W8) (t : State) := out k b t ∧ u.keepsRegs t [Reg.NET_PTX p]
    let replies (k : Nat) (b : List W8) (t : State) := out k b t ∧ u.keepsRegs t [Reg.NET_PRX p, Reg.NET_PTX p]
    let me := port = portIdentity p
    (∃ t, exec (.portLinkChange p up media) s = .next t ∧ t.linkUp p = up' ∧
      t.rdF a 24 4 = (if p.val < 2 then media.val else 4) ∧ (s.linkUp p ≠ up' → t.rdB a 30 = true) ∧
      (p.val < 2 → media.val = 3 → t.rdB Reg.NET_EVT 12 = true) ∧ (s.linkUp p = true → up' = false → t.ptpState p = 0)) ∧
    (¬link → (∀ m, event m = .next s) ∧ (∀ m, general m = .next s) ∧ ∀ t, timer t = .next u) ∧
    (link → ¬takes → ∀ m, event m = .next g) ∧
    (takes → slave → ∃ t, event (.sync origin false) = .next t ∧ measured stamp t) ∧
    (takes → ¬slave → event (.sync origin false) = .next g) ∧
    (takes → ∃ t, event (.sync origin true) = .next t ∧ t.ptpPort p = { v with first := some stamp } ∧ t.regs = g.regs) ∧
    (takes → master → ¬peer → ∃ t, event (.delayReq port) = .next t ∧
      replies 9 (originStamp stamp.toNat ++ beBytes 10 port.toNat) t) ∧
    (takes → ¬(master ∧ ¬peer) → event (.delayReq port) = .next g) ∧
    (takes → peer → ∃ t, event (.pdelayReq port) = .next t ∧ replies 3 (List.replicate 10 0#8 ++ beBytes 10 port.toNat) t) ∧
    (takes → ¬peer → event (.pdelayReq port) = .next g) ∧
    (takes → v.asked = none ∨ ¬me ∨ ¬peer → event (.pdelayResp port time two) = .next g) ∧
    (∀ t1, takes → v.asked = some t1 → me → peer →
      (∃ t, event (.pdelayResp port time true) = .next t ∧ t.ptpPort p = { v with answer := some (time, stamp) }) ∧
      ∃ t, event (.pdelayResp port time false) = .next t ∧ delay ((stamp - t1).toInt - time.toInt) t) ∧
    (s.rdF Reg.NET_PTP_CTRL 30 2 = 0 ∨ (s.rdB Reg.NET_PTP_STAT 29 = true ∧ s.rdB Reg.NET_PTP_STAT 31 = false) →
      exec .syncTimeout s = .next s) ∧
    (s.rdF Reg.NET_PTP_CTRL 30 2 ≠ 0 → s.rdB Reg.NET_PTP_STAT 29 = false ∨ s.rdB Reg.NET_PTP_STAT 31 = true →
      ∃ t, exec .syncTimeout s = .next t ∧ t.net.inRow = 0 ∧ t.rdB Reg.NET_EVT 26 = true ∧
        t.rdB Reg.NET_PTP_STAT 31 = false ∧ t.rdB Reg.NET_PTP_STAT 30 = true) ∧
    (¬on → (link → ∀ m, general m = .next (prx s)) ∧ ∀ t, timer t = .next u) ∧
    (on → ∀ m, m = .management ∨ m = .signaling → ∃ t, general m = .next t ∧
      t.rdF Reg.NET_CNT 0 16 = min 65535 (s.rdF Reg.NET_CNT 0 16 + 1) ∧ s.keepsRegs t [Reg.NET_PRX p, Reg.NET_CNT]) ∧
    (on → general .other = .next (prx s)) ∧
    (on → ¬takes → ∀ m, m ≠ .management → m ≠ .signaling → general m = .next (prx s)) ∧
    (∀ receipt, takes → v.first = some receipt → slave → ∃ t, general (.followUp origin) = .next t ∧ measured receipt t) ∧
    (takes → v.first = none ∨ ¬slave → general (.followUp origin) = .next (prx s)) ∧
    (∀ t1 t2 t3, takes → v.sync = some (t1, t2) → v.asked = some t3 → me → ¬peer →
      ∃ t, general (.delayResp port time) = .next t ∧ delay ((t2 - t1).toInt + (time - t3).toInt) t) ∧
    (takes → v.sync = none ∨ v.asked = none ∨ ¬me ∨ peer → general (.delayResp port time) = .next (prx s)) ∧
    (∀ t1 t2 t4, takes → v.asked = some t1 → v.answer = some (t2, t4) → me → peer →
      ∃ t, general (.pdelayFollowUp port time) = .next t ∧ delay ((t4 - t1).toInt - (time - t2).toInt) t) ∧
    (takes → scale = true → id ≠ Config.clockId → ∃ t, general ann = .next t ∧
      (p.val, (clockRank prio1.toNat cls.toNat quality prio2.toNat id, steps.toNat)) ∈ t.net.announces ∧
      ∀ e ∈ s.net.announces, e.1 ≠ p.val → e ∈ t.net.announces) ∧
    (takes → scale = false ∨ id = Config.clockId → general ann = .next (prx s)) ∧
    (on → master → (∃ t, timer .sync = .next t ∧ goes 0 (originStamp stamp.toNat) t) ∧
      ∃ t, timer .announce = .next t ∧ goes 11 s.announceData t) ∧
    (on → ¬master → timer .sync = .next u ∧ timer .announce = .next u) ∧
    (on → peer ∨ slave → ∃ t, timer .pdelay = .next t ∧ goes (if s.rdB Reg.NET_PTP_CTRL 28 = true then 2 else 1) [] t ∧
      t.ptpPort p = { v with asked := some stamp, answer := none }) ∧
    (on → ¬peer → ¬slave → timer .pdelay = .next u) ∧
    (on → ∃ t, timer .announceReceipt = .next t ∧ ∀ e ∈ t.net.announces, e.1 ≠ p.val)) ∧
  ∀ (g : Fin 32) (v : W32) (s : State),
    let runs := s.pair.role = .active ∧ s.pair.running = true ∧ s.rdB Reg.NET_SOE_CTRL 31 = true
    let byGroup := exec (.soeCollect (.group g)) s
    let byStation := exec (.soeCollect .station) s
    let n := 2 ^ s.rdF Reg.NET_SOE_CTRL 16 5
    let w := (s.rd Reg.NET_SOE_WR).toNat % n
    let addr := (s.rd Reg.NET_SOE_BASE).toNat + 16 * w
    let full := ((s.rd Reg.NET_SOE_WR).toNat + 1) % n = (s.rd Reg.NET_SOE_RD).toNat % n
    let put (r : List W8) (t : State) := t.rd Reg.NET_SOE_WR = BitVec.ofNat 32 ((w + 1) % n) ∧ t.net.count = s.net.count + 1 ∧
      (s.guardOn 19 = true → s.guardCheck 19 false addr 16 2 = none → t.bytes addr 16 = r)
    let overrun (t : State) := t.rdB Reg.NET_EVT 17 = true ∧ t.mem = s.mem ∧ t.groups = s.groups ∧ t.net = s.net ∧
      s.keepsRegs t [Reg.NET_EVT]
    let e := getF v 0 16
    let refused := s.run = true ∨ e < 0x600 ∨ e = 0x8100 ∨ e = 0x86DD ∨ e = 0x88F7
    let on := s.blockOff Reg.NET_FRAME = false
    (¬runs → byGroup = .next s ∧ byStation = .next s) ∧
    ((s.group g).queue = [] ∨ s.rdB Reg.NET_SOE_GRP g = false → byGroup = .next s) ∧
    (s.net.records = [] → byStation = .next s) ∧
    (runs → s.rdB Reg.NET_SOE_GRP g = true → ∀ x q, (s.group g).queue = x :: q →
      (full → ∃ t, byGroup = .next t ∧ overrun t) ∧
      (¬full → ∃ t, byGroup = .next t ∧ (t.group g).queue = q ∧
        put (s.soeRecord x.stamp.toNat s.node (16 * g.val + x.slice) (b2n x.level + 4 * b2n x.subst) 0) t)) ∧
    (runs → ∀ node origin r rest, s.net.records = (node, origin, r) :: rest →
      (full → ∃ t, byStation = .next t ∧ overrun t) ∧
      (¬full → ∃ t, byStation = .next t ∧ t.net.records = rest ∧
        put (s.soeRecord (objN r 0 8) node origin (objN r 0xC 1 % 2 + 4 * (objN r 0xC 1 / 4 % 2) + 8) (objN r 0xD 1)) t)) ∧
    (on → refused → ∃ t, exec (.netFrameWrite v) s = .next t ∧ t.rdB Reg.NET_EVT 13 = true ∧ s.keepsRegs t [Reg.NET_EVT]) ∧
    (on → ¬refused → ∃ t, exec (.netFrameWrite v) s = .next t ∧ t.rd Reg.NET_FRAME = v ∧ s.keepsRegs t [Reg.NET_FRAME])

/-- The front command of the queue is executed with the queue's rest, and on an empty queue the block idles (log 31). -/
def Obligations.StepRunsTheFront : Prop :=
  (∀ (c : Instr) (rest : List Instr) (s : State), s.pending = c :: rest → step s = exec c { s with pending := rest }) ∧
  ∀ s : State, s.pending = [] → step s = .next s

/-- Every step keeps memory in its canonical form: addresses strictly rising, and no byte listed that holds what an unlisted one
reads as. -/
def Obligations.MemoryStaysCanonical : Prop :=
  ∀ s t : State, Memory.wf s.mem = true → step s = .next t → Memory.wf t.mem = true

/-- R428, R430, R67, R154, R355: what reset leaves, as the manual gives it; memory lists nothing. -/
def Obligations.ResetState : Prop :=
  let s := State.reset
  Memory.wf s.mem = true ∧ s.pending = [] ∧ (s.ctx 0).pc = 0 ∧ (s.ctx 0).priv = true ∧ (s.ctx 0).tier = 15 ∧ (s.ctx 0).home = 15 ∧
    (s.ctx 0).running = true ∧ (∀ x, x ≠ 0 → (s.ctx x).running = false) ∧ (∀ x < 4, s.triMode x = 0) ∧ s.pair.role = .unassigned ∧
    s.pair.claim = false ∧ s.pair.drive = .highZ ∧ s.run = false ∧ (∀ n < 256, s.srcEn n = false) ∧ s.tic = [] ∧
    s.start.stage = .hearth ∧ s.backup.pwrcyc = 1 ∧ s.backup.lockout = true

/-- No command is refused or faults: in every state, with whatever operands, each of the commands of the opcode table answers a
next state (log 1). -/
def Obligations.EveryCommandAnswers : Prop :=
  ∀ (c : Instr) (s : State), ∃ t, exec c s = .next t

/-- Every command but those of `writesMemory` leaves all of memory. Every command but those of `changesContexts` leaves the
context of every target: its general and float registers, its status and special registers, its return stacks and latches, its
saved contexts and its data cache. -/
def Obligations.OtherCommandsLeaveMemoryAndContexts : Prop :=
  (∀ (c : Instr) (s t : State), writesMemory c = false → exec c s = .next t → t.mem = s.mem) ∧
  ∀ (c : Instr) (s t : State), changesContexts c = false → exec c s = .next t → ∀ x, t.ctx x = s.ctx x
end

