-- ==== Sys2Proof/Laws/CoreFrame.lean ====
section
/-!
SUPPORT. Which operations leave the processors as it is: one lemma per operation.
-/
namespace Sys2Proof.Machine

@[simp] theorem ite_cores (c : Prop) [Decidable c] (a b : State) : (if c then a else b).cores = if c then a.cores else b.cores :=
  apply_ite State.cores c a b

@[simp] theorem foldl_cores {α : Type} (g : State → α → State) (h : ∀ s a, (g s a).cores = s.cores) (l : List α) (s : State) :
    (l.foldl g s).cores = s.cores := by
  induction l generalizing s with
  | nil => rfl
  | cons a l ih => simp [ih, h]

@[simp] theorem State.wr_cores (a : Nat) (v : W32) (s : State) : (State.wr a v s).cores = s.cores := by
  unfold State.wr
  (try simp) <;> (repeat' split) <;> simp

@[simp] theorem State.wrF_cores (a lo n v : Nat) (s : State) : (State.wrF a lo n v s).cores = s.cores := by
  unfold State.wrF
  (try simp) <;> (repeat' split) <;> simp

@[simp] theorem State.wrB_cores (a i : Nat) (b : Bool) (s : State) : (State.wrB a i b s).cores = s.cores := by
  unfold State.wrB
  (try simp) <;> (repeat' split) <;> simp

@[simp] theorem State.orR_cores (a : Nat) (m : W32) (s : State) : (State.orR a m s).cores = s.cores := by
  unfold State.orR
  (try simp) <;> (repeat' split) <;> simp

@[simp] theorem State.incF_cores (a lo n : Nat) (s : State) : (State.incF a lo n s).cores = s.cores := by
  unfold State.incF
  (try simp) <;> (repeat' split) <;> simp

@[simp] theorem State.wr64_cores (lo hi : Nat) (v : W64) (s : State) : (State.wr64 lo hi v s).cores = s.cores := by
  unfold State.wr64
  (try simp) <;> (repeat' split) <;> simp

@[simp] theorem State.okResp_cores (v : W64) (s : State) : (State.okResp v s).cores = s.cores := by
  unfold State.okResp
  (try simp) <;> (repeat' split) <;> simp

@[simp] theorem State.busErr_cores (s : State) : (State.busErr s).cores = s.cores := by
  unfold State.busErr
  (try simp) <;> (repeat' split) <;> simp

@[simp] theorem State.drawn_cores (s : State) : (State.drawn s).cores = s.cores := by
  unfold State.drawn
  (try simp) <;> (repeat' split) <;> simp

@[simp] theorem State.setTriad_cores (t : Nat) (v : TriadSt) (s : State) : (State.setTriad t v s).cores = s.cores := by
  unfold State.setTriad
  (try simp) <;> (repeat' split) <;> simp

@[simp] theorem State.setChan_cores (c : Nat) (v : Chan) (s : State) : (State.setChan c v s).cores = s.cores := by
  unfold State.setChan
  (try simp) <;> (repeat' split) <;> simp

@[simp] theorem State.emit_cores (m : Sent) (s : State) : (State.emit m s).cores = s.cores := by
  unfold State.emit
  (try simp) <;> (repeat' split) <;> simp

@[simp] theorem State.setPair_cores (p : Pair) (s : State) : (State.setPair p s).cores = s.cores := by
  unfold State.setPair
  (try simp) <;> (repeat' split) <;> simp

@[simp] theorem State.setAnvil_cores (p : Anvil) (s : State) : (State.setAnvil p s).cores = s.cores := by
  unfold State.setAnvil
  (try simp) <;> (repeat' split) <;> simp

@[simp] theorem State.setPower_cores (p : Power) (s : State) : (State.setPower p s).cores = s.cores := by
  unfold State.setPower
  (try simp) <;> (repeat' split) <;> simp

@[simp] theorem State.setTime_cores (p : TimeBase) (s : State) : (State.setTime p s).cores = s.cores := by
  unfold State.setTime
  (try simp) <;> (repeat' split) <;> simp

@[simp] theorem State.setRecorder_cores (p : Recorder) (s : State) : (State.setRecorder p s).cores = s.cores := by
  unfold State.setRecorder
  (try simp) <;> (repeat' split) <;> simp

@[simp] theorem State.setLedger_cores (p : Ledger) (s : State) : (State.setLedger p s).cores = s.cores := by
  unfold State.setLedger
  (try simp) <;> (repeat' split) <;> simp

@[simp] theorem State.pokeByte_cores (a : Nat) (v : W8) (s : State) : (State.pokeByte a v s).cores = s.cores := by
  unfold State.pokeByte
  (try simp) <;> (repeat' split) <;> simp

@[simp] theorem State.pokeBytes_cores (a : Nat) (l : List W8) (s : State) : (State.pokeBytes a l s).cores = s.cores := by
  induction l generalizing a s with
  | nil => rfl
  | cons r l ih => exact (ih _ _).trans rfl

@[simp] theorem State.poke_cores (a n v : Nat) (s : State) : (State.poke a n v s).cores = s.cores := by
  unfold State.poke
  (try simp) <;> (repeat' split) <;> simp

@[simp] theorem State.markLine_cores (line : Nat) (s : State) : (State.markLine line s).cores = s.cores := by
  unfold State.markLine
  (try simp) <;> (repeat' split) <;> simp

@[simp] theorem State.markDirty_cores (a n : Nat) (s : State) : (State.markDirty a n s).cores = s.cores := by
  unfold State.markDirty
  (try simp) <;> (repeat' split) <;> simp

@[simp] theorem State.store_cores (a : Nat) (bs : List W8) (s : State) : (State.store a bs s).cores = s.cores := by
  unfold State.store
  (try simp) <;> (repeat' split) <;> simp

@[simp] theorem State.send_cores (f : LinkFrame) (s : State) : (State.send f s).cores = s.cores := by
  unfold State.send
  (try simp) <;> (repeat' split) <;> simp

@[simp] theorem State.again_cores (e : Flight) (s : State) : (State.again e s).cores = s.cores := by
  unfold State.again
  (try simp) <;> (repeat' split) <;> simp

@[simp] theorem State.heard_cores (s : State) : (State.heard s).cores = s.cores := by
  unfold State.heard
  (try simp) <;> (repeat' split) <;> simp

@[simp] theorem State.markMissed_cores (n : Nat) (s : State) : (State.markMissed n s).cores = s.cores := by
  unfold State.markMissed
  (try simp) <;> (repeat' split) <;> simp

@[simp] theorem State.pend_cores (n : Nat) (s : State) : (State.pend n s).cores = s.cores := by
  unfold State.pend
  (try simp) <;> (repeat' split) <;> simp

@[simp] theorem State.fire5_cores (s : State) : (State.fire5 s).cores = s.cores := by
  unfold State.fire5
  (try simp) <;> (repeat' split) <;> simp

@[simp] theorem State.fire_cores (n : Nat) (s : State) : (State.fire n s).cores = s.cores := by
  unfold State.fire
  (try simp) <;> (repeat' split) <;> simp

@[simp] theorem State.raising_cores (ns : List Nat) (f : State → State) (s : State) (h : ∀ s, (f s).cores = s.cores) : (State.raising ns f s).cores = s.cores := by
  unfold State.raising
  first | (split <;> simp [h]; done) | (rw [foldl_cores _ (by intro s a; split <;> simp)]; exact h s)

@[simp] theorem State.wrL_cores (a : Nat) (v : W32) (s : State) : (State.wrL a v s).cores = s.cores := by
  unfold State.wrL
  (try simp) <;> (repeat' split) <;> simp

@[simp] theorem State.setEvt_cores (a i : Nat) (s : State) : (State.setEvt a i s).cores = s.cores := by
  unfold State.setEvt
  (try simp) <;> (repeat' split) <;> simp

@[simp] theorem State.setEvts_cores (a : Nat) (m : W32) (s : State) : (State.setEvts a m s).cores = s.cores := by
  unfold State.setEvts
  (try simp) <;> (repeat' split) <;> simp

@[simp] theorem State.record_cores (code : Nat) (data : List W8) (s : State) : (State.record code data s).cores = s.cores := by
  unfold State.record
  (try simp) <;> (repeat' split) <;> simp

@[simp] theorem State.setTrust_cores (v : Trust) (s : State) : (State.setTrust v s).cores = s.cores := by
  unfold State.setTrust
  (try simp) <;> (repeat' split) <;> simp

@[simp] theorem State.setStart_cores (v : Start) (s : State) : (State.setStart v s).cores = s.cores := by
  unfold State.setStart
  (try simp) <;> (repeat' split) <;> simp

@[simp] theorem State.extendNow_cores (i : Nat) (d : List W8) (s : State) : (State.extendNow i d s).cores = s.cores := by
  unfold State.extendNow
  (try simp) <;> (repeat' split) <;> simp

@[simp] theorem State.extend_cores (i : Nat) (d : List W8) (s : State) : (State.extend i d s).cores = s.cores := by
  unfold State.extend
  (try simp) <;> (repeat' split) <;> simp

@[simp] theorem State.trialStays_cores (s : State) : (State.trialStays s).cores = s.cores := by
  unfold State.trialStays
  (try simp) <;> (repeat' split) <;> simp

@[simp] theorem State.trialYieldOff_cores (s : State) : (State.trialYieldOff s).cores = s.cores := by
  unfold State.trialYieldOff
  (try simp) <;> (repeat' split) <;> simp

@[simp] theorem State.setPort_cores (k : Nat) (v : Port) (s : State) : (State.setPort k v s).cores = s.cores := by
  unfold State.setPort
  (try simp) <;> (repeat' split) <;> simp

@[simp] theorem State.stbEvt_cores (k b : Nat) (s : State) : (State.stbEvt k b s).cores = s.cores := by
  unfold State.stbEvt
  (try simp) <;> (repeat' split) <;> simp

@[simp] theorem State.portNext_cores (k : Nat) (s : State) : (State.portNext k s).cores = s.cores := by
  unfold State.portNext
  (try simp) <;> (repeat' split) <;> simp

@[simp] theorem State.portQueue_cores (k : Nat) (f : TxFrame) (s : State) : (State.portQueue k f s).cores = s.cores := by
  unfold State.portQueue
  (try simp) <;> (repeat' split) <;> simp

@[simp] theorem State.acEnd_cores (k code : Nat) (s : State) : (State.acEnd k code s).cores = s.cores := by
  unfold State.acEnd
  (try simp) <;> (repeat' split) <;> simp

@[simp] theorem State.acVoid_cores (k : Nat) (s : State) : (State.acVoid k s).cores = s.cores := by
  unfold State.acVoid
  (try simp) <;> (repeat' split) <;> simp

@[simp] theorem State.portEmptied_cores (k : Nat) (s : State) : (State.portEmptied k s).cores = s.cores := by
  unfold State.portEmptied
  (try simp) <;> (repeat' split) <;> simp

@[simp] theorem State.portDrop_cores (k : Nat) (s : State) : (State.portDrop k s).cores = s.cores := by
  unfold State.portDrop
  (try simp) <;> (repeat' split) <;> simp

@[simp] theorem State.portStopped_cores (k : Nat) (s : State) : (State.portStopped k s).cores = s.cores := by
  unfold State.portStopped
  (try simp) <;> (repeat' split) <;> simp

@[simp] theorem State.portSettle_cores (k : Nat) (s : State) : (State.portSettle k s).cores = s.cores := by
  unfold State.portSettle
  (try simp) <;> (repeat' split) <;> simp

@[simp] theorem State.portPassive_cores (agreed : Bool) (k : Nat) (s : State) : (State.portPassive agreed k s).cores = s.cores := by
  unfold State.portPassive
  (try simp) <;> (repeat' split) <;> simp

@[simp] theorem State.portsPassive_cores (agreed : Bool) (s : State) : (State.portsPassive agreed s).cores = s.cores := by
  unfold State.portsPassive
  (try simp) <;> (repeat' split) <;> simp

@[simp] theorem State.rec02_cores (ev : Nat) (s : State) : (State.rec02 ev s).cores = s.cores := by
  unfold State.rec02
  (try simp) <;> (repeat' split) <;> simp

@[simp] theorem State.rec02Age_cores (ns : Nat) (s : State) : (State.rec02Age ns s).cores = s.cores := by
  unfold State.rec02Age
  (try simp) <;> (repeat' split) <;> simp

@[simp] theorem State.rec03_cores (t ev : Nat) (extra : List W8) (s : State) : (State.rec03 t ev extra s).cores = s.cores := by
  unfold State.rec03
  (try simp) <;> (repeat' split) <;> simp

@[simp] theorem State.rec04_cores (ev : Nat) (s : State) : (State.rec04 ev s).cores = s.cores := by
  unfold State.rec04
  (try simp) <;> (repeat' split) <;> simp

@[simp] theorem State.rec05_cores (ev : Nat) (extra : List W8) (s : State) : (State.rec05 ev extra s).cores = s.cores := by
  unfold State.rec05
  (try simp) <;> (repeat' split) <;> simp

@[simp] theorem State.rec06_cores (g i ev : Nat) (s : State) : (State.rec06 g i ev s).cores = s.cores := by
  unfold State.rec06
  (try simp) <;> (repeat' split) <;> simp

@[simp] theorem State.rec07_cores (a port stn ev : Nat) (s : State) : (State.rec07 a port stn ev s).cores = s.cores := by
  unfold State.rec07
  (try simp) <;> (repeat' split) <;> simp

@[simp] theorem State.rec08_cores (ev : Nat) (data : List W8) (s : State) : (State.rec08 ev data s).cores = s.cores := by
  unfold State.rec08
  (try simp) <;> (repeat' split) <;> simp

@[simp] theorem State.rec09_cores (ev : Nat) (extra : List W8) (s : State) : (State.rec09 ev extra s).cores = s.cores := by
  unfold State.rec09
  (try simp) <;> (repeat' split) <;> simp

@[simp] theorem State.rec0A_cores (ev pool : Nat) (s : State) : (State.rec0A ev pool s).cores = s.cores := by
  unfold State.rec0A
  (try simp) <;> (repeat' split) <;> simp

@[simp] theorem State.ptFail_cores (test elem pool : Nat) (s : State) : (State.ptFail test elem pool s).cores = s.cores := by
  unfold State.ptFail
  (try simp) <;> (repeat' split) <;> simp

@[simp] theorem State.recMasked_cores (cls : Nat) (data : List W8) (s : State) : (State.recMasked cls data s).cores = s.cores := by
  unfold State.recMasked
  (try simp) <;> (repeat' split) <;> simp

@[simp] theorem State.rec0B_cores (ev : Nat) (s : State) : (State.rec0B ev s).cores = s.cores := by
  unfold State.rec0B
  (try simp) <;> (repeat' split) <;> simp

@[simp] theorem State.rec0C_cores (ev line : Nat) (tick : W64) (s : State) : (State.rec0C ev line tick s).cores = s.cores := by
  unfold State.rec0C
  (try simp) <;> (repeat' split) <;> simp

@[simp] theorem State.chgEnter_cores (st code : Nat) (s : State) : (State.chgEnter st code s).cores = s.cores := by
  unfold State.chgEnter
  (try simp) <;> (repeat' split) <;> simp

@[simp] theorem State.chgAbandon_cores (code : Nat) (s : State) : (State.chgAbandon code s).cores = s.cores := by
  unfold State.chgAbandon
  (try simp) <;> (repeat' split) <;> simp

@[simp] theorem State.chgTriadReset_cores (t : Nat) (s : State) : (State.chgTriadReset t s).cores = s.cores := by
  unfold State.chgTriadReset
  (try simp) <;> (repeat' split) <;> simp

@[simp] theorem State.atTime_cores (t : W64) (s : State) : (State.atTime t s).cores = s.cores := by
  unfold State.atTime
  (try simp) <;> (repeat' split) <;> simp

@[simp] theorem State.forecastPool_cores (s : State) (p : Nat) : (State.forecastPool s p).cores = s.cores := by
  unfold State.forecastPool
  (try simp) <;> (repeat' split) <;> simp

@[simp] theorem State.ledgerEntry_cores (pool sub action cause : Nat) (old new : W32) (recSeq take : Nat) (s : State) : (State.ledgerEntry pool sub action cause old new recSeq take s).cores = s.cores := by
  unfold State.ledgerEntry
  (try simp) <;> (repeat' split) <;> simp

@[simp] theorem State.setRole_cores (r : Role) (s : State) : (State.setRole r s).cores = s.cores := by
  unfold State.setRole
  (try simp) <;> (repeat' split) <;> simp

@[simp] theorem State.setGroup_cores (g : Nat) (v : Group) (s : State) : (State.setGroup g v s).cores = s.cores := by
  unfold State.setGroup
  (try simp) <;> (repeat' split) <;> simp

@[simp] theorem State.hartLost_cores (g : Nat) (s : State) : (State.hartLost g s).cores = s.cores := by
  unfold State.hartLost
  (try simp) <;> (repeat' split) <;> simp

@[simp] theorem State.hartDrop_cores (s : State) : (State.hartDrop s).cores = s.cores := by
  unfold State.hartDrop
  (try simp) <;> (repeat' split) <;> simp

@[simp] theorem State.release_cores (s : State) : (State.release s).cores = s.cores := by
  unfold State.release
  (try simp) <;> (repeat' split) <;> simp

@[simp] theorem State.sourceClaim_cores (s : State) : (State.sourceClaim s).cores = s.cores := by
  unfold State.sourceClaim
  (try simp) <;> (repeat' split) <;> simp

@[simp] theorem State.leaveCode_cores (n : Nat) (s : State) : (State.leaveCode n s).cores = s.cores := by
  unfold State.leaveCode
  (try simp) <;> (repeat' split) <;> simp

@[simp] theorem State.yieldErr_cores (n : Nat) (s : State) : (State.yieldErr n s).cores = s.cores := by
  unfold State.yieldErr
  (try simp) <;> (repeat' split) <;> simp

@[simp] theorem State.resign_cores (code : Nat) (s : State) : (State.resign code s).cores = s.cores := by
  unfold State.resign
  (try simp) <;> (repeat' split) <;> simp

@[simp] theorem State.outOfService_cores (s : State) : (State.outOfService s).cores = s.cores := by
  unfold State.outOfService
  (try simp) <;> (repeat' split) <;> simp

@[simp] theorem State.affectsControl_cores (s : State) : (State.affectsControl s).cores = s.cores := by
  unfold State.affectsControl
  (try simp) <;> (repeat' split) <;> simp

@[simp] theorem State.raisePairAlarm_cores (s : State) : (State.raisePairAlarm s).cores = s.cores := by
  unfold State.raisePairAlarm
  (try simp) <;> (repeat' split) <;> simp

@[simp] theorem State.setBackup_cores (b : Backup) (s : State) : (State.setBackup b s).cores = s.cores := by
  unfold State.setBackup
  (try simp) <;> (repeat' split) <;> simp

@[simp] theorem State.rtcRun_cores (n : Nat) (s : State) : (State.rtcRun n s).cores = s.cores := by
  unfold State.rtcRun
  (try simp) <;> (repeat' split) <;> simp

@[simp] theorem State.saveCounters_cores (s : State) : (State.saveCounters s).cores = s.cores := by
  unfold State.saveCounters
  (try simp) <;> (repeat' split) <;> simp

@[simp] theorem State.bkdCmdErr_cores (s : State) : (State.bkdCmdErr s).cores = s.cores := by
  unfold State.bkdCmdErr
  (try simp) <;> (repeat' split) <;> simp

@[simp] theorem State.bkdReset_cores (s : State) : (State.bkdReset s).cores = s.cores := by
  unfold State.bkdReset
  (try simp) <;> (repeat' split) <;> simp

@[simp] theorem State.rtcCapture_cores (s : State) : (State.rtcCapture s).cores = s.cores := by
  unfold State.rtcCapture
  (try simp) <;> (repeat' split) <;> simp

@[simp] theorem State.opsecCapture_cores (s : State) : (State.opsecCapture s).cores = s.cores := by
  unfold State.opsecCapture
  (try simp) <;> (repeat' split) <;> simp

@[simp] theorem State.bkdBreset_cores (s : State) : (State.bkdBreset s).cores = s.cores := by
  unfold State.bkdBreset
  (try simp) <;> (repeat' split) <;> simp

@[simp] theorem State.rtcSet_cores (s : State) : (State.rtcSet s).cores = s.cores := by
  unfold State.rtcSet
  (try simp) <;> (repeat' split) <;> simp

@[simp] theorem State.bkdStore_cores (s : State) : (State.bkdStore s).cores = s.cores := by
  unfold State.bkdStore
  (try simp) <;> (repeat' split) <;> simp

@[simp] theorem State.bkdUnstore_cores (s : State) : (State.bkdUnstore s).cores = s.cores := by
  unfold State.bkdUnstore
  (try simp) <;> (repeat' split) <;> simp

@[simp] theorem State.bkdTransfer_cores (s : State) : (State.bkdTransfer s).cores = s.cores := by
  unfold State.bkdTransfer
  (try simp) <;> (repeat' split) <;> simp

@[simp] theorem State.bkdGuarded_cores (f : State → State) (s : State) (h : ∀ s, (f s).cores = s.cores) : (State.bkdGuarded f s).cores = s.cores := by
  unfold State.bkdGuarded
  first | (split <;> simp [h]; done) | (rw [foldl_cores _ (by intro s a; split <;> simp)]; exact h s)

@[simp] theorem State.bkdCtrlWrite_cores (v : W32) (s : State) : (State.bkdCtrlWrite v s).cores = s.cores := by
  unfold State.bkdCtrlWrite
  (try simp) <;> (repeat' split) <;> simp

@[simp] theorem State.bkdWrite_cores (a : Nat) (v : W32) (s : State) : (State.bkdWrite a v s).cores = s.cores := by
  unfold State.bkdWrite
  (try simp) <;> (repeat' split) <;> simp

@[simp] theorem State.domainStop_cores (s : State) : (State.domainStop s).cores = s.cores := by
  unfold State.domainStop
  (try simp) <;> (repeat' split) <;> simp

@[simp] theorem State.writeRec_cores (r : Rec) (s : State) : (State.writeRec r s).cores = s.cores := by
  unfold State.writeRec
  (try simp) <;> (repeat' split) <;> simp

@[simp] theorem State.writeHead_cores (s : State) : (State.writeHead s).cores = s.cores := by
  unfold State.writeHead
  (try simp) <;> (repeat' split) <;> simp

@[simp] theorem State.writeAll_cores (l : List Rec) (s : State) : (State.writeAll l s).cores = s.cores := by
  induction l generalizing s with
  | nil => rfl
  | cons r l ih => simp [State.writeAll, ih]

@[simp] theorem State.fillReserved_cores (s : State) : (State.fillReserved s).cores = s.cores := by
  unfold State.fillReserved
  (try simp) <;> (repeat' split) <;> simp

@[simp] theorem State.filled_cores (s : State) : (State.filled s).cores = s.cores := by
  unfold State.filled
  (try simp) <;> (repeat' split) <;> simp

@[simp] theorem State.flush_cores (s : State) : (State.flush s).cores = s.cores := by
  unfold State.flush
  (try simp) <;> (repeat' split) <;> simp

@[simp] theorem State.powerLossRecord_cores (paMv pbMv lost : Nat) (s : State) : (State.powerLossRecord paMv pbMv lost s).cores = s.cores := by
  unfold State.powerLossRecord
  dsimp only
  (repeat' split) <;> simp

@[simp] theorem State.swWrite_cores (s : State) : (State.swWrite s).cores = s.cores := by
  unfold State.swWrite
  (try simp) <;> (repeat' split) <;> simp

@[simp] theorem State.clearScree_cores (signer : Nat) (s : State) : (State.clearScree signer s).cores = s.cores := by
  unfold State.clearScree
  dsimp only
  (repeat' split) <;> simp

@[simp] theorem State.window_cores (c : Nat) (bytes : List W8) (s : State) : (State.window c bytes s).cores = s.cores := by
  unfold State.window
  (try simp) <;> (repeat' split) <;> simp

@[simp] theorem State.curLoad_cores (c : Nat) (s : State) : (State.curLoad c s).cores = s.cores := by
  unfold State.curLoad
  (try simp) <;> (repeat' split) <;> simp

@[simp] theorem State.curLoWrite_cores (c : Nat) (v : W32) (s : State) : (State.curLoWrite c v s).cores = s.cores := by
  unfold State.curLoWrite
  (try simp) <;> (repeat' split) <;> simp

@[simp] theorem State.curTo_cores (c n : Nat) (s : State) : (State.curTo c n s).cores = s.cores := by
  unfold State.curTo
  (try simp) <;> (repeat' split) <;> simp

@[simp] theorem State.curFind_cores (c : Nat) (byOpsec : Bool) (s : State) : (State.curFind c byOpsec s).cores = s.cores := by
  unfold State.curFind
  (repeat' split) <;> simp

@[simp] theorem State.curCtrlWrite_cores (c : Nat) (v : W32) (s : State) : (State.curCtrlWrite c v s).cores = s.cores := by
  unfold State.curCtrlWrite
  (try simp) <;> (repeat' split) <;> simp

@[simp] theorem State.win15_cores (c : Nat) (s : State) : (State.win15 c s).cores = s.cores := by
  unfold State.win15
  (try simp) <;> (repeat' split) <;> simp

@[simp] theorem State.nextRead_cores (s : State) : (State.nextRead s).cores = s.cores := by
  unfold State.nextRead
  (try simp) <;> (repeat' split) <;> simp

@[simp] theorem State.lowRead_cores (s : State) : (State.lowRead s).cores = s.cores := by
  unfold State.lowRead
  (try simp) <;> (repeat' split) <;> simp

@[simp] theorem State.ptEnWrite_cores (v : W32) (s : State) : (State.ptEnWrite v s).cores = s.cores := by
  unfold State.ptEnWrite
  (try simp) <;> (repeat' split) <;> simp

@[simp] theorem State.evrWrite_cores (a : Nat) (v : W32) (s : State) : (State.evrWrite a v s).cores = s.cores := by
  unfold State.evrWrite
  (try simp) <;> (repeat' split) <;> simp

@[simp] theorem State.setLane_cores (t k core : Nat) (valid : Bool) (s : State) : (State.setLane t k core valid s).cores = s.cores := by
  unfold State.setLane
  (try simp) <;> (repeat' split) <;> simp

@[simp] theorem State.atBlock_cores (a : Nat) (f : State → State) (s : State) (h : ∀ s, (f s).cores = s.cores) : (State.atBlock a f s).cores = s.cores := by
  unfold State.atBlock
  split
  · simp
  · exact h s

@[simp] theorem State.setSlot_cores (i st : Nat) (s : State) : (State.setSlot i st s).cores = s.cores := by
  unfold State.setSlot
  (try simp) <;> (repeat' split) <;> simp

@[simp] theorem State.refire_cores (ns : List Nat) (s : State) : (State.refire ns s).cores = s.cores := by
  unfold State.refire
  (try simp) <;> (repeat' split) <;> simp

@[simp] theorem State.poolFired_cores (t : Nat) (before : State) (s : State) : (State.poolFired t before s).cores = s.cores := by
  unfold State.poolFired
  (try simp) <;> (repeat' split) <;> simp

@[simp] theorem State.laneCounts_cores (t : Nat) (s : State) : (State.laneCounts t s).cores = s.cores := by
  unfold State.laneCounts
  (try simp) <;> (repeat' split) <;> simp

@[simp] theorem State.lastMis_cores (t lane kind icnt : Nat) (addr : W32) (s : State) : (State.lastMis t lane kind icnt addr s).cores = s.cores := by
  unfold State.lastMis
  (try simp) <;> (repeat' split) <;> simp

@[simp] theorem State.startRepair_cores (t lane : Nat) (core : Option Nat) (phase kind : Nat) (s : State) : (State.startRepair t lane core phase kind s).cores = s.cores := by
  unfold State.startRepair
  (try simp) <;> (repeat' split) <;> simp

@[simp] theorem State.callOff_cores (i st : Nat) (s : State) : (State.callOff i st s).cores = s.cores := by
  unfold State.callOff
  (repeat' split) <;> simp

@[simp] theorem State.enterSpare_cores (old new cause : Nat) (s : State) : (State.enterSpare old new cause s).cores = s.cores := by
  unfold State.enterSpare
  (try simp) <;> (repeat' split) <;> simp

@[simp] theorem State.stayDuplex_cores (t lane old cause : Nat) (s : State) : (State.stayDuplex t lane old cause s).cores = s.cores := by
  unfold State.stayDuplex
  (try simp) <;> (repeat' split) <;> simp

@[simp] theorem State.countMismatch_cores (t lane core kind icnt : Nat) (addr : W32) (s : State) : (State.countMismatch t lane core kind icnt addr s).cores = s.cores := by
  unfold State.countMismatch
  (try simp) <;> (repeat' split) <;> simp

@[simp] theorem State.overrun_cores (t n target : Nat) (s : State) : (State.overrun t n target s).cores = s.cores := by
  unfold State.overrun
  (try simp) <;> (repeat' split) <;> simp

@[simp] theorem State.triCmdErr_cores (t : Nat) (s : State) : (State.triCmdErr t s).cores = s.cores := by
  unfold State.triCmdErr
  (try simp) <;> (repeat' split) <;> simp

@[simp] theorem State.channelsFollow_cores (m : Nat) (s : State) : (State.channelsFollow m s).cores = s.cores := by
  unfold State.channelsFollow
  (try simp) <;> (repeat' split) <;> simp

@[simp] theorem State.copyMem_cores (src dst n : Nat) (s : State) : (State.copyMem src dst n s).cores = s.cores := by
  unfold State.copyMem
  (try simp) <;> (repeat' split) <;> simp

@[simp] theorem State.dropMem_cores (a n : Nat) (s : State) : (State.dropMem a n s).cores = s.cores := by
  unfold State.dropMem
  (try simp) <;> (repeat' split) <;> simp

@[simp] theorem State.clearPending_cores (x : Nat) (s : State) : (State.clearPending x s).cores = s.cores := by
  unfold State.clearPending
  (try simp) <;> (repeat' split) <;> simp

@[simp] theorem State.dropGuards_cores (gs : List Nat) (s : State) : (State.dropGuards gs s).cores = s.cores := by
  unfold State.dropGuards
  (try simp) <;> (repeat' split) <;> simp

@[simp] theorem State.laneTakes_cores (t k i : Nat) (s : State) : (State.laneTakes t k i s).cores = s.cores := by
  unfold State.laneTakes
  (try simp) <;> (repeat' split) <;> simp

@[simp] theorem State.receiverKeeps_cores (t : Nat) (r : Repair) (s : State) : (State.receiverKeeps t r s).cores = s.cores := by
  unfold State.receiverKeeps
  (try simp) <;> (repeat' split) <;> simp

@[simp] theorem State.readyFills_cores (t : Nat) (waiting : Option Nat) (k : Nat) (s : State) : (State.readyFills t waiting k s).cores = s.cores := by
  unfold State.readyFills
  (try simp) <;> (repeat' split) <;> simp

@[simp] theorem State.copyFailed_cores (t lane core : Nat) (s : State) : (State.copyFailed t lane core s).cores = s.cores := by
  unfold State.copyFailed
  (try simp) <;> (repeat' split) <;> simp

@[simp] theorem State.copyGuard_cores (src dst : Nat) (s : State) : (State.copyGuard src dst s).cores = s.cores := by
  unfold State.copyGuard
  (try simp) <;> (repeat' split) <;> simp

@[simp] theorem State.lockAlike_cores (t : Nat) (s : State) : (State.lockAlike t s).cores = s.cores := by
  unfold State.lockAlike
  (try simp) <;> (repeat' split) <;> simp

@[simp] theorem State.fallbackEnds_cores (t : Nat) (s : State) : (State.fallbackEnds t s).cores = s.cores := by
  unfold State.fallbackEnds
  (try simp) <;> (repeat' split) <;> simp

@[simp] theorem State.splitTakes_cores (t lane i : Nat) (s : State) : (State.splitTakes t lane i s).cores = s.cores := by
  unfold State.splitTakes
  (try simp) <;> (repeat' split) <;> simp

@[simp] theorem State.triSplit_cores (t : Nat) (s : State) : (State.triSplit t s).cores = s.cores := by
  unfold State.triSplit
  (try simp) <;> (repeat' split) <;> simp

@[simp] theorem State.triJoin_cores (t : Nat) (s : State) : (State.triJoin t s).cores = s.cores := by
  unfold State.triJoin
  (try simp) <;> (repeat' split) <;> simp

@[simp] theorem State.requested_cores (t lane : Nat) (s : State) : (State.requested t lane s).cores = s.cores := by
  unfold State.requested
  (try simp) <;> (repeat' split) <;> simp

@[simp] theorem State.triResync_cores (t lane : Nat) (s : State) : (State.triResync t lane s).cores = s.cores := by
  unfold State.triResync
  (try simp) <;> (repeat' split) <;> simp

@[simp] theorem State.guardRefused_cores (m kind : Nat) (r : Refused) (s : State) : (State.guardRefused m kind r s).cores = s.cores := by
  unfold State.guardRefused
  (try simp) <;> (repeat' split) <;> simp

@[simp] theorem State.stall_cores (m : Nat) (w : Waiting) (s : State) : (State.stall m w s).cores = s.cores := by
  unfold State.stall
  (try simp) <;> (repeat' split) <;> simp

@[simp] theorem State.guardDisable_cores (m : Nat) (inFlight : Bool) (s : State) : (State.guardDisable m inFlight s).cores = s.cores := by
  unfold State.guardDisable
  (try simp) <;> (repeat' split) <;> simp

@[simp] theorem State.guardDrained_cores (m : Nat) (s : State) : (State.guardDrained m s).cores = s.cores := by
  unfold State.guardDrained
  (try simp) <;> (repeat' split) <;> simp

@[simp] theorem State.guardEnable_cores (m : Nat) (s : State) : (State.guardEnable m s).cores = s.cores := by
  unfold State.guardEnable
  (try simp) <;> (repeat' split) <;> simp

@[simp] theorem State.guardLock_cores (m : Nat) (s : State) : (State.guardLock m s).cores = s.cores := by
  unfold State.guardLock
  (try simp) <;> (repeat' split) <;> simp

@[simp] theorem State.guardRegion_cores (m n : Nat) (attr : Bool) (v : W32) (s : State) : (State.guardRegion m n attr v s).cores = s.cores := by
  unfold State.guardRegion
  (try simp) <;> (repeat' split) <;> simp

@[simp] theorem State.guardCtrlWrite_cores (writer : Option Nat) (m : Nat) (v : W32) (s : State) : (State.guardCtrlWrite writer m v s).cores = s.cores := by
  unfold State.guardCtrlWrite
  (try simp) <;> (repeat' split) <;> simp

@[simp] theorem State.srcCfgWrite_cores (n : Nat) (v : W32) (s : State) : (State.srcCfgWrite n v s).cores = s.cores := by
  unfold State.srcCfgWrite
  (try simp) <;> (repeat' split) <;> simp

@[simp] theorem State.swtrig_cores (v : W32) (s : State) : (State.swtrig v s).cores = s.cores := by
  unfold State.swtrig
  (try simp) <;> (repeat' split) <;> simp

@[simp] theorem State.resetRecord_cores (what : Nat) (s : State) : (State.resetRecord what s).cores = s.cores := by
  unfold State.resetRecord
  (try simp) <;> (repeat' split) <;> simp

@[simp] theorem State.lossSnapshot_cores (s : State) : (State.lossSnapshot s).cores = s.cores := by
  unfold State.lossSnapshot
  (try simp) <;> (repeat' split) <;> simp

@[simp] theorem State.selectRefs_cores (hi : Bool) (v : W32) (s : State) : (State.selectRefs hi v s).cores = s.cores := by
  unfold State.selectRefs
  (try simp) <;> (repeat' split) <;> simp

@[simp] theorem State.clkSelWrite_cores (hi : Bool) (v : W32) (s : State) : (State.clkSelWrite hi v s).cores = s.cores := by
  unfold State.clkSelWrite
  (try simp) <;> (repeat' split) <;> simp

@[simp] theorem State.wrapTo_cores (x : Nat) (s : State) : (State.wrapTo x s).cores = s.cores := by
  unfold State.wrapTo
  (try simp) <;> (repeat' split) <;> simp

@[simp] theorem State.lateTo_cores (x : Nat) (s : State) : (State.lateTo x s).cores = s.cores := by
  unfold State.lateTo
  (try simp) <;> (repeat' split) <;> simp

@[simp] theorem State.tick_cores (s : State) : (State.tick s).cores = s.cores := by
  unfold State.tick
  (try simp) <;> (repeat' split) <;> simp

@[simp] theorem State.timeCmdErr_cores (s : State) : (State.timeCmdErr s).cores = s.cores := by
  unfold State.timeCmdErr
  (try simp) <;> (repeat' split) <;> simp

@[simp] theorem State.epochAdv_cores (s : State) : (State.epochAdv s).cores = s.cores := by
  unfold State.epochAdv
  (try simp) <;> (repeat' split) <;> simp

@[simp] theorem State.incWrite_cores (v : W32) (s : State) : (State.incWrite v s).cores = s.cores := by
  unfold State.incWrite
  (try simp) <;> (repeat' split) <;> simp

@[simp] theorem State.lampMoves_cores (v : W64) (s : State) : (State.lampMoves v s).cores = s.cores := by
  unfold State.lampMoves
  (try simp) <;> (repeat' split) <;> simp

@[simp] theorem State.setNow_cores (t : W64) (s : State) : (State.setNow t s).cores = s.cores := by
  unfold State.setNow
  (try simp) <;> (repeat' split) <;> simp

@[simp] theorem State.timeSet_cores (s : State) : (State.timeSet s).cores = s.cores := by
  unfold State.timeSet
  (try simp) <;> (repeat' split) <;> simp

@[simp] theorem State.timeStep_cores (s : State) : (State.timeStep s).cores = s.cores := by
  unfold State.timeStep
  (try simp) <;> (repeat' split) <;> simp

@[simp] theorem State.stepCancel_cores (s : State) : (State.stepCancel s).cores = s.cores := by
  unfold State.stepCancel
  (try simp) <;> (repeat' split) <;> simp

@[simp] theorem State.alarmFire_cores (a : Nat) (late : Bool) (s : State) : (State.alarmFire a late s).cores = s.cores := by
  unfold State.alarmFire
  (try simp) <;> (repeat' split) <;> simp

@[simp] theorem State.almCtrlWrite_cores (a : Nat) (v : W32) (s : State) : (State.almCtrlWrite a v s).cores = s.cores := by
  unfold State.almCtrlWrite
  (try simp) <;> (repeat' split) <;> simp

@[simp] theorem State.gridStep_cores (before after : Nat) (s : State) : (State.gridStep before after s).cores = s.cores := by
  unfold State.gridStep
  (try simp) <;> (repeat' split) <;> simp

@[simp] theorem State.stepApply_cores (s : State) : (State.stepApply s).cores = s.cores := by
  unfold State.stepApply
  (try simp) <;> (repeat' split) <;> simp

@[simp] theorem State.nsRead_cores (s : State) : (State.nsRead s).cores = s.cores := by
  unfold State.nsRead
  (try simp) <;> (repeat' split) <;> simp

@[simp] theorem State.nowRead_cores (s : State) : (State.nowRead s).cores = s.cores := by
  unfold State.nowRead
  (try simp) <;> (repeat' split) <;> simp

@[simp] theorem State.timeCtrlWrite_cores (v : W32) (s : State) : (State.timeCtrlWrite v s).cores = s.cores := by
  unfold State.timeCtrlWrite
  (try simp) <;> (repeat' split) <;> simp

@[simp] theorem State.timeWrite_cores (a : Nat) (v : W32) (s : State) : (State.timeWrite a v s).cores = s.cores := by
  unfold State.timeWrite
  (try simp) <;> (repeat' split) <;> simp

@[simp] theorem State.allOn_cores (r : Ref) (s : State) : (State.allOn r s).cores = s.cores := by
  unfold State.allOn
  (try simp) <;> (repeat' split) <;> simp

@[simp] theorem State.refErr_cores (r : Ref) (ppm : W16) (s : State) : (State.refErr r ppm s).cores = s.cores := by
  unfold State.refErr
  (try simp) <;> (repeat' split) <;> simp

@[simp] theorem State.refErrRead_cores (s : State) : (State.refErrRead s).cores = s.cores := by
  unfold State.refErrRead
  (try simp) <;> (repeat' split) <;> simp

@[simp] theorem State.dropCrossings_cores (i : Nat) (s : State) : (State.dropCrossings i s).cores = s.cores := by
  unfold State.dropCrossings
  (try simp) <;> (repeat' split) <;> simp

@[simp] theorem State.memUncorrectable_cores (a : Nat) (s : State) : (State.memUncorrectable a s).cores = s.cores := by
  unfold State.memUncorrectable
  (try simp) <;> (repeat' split) <;> simp

@[simp] theorem State.memCorrected_cores (a : Nat) (double : Bool) (device bank row : Nat) (s : State) : (State.memCorrected a double device bank row s).cores = s.cores := by
  unfold State.memCorrected
  (try simp) <;> (repeat' split) <;> simp

@[simp] theorem State.memForget_cores (p : MemError → Bool) (s : State) : (State.memForget p s).cores = s.cores := by
  unfold State.memForget
  (try simp) <;> (repeat' split) <;> simp

@[simp] theorem State.memReplace_cores (pool sub : Nat) (old new : W32) (s : State) : (State.memReplace pool sub old new s).cores = s.cores := by
  unfold State.memReplace
  (try simp) <;> (repeat' split) <;> simp

@[simp] theorem State.joinFails_cores (s : State) : (State.joinFails s).cores = s.cores := by
  unfold State.joinFails
  (try simp) <;> (repeat' split) <;> simp

@[simp] theorem State.leftFull_cores (s : State) : (State.leftFull s).cores = s.cores := by
  unfold State.leftFull
  (try simp) <;> (repeat' split) <;> simp

@[simp] theorem State.backFull_cores (s : State) : (State.backFull s).cores = s.cores := by
  unfold State.backFull
  (try simp) <;> (repeat' split) <;> simp

@[simp] theorem State.heldGo_cores (s : State) : (State.heldGo s).cores = s.cores := by
  unfold State.heldGo
  (try simp) <;> (repeat' split) <;> simp

@[simp] theorem State.linkFrom_cores (s : State) : (State.linkFrom s).cores = s.cores := by
  unfold State.linkFrom
  (try simp) <;> (repeat' split) <;> simp

@[simp] theorem State.laneAgain_cores (lane : Nat) (s : State) : (State.laneAgain lane s).cores = s.cores := by
  unfold State.laneAgain
  (try simp) <;> (repeat' split) <;> simp

@[simp] theorem State.laneFail_cores (lane : Nat) (s : State) : (State.laneFail lane s).cores = s.cores := by
  unfold State.laneFail
  (try simp) <;> (repeat' split) <;> simp

@[simp] theorem State.copyStops_cores (r : Role) (s : State) : (State.copyStops r s).cores = s.cores := by
  unfold State.copyStops
  (try simp) <;> (repeat' split) <;> simp

@[simp] theorem State.partnerLeft_cores (r : Role) (s : State) : (State.partnerLeft r s).cores = s.cores := by
  unfold State.partnerLeft
  (try simp) <;> (repeat' split) <;> simp

@[simp] theorem State.colCmdErr_cores (s : State) : (State.colCmdErr s).cores = s.cores := by
  unfold State.colCmdErr
  (try simp) <;> (repeat' split) <;> simp

@[simp] theorem State.colResign_cores (s : State) : (State.colResign s).cores = s.cores := by
  unfold State.colResign
  (try simp) <;> (repeat' split) <;> simp

@[simp] theorem State.sealedRead_cores (commit : Bool) (s : State) : (State.sealedRead commit s).cores = s.cores := by
  unfold State.sealedRead
  (try simp) <;> (repeat' split) <;> simp

@[simp] theorem State.ytsRead_cores (s : State) : (State.ytsRead s).cores = s.cores := by
  unfold State.ytsRead
  (try simp) <;> (repeat' split) <;> simp

@[simp] theorem State.currRead_cores (s : State) : (State.currRead s).cores = s.cores := by
  unfold State.currRead
  (try simp) <;> (repeat' split) <;> simp

@[simp] theorem State.copyRead_cores (s : State) : (State.copyRead s).cores = s.cores := by
  unfold State.copyRead
  (try simp) <;> (repeat' split) <;> simp

@[simp] theorem State.anvWrite_cores (a : Nat) (v : W32) (s : State) : (State.anvWrite a v s).cores = s.cores := by
  unfold State.anvWrite
  (try simp) <;> (repeat' split) <;> simp

@[simp] theorem State.setBellows_cores (b : Bellows) (s : State) : (State.setBellows b s).cores = s.cores := by
  unfold State.setBellows
  (try simp) <;> (repeat' split) <;> simp

@[simp] theorem State.setPlan_cores (i : Nat) (p : Plan) (s : State) : (State.setPlan i p s).cores = s.cores := by
  unfold State.setPlan
  (try simp) <;> (repeat' split) <;> simp

@[simp] theorem State.plPend_cores (i : Nat) (s : State) : (State.plPend i s).cores = s.cores := by
  unfold State.plPend
  (try simp) <;> (repeat' split) <;> simp

@[simp] theorem State.plWrite_cores (i : Nat) (w : W32) (s : State) : (State.plWrite i w s).cores = s.cores := by
  unfold State.plWrite
  (try simp) <;> (repeat' split) <;> simp

@[simp] theorem State.levelStep_cores (i : Nat) (s : State) : (State.levelStep i s).cores = s.cores := by
  unfold State.levelStep
  (try simp) <;> (repeat' split) <;> simp

@[simp] theorem State.setNap_cores (x : Nat) (n : Nap) (s : State) : (State.setNap x n s).cores = s.cores := by
  unfold State.setNap
  (try simp) <;> (repeat' split) <;> simp

@[simp] theorem State.belState_cores (i : Nat) (s : State) : (State.belState i s).cores = s.cores := by
  unfold State.belState
  (try simp) <;> (repeat' split) <;> simp

@[simp] theorem State.slpStat_cores (outcome mode target block cause : Nat) (s : State) : (State.slpStat outcome mode target block cause s).cores = s.cores := by
  unfold State.slpStat
  (try simp) <;> (repeat' split) <;> simp

@[simp] theorem State.slpRefuse_cores (mode target block cause : Nat) (s : State) : (State.slpRefuse mode target block cause s).cores = s.cores := by
  unfold State.slpRefuse
  (try simp) <;> (repeat' split) <;> simp

@[simp] theorem State.crossingsOf_cores (target : Nat) (s : State) : (State.crossingsOf target s).cores = s.cores := by
  unfold State.crossingsOf
  (try simp) <;> (repeat' split) <;> simp

@[simp] theorem State.slpResume_cores (e : SleepEntry) (s : State) : (State.slpResume e s).cores = s.cores := by
  unfold State.slpResume
  (try simp) <;> (repeat' split) <;> simp

@[simp] theorem State.islandDown_cores (i : Nat) (s : State) : (State.islandDown i s).cores = s.cores := by
  unfold State.islandDown
  (try simp) <;> (repeat' split) <;> simp

@[simp] theorem State.loseUnretained_cores (t : Nat) (s : State) : (State.loseUnretained t s).cores = s.cores := by
  unfold State.loseUnretained
  (try simp) <;> (repeat' split) <;> simp

@[simp] theorem State.wakeCause_cores (more : Bool) (target src : Nat) (s : State) : (State.wakeCause more target src s).cores = s.cores := by
  unfold State.wakeCause
  (try simp) <;> (repeat' split) <;> simp

@[simp] theorem State.belWrite_cores (a : Nat) (v : W32) (s : State) : (State.belWrite a v s).cores = s.cores := by
  unfold State.belWrite
  (try simp) <;> (repeat' split) <;> simp

@[simp] theorem State.setSlice_cores (g i : Nat) (v : Slice) (s : State) : (State.setSlice g i v s).cores = s.cores := by
  unfold State.setSlice
  (try simp) <;> (repeat' split) <;> simp

@[simp] theorem State.diagEvt_cores (g i b : Nat) (s : State) : (State.diagEvt g i b s).cores = s.cores := by
  unfold State.diagEvt
  (try simp) <;> (repeat' split) <;> simp

@[simp] theorem State.trigger_cores (g i : Nat) (s : State) : (State.trigger g i s).cores = s.cores := by
  unfold State.trigger
  (try simp) <;> (repeat' split) <;> simp

@[simp] theorem State.statSet_cores (g i b : Nat) (s : State) : (State.statSet g i b s).cores = s.cores := by
  unfold State.statSet
  (try simp) <;> (repeat' split) <;> simp

@[simp] theorem State.statClr_cores (g i b : Nat) (s : State) : (State.statClr g i b s).cores = s.cores := by
  unfold State.statClr
  (try simp) <;> (repeat' split) <;> simp

@[simp] theorem State.statPut_cores (g i b : Nat) (on : Bool) (s : State) : (State.statPut g i b on s).cores = s.cores := by
  unfold State.statPut
  (try simp) <;> (repeat' split) <;> simp

@[simp] theorem State.evtShow_cores (g : Nat) (s : State) : (State.evtShow g s).cores = s.cores := by
  unfold State.evtShow
  (try simp) <;> (repeat' split) <;> simp

@[simp] theorem State.setQueue_cores (g : Nat) (q : List EdgeEvent) (s : State) : (State.setQueue g q s).cores = s.cores := by
  unfold State.setQueue
  (try simp) <;> (repeat' split) <;> simp

@[simp] theorem State.pushEvent_cores (g : Nat) (e : EdgeEvent) (s : State) : (State.pushEvent g e s).cores = s.cores := by
  unfold State.pushEvent
  (try simp) <;> (repeat' split) <;> simp

@[simp] theorem State.evtInfoRead_cores (g : Nat) (s : State) : (State.evtInfoRead g s).cores = s.cores := by
  unfold State.evtInfoRead
  (try simp) <;> (repeat' split) <;> simp

@[simp] theorem State.edgeLoRead_cores (g i : Nat) (s : State) : (State.edgeLoRead g i s).cores = s.cores := by
  unfold State.edgeLoRead
  (try simp) <;> (repeat' split) <;> simp

@[simp] theorem State.filterStart_cores (g i : Nat) (level : Bool) (edge : W64) (s : State) : (State.filterStart g i level edge s).cores = s.cores := by
  unfold State.filterStart
  (try simp) <;> (repeat' split) <;> simp

@[simp] theorem State.filterAccept_cores (g i : Nat) (s : State) : (State.filterAccept g i s).cores = s.cores := by
  unfold State.filterAccept
  (try simp) <;> (repeat' split) <;> simp

@[simp] theorem State.filterSample_cores (g i : Nat) (stamp : W64) (raw : Bool) (s : State) : (State.filterSample g i stamp raw s).cores = s.cores := by
  unfold State.filterSample
  (try simp) <;> (repeat' split) <;> simp

@[simp] theorem State.inputEdge_cores (g i : Nat) (stamp : W64) (raw : Bool) (s : State) : (State.inputEdge g i stamp raw s).cores = s.cores := by
  unfold State.inputEdge
  (try simp) <;> (repeat' split) <;> simp

@[simp] theorem State.filterResume_cores (g i : Nat) (s : State) : (State.filterResume g i s).cores = s.cores := by
  unfold State.filterResume
  (try simp) <;> (repeat' split) <;> simp

@[simp] theorem State.filterHalt_cores (g i : Nat) (s : State) : (State.filterHalt g i s).cores = s.cores := by
  unfold State.filterHalt
  (try simp) <;> (repeat' split) <;> simp

@[simp] theorem State.becomeReady_cores (g i : Nat) (s : State) : (State.becomeReady g i s).cores = s.cores := by
  unfold State.becomeReady
  (try simp) <;> (repeat' split) <;> simp

@[simp] theorem State.sliceConfigWrite_cores (g i off : Nat) (v : W32) (s : State) : (State.sliceConfigWrite g i off v s).cores = s.cores := by
  unfold State.sliceConfigWrite
  (try simp) <;> (repeat' split) <;> simp

@[simp] theorem State.protOpen_cores (g i : Nat) (s : State) : (State.protOpen g i s).cores = s.cores := by
  unfold State.protOpen
  (try simp) <;> (repeat' split) <;> simp

@[simp] theorem State.rearm_cores (g i : Nat) (s : State) : (State.rearm g i s).cores = s.cores := by
  unfold State.rearm
  (try simp) <;> (repeat' split) <;> simp

@[simp] theorem State.doApply_cores (g i : Nat) (cmd : W32) (period : Nat) (s : State) : (State.doApply g i cmd period s).cores = s.cores := by
  unfold State.doApply
  (try simp) <;> (repeat' split) <;> simp

@[simp] theorem State.retryWrite_cores (g i : Nat) (v : W32) (s : State) : (State.retryWrite g i v s).cores = s.cores := by
  unfold State.retryWrite
  (try simp) <;> (repeat' split) <;> simp

@[simp] theorem State.supplyLost_cores (g i : Nat) (s : State) : (State.supplyLost g i s).cores = s.cores := by
  unfold State.supplyLost
  (try simp) <;> (repeat' split) <;> simp

@[simp] theorem State.drive_cores (g i c : Nat) (s : State) : (State.drive g i c s).cores = s.cores := by
  unfold State.drive
  (try simp) <;> (repeat' split) <;> simp

@[simp] theorem State.driveShare_cores (g i : Nat) (half : Bool) (s : State) : (State.driveShare g i half s).cores = s.cores := by
  unfold State.driveShare
  (try simp) <;> (repeat' split) <;> simp

@[simp] theorem State.complyEnds_cores (g i : Nat) (s : State) : (State.complyEnds g i s).cores = s.cores := by
  unfold State.complyEnds
  (try simp) <;> (repeat' split) <;> simp

@[simp] theorem State.commitSub_cores (g i : Nat) (w : SpareWork) (s : State) : (State.commitSub g i w s).cores = s.cores := by
  unfold State.commitSub
  (try simp) <;> (repeat' split) <;> simp

@[simp] theorem State.isolate_cores (g i : Nat) (s : State) : (State.isolate g i s).cores = s.cores := by
  unfold State.isolate
  (try simp) <;> (repeat' split) <;> simp

@[simp] theorem State.spareFailed_cores (g cause : Nat) (s : State) : (State.spareFailed g cause s).cores = s.cores := by
  unfold State.spareFailed
  (try simp) <;> (repeat' split) <;> simp

@[simp] theorem State.sliceFail_cores (g i : Nat) (s : State) : (State.sliceFail g i s).cores = s.cores := by
  unfold State.sliceFail
  (try simp) <;> (repeat' split) <;> simp

@[simp] theorem State.takeTerminal_cores (g i : Nat) (s : State) : (State.takeTerminal g i s).cores = s.cores := by
  unfold State.takeTerminal
  (try simp) <;> (repeat' split) <;> simp

@[simp] theorem State.shareLoop_cores (g i : Nat) (s : State) : (State.shareLoop g i s).cores = s.cores := by
  unfold State.shareLoop
  (try simp) <;> (repeat' split) <;> simp

@[simp] theorem State.planSub_cores (g i : Nat) (s : State) : (State.planSub g i s).cores = s.cores := by
  unfold State.planSub
  (try simp) <;> (repeat' split) <;> simp

@[simp] theorem State.overlapEnds_cores (g i : Nat) (s : State) : (State.overlapEnds g i s).cores = s.cores := by
  unfold State.overlapEnds
  (try simp) <;> (repeat' split) <;> simp

@[simp] theorem State.resetWork_cores (g i : Nat) (s : State) : (State.resetWork g i s).cores = s.cores := by
  unfold State.resetWork
  (try simp) <;> (repeat' split) <;> simp

@[simp] theorem State.sliceReset_cores (g i : Nat) (s : State) : (State.sliceReset g i s).cores = s.cores := by
  unfold State.sliceReset
  (try simp) <;> (repeat' split) <;> simp

@[simp] theorem State.sreset_cores (g i : Nat) (s : State) : (State.sreset g i s).cores = s.cores := by
  unfold State.sreset
  (try simp) <;> (repeat' split) <;> simp

@[simp] theorem State.spareTest_cores (g : Nat) (s : State) : (State.spareTest g s).cores = s.cores := by
  unfold State.spareTest
  (try simp) <;> (repeat' split) <;> simp

@[simp] theorem State.spareTested_cores (g : Nat) (s : State) : (State.spareTested g s).cores = s.cores := by
  unfold State.spareTested
  (try simp) <;> (repeat' split) <;> simp

@[simp] theorem State.stimRuns_cores (g i : Nat) (s : State) : (State.stimRuns g i s).cores = s.cores := by
  unfold State.stimRuns
  (try simp) <;> (repeat' split) <;> simp

@[simp] theorem State.stimulus_cores (g i : Nat) (s : State) : (State.stimulus g i s).cores = s.cores := by
  unfold State.stimulus
  (try simp) <;> (repeat' split) <;> simp

@[simp] theorem State.stimFailed_cores (g i : Nat) (s : State) : (State.stimFailed g i s).cores = s.cores := by
  unfold State.stimFailed
  (try simp) <;> (repeat' split) <;> simp

@[simp] theorem State.sliceCtrlWrite_cores (g i : Nat) (v : W32) (s : State) : (State.sliceCtrlWrite g i v s).cores = s.cores := by
  unfold State.sliceCtrlWrite
  (try simp) <;> (repeat' split) <;> simp

@[simp] theorem State.stagesOff_cores (s : State) : (State.stagesOff s).cores = s.cores := by
  unfold State.stagesOff
  dsimp only
  rw [foldl_cores]
  · rfl
  · intro s a
    split <;> rfl

@[simp] theorem State.rangeBits_cores (g i : Nat) (v : W32) (s : State) : (State.rangeBits g i v s).cores = s.cores := by
  unfold State.rangeBits
  (try simp) <;> (repeat' split) <;> simp

@[simp] theorem State.ne43_cores (g i : Nat) (v : W32) (s : State) : (State.ne43 g i v s).cores = s.cores := by
  unfold State.ne43
  (try simp) <;> (repeat' split) <;> simp

@[simp] theorem State.openGrid_cores (g i : Nat) (v : W32) (s : State) : (State.openGrid g i v s).cores = s.cores := by
  unfold State.openGrid
  (try simp) <;> (repeat' split) <;> simp

@[simp] theorem State.gridResult_cores (g i : Nat) (v : W32) (s : State) : (State.gridResult g i v s).cores = s.cores := by
  unfold State.gridResult
  (try simp) <;> (repeat' split) <;> simp

@[simp] theorem State.chainCheck_cores (g i input : Nat) (v : W32) (s : State) : (State.chainCheck g i input v s).cores = s.cores := by
  unfold State.chainCheck
  (try simp) <;> (repeat' split) <;> simp

@[simp] theorem State.openTest_cores (g i : Nat) (ent v : W32) (s : State) : (State.openTest g i ent v s).cores = s.cores := by
  unfold State.openTest
  (try simp) <;> (repeat' split) <;> simp

@[simp] theorem State.fixedConv_cores (g i : Nat) (v : W32) (s : State) : (State.fixedConv g i v s).cores = s.cores := by
  unfold State.fixedConv
  (try simp) <;> (repeat' split) <;> simp

@[simp] theorem State.regConv_cores (g i : Nat) (raw : W32) (s : State) : (State.regConv g i raw s).cores = s.cores := by
  unfold State.regConv
  (try simp) <;> (repeat' split) <;> simp

@[simp] theorem State.injConv_cores (g i : Nat) (isGrid : Bool) (k : Nat) (raw : W32) (s : State) : (State.injConv g i isGrid k raw s).cores = s.cores := by
  unfold State.injConv
  (try simp) <;> (repeat' split) <;> simp

@[simp] theorem State.conversion_cores (g i : Nat) (v : W32) (s : State) : (State.conversion g i v s).cores = s.cores := by
  unfold State.conversion
  (try simp) <;> (repeat' split) <;> simp

@[simp] theorem State.injSw_cores (g i : Nat) (s : State) : (State.injSw g i s).cores = s.cores := by
  unfold State.injSw
  (try simp) <;> (repeat' split) <;> simp

@[simp] theorem State.discMark_cores (g : Nat) (s : State) : (State.discMark g s).cores = s.cores := by
  unfold State.discMark
  apply foldl_cores
  intro s a
  dsimp only
  split <;> simp

@[simp] theorem State.aoApply_cores (g i : Nat) (cmd : W32) (s : State) : (State.aoApply g i cmd s).cores = s.cores := by
  unfold State.aoApply
  (try simp) <;> (repeat' split) <;> simp

@[simp] theorem State.trimApply_cores (g i : Nat) (s : State) : (State.trimApply g i s).cores = s.cores := by
  unfold State.trimApply
  (try simp) <;> (repeat' split) <;> simp

@[simp] theorem State.trimClear_cores (g i : Nat) (s : State) : (State.trimClear g i s).cores = s.cores := by
  unfold State.trimClear
  (try simp) <;> (repeat' split) <;> simp

@[simp] theorem State.trimCtrlWrite_cores (g i : Nat) (v : W32) (s : State) : (State.trimCtrlWrite g i v s).cores = s.cores := by
  unfold State.trimCtrlWrite
  (try simp) <;> (repeat' split) <;> simp

@[simp] theorem State.hartFail_cores (g m code : Nat) (s : State) : (State.hartFail g m code s).cores = s.cores := by
  unfold State.hartFail
  (try simp) <;> (repeat' split) <;> simp

@[simp] theorem State.hartStart_cores (g m : Nat) (s : State) : (State.hartStart g m s).cores = s.cores := by
  unfold State.hartStart
  (try simp) <;> (repeat' split) <;> simp

@[simp] theorem State.hartAbort_cores (g m : Nat) (s : State) : (State.hartAbort g m s).cores = s.cores := by
  unfold State.hartAbort
  (try simp) <;> (repeat' split) <;> simp

@[simp] theorem State.hmCtrlWrite_cores (g m : Nat) (v : W32) (s : State) : (State.hmCtrlWrite g m v s).cores = s.cores := by
  unfold State.hmCtrlWrite
  (try simp) <;> (repeat' split) <;> simp

@[simp] theorem State.mailbox_cores (a : Nat) (bytes : List W8) (s : State) : (State.mailbox a bytes s).cores = s.cores := by
  unfold State.mailbox
  (try simp) <;> (repeat' split) <;> simp

@[simp] theorem State.addF_cores (a lo n k : Nat) (s : State) : (State.addF a lo n k s).cores = s.cores := by
  unfold State.addF
  (try simp) <;> (repeat' split) <;> simp

@[simp] theorem State.mailboxWrite_cores (a g m : Nat) (v : W32) (s : State) : (State.mailboxWrite a g m v s).cores = s.cores := by
  unfold State.mailboxWrite
  (try simp) <;> (repeat' split) <;> simp

@[simp] theorem State.groupWrite_cores (a : Nat) (v : W32) (s : State) : (State.groupWrite a v s).cores = s.cores := by
  rw [State.groupWrite]
  split
  · rfl
  · split
    · exact State.wrL_cores ..
    · rfl

@[simp] theorem State.sliceWrite_cores (g i off : Nat) (v : W32) (s : State) : (State.sliceWrite g i off v s).cores = s.cores := by
  unfold State.sliceWrite
  (try simp) <;> (repeat' split) <;> simp

@[simp] theorem State.gapCapture_cores (s : State) : (State.gapCapture s).cores = s.cores := by
  unfold State.gapCapture
  (try simp) <;> (repeat' split) <;> simp

@[simp] theorem State.connBit_cores (c b : Nat) (on : Bool) (s : State) : (State.connBit c b on s).cores = s.cores := by
  unfold State.connBit
  (try simp) <;> (repeat' split) <;> simp

@[simp] theorem State.connFeed_cores (c : Nat) (feedB : Bool) (v : W16) (s : State) : (State.connFeed c feedB v s).cores = s.cores := by
  unfold State.connFeed
  (try simp) <;> (repeat' split) <;> simp

@[simp] theorem State.scanForce_cores (e : Nat) (b : Bool) (i : Nat) (f : Option Nat) (s : State) : (State.scanForce e b i f s).cores = s.cores := by
  unfold State.scanForce
  (try simp) <;> (repeat' split) <;> simp

@[simp] theorem State.markForce_cores (loc : W32) (f : Option Nat) (s : State) : (State.markForce loc f s).cores = s.cores := by
  unfold State.markForce
  (try simp) <;> (repeat' split) <;> simp

@[simp] theorem State.rec08Force_cores (ev : Nat) (varid : W32) (value : Nat) (node : Nat) (tick : Nat) (s : State) : (State.rec08Force ev varid value node tick s).cores = s.cores := by
  unfold State.rec08Force
  (try simp) <;> (repeat' split) <;> simp

@[simp] theorem State.forceEnd_cores (code : Nat) (s : State) : (State.forceEnd code s).cores = s.cores := (State.fire_cores _ _).trans (State.wr_cores _ _ _)

@[simp] theorem State.forceCount_cores (n : Nat) (s : State) : (State.forceCount n s).cores = s.cores := by
  unfold State.forceCount
  (try simp) <;> (repeat' split) <;> simp

@[simp] theorem State.forceUnder_cores (l : List Nat) (f : State → State) (s : State) (h : ∀ s, (f s).cores = s.cores) : (State.forceUnder l f s).cores = s.cores := by
  unfold State.forceUnder
  split
  · simp
  · exact h s

@[simp] theorem State.forceModify_cores (c : ForceCmd) (t i : Nat) (s : State) : (State.forceModify c t i s).cores = s.cores := by
  unfold State.forceModify
  (try simp) <;> (repeat' split) <;> simp

@[simp] theorem State.forceInsert_cores (c : ForceCmd) (t i : Nat) (type w : W32) (s : State) : (State.forceInsert c t i type w s).cores = s.cores := by
  unfold State.forceInsert
  (try simp) <;> (repeat' split) <;> simp

@[simp] theorem State.forceApply_cores (c : ForceCmd) (t : Nat) (s : State) : (State.forceApply c t s).cores = s.cores := by
  unfold State.forceApply
  split
  · rw [State.forceEnd_cores]
  · split
    · rw [State.forceEnd_cores]
    · split
      · rw [State.forceEnd_cores]
      · split
        · exact State.forceUnder_cores _ _ _ (State.forceModify_cores _ _ _)
        · split
          · rw [State.forceEnd_cores]
          · exact State.forceUnder_cores _ _ _ (State.forceInsert_cores _ _ _ _ _)

@[simp] theorem State.forceFree_cores (i : Nat) (s : State) : (State.forceFree i s).cores = s.cores := by
  unfold State.forceFree
  (try simp) <;> (repeat' split) <;> simp

@[simp] theorem State.forceDelete_cores (c : ForceCmd) (t i : Nat) (s : State) : (State.forceDelete c t i s).cores = s.cores := by
  rw [State.forceDelete, State.forceEnd_cores, State.rec08Force_cores, State.forceCount_cores, State.forceFree_cores]

@[simp] theorem State.forceRelease_cores (c : ForceCmd) (t : Nat) (s : State) : (State.forceRelease c t s).cores = s.cores := by
  unfold State.forceRelease
  split
  · rw [State.forceEnd_cores]
  · split
    · rw [State.forceEnd_cores]
    · exact State.forceUnder_cores _ _ _ (State.forceDelete_cores _ _ _)

@[simp] theorem State.freeAll_cores (s : State) : (State.freeAll s).cores = s.cores := by
  unfold State.freeAll
  (try simp) <;> (repeat' split) <;> simp

@[simp] theorem State.forceDeleteAll_cores (c : ForceCmd) (t : Nat) (s : State) : (State.forceDeleteAll c t s).cores = s.cores := by
  unfold State.forceDeleteAll
  (try simp) <;> (repeat' split) <;> simp

@[simp] theorem State.forceReleaseAll_cores (c : ForceCmd) (t : Nat) (s : State) : (State.forceReleaseAll c t s).cores = s.cores := State.forceUnder_cores _ _ _ (State.forceDeleteAll_cores _ _)

@[simp] theorem State.forceDo_cores (c : ForceCmd) (t : Nat) (s : State) : (State.forceDo c t s).cores = s.cores := by
  unfold State.forceDo
  (try simp) <;> (repeat' split) <;> simp

@[simp] theorem State.forceExec_cores (t : Nat) (s : State) : (State.forceExec t s).cores = s.cores := by
  unfold State.forceExec
  split
  · rfl
  · split
    · rw [State.forceEnd_cores]
    · split
      · rfl
      · split
        · rw [State.forceEnd_cores]
        · exact State.forceUnder_cores _ _ _ (State.forceDo_cores _ _)

@[simp] theorem State.forceErr_cores (code : Nat) (s : State) : (State.forceErr code s).cores = s.cores := by
  unfold State.forceErr
  (try simp) <;> (repeat' split) <;> simp

@[simp] theorem State.forceCmd_cores (op node : Nat) (s : State) : (State.forceCmd op node s).cores = s.cores := by
  unfold State.forceCmd
  (try simp) <;> (repeat' split) <;> simp

@[simp] theorem State.forceCmdWrite_cores (v : W32) (s : State) : (State.forceCmdWrite v s).cores = s.cores := by
  unfold State.forceCmdWrite
  (try simp) <;> (repeat' split) <;> simp

@[simp] theorem State.unmarkEntry_cores (e i : Nat) (s : State) : (State.unmarkEntry e i s).cores = s.cores := by
  unfold State.unmarkEntry
  (try simp) <;> (repeat' split) <;> simp

@[simp] theorem State.unmarkBank_cores (e : Nat) (s : State) : (State.unmarkBank e s).cores = s.cores := by
  unfold State.unmarkBank
  (try simp) <;> (repeat' split) <;> simp

@[simp] theorem State.unmarkForces_cores (s : State) : (State.unmarkForces s).cores = s.cores := by
  unfold State.unmarkForces
  (try simp) <;> (repeat' split) <;> simp

@[simp] theorem State.rebuildForces_cores (s : State) : (State.rebuildForces s).cores = s.cores := by
  unfold State.rebuildForces
  (try simp) <;> (repeat' split) <;> simp

@[simp] theorem State.rebindForces_cores (base n : Nat) (s : State) : (State.rebindForces base n s).cores = s.cores := by
  unfold State.rebindForces
  split
  · rfl
  · refine foldl_cores _ (fun s i => ?_) _ _
    dsimp only
    (repeat' split) <;> simp

@[simp] theorem State.clearForces_cores (s : State) : (State.clearForces s).cores = s.cores := by
  unfold State.clearForces
  (try simp) <;> (repeat' split) <;> simp

@[simp] theorem State.portSent_cores (p : Nat) (s : State) : (State.portSent p s).cores = s.cores := by
  unfold State.portSent
  (try simp) <;> (repeat' split) <;> simp

@[simp] theorem State.rinfaSend_cores (kind : Nat) (bcast : Bool) (dst : Nat) (frag tag : W8) (d : List W8) (s : State) : (State.rinfaSend kind bcast dst frag tag d s).cores = s.cores := by
  unfold State.rinfaSend
  (try simp) <;> (repeat' split) <;> simp

@[simp] theorem State.setStation_cores (n : Nat) (v : Station) (s : State) : (State.setStation n v s).cores = s.cores := by
  unfold State.setStation
  (try simp) <;> (repeat' split) <;> simp

@[simp] theorem State.portCounters_cores (k tec rcv : Nat) (s : State) : (State.portCounters k tec rcv s).cores = s.cores := by
  unfold State.portCounters
  (try simp) <;> (repeat' split) <;> simp

@[simp] theorem State.portOn_cores (k : Nat) (s : State) : (State.portOn k s).cores = s.cores := by
  unfold State.portOn
  (try simp) <;> (repeat' split) <;> simp

@[simp] theorem State.portOff_cores (k : Nat) (s : State) : (State.portOff k s).cores = s.cores := by
  unfold State.portOff
  (try simp) <;> (repeat' split) <;> simp

@[simp] theorem State.portFail_cores (k : Nat) (s : State) : (State.portFail k s).cores = s.cores := by
  unfold State.portFail
  (try simp) <;> (repeat' split) <;> simp

@[simp] theorem State.recover_cores (k : Nat) (s : State) : (State.recover k s).cores = s.cores := by
  unfold State.recover
  (try simp) <;> (repeat' split) <;> simp

@[simp] theorem State.txReleased_cores (k : Nat) (s : State) : (State.txReleased k s).cores = s.cores := by
  unfold State.txReleased
  (try simp) <;> (repeat' split) <;> simp

@[simp] theorem State.engineStore_cores (m a : Nat) (bs : List W8) (s : State) : (State.engineStore m a bs s).cores = s.cores := by
  unfold State.engineStore
  (try simp) <;> (repeat' split) <;> simp

@[simp] theorem State.writePoints_cores (n : Nat) (value : W32 → Nat → Option W32) (s : State) : (State.writePoints n value s).cores = s.cores := by
  unfold State.writePoints
  dsimp only
  refine foldl_cores _ (fun s i => ?_) _ _
  (repeat' split) <;> simp

@[simp] theorem State.writeStatus_cores (n : Nat) (inService stale subst : Bool) (s : State) : (State.writeStatus n inService stale subst s).cores = s.cores := by
  unfold State.writeStatus
  (try simp) <;> (repeat' split) <;> simp

@[simp] theorem State.dropSet_cores (n tag : Nat) (s : State) : (State.dropSet n tag s).cores = s.cores := by
  unfold State.dropSet
  (try simp) <;> (repeat' split) <;> simp

@[simp] theorem State.stBit_cores (n : Nat) (lost on : Bool) (s : State) : (State.stBit n lost on s).cores = s.cores := by
  unfold State.stBit
  (try simp) <;> (repeat' split) <;> simp

@[simp] theorem State.stEvent_cores (n : Nat) (back : Bool) (s : State) : (State.stEvent n back s).cores = s.cores := by
  unfold State.stEvent
  (try simp) <;> (repeat' split) <;> simp

@[simp] theorem State.lateSet_cores (n : Nat) (s : State) : (State.lateSet n s).cores = s.cores := by
  unfold State.lateSet
  (try simp) <;> (repeat' split) <;> simp

@[simp] theorem State.stationLost_cores (n : Nat) (s : State) : (State.stationLost n s).cores = s.cores := by
  unfold State.stationLost
  (try simp) <;> (repeat' split) <;> simp

@[simp] theorem State.stationTake_cores (n t : Nat) (s : State) : (State.stationTake n t s).cores = s.cores := by
  unfold State.stationTake
  (try simp) <;> (repeat' split) <;> simp

@[simp] theorem State.stationPhase_cores (n t : Nat) (s : State) : (State.stationPhase n t s).cores = s.cores := by
  unfold State.stationPhase
  (try simp) <;> (repeat' split) <;> simp

@[simp] theorem State.stationWatch_cores (n t : Nat) (s : State) : (State.stationWatch n t s).cores = s.cores := by
  unfold State.stationWatch
  (try simp) <;> (repeat' split) <;> simp

@[simp] theorem State.stationInputs_cores (t : Nat) (s : State) : (State.stationInputs t s).cores = s.cores := by
  unfold State.stationInputs
  (try simp) <;> (repeat' split) <;> simp

@[simp] theorem State.netOutput_cores (f : TxFrame) (s : State) : (State.netOutput f s).cores = s.cores := by
  unfold State.netOutput
  (try simp) <;> (repeat' split) <;> simp

@[simp] theorem State.netOutputs_cores (s : State) : (State.netOutputs s).cores = s.cores := by
  unfold State.netOutputs
  (try simp) <;> (repeat' split) <;> simp

@[simp] theorem State.stationOut_cores (n t : Nat) (s : State) : (State.stationOut n t s).cores = s.cores := by
  unfold State.stationOut
  (try simp) <;> (repeat' split) <;> simp

@[simp] theorem State.stationOutputs_cores (lines : Nat → Bool) (t : Nat) (s : State) : (State.stationOutputs lines t s).cores = s.cores := by
  unfold State.stationOutputs
  (try simp) <;> (repeat' split) <;> simp

@[simp] theorem State.refSent_cores (k : Nat) (stamp : W64) (s : State) : (State.refSent k stamp s).cores = s.cores := by
  unfold State.refSent
  (try simp) <;> (repeat' split) <;> simp

@[simp] theorem State.frameSent_cores (k : Nat) (f : TxFrame) (delay : BitVec 7) (stamp : W64) (s : State) : (State.frameSent k f delay stamp s).cores = s.cores := by
  unfold State.frameSent
  (try simp) <;> (repeat' split) <;> simp

@[simp] theorem State.frameMissed_cores (k : Nat) (f : TxFrame) (error : Bool) (s : State) : (State.frameMissed k f error s).cores = s.cores := by
  unfold State.frameMissed
  (try simp) <;> (repeat' split) <;> simp

@[simp] theorem State.foreign_cores (k : Nat) (s : State) : (State.foreign k s).cores = s.cores := by
  unfold State.foreign
  (try simp) <;> (repeat' split) <;> simp

@[simp] theorem State.keepFragment_cores (p station : Nat) (d : List W8) (s : State) : (State.keepFragment p station d s).cores = s.cores := by
  unfold State.keepFragment
  (try simp) <;> (repeat' split) <;> simp

@[simp] theorem State.acResponse_cores (k : Nat) (d : List W8) (s : State) : (State.acResponse k d s).cores = s.cores := by
  unfold State.acResponse
  (try simp) <;> (repeat' split) <;> simp

@[simp] theorem State.foreignMaster_cores (k a : Nat) (s : State) : (State.foreignMaster k a s).cores = s.cores := by
  unfold State.foreignMaster
  (try simp) <;> (repeat' split) <;> simp

@[simp] theorem State.keepRecords_cores (node : Nat) (bus : Option Nat) (d : List W8) (s : State) : (State.keepRecords node bus d s).cores = s.cores := by
  unfold State.keepRecords
  (try simp) <;> (repeat' split) <;> simp

@[simp] theorem State.acStart_cores (k : Nat) (s : State) : (State.acStart k s).cores = s.cores := by
  unfold State.acStart
  (try simp) <;> (repeat' split) <;> simp

@[simp] theorem State.acAbort_cores (k : Nat) (s : State) : (State.acAbort k s).cores = s.cores := by
  unfold State.acAbort
  (try simp) <;> (repeat' split) <;> simp

@[simp] theorem State.refLoRead_cores (k : Nat) (s : State) : (State.refLoRead k s).cores = s.cores := by
  unfold State.refLoRead
  (try simp) <;> (repeat' split) <;> simp

@[simp] theorem State.portsActive_cores (agreed : Bool) (s : State) : (State.portsActive agreed s).cores = s.cores := by
  unfold State.portsActive
  (try simp) <;> (repeat' split) <;> simp

@[simp] theorem State.stbWrite_cores (a k : Nat) (v : W32) (s : State) : (State.stbWrite a k v s).cores = s.cores := by
  unfold State.stbWrite
  (try simp) <;> (repeat' split) <;> simp

@[simp] theorem State.setNet_cores (v : Net) (s : State) : (State.setNet v s).cores = s.cores := by
  unfold State.setNet
  (try simp) <;> (repeat' split) <;> simp

@[simp] theorem State.netEvt_cores (b : Nat) (s : State) : (State.netEvt b s).cores = s.cores := by
  unfold State.netEvt
  (try simp) <;> (repeat' split) <;> simp

@[simp] theorem State.badHeader_cores (s : State) : (State.badHeader s).cores = s.cores := by
  unfold State.badHeader
  (try simp) <;> (repeat' split) <;> simp

@[simp] theorem State.announceSend_cores (s : State) : (State.announceSend s).cores = s.cores := by
  unfold State.announceSend
  (try simp) <;> (repeat' split) <;> simp

@[simp] theorem State.announceHeard_cores (node : Nat) (serial : BitVec 128) (s : State) : (State.announceHeard node serial s).cores = s.cores := by
  unfold State.announceHeard
  (try simp) <;> (repeat' split) <;> simp

@[simp] theorem State.ownReturned_cores (seq p : Nat) (s : State) : (State.ownReturned seq p s).cores = s.cores := by
  unfold State.ownReturned
  (try simp) <;> (repeat' split) <;> simp

@[simp] theorem State.keepTunnel_cores (src : Nat) (frag : W8) (d : List W8) (s : State) : (State.keepTunnel src frag d s).cores = s.cores := by
  unfold State.keepTunnel
  (try simp) <;> (repeat' split) <;> simp

@[simp] theorem State.rinfaAccept_cores (h : RinfaHead) (d : List W8) (s : State) : (State.rinfaAccept h d s).cores = s.cores := by
  unfold State.rinfaAccept
  (try simp) <;> (repeat' split) <;> simp

theorem State.managed_cores {p : Nat} {src : Option Nat} {s t : State} (h : State.managed p src s = some t) : t.cores = s.cores := by
  unfold State.managed at h
  (repeat' split at h) <;> cases h <;> simp

@[simp] theorem State.rinfaFrame_cores (p : Nat) (h : RinfaHead) (d frame : List W8) (s : State) : (State.rinfaFrame p h d frame s).cores = s.cores := by
  unfold State.rinfaFrame
  (try simp) <;> (repeat' split) <;> simp

@[simp] theorem State.portGot_cores (p : Nat) (s : State) : (State.portGot p s).cores = s.cores := by
  unfold State.portGot
  (try simp) <;> (repeat' split) <;> simp

@[simp] theorem State.ptpEnter_cores (p st : Nat) (s : State) : (State.ptpEnter p st s).cores = s.cores := by
  unfold State.ptpEnter
  (try simp) <;> (repeat' split) <;> simp

@[simp] theorem State.ptpStat_cores (s : State) : (State.ptpStat s).cores = s.cores := by
  unfold State.ptpStat
  (try simp) <;> (repeat' split) <;> simp

@[simp] theorem State.ptpDecide_cores (s : State) : (State.ptpDecide s).cores = s.cores := by
  unfold State.ptpDecide
  (try simp) <;> (repeat' split) <;> simp

@[simp] theorem State.ptpRefresh_cores (s : State) : (State.ptpRefresh s).cores = s.cores := by
  unfold State.ptpRefresh
  (try simp) <;> (repeat' split) <;> simp

@[simp] theorem State.lockDeclare_cores (locked holdover : Bool) (s : State) : (State.lockDeclare locked holdover s).cores = s.cores := by
  unfold State.lockDeclare
  (try simp) <;> (repeat' split) <;> simp

@[simp] theorem State.setPtpPort_cores (p : Nat) (v : PtpPort) (s : State) : (State.setPtpPort p v s).cores = s.cores := by
  unfold State.setPtpPort
  (try simp) <;> (repeat' split) <;> simp

@[simp] theorem State.delayMeasured_cores (p : Nat) (twice : Int) (s : State) : (State.delayMeasured p twice s).cores = s.cores := by
  unfold State.delayMeasured
  (try simp) <;> (repeat' split) <;> simp

@[simp] theorem State.syncMeasured_cores (p : Nat) (origin receipt : W64) (s : State) : (State.syncMeasured p origin receipt s).cores = s.cores := by
  unfold State.syncMeasured
  (try simp) <;> (repeat' split) <;> simp

@[simp] theorem State.ptpGeneral_cores (p : Nat) (m : PtpGeneral) (s : State) : (State.ptpGeneral p m s).cores = s.cores := by
  unfold State.ptpGeneral
  (try simp) <;> (repeat' split) <;> simp

@[simp] theorem State.ptpSend_cores (p kind : Nat) (d : List W8) (s : State) : (State.ptpSend p kind d s).cores = s.cores := by
  unfold State.ptpSend
  (try simp) <;> (repeat' split) <;> simp

@[simp] theorem State.ptpEvent_cores (p : Nat) (m : PtpEvent) (t : W64) (s : State) : (State.ptpEvent p m t s).cores = s.cores := by
  unfold State.ptpEvent
  (try simp) <;> (repeat' split) <;> simp

@[simp] theorem State.linkSet_cores (p : Nat) (up : Bool) (s : State) : (State.linkSet p up s).cores = s.cores := by
  unfold State.linkSet
  (try simp) <;> (repeat' split) <;> simp

@[simp] theorem State.soePut_cores (r : List W8) (s : State) : (State.soePut r s).cores = s.cores := by
  unfold State.soePut
  (try simp) <;> (repeat' split) <;> simp

@[simp] theorem State.netFrameWrite_cores (v : W32) (s : State) : (State.netFrameWrite v s).cores = s.cores := by
  unfold State.netFrameWrite
  (try simp) <;> (repeat' split) <;> simp

@[simp] theorem State.netFrozen_cores (a : Nat) (m v : W32) (s : State) : (State.netFrozen a m v s).cores = s.cores := by
  unfold State.netFrozen
  (try simp) <;> (repeat' split) <;> simp

@[simp] theorem State.ptpCtrlWrite_cores (v : W32) (s : State) : (State.ptpCtrlWrite v s).cores = s.cores := by
  unfold State.ptpCtrlWrite
  (try simp) <;> (repeat' split) <;> simp

@[simp] theorem State.netWrite_cores (a0 : Nat) (v : W32) (s : State) : (State.netWrite a0 v s).cores = s.cores := by
  unfold State.netWrite
  (try simp) <;> (repeat' split) <;> simp

@[simp] theorem State.setGrid_cores (v : Grid) (s : State) : (State.setGrid v s).cores = s.cores := by
  unfold State.setGrid
  (try simp) <;> (repeat' split) <;> simp

@[simp] theorem State.setChange_cores (v : Change) (s : State) : (State.setChange v s).cores = s.cores := by
  unfold State.setChange
  (try simp) <;> (repeat' split) <;> simp

@[simp] theorem State.gridFault_cores (b line : Nat) (t : W64) (s : State) : (State.gridFault b line t s).cores = s.cores := by
  unfold State.gridFault
  (try simp) <;> (repeat' split) <;> simp

@[simp] theorem State.scanOverrun_cores (line : Nat) (t : W64) (s : State) : (State.scanOverrun line t s).cores = s.cores := by
  unfold State.scanOverrun
  (try simp) <;> (repeat' split) <;> simp

@[simp] theorem State.holdCommand_cores (ch : Nat) (v : W32) (s : State) : (State.holdCommand ch v s).cores = s.cores := by
  unfold State.holdCommand
  (try simp) <;> (repeat' split) <;> simp

@[simp] theorem State.sendOutputs_cores (e : Nat) (t : W64) (l : List Nat) (s : State) : (State.sendOutputs e t l s).cores = s.cores := by
  induction l generalizing s with
  | nil => rfl
  | cons r l ih =>
    simp only [State.sendOutputs]
    (repeat' split) <;> simp [ih]

@[simp] theorem State.deadlineTest_cores (t : W64) (j : Nat) (s : State) : (State.deadlineTest t j s).cores = s.cores := by
  unfold State.deadlineTest
  (try simp) <;> (repeat' split) <;> simp

@[simp] theorem State.writeInputs_cores (e : Nat) (t : W64) (l : List (Nat × Nat × List W8)) (s : State) :
    (State.writeInputs e t l s).cores = s.cores := by
  induction l generalizing s with
  | nil => rfl
  | cons r l ih =>
    obtain ⟨j, a, d⟩ := r
    unfold State.writeInputs
    (repeat' split) <;> simp [ih]

@[simp] theorem State.readInputs_cores (e : Nat) (t : W64) (s : State) : (State.readInputs e t s).cores = s.cores := by
  unfold State.readInputs
  (try simp) <;> (repeat' split) <;> simp

@[simp] theorem State.latchFilters_cores (t : Nat) (s : State) : (State.latchFilters t s).cores = s.cores := by
  unfold State.latchFilters
  (try simp) <;> (repeat' split) <;> simp

@[simp] theorem State.applyCommand_cores (g i : Nat) (v : W32) (s : State) : (State.applyCommand g i v s).cores = s.cores := by
  unfold State.applyCommand
  (try simp) <;> (repeat' split) <;> simp

@[simp] theorem State.applyHeld_cores (s : State) : (State.applyHeld s).cores = s.cores := by
  unfold State.applyHeld
  apply foldl_cores
  intro s a
  dsimp only
  split <;> simp

@[simp] theorem State.yieldTry_cores (s : State) : (State.yieldTry s).cores = s.cores := by
  unfold State.yieldTry
  (try simp) <;> (repeat' split) <;> simp

@[simp] theorem State.leverYield_cores (s : State) : (State.leverYield s).cores = s.cores := by
  unfold State.leverYield
  (try simp) <;> (repeat' split) <;> simp

@[simp] theorem State.yieldRetry_cores (s : State) : (State.yieldRetry s).cores = s.cores := by
  unfold State.yieldRetry
  (try simp) <;> (repeat' split) <;> simp

@[simp] theorem State.holdsEnd_cores (s : State) : (State.holdsEnd s).cores = s.cores := by
  unfold State.holdsEnd
  (try simp) <;> (repeat' split) <;> simp

@[simp] theorem State.tickLoRead_cores (s : State) : (State.tickLoRead s).cores = s.cores := by
  unfold State.tickLoRead
  (try simp) <;> (repeat' split) <;> simp

@[simp] theorem State.directCommand_cores (g i : Nat) (ao : Bool) (v : W32) (s : State) : (State.directCommand g i ao v s).cores = s.cores := by
  unfold State.directCommand
  (try simp) <;> (repeat' split) <;> simp

@[simp] theorem State.underShadow_cores (s : State) : (State.underShadow s).cores = s.cores := by
  unfold State.underShadow
  (try simp) <;> (repeat' split) <;> simp

@[simp] theorem State.chgCmdErr_cores (s : State) : (State.chgCmdErr s).cores = s.cores := by
  unfold State.chgCmdErr
  (try simp) <;> (repeat' split) <;> simp

@[simp] theorem State.chgCancel_cores (s : State) : (State.chgCancel s).cores = s.cores := by
  unfold State.chgCancel
  (try simp) <;> (repeat' split) <;> simp

@[simp] theorem State.recordLevels_cores (v : Verified) (s : State) : (State.recordLevels v s).cores = s.cores := by
  unfold State.recordLevels
  (try simp) <;> (repeat' split) <;> simp

@[simp] theorem State.armed_cores (ts : Nat) (s : State) : (State.armed ts s).cores = s.cores := by
  unfold State.armed
  (try simp) <;> (repeat' split) <;> simp

@[simp] theorem State.chgArm_cores (s : State) : (State.chgArm s).cores = s.cores := by
  unfold State.chgArm
  (try simp) <;> (repeat' split) <;> simp

@[simp] theorem State.putSource_cores (n : Nat) (cfg entry sb : W32) (s : State) : (State.putSource n cfg entry sb s).cores = s.cores := by
  unfold State.putSource
  (try simp) <;> (repeat' split) <;> simp

@[simp] theorem State.dropSource_cores (n : Nat) (s : State) : (State.dropSource n s).cores = s.cores := by
  unfold State.dropSource
  (try simp) <;> (repeat' split) <;> simp

@[simp] theorem State.putTask_cores (i : Nat) (s : State) : (State.putTask i s).cores = s.cores := by
  unfold State.putTask
  (try simp) <;> (repeat' split) <;> simp

@[simp] theorem State.engCounts_cores (e : Nat) (s : State) : (State.engCounts e s).cores = s.cores := by
  unfold State.engCounts
  (try simp) <;> (repeat' split) <;> simp

@[simp] theorem State.swapBanks_cores (s : State) : (State.swapBanks s).cores = s.cores := by
  unfold State.swapBanks
  (try simp) <;> (repeat' split) <;> simp

@[simp] theorem State.swapDrop_cores (new : List Nat) (n : Nat) (s : State) : (State.swapDrop new n s).cores = s.cores := by
  unfold State.swapDrop
  (try simp) <;> (repeat' split) <;> simp

@[simp] theorem State.swapTasks_cores (new : List Nat) (s : State) : (State.swapTasks new s).cores = s.cores := by
  unfold State.swapTasks
  (try simp) <;> (repeat' split) <;> simp

@[simp] theorem State.swapForces_cores (s : State) : (State.swapForces s).cores = s.cores := by
  unfold State.swapForces
  (try simp) <;> (repeat' split) <;> simp

@[simp] theorem State.swapFirst_cores (s : State) : (State.swapFirst s).cores = s.cores := by
  unfold State.swapFirst
  (try simp) <;> (repeat' split) <;> simp

@[simp] theorem State.swap_cores (s : State) : (State.swap s).cores = s.cores := by
  unfold State.swap
  (try simp) <;> (repeat' split) <;> simp

@[simp] theorem State.standbySwap_cores (id : W32) (s : State) : (State.standbySwap id s).cores = s.cores := by
  unfold State.standbySwap
  (try simp) <;> (repeat' split) <;> simp

@[simp] theorem State.clearDirty_cores (s : State) : (State.clearDirty s).cores = s.cores := by
  unfold State.clearDirty
  (try simp) <;> (repeat' split) <;> simp

@[simp] theorem State.noteRefused_cores (m kind : Nat) (l : List (Nat × Nat)) (s : State) : (State.noteRefused m kind l s).cores = s.cores := by
  refine foldl_cores _ (fun s e => ?_) _ _
  split <;> simp

@[simp] theorem State.sendEpoch_cores (n b : W64) (lines : List (Nat × List W8)) (flags : Nat) (force change : W32) (s : State) : (State.sendEpoch n b lines flags force change s).cores = s.cores := by
  unfold State.sendEpoch
  (try simp) <;> (repeat' split) <;> simp

@[simp] theorem State.sealNow_cores (b : W64) (final : Bool) (s : State) : (State.sealNow b final s).cores = s.cores := by
  unfold State.sealNow
  (try simp) <;> (repeat' split) <;> simp

@[simp] theorem State.sealAtBoundary_cores (b : W64) (final : Bool) (s : State) : (State.sealAtBoundary b final s).cores = s.cores := by
  unfold State.sealAtBoundary
  (try simp) <;> (repeat' split) <;> simp

@[simp] theorem State.epochMissed_cores (s : State) : (State.epochMissed s).cores = s.cores := by
  unfold State.epochMissed
  (try simp) <;> (repeat' split) <;> simp

@[simp] theorem State.yieldHold_cores (s : State) : (State.yieldHold s).cores = s.cores := by
  unfold State.yieldHold
  (try simp) <;> (repeat' split) <;> simp

@[simp] theorem State.epochAcked_cores (epoch since : W64) (s : State) : (State.epochAcked epoch since s).cores = s.cores := by
  unfold State.epochAcked
  (try simp) <;> (repeat' split) <;> simp

@[simp] theorem State.counterCommit_cores (g i b : Nat) (s : State) : (State.counterCommit g i b s).cores = s.cores := by
  unfold State.counterCommit
  (try simp) <;> (repeat' split) <;> simp

@[simp] theorem State.countersCommit_cores (b : Nat) (s : State) : (State.countersCommit b s).cores = s.cores := by
  unfold State.countersCommit
  (try simp) <;> (repeat' split) <;> simp

@[simp] theorem State.anvilStore_cores (a : Nat) (d : List W8) (s : State) : (State.anvilStore a d s).cores = s.cores := by
  unfold State.anvilStore
  (repeat' split) <;> simp

@[simp] theorem State.commit_cores (epoch ends : W64) (swap : Bool) (force change : W32) (s : State) : (State.commit epoch ends swap force change s).cores = s.cores := by
  unfold State.commit
  (try simp) <;> (repeat' split) <;> simp

@[simp] theorem State.triadWake_cores (t : Nat) (s : State) : (State.triadWake t s).cores = s.cores := by
  unfold State.triadWake
  (try simp) <;> (repeat' split) <;> simp

@[simp] theorem State.triadsWake_cores (s : State) : (State.triadsWake s).cores = s.cores := by
  unfold State.triadsWake
  (try simp) <;> (repeat' split) <;> simp

@[simp] theorem State.shadowClear_cores (a : Nat) (v : W32) (s : State) : (State.shadowClear a v s).cores = s.cores := by
  unfold State.shadowClear
  (try simp) <;> (repeat' split) <;> simp

@[simp] theorem State.shadowTake_cores (s : State) : (State.shadowTake s).cores = s.cores := by
  unfold State.shadowTake
  (try simp) <;> (repeat' split) <;> simp

@[simp] theorem State.guardPut_cores (a : Nat) (v : W32) (s : State) : (State.guardPut a v s).cores = s.cores := by
  unfold State.guardPut
  (try simp) <;> (repeat' split) <;> simp

@[simp] theorem State.shadowApply_cores (s : State) : (State.shadowApply s).cores = s.cores := by
  unfold State.shadowApply
  (try simp) <;> (repeat' split) <;> simp

@[simp] theorem State.retryFresh_cores (g i : Nat) (s : State) : (State.retryFresh g i s).cores = s.cores := by
  unfold State.retryFresh
  (try simp) <;> (repeat' split) <;> simp

@[simp] theorem State.stageOn_cores (g i : Nat) (level : Bool) (s : State) : (State.stageOn g i level s).cores = s.cores := by
  unfold State.stageOn
  (try simp) <;> (repeat' split) <;> simp

@[simp] theorem State.stagesOn_cores (levels : BitVec 512) (s : State) : (State.stagesOn levels s).cores = s.cores := by
  unfold State.stagesOn
  (try simp) <;> (repeat' split) <;> simp

@[simp] theorem State.overlapBegins_cores (s : State) : (State.overlapBegins s).cores = s.cores := by
  refine foldl_cores _ (fun s c => ?_) _ _
  dsimp only
  split <;> simp

@[simp] theorem State.shareEnds_cores (s : State) : (State.shareEnds s).cores = s.cores := by
  unfold State.shareEnds
  (try simp) <;> (repeat' split) <;> simp

@[simp] theorem State.trimQueues_cores (t : Nat) (s : State) : (State.trimQueues t s).cores = s.cores := by
  unfold State.trimQueues
  (try simp) <;> (repeat' split) <;> simp

@[simp] theorem State.nowRunning_cores (s : State) : (State.nowRunning s).cores = s.cores := by
  unfold State.nowRunning
  (try simp) <;> (repeat' split) <;> simp

@[simp] theorem State.yieldEnd_cores (code : Nat) (s : State) : (State.yieldEnd code s).cores = s.cores := by
  unfold State.yieldEnd
  (try simp) <;> (repeat' split) <;> simp

@[simp] theorem State.yieldCancel_cores (s : State) : (State.yieldCancel s).cores = s.cores := by
  unfold State.yieldCancel
  (try simp) <;> (repeat' split) <;> simp

@[simp] theorem State.colCtrlWrite_cores (v : W32) (s : State) : (State.colCtrlWrite v s).cores = s.cores := by
  unfold State.colCtrlWrite
  (try simp) <;> (repeat' split) <;> simp

@[simp] theorem State.colWrite_cores (a : Nat) (v : W32) (s : State) : (State.colWrite a v s).cores = s.cores := by
  unfold State.colWrite
  (try simp) <;> (repeat' split) <;> simp

@[simp] theorem State.changeTold_cores (s : State) : (State.changeTold s).cores = s.cores := by
  unfold State.changeTold
  (try simp) <;> (repeat' split) <;> simp

@[simp] theorem State.yieldIn_cores (levels : BitVec 512) (s : State) : (State.yieldIn levels s).cores = s.cores := by
  unfold State.yieldIn
  (try simp) <;> (repeat' split) <;> simp

@[simp] theorem State.mirrorBytes_cores (k : Nat) (d : List W8) (s : State) : (State.mirrorBytes k d s).cores = s.cores := by
  unfold State.mirrorBytes
  (try simp) <;> (repeat' split) <;> simp

theorem State.memStore_cores {x : Option Nat} {user : Bool} {a : Nat} {d : List W8} {s t : State}
    (h : State.memStore x user a d s = some t) : t.cores = s.cores := by
  unfold State.memStore at h
  split at h
  · cases h
  · split at h
    · cases h
      rw [State.mirrorBytes_cores]
      exact foldl_cores _ (fun s c => by simp) _ _
    · cases h

@[simp] theorem State.chanEnter_cores (c st : Nat) (s : State) : (State.chanEnter c st s).cores = s.cores := by
  unfold State.chanEnter
  (try simp) <;> (repeat' split) <;> simp

@[simp] theorem State.dmaCmdErr_cores (c : Nat) (s : State) : (State.dmaCmdErr c s).cores = s.cores := by
  unfold State.dmaCmdErr
  (try simp) <;> (repeat' split) <;> simp

@[simp] theorem State.dmaFault_cores (c code a : Nat) (s : State) : (State.dmaFault c code a s).cores = s.cores := by
  unfold State.dmaFault
  (try simp) <;> (repeat' split) <;> simp

@[simp] theorem State.dmaStart_cores (c : Nat) (s : State) : (State.dmaStart c s).cores = s.cores := by
  unfold State.dmaStart
  (try simp) <;> (repeat' split) <;> simp

@[simp] theorem State.dmaResume_cores (c : Nat) (s : State) : (State.dmaResume c s).cores = s.cores := by
  unfold State.dmaResume
  (try simp) <;> (repeat' split) <;> simp

theorem State.descAccess_cores {s t : State} {c kind n : Nat} (h : State.descAccess s c kind = some (n, t)) :
    t.cores = s.cores := by
  unfold State.descAccess at h
  dsimp only at h
  (repeat' split at h) <;> cases h <;> simp

@[simp] theorem State.dmaRelease_cores (c status : Nat) (s : State) : (State.dmaRelease c status s).1.cores = s.cores := by
  unfold State.dmaRelease
  split
  · rename_i h
    exact State.descAccess_cores h
  · dsimp only
    split
    · rename_i h
      obtain ⟨s1, h1, h2⟩ := Option.bind_eq_some_iff.1 h
      exact (State.memStore_cores h2).trans (State.memStore_cores h1)
    · simp

@[simp] theorem State.dmaComplete_cores (c : Nat) (s : State) : (State.dmaComplete c s).cores = s.cores := by
  unfold State.dmaComplete
  (try simp) <;> (repeat' split) <;> simp

@[simp] theorem State.dmaAbort_cores (c : Nat) (s : State) : (State.dmaAbort c s).cores = s.cores := by
  unfold State.dmaAbort
  (try simp) <;> (repeat' split) <;> simp

@[simp] theorem State.dmaTakes_cores (c a : Nat) (s : State) : (State.dmaTakes c a s).cores = s.cores := by
  unfold State.dmaTakes
  (try simp) <;> (repeat' split) <;> simp

theorem State.burstMove_cores {s t : State} {c src dst k : Nat} {fill : Bool}
    (h : State.burstMove s c src dst k fill = .ok t) : t.cores = s.cores := by
  unfold State.burstMove at h
  dsimp only at h
  (repeat' split at h) <;> cases h
  · rfl
  · rename_i h
    split at h
    · cases h
    · exact State.memStore_cores h

@[simp] theorem State.burstEnds_cores (c m src dst rem k : Nat) (stop : Option (Nat × Nat × Nat)) (s : State) : (State.burstEnds c m src dst rem k stop s).cores = s.cores := by
  unfold State.burstEnds
  (try simp) <;> (repeat' split) <;> simp

@[simp] theorem State.burstRun_cores (c m src dst rem k : Nat) (fill : Bool) (stop : Option (Nat × Nat × Nat)) (s : State) :
    (State.burstRun c m src dst rem k fill stop s).cores = s.cores := by
  unfold State.burstRun
  split
  · simp
  · rename_i h
    simp [State.burstMove_cores h]

@[simp] theorem State.dmaDescWrite_cores (c : Nat) (v : W32) (s : State) : (State.dmaDescWrite c v s).cores = s.cores := by
  unfold State.dmaDescWrite
  (try simp) <;> (repeat' split) <;> simp

@[simp] theorem State.dmaWrite_cores (a : Nat) (v : W32) (s : State) : (State.dmaWrite a v s).cores = s.cores := by
  unfold State.dmaWrite
  (try simp) <;> (repeat' split) <;> simp

@[simp] theorem State.bufPut_cores (w : Nat) (l : List W8) (s : State) : (State.bufPut w l s).cores = s.cores := by
  unfold State.bufPut
  (try simp) <;> (repeat' split) <;> simp

@[simp] theorem State.truCmdErr_cores (s : State) : (State.truCmdErr s).cores = s.cores := by
  unfold State.truCmdErr
  (try simp) <;> (repeat' split) <;> simp

@[simp] theorem State.truEnd_cores (op code : Nat) (s : State) : (State.truEnd op code s).cores = s.cores := by
  unfold State.truEnd
  (try simp) <;> (repeat' split) <;> simp

@[simp] theorem State.truBegin_cores (op code : Nat) (s : State) : (State.truBegin op code s).cores = s.cores := by
  unfold State.truBegin
  (try simp) <;> (repeat' split) <;> simp

@[simp] theorem State.putChunk_cores (area i : Nat) (l : List W8) (s : State) : (State.putChunk area i l s).cores = s.cores := by
  unfold State.putChunk
  (try simp) <;> (repeat' split) <;> simp

@[simp] theorem State.clearArea_cores (area : Nat) (s : State) : (State.clearArea area s).cores = s.cores := by
  unfold State.clearArea
  (try simp) <;> (repeat' split) <;> simp

@[simp] theorem State.putSlotSt_cores (k st : Nat) (s : State) : (State.putSlotSt k st s).cores = s.cores := by
  unfold State.putSlotSt
  (try simp) <;> (repeat' split) <;> simp

@[simp] theorem State.storeError_cores (block : BitVec 24) (k : Nat) (s : State) : (State.storeError block k s).cores = s.cores := by
  unfold State.storeError
  (try simp) <;> (repeat' split) <;> simp

@[simp] theorem State.floorShow_cores (j : Nat) (s : State) : (State.floorShow j s).cores = s.cores := by
  unfold State.floorShow
  (try simp) <;> (repeat' split) <;> simp

@[simp] theorem State.floorAdvance_cores (k : Nat) (s : State) : (State.floorAdvance k s).cores = s.cores := by
  unfold State.floorAdvance
  (try simp) <;> (repeat' split) <;> simp

@[simp] theorem State.makeCurrent_cores (k : Nat) (s : State) : (State.makeCurrent k s).cores = s.cores := (State.floorAdvance_cores _ _).trans ((State.putSlotSt_cores _ _ _).trans (by split <;> first | rfl | simp))

@[simp] theorem State.xferShow_cores (s : State) : (State.xferShow s).cores = s.cores := by
  unfold State.xferShow
  (try simp) <;> (repeat' split) <;> simp

@[simp] theorem State.stagingIdle_cores (s : State) : (State.stagingIdle s).cores = s.cores := by
  unfold State.stagingIdle
  (try simp) <;> (repeat' split) <;> simp

@[simp] theorem State.chunkTake_cores (i : Nat) (relayed : Bool) (l : List W8) (s : State) : (State.chunkTake i relayed l s).cores = s.cores := by
  unfold State.chunkTake
  (try simp) <;> (repeat' split) <;> simp

@[simp] theorem State.finishTake_cores (code : Nat) (s : State) : (State.finishTake code s).cores = s.cores := by
  unfold State.finishTake
  (try simp) <;> (repeat' split) <;> simp

@[simp] theorem State.installBegin_cores (s : State) : (State.installBegin s).cores = s.cores := by
  unfold State.installBegin
  (try simp) <;> (repeat' split) <;> simp

@[simp] theorem State.installEnd_cores (s : State) : (State.installEnd s).cores = s.cores := by
  unfold State.installEnd
  (try simp) <;> (repeat' split) <;> simp

@[simp] theorem State.appInstall_cores (s : State) : (State.appInstall s).cores = s.cores := by
  unfold State.appInstall
  (try simp) <;> (repeat' split) <;> simp

@[simp] theorem State.newChallenge_cores (s : State) : (State.newChallenge s).cores = s.cores := by
  unfold State.newChallenge
  (try simp) <;> (repeat' split) <;> simp

@[simp] theorem State.tokenTake_cores (l : List W8) (s : State) : (State.tokenTake l s).cores = s.cores := by
  unfold State.tokenTake
  (try simp) <;> (repeat' split) <;> simp

@[simp] theorem State.extendWaiting_cores (s : State) : (State.extendWaiting s).cores = s.cores := by
  unfold State.extendWaiting
  (try simp) <;> (repeat' split) <;> simp

@[simp] theorem State.truCommand_cores (f : State → State) (s : State) (h : ∀ s, (f s).cores = s.cores) : (State.truCommand f s).cores = s.cores := by
  unfold State.truCommand
  first | (split <;> simp [h]; done) | (rw [foldl_cores _ (by intro s a; split <;> simp)]; exact h s)

@[simp] theorem State.sealForget_cores (s : State) : (State.sealForget s).cores = s.cores := by
  unfold State.sealForget
  (try simp) <;> (repeat' split) <;> simp

@[simp] theorem State.truQuote_cores (s : State) : (State.truQuote s).cores = s.cores := by
  unfold State.truQuote
  (try simp) <;> (repeat' split) <;> simp

@[simp] theorem State.truChunk_cores (s : State) : (State.truChunk s).cores = s.cores := by
  unfold State.truChunk
  (try simp) <;> (repeat' split) <;> simp

@[simp] theorem State.truFinish_cores (s : State) : (State.truFinish s).cores = s.cores := by
  unfold State.truFinish
  (try simp) <;> (repeat' split) <;> simp

@[simp] theorem State.truInstall_cores (s : State) : (State.truInstall s).cores = s.cores := by
  unfold State.truInstall
  (try simp) <;> (repeat' split) <;> simp

@[simp] theorem State.truDiscard_cores (s : State) : (State.truDiscard s).cores = s.cores := by
  unfold State.truDiscard
  (try simp) <;> (repeat' split) <;> simp

@[simp] theorem State.udpSend_cores (p node : Nat) (m : List W8) (s : State) : (State.udpSend p node m s).cores = s.cores := by
  unfold State.udpSend
  (try simp) <;> (repeat' split) <;> simp

@[simp] theorem State.tunnelSend_cores (node : Nat) (m : List W8) (s : State) : (State.tunnelSend node m s).cores = s.cores := by
  unfold State.tunnelSend
  (try simp) <;> (repeat' split) <;> simp

@[simp] theorem State.relayOut_cores (via : Option (Fin 4)) (node : Nat) (m : List W8) (s : State) : (State.relayOut via node m s).cores = s.cores := by
  unfold State.relayOut
  (try simp) <;> (repeat' split) <;> simp

theorem State.relayIn_cores {via : Option (Fin 4)} {node : W16} {s t : State} (h : State.relayIn via node s = some t) :
    t.cores = s.cores := by
  unfold State.relayIn at h
  split at h
  · split at h
    · cases h
    · cases h
      simp
  · exact State.managed_cores h

@[simp] theorem State.relayAsk_cores (path kind node : Nat) (s : State) : (State.relayAsk path kind node s).cores = s.cores := by
  unfold State.relayAsk
  (try simp) <;> (repeat' split) <;> simp

@[simp] theorem State.relayStart_cores (path kind node : Nat) (s : State) : (State.relayStart path kind node s).cores = s.cores := by
  unfold State.relayStart
  (try simp) <;> (repeat' split) <;> simp

@[simp] theorem State.truRelay_cores (s : State) : (State.truRelay s).cores = s.cores := by
  unfold State.truRelay
  (try simp) <;> (repeat' split) <;> simp

@[simp] theorem State.truToken_cores (s : State) : (State.truToken s).cores = s.cores := by
  unfold State.truToken
  (try simp) <;> (repeat' split) <;> simp

@[simp] theorem State.truExtend_cores (s : State) : (State.truExtend s).cores = s.cores := by
  unfold State.truExtend
  (try simp) <;> (repeat' split) <;> simp

@[simp] theorem State.truCert_cores (s : State) : (State.truCert s).cores = s.cores := by
  unfold State.truCert
  (try simp) <;> (repeat' split) <;> simp

@[simp] theorem State.truSeal_cores (s : State) : (State.truSeal s).cores = s.cores := by
  unfold State.truSeal
  (try simp) <;> (repeat' split) <;> simp

@[simp] theorem State.truInvalid_cores (op : Nat) (s : State) : (State.truInvalid op s).cores = s.cores := by
  unfold State.truInvalid
  (try simp) <;> (repeat' split) <;> simp

@[simp] theorem State.truApply_cores (op : Nat) (arg : W32) (s : State) : (State.truApply op arg s).cores = s.cores := by
  unfold State.truApply
  (try simp) <;> (repeat' split) <;> simp

@[simp] theorem State.truCmdWrite_cores (v : W32) (s : State) : (State.truCmdWrite v s).cores = s.cores := by
  unfold State.truCmdWrite
  (try simp) <;> (repeat' split) <;> simp

@[simp] theorem State.relayFragments_cores (via : Option (Fin 4)) (node area i : Nat) (s : State) : (State.relayFragments via node area i s).cores = s.cores := by
  unfold State.relayFragments
  (try simp) <;> (repeat' split) <;> simp

@[simp] theorem State.relayRefuse_cores (via : Option (Fin 4)) (node code : Nat) (s : State) : (State.relayRefuse via node code s).cores = s.cores := by
  unfold State.relayRefuse
  (try simp) <;> (repeat' split) <;> simp

@[simp] theorem State.serveNext_cores (err : Option (BitVec 24)) (s : State) : (State.serveNext err s).cores = s.cores := by
  unfold State.serveNext
  (try simp) <;> (repeat' split) <;> simp

@[simp] theorem State.relayEnd_cores (code : Nat) (s : State) : (State.relayEnd code s).cores = s.cores := by
  unfold State.relayEnd
  (try simp) <;> (repeat' split) <;> simp

@[simp] theorem State.appRefused_cores (index code : Nat) (s : State) : (State.appRefused index code s).cores = s.cores := by
  unfold State.appRefused
  (try simp) <;> (repeat' split) <;> simp

@[simp] theorem State.healthConfirm_cores (v : W32) (s : State) : (State.healthConfirm v s).cores = s.cores := by
  unfold State.healthConfirm
  (try simp) <;> (repeat' split) <;> simp

@[simp] theorem State.toOpsec_cores (n : Nat) (s : State) : (State.toOpsec n s).cores = s.cores := by
  unfold State.toOpsec
  (try simp) <;> (repeat' split) <;> simp

@[simp] theorem State.chalRead_cores (s : State) : (State.chalRead s).cores = s.cores := by
  unfold State.chalRead
  (try simp) <;> (repeat' split) <;> simp

@[simp] theorem State.truWrite_cores (a : Nat) (v : W32) (s : State) : (State.truWrite a v s).cores = s.cores := by
  unfold State.truWrite
  (try simp) <;> (repeat' split) <;> simp

@[simp] theorem State.tuyereFirst_cores (code : W8) (s : State) : (State.tuyereFirst code s).cores = s.cores := by
  unfold State.tuyereFirst
  (try simp) <;> (repeat' split) <;> simp

@[simp] theorem State.tuyereSelect_cores (code : W8) (s : State) : (State.tuyereSelect code s).cores = s.cores := by
  unfold State.tuyereSelect
  (try simp) <;> (repeat' split) <;> simp

@[simp] theorem State.tuyereBlocked_cores (s : State) : (State.tuyereBlocked s).cores = s.cores := by
  unfold State.tuyereBlocked
  (try simp) <;> (repeat' split) <;> simp

@[simp] theorem State.setBooks_cores (a b : Nat) (x : Crossing) (s : State) : (State.setBooks a b x s).cores = s.cores := by
  unfold State.setBooks
  (try simp) <;> (repeat' split) <;> simp

@[simp] theorem State.startPut_cores (o v : Nat) (s : State) : (State.startPut o v s).cores = s.cores := by
  unfold State.startPut
  (try simp) <;> (repeat' split) <;> simp

@[simp] theorem State.startRecord_cores (s : State) : (State.startRecord s).cores = s.cores := by
  unfold State.startRecord
  (try simp) <;> (repeat' split) <;> simp

@[simp] theorem State.spareTestFailed_cores (i : Nat) (s : State) : (State.spareTestFailed i s).cores = s.cores := by
  unfold State.spareTestFailed
  dsimp only
  (repeat' split) <;> simp

@[simp] theorem State.startStops_cores (s : State) : (State.startStops s).cores = s.cores := by
  unfold State.startStops
  (try simp) <;> (repeat' split) <;> simp

@[simp] theorem State.voterRetest_cores (t copy : Nat) (fails : Bool) (s : State) : (State.voterRetest t copy fails s).cores = s.cores := by
  unfold State.voterRetest
  (try simp) <;> (repeat' split) <;> simp

@[simp] theorem State.trialFailed_cores (k : Nat) (s : State) : (State.trialFailed k s).cores = s.cores := by
  unfold State.trialFailed
  (try simp) <;> (repeat' split) <;> simp

theorem State.choose_cores {s t : State} {kind : Nat} {bad : List Nat} {r : Option Nat} (h : State.choose kind bad s = (r, t)) :
    t.cores = s.cores := by
  unfold State.choose at h
  dsimp only at h
  (repeat' split at h) <;> (obtain ⟨-, rfl⟩ := Prod.mk.inj h) <;> simp

@[simp] theorem State.runSlot_cores (k : Nat) (s : State) : (State.runSlot k s).cores = s.cores := by
  unfold State.runSlot
  (try simp) <;> (repeat' split) <;> simp

@[simp] theorem State.recoverAsk_cores (s : State) : (State.recoverAsk s).cores = s.cores := by
  unfold State.recoverAsk
  (try simp) <;> (repeat' split) <;> simp

@[simp] theorem State.startBad_cores (bad : Option (Fin 6 × BitVec 24)) (s : State) : (State.startBad bad s).cores = s.cores := by
  unfold State.startBad
  (repeat' split) <;> simp

@[simp] theorem State.sparesRest_cores (s : State) : (State.sparesRest s).cores = s.cores := by
  unfold State.sparesRest
  (try simp) <;> (repeat' split) <;> simp

@[simp] theorem State.claimProbe_cores (s : State) : (State.claimProbe s).cores = s.cores := by
  unfold State.claimProbe
  (try simp) <;> (repeat' split) <;> simp

@[simp] theorem State.decideRole_cores (peerRun peerChange : Bool) (s : State) : (State.decideRole peerRun peerChange s).cores = s.cores := by
  unfold State.decideRole
  (try simp) <;> (repeat' split) <;> simp

@[simp] theorem State.restoreLines_cores (r : Retain) (s : State) : (State.restoreLines r s).cores = s.cores := by
  unfold State.restoreLines
  (try simp) <;> (repeat' split) <;> simp

@[simp] theorem State.loadImage_cores (image : List (W32 × List W8)) (s : State) : (State.loadImage image s).cores = s.cores := by
  refine foldl_cores _ (fun s e => ?_) _ _
  cases hs : s.memStore none false e.1.toNat e.2 with
  | none => rfl
  | some s' => exact State.memStore_cores hs

@[simp] theorem State.inputsOn_cores (levels : BitVec 512) (s : State) : (State.inputsOn levels s).cores = s.cores := by
  unfold State.inputsOn
  (try simp) <;> (repeat' split) <;> simp

@[simp] theorem State.runApp_cores (s : State) : (State.runApp s).cores = s.cores := by
  unfold State.runApp
  (try simp) <;> (repeat' split) <;> simp

@[simp] theorem State.poolLoses_cores (pool elem : Nat) (s : State) : (State.poolLoses pool elem s).cores = s.cores := by
  unfold State.poolLoses
  (try simp) <;> (repeat' split) <;> simp

@[simp] theorem State.coreTest_cores (core : Nat) (s : State) : (State.coreTest core s).cores = s.cores := by
  unfold State.coreTest
  (try simp) <;> (repeat' split) <;> simp

@[simp] theorem State.coreTested_cores (core : Nat) (s : State) : (State.coreTested core s).cores = s.cores := by
  unfold State.coreTested
  (repeat' split) <;> simp

@[simp] theorem State.shadowPut_cores (a : Nat) (v : W32) (s : State) : (State.shadowPut a v s).cores = s.cores := by
  unfold State.shadowPut
  (try simp) <;> (repeat' split) <;> simp

@[simp] theorem State.copyGuardReg_cores (a : Nat) (v : W32) (s : State) : (State.copyGuardReg a v s).cores = s.cores := by
  unfold State.copyGuardReg
  (try simp) <;> (repeat' split) <;> simp

@[simp] theorem State.copyReg_cores (a : Nat) (v : W32) (s : State) : (State.copyReg a v s).cores = s.cores := by
  unfold State.copyReg
  (try simp) <;> (repeat' split) <;> simp

@[simp] theorem State.copyItem_cores (i : CopyItem) (s : State) : (State.copyItem i s).cores = s.cores := by
  unfold State.copyItem
  (try simp) <;> (repeat' split) <;> simp

@[simp] theorem State.sendCopy_cores (s : State) : (State.sendCopy s).cores = s.cores := by
  unfold State.sendCopy
  (try simp) <;> (repeat' split) <;> simp

@[simp] theorem State.copyArrives_cores (items : List CopyItem) (kib : W16) (s : State) : (State.copyArrives items kib s).cores = s.cores := by
  unfold State.copyArrives
  (try simp) <;> (repeat' split) <;> simp

@[simp] theorem State.mirrorBad_cores (s : State) : (State.mirrorBad s).cores = s.cores := by
  unfold State.mirrorBad
  (try simp) <;> (repeat' split) <;> simp

@[simp] theorem State.bankArrives_cores (a : Nat) (d : List W8) (s : State) : (State.bankArrives a d s).cores = s.cores := by
  unfold State.bankArrives
  split
  · split
    · simp
    · split
      · rename_i h
        exact State.memStore_cores h
      · simp
  · rfl

@[simp] theorem State.seekApp_cores (before s : State) : (State.seekApp before s).cores = s.cores := by
  unfold State.seekApp
  (try simp) <;> (repeat' split) <;> simp

@[simp] theorem State.regRead_cores (a : Nat) (s : State) : (State.regRead a s).cores = s.cores := by
  unfold State.regRead
  (try simp) <;> (repeat' split) <;> simp

@[simp] theorem State.ticWrite_cores (a : Nat) (v : W32) (s : State) : (State.ticWrite a v s).cores = s.cores := by
  unfold State.ticWrite
  (try simp) <;> (repeat' split) <;> simp

@[simp] theorem State.fchWrite_cores (a : Nat) (v : W32) (s : State) : (State.fchWrite a v s).cores = s.cores := by
  unfold State.fchWrite
  (try simp) <;> (repeat' split) <;> simp

@[simp] theorem State.mirrorWrite_cores (a : Nat) (v : W32) (before s : State) : (State.mirrorWrite a v before s).cores = s.cores := by
  unfold State.mirrorWrite
  (try simp) <;> (repeat' split) <;> simp

@[simp] theorem State.busRead_cores (a : Nat) (s : State) : (State.busRead a s).cores = s.cores := by
  unfold State.busRead
  (try simp) <;> (repeat' split) <;> simp

@[simp] theorem State.configWrite_cores (a : Nat) (v : W32) (f : State → State) (s : State) (h : ∀ s, (f s).cores = s.cores) : (State.configWrite a v f s).cores = s.cores := by
  unfold State.configWrite
  refine State.atBlock_cores _ _ _ (fun s => ?_)
  simp [h]

@[simp] theorem State.accessCost_cores (x a : Nat) (store : Bool) (s : State) :
    (State.accessCost x a store s).2.cores = s.cores := by
  unfold State.accessCost
  dsimp only
  (repeat' split) <;> simp

@[simp] theorem State.lateBy_cores (x a n : Nat) (s : State) : (State.lateBy x a n s).2.cores = s.cores := by
  unfold State.lateBy
  (repeat' split) <;> simp

@[simp] theorem State.putFrame_cores (x h o : Nat) (v : W32) (s : State) : (State.putFrame x h o v s).cores = s.cores := by
  unfold State.putFrame
  (try simp) <;> (repeat' split) <;> simp

@[simp] theorem State.saveFrame_cores (x : Nat) (c : Ctx) (s : State) : (State.saveFrame x c s).cores = s.cores := by
  unfold State.saveFrame
  (try simp) <;> (repeat' split) <;> simp

@[simp] theorem State.sourceEnded_cores (n : Nat) (s : State) : (State.sourceEnded n s).cores = s.cores := by
  unfold State.sourceEnded
  (try simp) <;> (repeat' split) <;> simp

@[simp] theorem State.cleanCost_cores (x l : Nat) (s : State) : (State.cleanCost x l s).2.cores = s.cores := by
  unfold State.cleanCost
  split <;> simp

@[simp] theorem State.startSettled_cores (s : State) : (State.startSettled s).cores = s.cores := by
  unfold State.startSettled
  (try simp) <;> (repeat' split) <;> simp

@[simp] theorem State.verified_cores (v : Verified) (s : State) : (State.verified v s).cores = s.cores := by
  unfold State.verified
  (try simp) <;> (repeat' split) <;> simp

end Sys2Proof.Machine
end

