-- ==== Sys2Proof/Laws/MemFrame.lean ====
section
/-!
SUPPORT. Which operations leave memory as it is: one lemma per operation.
-/
namespace Sys2Proof.Machine

@[simp] theorem ite_mem (c : Prop) [Decidable c] (a b : State) : (if c then a else b).mem = if c then a.mem else b.mem :=
  apply_ite State.mem c a b

@[simp] theorem foldl_mem {α : Type} (g : State → α → State) (h : ∀ s a, (g s a).mem = s.mem) (l : List α) (s : State) :
    (l.foldl g s).mem = s.mem := by
  induction l generalizing s with
  | nil => rfl
  | cons a l ih => simp [ih, h]

@[simp] theorem State.wr_mem (a : Nat) (v : W32) (s : State) : (State.wr a v s).mem = s.mem := by
  unfold State.wr
  (try simp) <;> (repeat' split) <;> simp

@[simp] theorem State.wrF_mem (a lo n v : Nat) (s : State) : (State.wrF a lo n v s).mem = s.mem := by
  unfold State.wrF
  (try simp) <;> (repeat' split) <;> simp

@[simp] theorem State.wrB_mem (a i : Nat) (b : Bool) (s : State) : (State.wrB a i b s).mem = s.mem := by
  unfold State.wrB
  (try simp) <;> (repeat' split) <;> simp

@[simp] theorem State.orR_mem (a : Nat) (m : W32) (s : State) : (State.orR a m s).mem = s.mem := by
  unfold State.orR
  (try simp) <;> (repeat' split) <;> simp

@[simp] theorem State.incF_mem (a lo n : Nat) (s : State) : (State.incF a lo n s).mem = s.mem := by
  unfold State.incF
  (try simp) <;> (repeat' split) <;> simp

@[simp] theorem State.wr64_mem (lo hi : Nat) (v : W64) (s : State) : (State.wr64 lo hi v s).mem = s.mem := by
  unfold State.wr64
  (try simp) <;> (repeat' split) <;> simp

@[simp] theorem State.okResp_mem (v : W64) (s : State) : (State.okResp v s).mem = s.mem := by
  unfold State.okResp
  (try simp) <;> (repeat' split) <;> simp

@[simp] theorem State.busErr_mem (s : State) : (State.busErr s).mem = s.mem := by
  unfold State.busErr
  (try simp) <;> (repeat' split) <;> simp

@[simp] theorem State.drawn_mem (s : State) : (State.drawn s).mem = s.mem := by
  unfold State.drawn
  (try simp) <;> (repeat' split) <;> simp

@[simp] theorem State.setCtx_mem (x : Nat) (c : Ctx) (s : State) : (State.setCtx x c s).mem = s.mem := by
  unfold State.setCtx
  (try simp) <;> (repeat' split) <;> simp

@[simp] theorem State.setTriad_mem (t : Nat) (v : TriadSt) (s : State) : (State.setTriad t v s).mem = s.mem := by
  unfold State.setTriad
  (try simp) <;> (repeat' split) <;> simp

@[simp] theorem State.setChan_mem (c : Nat) (v : Chan) (s : State) : (State.setChan c v s).mem = s.mem := by
  unfold State.setChan
  (try simp) <;> (repeat' split) <;> simp

@[simp] theorem State.emit_mem (m : Sent) (s : State) : (State.emit m s).mem = s.mem := by
  unfold State.emit
  (try simp) <;> (repeat' split) <;> simp

@[simp] theorem State.setPair_mem (p : Pair) (s : State) : (State.setPair p s).mem = s.mem := by
  unfold State.setPair
  (try simp) <;> (repeat' split) <;> simp

@[simp] theorem State.setAnvil_mem (p : Anvil) (s : State) : (State.setAnvil p s).mem = s.mem := by
  unfold State.setAnvil
  (try simp) <;> (repeat' split) <;> simp

@[simp] theorem State.setPower_mem (p : Power) (s : State) : (State.setPower p s).mem = s.mem := by
  unfold State.setPower
  (try simp) <;> (repeat' split) <;> simp

@[simp] theorem State.setTime_mem (p : TimeBase) (s : State) : (State.setTime p s).mem = s.mem := by
  unfold State.setTime
  (try simp) <;> (repeat' split) <;> simp

@[simp] theorem State.setRecorder_mem (p : Recorder) (s : State) : (State.setRecorder p s).mem = s.mem := by
  unfold State.setRecorder
  (try simp) <;> (repeat' split) <;> simp

@[simp] theorem State.setLedger_mem (p : Ledger) (s : State) : (State.setLedger p s).mem = s.mem := by
  unfold State.setLedger
  (try simp) <;> (repeat' split) <;> simp

@[simp] theorem State.markLine_mem (line : Nat) (s : State) : (State.markLine line s).mem = s.mem := by
  unfold State.markLine
  (try simp) <;> (repeat' split) <;> simp

@[simp] theorem State.markDirty_mem (a n : Nat) (s : State) : (State.markDirty a n s).mem = s.mem := by
  unfold State.markDirty
  (try simp) <;> (repeat' split) <;> simp

@[simp] theorem State.send_mem (f : LinkFrame) (s : State) : (State.send f s).mem = s.mem := by
  unfold State.send
  (try simp) <;> (repeat' split) <;> simp

@[simp] theorem State.again_mem (e : Flight) (s : State) : (State.again e s).mem = s.mem := by
  unfold State.again
  (try simp) <;> (repeat' split) <;> simp

@[simp] theorem State.heard_mem (s : State) : (State.heard s).mem = s.mem := by
  unfold State.heard
  (try simp) <;> (repeat' split) <;> simp

@[simp] theorem State.markMissed_mem (n : Nat) (s : State) : (State.markMissed n s).mem = s.mem := by
  unfold State.markMissed
  (try simp) <;> (repeat' split) <;> simp

@[simp] theorem State.pend_mem (n : Nat) (s : State) : (State.pend n s).mem = s.mem := by
  unfold State.pend
  (try simp) <;> (repeat' split) <;> simp

@[simp] theorem State.fire5_mem (s : State) : (State.fire5 s).mem = s.mem := by
  unfold State.fire5
  (try simp) <;> (repeat' split) <;> simp

@[simp] theorem State.fire_mem (n : Nat) (s : State) : (State.fire n s).mem = s.mem := by
  unfold State.fire
  (try simp) <;> (repeat' split) <;> simp

@[simp] theorem State.raising_mem (ns : List Nat) (f : State → State) (s : State) (h : ∀ s, (f s).mem = s.mem) : (State.raising ns f s).mem = s.mem := by
  unfold State.raising
  first | (split <;> simp [h]; done) | (rw [foldl_mem _ (by intro s a; split <;> simp)]; exact h s)

@[simp] theorem State.wrL_mem (a : Nat) (v : W32) (s : State) : (State.wrL a v s).mem = s.mem := by
  unfold State.wrL
  (try simp) <;> (repeat' split) <;> simp

@[simp] theorem State.setEvt_mem (a i : Nat) (s : State) : (State.setEvt a i s).mem = s.mem := by
  unfold State.setEvt
  (try simp) <;> (repeat' split) <;> simp

@[simp] theorem State.setEvts_mem (a : Nat) (m : W32) (s : State) : (State.setEvts a m s).mem = s.mem := by
  unfold State.setEvts
  (try simp) <;> (repeat' split) <;> simp

@[simp] theorem State.record_mem (code : Nat) (data : List W8) (s : State) : (State.record code data s).mem = s.mem := by
  unfold State.record
  (try simp) <;> (repeat' split) <;> simp

@[simp] theorem State.setTrust_mem (v : Trust) (s : State) : (State.setTrust v s).mem = s.mem := by
  unfold State.setTrust
  (try simp) <;> (repeat' split) <;> simp

@[simp] theorem State.setStart_mem (v : Start) (s : State) : (State.setStart v s).mem = s.mem := by
  unfold State.setStart
  (try simp) <;> (repeat' split) <;> simp

@[simp] theorem State.extendNow_mem (i : Nat) (d : List W8) (s : State) : (State.extendNow i d s).mem = s.mem := by
  unfold State.extendNow
  (try simp) <;> (repeat' split) <;> simp

@[simp] theorem State.extend_mem (i : Nat) (d : List W8) (s : State) : (State.extend i d s).mem = s.mem := by
  unfold State.extend
  (try simp) <;> (repeat' split) <;> simp

@[simp] theorem State.trialStays_mem (s : State) : (State.trialStays s).mem = s.mem := by
  unfold State.trialStays
  (try simp) <;> (repeat' split) <;> simp

@[simp] theorem State.trialYieldOff_mem (s : State) : (State.trialYieldOff s).mem = s.mem := by
  unfold State.trialYieldOff
  (try simp) <;> (repeat' split) <;> simp

@[simp] theorem State.setPort_mem (k : Nat) (v : Port) (s : State) : (State.setPort k v s).mem = s.mem := by
  unfold State.setPort
  (try simp) <;> (repeat' split) <;> simp

@[simp] theorem State.stbEvt_mem (k b : Nat) (s : State) : (State.stbEvt k b s).mem = s.mem := by
  unfold State.stbEvt
  (try simp) <;> (repeat' split) <;> simp

@[simp] theorem State.portNext_mem (k : Nat) (s : State) : (State.portNext k s).mem = s.mem := by
  unfold State.portNext
  (try simp) <;> (repeat' split) <;> simp

@[simp] theorem State.portQueue_mem (k : Nat) (f : TxFrame) (s : State) : (State.portQueue k f s).mem = s.mem := by
  unfold State.portQueue
  (try simp) <;> (repeat' split) <;> simp

@[simp] theorem State.acEnd_mem (k code : Nat) (s : State) : (State.acEnd k code s).mem = s.mem := by
  unfold State.acEnd
  (try simp) <;> (repeat' split) <;> simp

@[simp] theorem State.acVoid_mem (k : Nat) (s : State) : (State.acVoid k s).mem = s.mem := by
  unfold State.acVoid
  (try simp) <;> (repeat' split) <;> simp

@[simp] theorem State.portEmptied_mem (k : Nat) (s : State) : (State.portEmptied k s).mem = s.mem := by
  unfold State.portEmptied
  (try simp) <;> (repeat' split) <;> simp

@[simp] theorem State.portDrop_mem (k : Nat) (s : State) : (State.portDrop k s).mem = s.mem := by
  unfold State.portDrop
  (try simp) <;> (repeat' split) <;> simp

@[simp] theorem State.portStopped_mem (k : Nat) (s : State) : (State.portStopped k s).mem = s.mem := by
  unfold State.portStopped
  (try simp) <;> (repeat' split) <;> simp

@[simp] theorem State.portSettle_mem (k : Nat) (s : State) : (State.portSettle k s).mem = s.mem := by
  unfold State.portSettle
  (try simp) <;> (repeat' split) <;> simp

@[simp] theorem State.portPassive_mem (agreed : Bool) (k : Nat) (s : State) : (State.portPassive agreed k s).mem = s.mem := by
  unfold State.portPassive
  (try simp) <;> (repeat' split) <;> simp

@[simp] theorem State.portsPassive_mem (agreed : Bool) (s : State) : (State.portsPassive agreed s).mem = s.mem := by
  unfold State.portsPassive
  (try simp) <;> (repeat' split) <;> simp

@[simp] theorem State.rec02_mem (ev : Nat) (s : State) : (State.rec02 ev s).mem = s.mem := by
  unfold State.rec02
  (try simp) <;> (repeat' split) <;> simp

@[simp] theorem State.rec02Age_mem (ns : Nat) (s : State) : (State.rec02Age ns s).mem = s.mem := by
  unfold State.rec02Age
  (try simp) <;> (repeat' split) <;> simp

@[simp] theorem State.rec03_mem (t ev : Nat) (extra : List W8) (s : State) : (State.rec03 t ev extra s).mem = s.mem := by
  unfold State.rec03
  (try simp) <;> (repeat' split) <;> simp

@[simp] theorem State.rec04_mem (ev : Nat) (s : State) : (State.rec04 ev s).mem = s.mem := by
  unfold State.rec04
  (try simp) <;> (repeat' split) <;> simp

@[simp] theorem State.rec05_mem (ev : Nat) (extra : List W8) (s : State) : (State.rec05 ev extra s).mem = s.mem := by
  unfold State.rec05
  (try simp) <;> (repeat' split) <;> simp

@[simp] theorem State.rec06_mem (g i ev : Nat) (s : State) : (State.rec06 g i ev s).mem = s.mem := by
  unfold State.rec06
  (try simp) <;> (repeat' split) <;> simp

@[simp] theorem State.rec07_mem (a port stn ev : Nat) (s : State) : (State.rec07 a port stn ev s).mem = s.mem := by
  unfold State.rec07
  (try simp) <;> (repeat' split) <;> simp

@[simp] theorem State.rec08_mem (ev : Nat) (data : List W8) (s : State) : (State.rec08 ev data s).mem = s.mem := by
  unfold State.rec08
  (try simp) <;> (repeat' split) <;> simp

@[simp] theorem State.rec09_mem (ev : Nat) (extra : List W8) (s : State) : (State.rec09 ev extra s).mem = s.mem := by
  unfold State.rec09
  (try simp) <;> (repeat' split) <;> simp

@[simp] theorem State.rec0A_mem (ev pool : Nat) (s : State) : (State.rec0A ev pool s).mem = s.mem := by
  unfold State.rec0A
  (try simp) <;> (repeat' split) <;> simp

@[simp] theorem State.ptFail_mem (test elem pool : Nat) (s : State) : (State.ptFail test elem pool s).mem = s.mem := by
  unfold State.ptFail
  (try simp) <;> (repeat' split) <;> simp

@[simp] theorem State.recMasked_mem (cls : Nat) (data : List W8) (s : State) : (State.recMasked cls data s).mem = s.mem := by
  unfold State.recMasked
  (try simp) <;> (repeat' split) <;> simp

@[simp] theorem State.rec0B_mem (ev : Nat) (s : State) : (State.rec0B ev s).mem = s.mem := by
  unfold State.rec0B
  (try simp) <;> (repeat' split) <;> simp

@[simp] theorem State.rec0C_mem (ev line : Nat) (tick : W64) (s : State) : (State.rec0C ev line tick s).mem = s.mem := by
  unfold State.rec0C
  (try simp) <;> (repeat' split) <;> simp

@[simp] theorem State.chgEnter_mem (st code : Nat) (s : State) : (State.chgEnter st code s).mem = s.mem := by
  unfold State.chgEnter
  (try simp) <;> (repeat' split) <;> simp

@[simp] theorem State.chgAbandon_mem (code : Nat) (s : State) : (State.chgAbandon code s).mem = s.mem := by
  unfold State.chgAbandon
  (try simp) <;> (repeat' split) <;> simp

@[simp] theorem State.chgTriadReset_mem (t : Nat) (s : State) : (State.chgTriadReset t s).mem = s.mem := by
  unfold State.chgTriadReset
  (try simp) <;> (repeat' split) <;> simp

@[simp] theorem State.atTime_mem (t : W64) (s : State) : (State.atTime t s).mem = s.mem := by
  unfold State.atTime
  (try simp) <;> (repeat' split) <;> simp

@[simp] theorem State.forecastPool_mem (s : State) (p : Nat) : (State.forecastPool s p).mem = s.mem := by
  unfold State.forecastPool
  (try simp) <;> (repeat' split) <;> simp

@[simp] theorem State.ledgerEntry_mem (pool sub action cause : Nat) (old new : W32) (recSeq take : Nat) (s : State) : (State.ledgerEntry pool sub action cause old new recSeq take s).mem = s.mem := by
  unfold State.ledgerEntry
  (try simp) <;> (repeat' split) <;> simp

@[simp] theorem State.setRole_mem (r : Role) (s : State) : (State.setRole r s).mem = s.mem := by
  unfold State.setRole
  (try simp) <;> (repeat' split) <;> simp

@[simp] theorem State.setGroup_mem (g : Nat) (v : Group) (s : State) : (State.setGroup g v s).mem = s.mem := by
  unfold State.setGroup
  (try simp) <;> (repeat' split) <;> simp

@[simp] theorem State.hartLost_mem (g : Nat) (s : State) : (State.hartLost g s).mem = s.mem := by
  unfold State.hartLost
  (try simp) <;> (repeat' split) <;> simp

@[simp] theorem State.hartDrop_mem (s : State) : (State.hartDrop s).mem = s.mem := by
  unfold State.hartDrop
  (try simp) <;> (repeat' split) <;> simp

@[simp] theorem State.release_mem (s : State) : (State.release s).mem = s.mem := by
  unfold State.release
  (try simp) <;> (repeat' split) <;> simp

@[simp] theorem State.sourceClaim_mem (s : State) : (State.sourceClaim s).mem = s.mem := by
  unfold State.sourceClaim
  (try simp) <;> (repeat' split) <;> simp

@[simp] theorem State.leaveCode_mem (n : Nat) (s : State) : (State.leaveCode n s).mem = s.mem := by
  unfold State.leaveCode
  (try simp) <;> (repeat' split) <;> simp

@[simp] theorem State.yieldErr_mem (n : Nat) (s : State) : (State.yieldErr n s).mem = s.mem := by
  unfold State.yieldErr
  (try simp) <;> (repeat' split) <;> simp

@[simp] theorem State.resign_mem (code : Nat) (s : State) : (State.resign code s).mem = s.mem := by
  unfold State.resign
  (try simp) <;> (repeat' split) <;> simp

@[simp] theorem State.outOfService_mem (s : State) : (State.outOfService s).mem = s.mem := by
  unfold State.outOfService
  (try simp) <;> (repeat' split) <;> simp

@[simp] theorem State.affectsControl_mem (s : State) : (State.affectsControl s).mem = s.mem := by
  unfold State.affectsControl
  (try simp) <;> (repeat' split) <;> simp

@[simp] theorem State.raisePairAlarm_mem (s : State) : (State.raisePairAlarm s).mem = s.mem := by
  unfold State.raisePairAlarm
  (try simp) <;> (repeat' split) <;> simp

@[simp] theorem State.setBackup_mem (b : Backup) (s : State) : (State.setBackup b s).mem = s.mem := by
  unfold State.setBackup
  (try simp) <;> (repeat' split) <;> simp

@[simp] theorem State.rtcRun_mem (n : Nat) (s : State) : (State.rtcRun n s).mem = s.mem := by
  unfold State.rtcRun
  (try simp) <;> (repeat' split) <;> simp

@[simp] theorem State.saveCounters_mem (s : State) : (State.saveCounters s).mem = s.mem := by
  unfold State.saveCounters
  (try simp) <;> (repeat' split) <;> simp

@[simp] theorem State.bkdCmdErr_mem (s : State) : (State.bkdCmdErr s).mem = s.mem := by
  unfold State.bkdCmdErr
  (try simp) <;> (repeat' split) <;> simp

@[simp] theorem State.bkdReset_mem (s : State) : (State.bkdReset s).mem = s.mem := by
  unfold State.bkdReset
  (try simp) <;> (repeat' split) <;> simp

@[simp] theorem State.rtcCapture_mem (s : State) : (State.rtcCapture s).mem = s.mem := by
  unfold State.rtcCapture
  (try simp) <;> (repeat' split) <;> simp

@[simp] theorem State.opsecCapture_mem (s : State) : (State.opsecCapture s).mem = s.mem := by
  unfold State.opsecCapture
  (try simp) <;> (repeat' split) <;> simp

@[simp] theorem State.bkdBreset_mem (s : State) : (State.bkdBreset s).mem = s.mem := by
  unfold State.bkdBreset
  (try simp) <;> (repeat' split) <;> simp

@[simp] theorem State.rtcSet_mem (s : State) : (State.rtcSet s).mem = s.mem := by
  unfold State.rtcSet
  (try simp) <;> (repeat' split) <;> simp

@[simp] theorem State.bkdStore_mem (s : State) : (State.bkdStore s).mem = s.mem := by
  unfold State.bkdStore
  (try simp) <;> (repeat' split) <;> simp

@[simp] theorem State.bkdUnstore_mem (s : State) : (State.bkdUnstore s).mem = s.mem := by
  unfold State.bkdUnstore
  (try simp) <;> (repeat' split) <;> simp

@[simp] theorem State.bkdTransfer_mem (s : State) : (State.bkdTransfer s).mem = s.mem := by
  unfold State.bkdTransfer
  (try simp) <;> (repeat' split) <;> simp

@[simp] theorem State.bkdGuarded_mem (f : State → State) (s : State) (h : ∀ s, (f s).mem = s.mem) : (State.bkdGuarded f s).mem = s.mem := by
  unfold State.bkdGuarded
  first | (split <;> simp [h]; done) | (rw [foldl_mem _ (by intro s a; split <;> simp)]; exact h s)

@[simp] theorem State.bkdCtrlWrite_mem (v : W32) (s : State) : (State.bkdCtrlWrite v s).mem = s.mem := by
  unfold State.bkdCtrlWrite
  (try simp) <;> (repeat' split) <;> simp

@[simp] theorem State.bkdWrite_mem (a : Nat) (v : W32) (s : State) : (State.bkdWrite a v s).mem = s.mem := by
  unfold State.bkdWrite
  (try simp) <;> (repeat' split) <;> simp

@[simp] theorem State.domainStop_mem (s : State) : (State.domainStop s).mem = s.mem := by
  unfold State.domainStop
  (try simp) <;> (repeat' split) <;> simp

@[simp] theorem State.writeRec_mem (r : Rec) (s : State) : (State.writeRec r s).mem = s.mem := by
  unfold State.writeRec
  (try simp) <;> (repeat' split) <;> simp

@[simp] theorem State.writeHead_mem (s : State) : (State.writeHead s).mem = s.mem := by
  unfold State.writeHead
  (try simp) <;> (repeat' split) <;> simp

@[simp] theorem State.writeAll_mem (l : List Rec) (s : State) : (State.writeAll l s).mem = s.mem := by
  induction l generalizing s with
  | nil => rfl
  | cons r l ih => simp [State.writeAll, ih]

@[simp] theorem State.fillReserved_mem (s : State) : (State.fillReserved s).mem = s.mem := by
  unfold State.fillReserved
  (try simp) <;> (repeat' split) <;> simp

@[simp] theorem State.filled_mem (s : State) : (State.filled s).mem = s.mem := by
  unfold State.filled
  (try simp) <;> (repeat' split) <;> simp

@[simp] theorem State.flush_mem (s : State) : (State.flush s).mem = s.mem := by
  unfold State.flush
  (try simp) <;> (repeat' split) <;> simp

@[simp] theorem State.powerLossRecord_mem (paMv pbMv lost : Nat) (s : State) : (State.powerLossRecord paMv pbMv lost s).mem = s.mem := by
  unfold State.powerLossRecord
  dsimp only
  (repeat' split) <;> simp

@[simp] theorem State.swWrite_mem (s : State) : (State.swWrite s).mem = s.mem := by
  unfold State.swWrite
  (try simp) <;> (repeat' split) <;> simp

@[simp] theorem State.clearScree_mem (signer : Nat) (s : State) : (State.clearScree signer s).mem = s.mem := by
  unfold State.clearScree
  dsimp only
  (repeat' split) <;> simp

@[simp] theorem State.window_mem (c : Nat) (bytes : List W8) (s : State) : (State.window c bytes s).mem = s.mem := by
  unfold State.window
  (try simp) <;> (repeat' split) <;> simp

@[simp] theorem State.curLoad_mem (c : Nat) (s : State) : (State.curLoad c s).mem = s.mem := by
  unfold State.curLoad
  (try simp) <;> (repeat' split) <;> simp

@[simp] theorem State.curLoWrite_mem (c : Nat) (v : W32) (s : State) : (State.curLoWrite c v s).mem = s.mem := by
  unfold State.curLoWrite
  (try simp) <;> (repeat' split) <;> simp

@[simp] theorem State.curTo_mem (c n : Nat) (s : State) : (State.curTo c n s).mem = s.mem := by
  unfold State.curTo
  (try simp) <;> (repeat' split) <;> simp

@[simp] theorem State.curFind_mem (c : Nat) (byOpsec : Bool) (s : State) : (State.curFind c byOpsec s).mem = s.mem := by
  unfold State.curFind
  (repeat' split) <;> simp

@[simp] theorem State.curCtrlWrite_mem (c : Nat) (v : W32) (s : State) : (State.curCtrlWrite c v s).mem = s.mem := by
  unfold State.curCtrlWrite
  (try simp) <;> (repeat' split) <;> simp

@[simp] theorem State.win15_mem (c : Nat) (s : State) : (State.win15 c s).mem = s.mem := by
  unfold State.win15
  (try simp) <;> (repeat' split) <;> simp

@[simp] theorem State.nextRead_mem (s : State) : (State.nextRead s).mem = s.mem := by
  unfold State.nextRead
  (try simp) <;> (repeat' split) <;> simp

@[simp] theorem State.lowRead_mem (s : State) : (State.lowRead s).mem = s.mem := by
  unfold State.lowRead
  (try simp) <;> (repeat' split) <;> simp

@[simp] theorem State.ptEnWrite_mem (v : W32) (s : State) : (State.ptEnWrite v s).mem = s.mem := by
  unfold State.ptEnWrite
  (try simp) <;> (repeat' split) <;> simp

@[simp] theorem State.evrWrite_mem (a : Nat) (v : W32) (s : State) : (State.evrWrite a v s).mem = s.mem := by
  unfold State.evrWrite
  (try simp) <;> (repeat' split) <;> simp

@[simp] theorem State.setLane_mem (t k core : Nat) (valid : Bool) (s : State) : (State.setLane t k core valid s).mem = s.mem := by
  unfold State.setLane
  (try simp) <;> (repeat' split) <;> simp

@[simp] theorem State.atBlock_mem (a : Nat) (f : State → State) (s : State) (h : ∀ s, (f s).mem = s.mem) : (State.atBlock a f s).mem = s.mem := by
  unfold State.atBlock
  split
  · simp
  · exact h s

@[simp] theorem State.setSlot_mem (i st : Nat) (s : State) : (State.setSlot i st s).mem = s.mem := by
  unfold State.setSlot
  (try simp) <;> (repeat' split) <;> simp

@[simp] theorem State.refire_mem (ns : List Nat) (s : State) : (State.refire ns s).mem = s.mem := by
  unfold State.refire
  (try simp) <;> (repeat' split) <;> simp

@[simp] theorem State.abandonAll_mem (x : Nat) (s : State) : (State.abandonAll x s).mem = s.mem := by
  unfold State.abandonAll
  (try simp) <;> (repeat' split) <;> simp

@[simp] theorem State.poolFired_mem (t : Nat) (before : State) (s : State) : (State.poolFired t before s).mem = s.mem := by
  unfold State.poolFired
  (try simp) <;> (repeat' split) <;> simp

@[simp] theorem State.laneCounts_mem (t : Nat) (s : State) : (State.laneCounts t s).mem = s.mem := by
  unfold State.laneCounts
  (try simp) <;> (repeat' split) <;> simp

@[simp] theorem State.lastMis_mem (t lane kind icnt : Nat) (addr : W32) (s : State) : (State.lastMis t lane kind icnt addr s).mem = s.mem := by
  unfold State.lastMis
  (try simp) <;> (repeat' split) <;> simp

@[simp] theorem State.startRepair_mem (t lane : Nat) (core : Option Nat) (phase kind : Nat) (s : State) : (State.startRepair t lane core phase kind s).mem = s.mem := by
  unfold State.startRepair
  (try simp) <;> (repeat' split) <;> simp

@[simp] theorem State.haltTriad_mem (t : Nat) (s : State) : (State.haltTriad t s).mem = s.mem := by
  unfold State.haltTriad
  (try simp) <;> (repeat' split) <;> simp

@[simp] theorem State.callOff_mem (i st : Nat) (s : State) : (State.callOff i st s).mem = s.mem := by
  unfold State.callOff
  (repeat' split) <;> simp

@[simp] theorem State.enterSpare_mem (old new cause : Nat) (s : State) : (State.enterSpare old new cause s).mem = s.mem := by
  unfold State.enterSpare
  (try simp) <;> (repeat' split) <;> simp

@[simp] theorem State.stayDuplex_mem (t lane old cause : Nat) (s : State) : (State.stayDuplex t lane old cause s).mem = s.mem := by
  unfold State.stayDuplex
  (try simp) <;> (repeat' split) <;> simp

@[simp] theorem State.fillLane_mem (t lane old kind cause : Nat) (s : State) : (State.fillLane t lane old kind cause s).mem = s.mem := by
  unfold State.fillLane
  (repeat' split) <;> simp

@[simp] theorem State.retire_mem (t lane kind cause : Nat) (s : State) : (State.retire t lane kind cause s).mem = s.mem := by
  unfold State.retire
  (try simp) <;> (repeat' split) <;> simp

@[simp] theorem State.countMismatch_mem (t lane core kind icnt : Nat) (addr : W32) (s : State) : (State.countMismatch t lane core kind icnt addr s).mem = s.mem := by
  unfold State.countMismatch
  (try simp) <;> (repeat' split) <;> simp

@[simp] theorem State.noMajority_mem (t kind icnt : Nat) (addr : W32) (s : State) : (State.noMajority t kind icnt addr s).mem = s.mem := by
  unfold State.noMajority
  (try simp) <;> (repeat' split) <;> simp

@[simp] theorem State.mismatch_mem (t lane kind icnt : Nat) (addr : W32) (s : State) : (State.mismatch t lane kind icnt addr s).mem = s.mem := by
  unfold State.mismatch
  (try simp) <;> (repeat' split) <;> simp

@[simp] theorem State.voterFault_mem (t copy icnt : Nat) (addr : W32) (s : State) : (State.voterFault t copy icnt addr s).mem = s.mem := by
  unfold State.voterFault
  (try simp) <;> (repeat' split) <;> simp

@[simp] theorem State.sigVote_mem (x kind : Nat) (s : State) : (State.sigVote x kind s).mem = s.mem := by
  unfold State.sigVote
  (try simp) <;> (repeat' split) <;> simp

@[simp] theorem State.overrun_mem (t n target : Nat) (s : State) : (State.overrun t n target s).mem = s.mem := by
  unfold State.overrun
  (try simp) <;> (repeat' split) <;> simp

@[simp] theorem State.triCmdErr_mem (t : Nat) (s : State) : (State.triCmdErr t s).mem = s.mem := by
  unfold State.triCmdErr
  (try simp) <;> (repeat' split) <;> simp

@[simp] theorem State.channelsFollow_mem (m : Nat) (s : State) : (State.channelsFollow m s).mem = s.mem := by
  unfold State.channelsFollow
  (try simp) <;> (repeat' split) <;> simp

@[simp] theorem State.clearPending_mem (x : Nat) (s : State) : (State.clearPending x s).mem = s.mem := by
  unfold State.clearPending
  (try simp) <;> (repeat' split) <;> simp

@[simp] theorem State.dropGuards_mem (gs : List Nat) (s : State) : (State.dropGuards gs s).mem = s.mem := by
  unfold State.dropGuards
  (try simp) <;> (repeat' split) <;> simp

@[simp] theorem State.laneTakes_mem (t k i : Nat) (s : State) : (State.laneTakes t k i s).mem = s.mem := by
  unfold State.laneTakes
  (try simp) <;> (repeat' split) <;> simp

@[simp] theorem State.receiverKeeps_mem (t : Nat) (r : Repair) (s : State) : (State.receiverKeeps t r s).mem = s.mem := by
  unfold State.receiverKeeps
  (try simp) <;> (repeat' split) <;> simp

@[simp] theorem State.readyFills_mem (t : Nat) (waiting : Option Nat) (k : Nat) (s : State) : (State.readyFills t waiting k s).mem = s.mem := by
  unfold State.readyFills
  (try simp) <;> (repeat' split) <;> simp

@[simp] theorem State.lanesFill_mem (t : Nat) (r : Option Repair) (s : State) : (State.lanesFill t r s).mem = s.mem := by
  unfold State.lanesFill
  (try simp) <;> (repeat' split) <;> simp

@[simp] theorem State.copyFailed_mem (t lane core : Nat) (s : State) : (State.copyFailed t lane core s).mem = s.mem := by
  unfold State.copyFailed
  (try simp) <;> (repeat' split) <;> simp

@[simp] theorem State.copyGuard_mem (src dst : Nat) (s : State) : (State.copyGuard src dst s).mem = s.mem := by
  unfold State.copyGuard
  (try simp) <;> (repeat' split) <;> simp

@[simp] theorem State.lockAlike_mem (t : Nat) (s : State) : (State.lockAlike t s).mem = s.mem := by
  unfold State.lockAlike
  (try simp) <;> (repeat' split) <;> simp

@[simp] theorem State.fallbackEnds_mem (t : Nat) (s : State) : (State.fallbackEnds t s).mem = s.mem := by
  unfold State.fallbackEnds
  (try simp) <;> (repeat' split) <;> simp

@[simp] theorem State.triSplit_mem (t : Nat) (s : State) : (State.triSplit t s).mem = s.mem := by
  unfold State.triSplit
  (try simp) <;> (repeat' split) <;> simp

@[simp] theorem State.triJoin_mem (t : Nat) (s : State) : (State.triJoin t s).mem = s.mem := by
  unfold State.triJoin
  (try simp) <;> (repeat' split) <;> simp

@[simp] theorem State.requested_mem (t lane : Nat) (s : State) : (State.requested t lane s).mem = s.mem := by
  unfold State.requested
  (try simp) <;> (repeat' split) <;> simp

@[simp] theorem State.triResync_mem (t lane : Nat) (s : State) : (State.triResync t lane s).mem = s.mem := by
  unfold State.triResync
  (try simp) <;> (repeat' split) <;> simp

@[simp] theorem State.retireNow_mem (t lane kind : Nat) (s : State) : (State.retireNow t lane kind s).mem = s.mem := by
  unfold State.retireNow
  (try simp) <;> (repeat' split) <;> simp

@[simp] theorem State.triRetire_mem (t lane : Nat) (s : State) : (State.triRetire t lane s).mem = s.mem := by
  unfold State.triRetire
  (try simp) <;> (repeat' split) <;> simp

@[simp] theorem State.stopIndep_mem (w slot : Nat) (s : State) : (State.stopIndep w slot s).mem = s.mem := by
  unfold State.stopIndep
  (try simp) <;> (repeat' split) <;> simp

@[simp] theorem State.triCtrlWrite_mem (t : Nat) (v : W32) (s : State) : (State.triCtrlWrite t v s).mem = s.mem := by
  unfold State.triCtrlWrite
  (try simp) <;> (repeat' split) <;> simp

@[simp] theorem State.dropLines_mem (t l n : Nat) (s : State) : (State.dropLines t l n s).mem = s.mem := by
  unfold State.dropLines
  (try simp) <;> (repeat' split) <;> simp

@[simp] theorem State.partWrite_mem (t : Nat) (dcp : Bool) (v : W32) (s : State) : (State.partWrite t dcp v s).mem = s.mem := by
  unfold State.partWrite
  (try simp) <;> (repeat' split) <;> simp

@[simp] theorem State.guardRefused_mem (m kind : Nat) (r : Refused) (s : State) : (State.guardRefused m kind r s).mem = s.mem := by
  unfold State.guardRefused
  (try simp) <;> (repeat' split) <;> simp

@[simp] theorem State.stall_mem (m : Nat) (w : Waiting) (s : State) : (State.stall m w s).mem = s.mem := by
  unfold State.stall
  (try simp) <;> (repeat' split) <;> simp

@[simp] theorem State.guardDisable_mem (m : Nat) (inFlight : Bool) (s : State) : (State.guardDisable m inFlight s).mem = s.mem := by
  unfold State.guardDisable
  (try simp) <;> (repeat' split) <;> simp

@[simp] theorem State.guardDrained_mem (m : Nat) (s : State) : (State.guardDrained m s).mem = s.mem := by
  unfold State.guardDrained
  (try simp) <;> (repeat' split) <;> simp

@[simp] theorem State.guardEnable_mem (m : Nat) (s : State) : (State.guardEnable m s).mem = s.mem := by
  unfold State.guardEnable
  (try simp) <;> (repeat' split) <;> simp

@[simp] theorem State.guardLock_mem (m : Nat) (s : State) : (State.guardLock m s).mem = s.mem := by
  unfold State.guardLock
  (try simp) <;> (repeat' split) <;> simp

@[simp] theorem State.guardRegion_mem (m n : Nat) (attr : Bool) (v : W32) (s : State) : (State.guardRegion m n attr v s).mem = s.mem := by
  unfold State.guardRegion
  (try simp) <;> (repeat' split) <;> simp

@[simp] theorem State.guardCtrlWrite_mem (writer : Option Nat) (m : Nat) (v : W32) (s : State) : (State.guardCtrlWrite writer m v s).mem = s.mem := by
  unfold State.guardCtrlWrite
  (try simp) <;> (repeat' split) <;> simp

@[simp] theorem State.srcCfgWrite_mem (n : Nat) (v : W32) (s : State) : (State.srcCfgWrite n v s).mem = s.mem := by
  unfold State.srcCfgWrite
  (try simp) <;> (repeat' split) <;> simp

@[simp] theorem State.swtrig_mem (v : W32) (s : State) : (State.swtrig v s).mem = s.mem := by
  unfold State.swtrig
  (try simp) <;> (repeat' split) <;> simp

@[simp] theorem State.afterReset_mem (s : State) : (State.afterReset s).mem = s.mem := by
  unfold State.afterReset
  (try simp) <;> (repeat' split) <;> simp

@[simp] theorem State.resetRecord_mem (what : Nat) (s : State) : (State.resetRecord what s).mem = s.mem := by
  unfold State.resetRecord
  (try simp) <;> (repeat' split) <;> simp

@[simp] theorem State.lossSnapshot_mem (s : State) : (State.lossSnapshot s).mem = s.mem := by
  unfold State.lossSnapshot
  (try simp) <;> (repeat' split) <;> simp

@[simp] theorem State.selectRefs_mem (hi : Bool) (v : W32) (s : State) : (State.selectRefs hi v s).mem = s.mem := by
  unfold State.selectRefs
  (try simp) <;> (repeat' split) <;> simp

@[simp] theorem State.clkSelWrite_mem (hi : Bool) (v : W32) (s : State) : (State.clkSelWrite hi v s).mem = s.mem := by
  unfold State.clkSelWrite
  (try simp) <;> (repeat' split) <;> simp

@[simp] theorem State.wrapTo_mem (x : Nat) (s : State) : (State.wrapTo x s).mem = s.mem := by
  unfold State.wrapTo
  (try simp) <;> (repeat' split) <;> simp

@[simp] theorem State.lateTo_mem (x : Nat) (s : State) : (State.lateTo x s).mem = s.mem := by
  unfold State.lateTo
  (try simp) <;> (repeat' split) <;> simp

@[simp] theorem State.tick_mem (s : State) : (State.tick s).mem = s.mem := by
  unfold State.tick
  (try simp) <;> (repeat' split) <;> simp

@[simp] theorem State.timeCmdErr_mem (s : State) : (State.timeCmdErr s).mem = s.mem := by
  unfold State.timeCmdErr
  (try simp) <;> (repeat' split) <;> simp

@[simp] theorem State.epochAdv_mem (s : State) : (State.epochAdv s).mem = s.mem := by
  unfold State.epochAdv
  (try simp) <;> (repeat' split) <;> simp

@[simp] theorem State.incWrite_mem (v : W32) (s : State) : (State.incWrite v s).mem = s.mem := by
  unfold State.incWrite
  (try simp) <;> (repeat' split) <;> simp

@[simp] theorem State.lampMoves_mem (v : W64) (s : State) : (State.lampMoves v s).mem = s.mem := by
  unfold State.lampMoves
  (try simp) <;> (repeat' split) <;> simp

@[simp] theorem State.setNow_mem (t : W64) (s : State) : (State.setNow t s).mem = s.mem := by
  unfold State.setNow
  (try simp) <;> (repeat' split) <;> simp

@[simp] theorem State.timeSet_mem (s : State) : (State.timeSet s).mem = s.mem := by
  unfold State.timeSet
  (try simp) <;> (repeat' split) <;> simp

@[simp] theorem State.timeStep_mem (s : State) : (State.timeStep s).mem = s.mem := by
  unfold State.timeStep
  (try simp) <;> (repeat' split) <;> simp

@[simp] theorem State.stepCancel_mem (s : State) : (State.stepCancel s).mem = s.mem := by
  unfold State.stepCancel
  (try simp) <;> (repeat' split) <;> simp

@[simp] theorem State.alarmFire_mem (a : Nat) (late : Bool) (s : State) : (State.alarmFire a late s).mem = s.mem := by
  unfold State.alarmFire
  (try simp) <;> (repeat' split) <;> simp

@[simp] theorem State.almCtrlWrite_mem (a : Nat) (v : W32) (s : State) : (State.almCtrlWrite a v s).mem = s.mem := by
  unfold State.almCtrlWrite
  (try simp) <;> (repeat' split) <;> simp

@[simp] theorem State.gridStep_mem (before after : Nat) (s : State) : (State.gridStep before after s).mem = s.mem := by
  unfold State.gridStep
  (try simp) <;> (repeat' split) <;> simp

@[simp] theorem State.stepApply_mem (s : State) : (State.stepApply s).mem = s.mem := by
  unfold State.stepApply
  (try simp) <;> (repeat' split) <;> simp

@[simp] theorem State.nsRead_mem (s : State) : (State.nsRead s).mem = s.mem := by
  unfold State.nsRead
  (try simp) <;> (repeat' split) <;> simp

@[simp] theorem State.nowRead_mem (s : State) : (State.nowRead s).mem = s.mem := by
  unfold State.nowRead
  (try simp) <;> (repeat' split) <;> simp

@[simp] theorem State.timeCtrlWrite_mem (v : W32) (s : State) : (State.timeCtrlWrite v s).mem = s.mem := by
  unfold State.timeCtrlWrite
  (try simp) <;> (repeat' split) <;> simp

@[simp] theorem State.timeWrite_mem (a : Nat) (v : W32) (s : State) : (State.timeWrite a v s).mem = s.mem := by
  unfold State.timeWrite
  (try simp) <;> (repeat' split) <;> simp

@[simp] theorem State.allOn_mem (r : Ref) (s : State) : (State.allOn r s).mem = s.mem := by
  unfold State.allOn
  (try simp) <;> (repeat' split) <;> simp

@[simp] theorem State.refErr_mem (r : Ref) (ppm : W16) (s : State) : (State.refErr r ppm s).mem = s.mem := by
  unfold State.refErr
  (try simp) <;> (repeat' split) <;> simp

@[simp] theorem State.refErrRead_mem (s : State) : (State.refErrRead s).mem = s.mem := by
  unfold State.refErrRead
  (try simp) <;> (repeat' split) <;> simp

@[simp] theorem State.dropCrossings_mem (i : Nat) (s : State) : (State.dropCrossings i s).mem = s.mem := by
  unfold State.dropCrossings
  (try simp) <;> (repeat' split) <;> simp

@[simp] theorem State.spareHalts_mem (i : Nat) (s : State) : (State.spareHalts i s).mem = s.mem := by
  unfold State.spareHalts
  (try simp) <;> (repeat' split) <;> simp

@[simp] theorem State.memUncorrectable_mem (a : Nat) (s : State) : (State.memUncorrectable a s).mem = s.mem := by
  unfold State.memUncorrectable
  (try simp) <;> (repeat' split) <;> simp

@[simp] theorem State.memCorrected_mem (a : Nat) (double : Bool) (device bank row : Nat) (s : State) : (State.memCorrected a double device bank row s).mem = s.mem := by
  unfold State.memCorrected
  (try simp) <;> (repeat' split) <;> simp

@[simp] theorem State.memForget_mem (p : MemError → Bool) (s : State) : (State.memForget p s).mem = s.mem := by
  unfold State.memForget
  (try simp) <;> (repeat' split) <;> simp

@[simp] theorem State.readFinds_mem (q : Nat) (f : Finding) (s : State) : (State.readFinds q f s).2.mem = s.mem := by
  unfold State.readFinds
  split
  · rfl
  · split
    · rfl
    · simp
    · simp
    · dsimp only
      split <;> simp

@[simp] theorem State.memReplace_mem (pool sub : Nat) (old new : W32) (s : State) : (State.memReplace pool sub old new s).mem = s.mem := by
  unfold State.memReplace
  (try simp) <;> (repeat' split) <;> simp

@[simp] theorem State.joinFails_mem (s : State) : (State.joinFails s).mem = s.mem := by
  unfold State.joinFails
  (try simp) <;> (repeat' split) <;> simp

@[simp] theorem State.leftFull_mem (s : State) : (State.leftFull s).mem = s.mem := by
  unfold State.leftFull
  (try simp) <;> (repeat' split) <;> simp

@[simp] theorem State.backFull_mem (s : State) : (State.backFull s).mem = s.mem := by
  unfold State.backFull
  (try simp) <;> (repeat' split) <;> simp

@[simp] theorem State.heldGo_mem (s : State) : (State.heldGo s).mem = s.mem := by
  unfold State.heldGo
  (try simp) <;> (repeat' split) <;> simp

@[simp] theorem State.linkFrom_mem (s : State) : (State.linkFrom s).mem = s.mem := by
  unfold State.linkFrom
  (try simp) <;> (repeat' split) <;> simp

@[simp] theorem State.laneAgain_mem (lane : Nat) (s : State) : (State.laneAgain lane s).mem = s.mem := by
  unfold State.laneAgain
  (try simp) <;> (repeat' split) <;> simp

@[simp] theorem State.laneFail_mem (lane : Nat) (s : State) : (State.laneFail lane s).mem = s.mem := by
  unfold State.laneFail
  (try simp) <;> (repeat' split) <;> simp

@[simp] theorem State.copyStops_mem (r : Role) (s : State) : (State.copyStops r s).mem = s.mem := by
  unfold State.copyStops
  (try simp) <;> (repeat' split) <;> simp

@[simp] theorem State.partnerLeft_mem (r : Role) (s : State) : (State.partnerLeft r s).mem = s.mem := by
  unfold State.partnerLeft
  (try simp) <;> (repeat' split) <;> simp

@[simp] theorem State.colCmdErr_mem (s : State) : (State.colCmdErr s).mem = s.mem := by
  unfold State.colCmdErr
  (try simp) <;> (repeat' split) <;> simp

@[simp] theorem State.colResign_mem (s : State) : (State.colResign s).mem = s.mem := by
  unfold State.colResign
  (try simp) <;> (repeat' split) <;> simp

@[simp] theorem State.sealedRead_mem (commit : Bool) (s : State) : (State.sealedRead commit s).mem = s.mem := by
  unfold State.sealedRead
  (try simp) <;> (repeat' split) <;> simp

@[simp] theorem State.ytsRead_mem (s : State) : (State.ytsRead s).mem = s.mem := by
  unfold State.ytsRead
  (try simp) <;> (repeat' split) <;> simp

@[simp] theorem State.currRead_mem (s : State) : (State.currRead s).mem = s.mem := by
  unfold State.currRead
  (try simp) <;> (repeat' split) <;> simp

@[simp] theorem State.copyRead_mem (s : State) : (State.copyRead s).mem = s.mem := by
  unfold State.copyRead
  (try simp) <;> (repeat' split) <;> simp

@[simp] theorem State.anvWrite_mem (a : Nat) (v : W32) (s : State) : (State.anvWrite a v s).mem = s.mem := by
  unfold State.anvWrite
  (try simp) <;> (repeat' split) <;> simp

@[simp] theorem State.setBellows_mem (b : Bellows) (s : State) : (State.setBellows b s).mem = s.mem := by
  unfold State.setBellows
  (try simp) <;> (repeat' split) <;> simp

@[simp] theorem State.setPlan_mem (i : Nat) (p : Plan) (s : State) : (State.setPlan i p s).mem = s.mem := by
  unfold State.setPlan
  (try simp) <;> (repeat' split) <;> simp

@[simp] theorem State.plPend_mem (i : Nat) (s : State) : (State.plPend i s).mem = s.mem := by
  unfold State.plPend
  (try simp) <;> (repeat' split) <;> simp

@[simp] theorem State.plWrite_mem (i : Nat) (w : W32) (s : State) : (State.plWrite i w s).mem = s.mem := by
  unfold State.plWrite
  (try simp) <;> (repeat' split) <;> simp

@[simp] theorem State.levelStep_mem (i : Nat) (s : State) : (State.levelStep i s).mem = s.mem := by
  unfold State.levelStep
  (try simp) <;> (repeat' split) <;> simp

@[simp] theorem State.setNap_mem (x : Nat) (n : Nap) (s : State) : (State.setNap x n s).mem = s.mem := by
  unfold State.setNap
  (try simp) <;> (repeat' split) <;> simp

@[simp] theorem State.belState_mem (i : Nat) (s : State) : (State.belState i s).mem = s.mem := by
  unfold State.belState
  (try simp) <;> (repeat' split) <;> simp

@[simp] theorem State.slpStat_mem (outcome mode target block cause : Nat) (s : State) : (State.slpStat outcome mode target block cause s).mem = s.mem := by
  unfold State.slpStat
  (try simp) <;> (repeat' split) <;> simp

@[simp] theorem State.slpRefuse_mem (mode target block cause : Nat) (s : State) : (State.slpRefuse mode target block cause s).mem = s.mem := by
  unfold State.slpRefuse
  (try simp) <;> (repeat' split) <;> simp

@[simp] theorem State.crossingsOf_mem (target : Nat) (s : State) : (State.crossingsOf target s).mem = s.mem := by
  unfold State.crossingsOf
  (try simp) <;> (repeat' split) <;> simp

@[simp] theorem State.slpResume_mem (e : SleepEntry) (s : State) : (State.slpResume e s).mem = s.mem := by
  unfold State.slpResume
  (try simp) <;> (repeat' split) <;> simp

@[simp] theorem State.sleepWait_mem (x : Nat) (s : State) : (State.sleepWait x s).mem = s.mem := by
  unfold State.sleepWait
  (try simp) <;> (repeat' split) <;> simp

@[simp] theorem State.islandDown_mem (i : Nat) (s : State) : (State.islandDown i s).mem = s.mem := by
  unfold State.islandDown
  (try simp) <;> (repeat' split) <;> simp

@[simp] theorem State.wakeCause_mem (more : Bool) (target src : Nat) (s : State) : (State.wakeCause more target src s).mem = s.mem := by
  unfold State.wakeCause
  (try simp) <;> (repeat' split) <;> simp

@[simp] theorem State.belWrite_mem (a : Nat) (v : W32) (s : State) : (State.belWrite a v s).mem = s.mem := by
  unfold State.belWrite
  (try simp) <;> (repeat' split) <;> simp

@[simp] theorem State.setSlice_mem (g i : Nat) (v : Slice) (s : State) : (State.setSlice g i v s).mem = s.mem := by
  unfold State.setSlice
  (try simp) <;> (repeat' split) <;> simp

@[simp] theorem State.diagEvt_mem (g i b : Nat) (s : State) : (State.diagEvt g i b s).mem = s.mem := by
  unfold State.diagEvt
  (try simp) <;> (repeat' split) <;> simp

@[simp] theorem State.trigger_mem (g i : Nat) (s : State) : (State.trigger g i s).mem = s.mem := by
  unfold State.trigger
  (try simp) <;> (repeat' split) <;> simp

@[simp] theorem State.statSet_mem (g i b : Nat) (s : State) : (State.statSet g i b s).mem = s.mem := by
  unfold State.statSet
  (try simp) <;> (repeat' split) <;> simp

@[simp] theorem State.statClr_mem (g i b : Nat) (s : State) : (State.statClr g i b s).mem = s.mem := by
  unfold State.statClr
  (try simp) <;> (repeat' split) <;> simp

@[simp] theorem State.statPut_mem (g i b : Nat) (on : Bool) (s : State) : (State.statPut g i b on s).mem = s.mem := by
  unfold State.statPut
  (try simp) <;> (repeat' split) <;> simp

@[simp] theorem State.evtShow_mem (g : Nat) (s : State) : (State.evtShow g s).mem = s.mem := by
  unfold State.evtShow
  (try simp) <;> (repeat' split) <;> simp

@[simp] theorem State.setQueue_mem (g : Nat) (q : List EdgeEvent) (s : State) : (State.setQueue g q s).mem = s.mem := by
  unfold State.setQueue
  (try simp) <;> (repeat' split) <;> simp

@[simp] theorem State.pushEvent_mem (g : Nat) (e : EdgeEvent) (s : State) : (State.pushEvent g e s).mem = s.mem := by
  unfold State.pushEvent
  (try simp) <;> (repeat' split) <;> simp

@[simp] theorem State.evtInfoRead_mem (g : Nat) (s : State) : (State.evtInfoRead g s).mem = s.mem := by
  unfold State.evtInfoRead
  (try simp) <;> (repeat' split) <;> simp

@[simp] theorem State.edgeLoRead_mem (g i : Nat) (s : State) : (State.edgeLoRead g i s).mem = s.mem := by
  unfold State.edgeLoRead
  (try simp) <;> (repeat' split) <;> simp

@[simp] theorem State.filterStart_mem (g i : Nat) (level : Bool) (edge : W64) (s : State) : (State.filterStart g i level edge s).mem = s.mem := by
  unfold State.filterStart
  (try simp) <;> (repeat' split) <;> simp

@[simp] theorem State.filterAccept_mem (g i : Nat) (s : State) : (State.filterAccept g i s).mem = s.mem := by
  unfold State.filterAccept
  (try simp) <;> (repeat' split) <;> simp

@[simp] theorem State.filterSample_mem (g i : Nat) (stamp : W64) (raw : Bool) (s : State) : (State.filterSample g i stamp raw s).mem = s.mem := by
  unfold State.filterSample
  (try simp) <;> (repeat' split) <;> simp

@[simp] theorem State.inputEdge_mem (g i : Nat) (stamp : W64) (raw : Bool) (s : State) : (State.inputEdge g i stamp raw s).mem = s.mem := by
  unfold State.inputEdge
  (try simp) <;> (repeat' split) <;> simp

@[simp] theorem State.filterResume_mem (g i : Nat) (s : State) : (State.filterResume g i s).mem = s.mem := by
  unfold State.filterResume
  (try simp) <;> (repeat' split) <;> simp

@[simp] theorem State.filterHalt_mem (g i : Nat) (s : State) : (State.filterHalt g i s).mem = s.mem := by
  unfold State.filterHalt
  (try simp) <;> (repeat' split) <;> simp

@[simp] theorem State.becomeReady_mem (g i : Nat) (s : State) : (State.becomeReady g i s).mem = s.mem := by
  unfold State.becomeReady
  (try simp) <;> (repeat' split) <;> simp

@[simp] theorem State.sliceConfigWrite_mem (g i off : Nat) (v : W32) (s : State) : (State.sliceConfigWrite g i off v s).mem = s.mem := by
  unfold State.sliceConfigWrite
  (try simp) <;> (repeat' split) <;> simp

@[simp] theorem State.protOpen_mem (g i : Nat) (s : State) : (State.protOpen g i s).mem = s.mem := by
  unfold State.protOpen
  (try simp) <;> (repeat' split) <;> simp

@[simp] theorem State.rearm_mem (g i : Nat) (s : State) : (State.rearm g i s).mem = s.mem := by
  unfold State.rearm
  (try simp) <;> (repeat' split) <;> simp

@[simp] theorem State.doApply_mem (g i : Nat) (cmd : W32) (period : Nat) (s : State) : (State.doApply g i cmd period s).mem = s.mem := by
  unfold State.doApply
  (try simp) <;> (repeat' split) <;> simp

@[simp] theorem State.retryWrite_mem (g i : Nat) (v : W32) (s : State) : (State.retryWrite g i v s).mem = s.mem := by
  unfold State.retryWrite
  (try simp) <;> (repeat' split) <;> simp

@[simp] theorem State.supplyLost_mem (g i : Nat) (s : State) : (State.supplyLost g i s).mem = s.mem := by
  unfold State.supplyLost
  (try simp) <;> (repeat' split) <;> simp

@[simp] theorem State.drive_mem (g i c : Nat) (s : State) : (State.drive g i c s).mem = s.mem := by
  unfold State.drive
  (try simp) <;> (repeat' split) <;> simp

@[simp] theorem State.driveShare_mem (g i : Nat) (half : Bool) (s : State) : (State.driveShare g i half s).mem = s.mem := by
  unfold State.driveShare
  (try simp) <;> (repeat' split) <;> simp

@[simp] theorem State.complyEnds_mem (g i : Nat) (s : State) : (State.complyEnds g i s).mem = s.mem := by
  unfold State.complyEnds
  (try simp) <;> (repeat' split) <;> simp

@[simp] theorem State.commitSub_mem (g i : Nat) (w : SpareWork) (s : State) : (State.commitSub g i w s).mem = s.mem := by
  unfold State.commitSub
  (try simp) <;> (repeat' split) <;> simp

@[simp] theorem State.isolate_mem (g i : Nat) (s : State) : (State.isolate g i s).mem = s.mem := by
  unfold State.isolate
  (try simp) <;> (repeat' split) <;> simp

@[simp] theorem State.spareFailed_mem (g cause : Nat) (s : State) : (State.spareFailed g cause s).mem = s.mem := by
  unfold State.spareFailed
  (try simp) <;> (repeat' split) <;> simp

@[simp] theorem State.sliceFail_mem (g i : Nat) (s : State) : (State.sliceFail g i s).mem = s.mem := by
  unfold State.sliceFail
  (try simp) <;> (repeat' split) <;> simp

@[simp] theorem State.takeTerminal_mem (g i : Nat) (s : State) : (State.takeTerminal g i s).mem = s.mem := by
  unfold State.takeTerminal
  (try simp) <;> (repeat' split) <;> simp

@[simp] theorem State.shareLoop_mem (g i : Nat) (s : State) : (State.shareLoop g i s).mem = s.mem := by
  unfold State.shareLoop
  (try simp) <;> (repeat' split) <;> simp

@[simp] theorem State.planSub_mem (g i : Nat) (s : State) : (State.planSub g i s).mem = s.mem := by
  unfold State.planSub
  (try simp) <;> (repeat' split) <;> simp

@[simp] theorem State.overlapEnds_mem (g i : Nat) (s : State) : (State.overlapEnds g i s).mem = s.mem := by
  unfold State.overlapEnds
  (try simp) <;> (repeat' split) <;> simp

@[simp] theorem State.resetWork_mem (g i : Nat) (s : State) : (State.resetWork g i s).mem = s.mem := by
  unfold State.resetWork
  (try simp) <;> (repeat' split) <;> simp

@[simp] theorem State.sliceReset_mem (g i : Nat) (s : State) : (State.sliceReset g i s).mem = s.mem := by
  unfold State.sliceReset
  (try simp) <;> (repeat' split) <;> simp

@[simp] theorem State.sreset_mem (g i : Nat) (s : State) : (State.sreset g i s).mem = s.mem := by
  unfold State.sreset
  (try simp) <;> (repeat' split) <;> simp

@[simp] theorem State.spareTest_mem (g : Nat) (s : State) : (State.spareTest g s).mem = s.mem := by
  unfold State.spareTest
  (try simp) <;> (repeat' split) <;> simp

@[simp] theorem State.spareTested_mem (g : Nat) (s : State) : (State.spareTested g s).mem = s.mem := by
  unfold State.spareTested
  (try simp) <;> (repeat' split) <;> simp

@[simp] theorem State.stimRuns_mem (g i : Nat) (s : State) : (State.stimRuns g i s).mem = s.mem := by
  unfold State.stimRuns
  (try simp) <;> (repeat' split) <;> simp

@[simp] theorem State.stimulus_mem (g i : Nat) (s : State) : (State.stimulus g i s).mem = s.mem := by
  unfold State.stimulus
  (try simp) <;> (repeat' split) <;> simp

@[simp] theorem State.stimFailed_mem (g i : Nat) (s : State) : (State.stimFailed g i s).mem = s.mem := by
  unfold State.stimFailed
  (try simp) <;> (repeat' split) <;> simp

@[simp] theorem State.sliceCtrlWrite_mem (g i : Nat) (v : W32) (s : State) : (State.sliceCtrlWrite g i v s).mem = s.mem := by
  unfold State.sliceCtrlWrite
  (try simp) <;> (repeat' split) <;> simp

@[simp] theorem State.stagesOff_mem (s : State) : (State.stagesOff s).mem = s.mem := by
  unfold State.stagesOff
  dsimp only
  rw [foldl_mem]
  · rfl
  · intro s a
    split <;> rfl

@[simp] theorem State.rangeBits_mem (g i : Nat) (v : W32) (s : State) : (State.rangeBits g i v s).mem = s.mem := by
  unfold State.rangeBits
  (try simp) <;> (repeat' split) <;> simp

@[simp] theorem State.ne43_mem (g i : Nat) (v : W32) (s : State) : (State.ne43 g i v s).mem = s.mem := by
  unfold State.ne43
  (try simp) <;> (repeat' split) <;> simp

@[simp] theorem State.openGrid_mem (g i : Nat) (v : W32) (s : State) : (State.openGrid g i v s).mem = s.mem := by
  unfold State.openGrid
  (try simp) <;> (repeat' split) <;> simp

@[simp] theorem State.gridResult_mem (g i : Nat) (v : W32) (s : State) : (State.gridResult g i v s).mem = s.mem := by
  unfold State.gridResult
  (try simp) <;> (repeat' split) <;> simp

@[simp] theorem State.chainCheck_mem (g i input : Nat) (v : W32) (s : State) : (State.chainCheck g i input v s).mem = s.mem := by
  unfold State.chainCheck
  (try simp) <;> (repeat' split) <;> simp

@[simp] theorem State.openTest_mem (g i : Nat) (ent v : W32) (s : State) : (State.openTest g i ent v s).mem = s.mem := by
  unfold State.openTest
  (try simp) <;> (repeat' split) <;> simp

@[simp] theorem State.fixedConv_mem (g i : Nat) (v : W32) (s : State) : (State.fixedConv g i v s).mem = s.mem := by
  unfold State.fixedConv
  (try simp) <;> (repeat' split) <;> simp

@[simp] theorem State.regConv_mem (g i : Nat) (raw : W32) (s : State) : (State.regConv g i raw s).mem = s.mem := by
  unfold State.regConv
  (try simp) <;> (repeat' split) <;> simp

@[simp] theorem State.injConv_mem (g i : Nat) (isGrid : Bool) (k : Nat) (raw : W32) (s : State) : (State.injConv g i isGrid k raw s).mem = s.mem := by
  unfold State.injConv
  (try simp) <;> (repeat' split) <;> simp

@[simp] theorem State.conversion_mem (g i : Nat) (v : W32) (s : State) : (State.conversion g i v s).mem = s.mem := by
  unfold State.conversion
  (try simp) <;> (repeat' split) <;> simp

@[simp] theorem State.injSw_mem (g i : Nat) (s : State) : (State.injSw g i s).mem = s.mem := by
  unfold State.injSw
  (try simp) <;> (repeat' split) <;> simp

@[simp] theorem State.discMark_mem (g : Nat) (s : State) : (State.discMark g s).mem = s.mem := by
  unfold State.discMark
  apply foldl_mem
  intro s a
  dsimp only
  split <;> simp

@[simp] theorem State.aoApply_mem (g i : Nat) (cmd : W32) (s : State) : (State.aoApply g i cmd s).mem = s.mem := by
  unfold State.aoApply
  (try simp) <;> (repeat' split) <;> simp

@[simp] theorem State.trimApply_mem (g i : Nat) (s : State) : (State.trimApply g i s).mem = s.mem := by
  unfold State.trimApply
  (try simp) <;> (repeat' split) <;> simp

@[simp] theorem State.trimClear_mem (g i : Nat) (s : State) : (State.trimClear g i s).mem = s.mem := by
  unfold State.trimClear
  (try simp) <;> (repeat' split) <;> simp

@[simp] theorem State.trimCtrlWrite_mem (g i : Nat) (v : W32) (s : State) : (State.trimCtrlWrite g i v s).mem = s.mem := by
  unfold State.trimCtrlWrite
  (try simp) <;> (repeat' split) <;> simp

@[simp] theorem State.hartFail_mem (g m code : Nat) (s : State) : (State.hartFail g m code s).mem = s.mem := by
  unfold State.hartFail
  (try simp) <;> (repeat' split) <;> simp

@[simp] theorem State.hartStart_mem (g m : Nat) (s : State) : (State.hartStart g m s).mem = s.mem := by
  unfold State.hartStart
  (try simp) <;> (repeat' split) <;> simp

@[simp] theorem State.hartAbort_mem (g m : Nat) (s : State) : (State.hartAbort g m s).mem = s.mem := by
  unfold State.hartAbort
  (try simp) <;> (repeat' split) <;> simp

@[simp] theorem State.hmCtrlWrite_mem (g m : Nat) (v : W32) (s : State) : (State.hmCtrlWrite g m v s).mem = s.mem := by
  unfold State.hmCtrlWrite
  (try simp) <;> (repeat' split) <;> simp

@[simp] theorem State.mailbox_mem (a : Nat) (bytes : List W8) (s : State) : (State.mailbox a bytes s).mem = s.mem := by
  unfold State.mailbox
  (try simp) <;> (repeat' split) <;> simp

@[simp] theorem State.addF_mem (a lo n k : Nat) (s : State) : (State.addF a lo n k s).mem = s.mem := by
  unfold State.addF
  (try simp) <;> (repeat' split) <;> simp

@[simp] theorem State.mailboxWrite_mem (a g m : Nat) (v : W32) (s : State) : (State.mailboxWrite a g m v s).mem = s.mem := by
  unfold State.mailboxWrite
  (try simp) <;> (repeat' split) <;> simp

@[simp] theorem State.groupWrite_mem (a : Nat) (v : W32) (s : State) : (State.groupWrite a v s).mem = s.mem := by
  rw [State.groupWrite]
  split
  · rfl
  · split
    · exact State.wrL_mem ..
    · rfl

@[simp] theorem State.sliceWrite_mem (g i off : Nat) (v : W32) (s : State) : (State.sliceWrite g i off v s).mem = s.mem := by
  unfold State.sliceWrite
  (try simp) <;> (repeat' split) <;> simp

@[simp] theorem State.gapCapture_mem (s : State) : (State.gapCapture s).mem = s.mem := by
  unfold State.gapCapture
  (try simp) <;> (repeat' split) <;> simp

@[simp] theorem State.connBit_mem (c b : Nat) (on : Bool) (s : State) : (State.connBit c b on s).mem = s.mem := by
  unfold State.connBit
  (try simp) <;> (repeat' split) <;> simp

@[simp] theorem State.connFeed_mem (c : Nat) (feedB : Bool) (v : W16) (s : State) : (State.connFeed c feedB v s).mem = s.mem := by
  unfold State.connFeed
  (try simp) <;> (repeat' split) <;> simp

@[simp] theorem State.rec08Force_mem (ev : Nat) (varid : W32) (value : Nat) (node : Nat) (tick : Nat) (s : State) : (State.rec08Force ev varid value node tick s).mem = s.mem := by
  unfold State.rec08Force
  (try simp) <;> (repeat' split) <;> simp

@[simp] theorem State.forceEnd_mem (code : Nat) (s : State) : (State.forceEnd code s).mem = s.mem := (State.fire_mem _ _).trans (State.wr_mem _ _ _)

@[simp] theorem State.forceUnder_mem (l : List Nat) (f : State → State) (s : State) (h : ∀ s, (f s).mem = s.mem) : (State.forceUnder l f s).mem = s.mem := by
  unfold State.forceUnder
  split
  · simp
  · exact h s

@[simp] theorem State.forceErr_mem (code : Nat) (s : State) : (State.forceErr code s).mem = s.mem := by
  unfold State.forceErr
  (try simp) <;> (repeat' split) <;> simp

@[simp] theorem State.forceCmd_mem (op node : Nat) (s : State) : (State.forceCmd op node s).mem = s.mem := by
  unfold State.forceCmd
  (try simp) <;> (repeat' split) <;> simp

@[simp] theorem State.forceCmdWrite_mem (v : W32) (s : State) : (State.forceCmdWrite v s).mem = s.mem := by
  unfold State.forceCmdWrite
  (try simp) <;> (repeat' split) <;> simp

@[simp] theorem State.portSent_mem (p : Nat) (s : State) : (State.portSent p s).mem = s.mem := by
  unfold State.portSent
  (try simp) <;> (repeat' split) <;> simp

@[simp] theorem State.rinfaSend_mem (kind : Nat) (bcast : Bool) (dst : Nat) (frag tag : W8) (d : List W8) (s : State) : (State.rinfaSend kind bcast dst frag tag d s).mem = s.mem := by
  unfold State.rinfaSend
  (try simp) <;> (repeat' split) <;> simp

@[simp] theorem State.setStation_mem (n : Nat) (v : Station) (s : State) : (State.setStation n v s).mem = s.mem := by
  unfold State.setStation
  (try simp) <;> (repeat' split) <;> simp

@[simp] theorem State.portCounters_mem (k tec rcv : Nat) (s : State) : (State.portCounters k tec rcv s).mem = s.mem := by
  unfold State.portCounters
  (try simp) <;> (repeat' split) <;> simp

@[simp] theorem State.portOn_mem (k : Nat) (s : State) : (State.portOn k s).mem = s.mem := by
  unfold State.portOn
  (try simp) <;> (repeat' split) <;> simp

@[simp] theorem State.portOff_mem (k : Nat) (s : State) : (State.portOff k s).mem = s.mem := by
  unfold State.portOff
  (try simp) <;> (repeat' split) <;> simp

@[simp] theorem State.portFail_mem (k : Nat) (s : State) : (State.portFail k s).mem = s.mem := by
  unfold State.portFail
  (try simp) <;> (repeat' split) <;> simp

@[simp] theorem State.recover_mem (k : Nat) (s : State) : (State.recover k s).mem = s.mem := by
  unfold State.recover
  (try simp) <;> (repeat' split) <;> simp

@[simp] theorem State.txReleased_mem (k : Nat) (s : State) : (State.txReleased k s).mem = s.mem := by
  unfold State.txReleased
  (try simp) <;> (repeat' split) <;> simp

@[simp] theorem State.dropSet_mem (n tag : Nat) (s : State) : (State.dropSet n tag s).mem = s.mem := by
  unfold State.dropSet
  (try simp) <;> (repeat' split) <;> simp

@[simp] theorem State.stBit_mem (n : Nat) (lost on : Bool) (s : State) : (State.stBit n lost on s).mem = s.mem := by
  unfold State.stBit
  (try simp) <;> (repeat' split) <;> simp

@[simp] theorem State.stEvent_mem (n : Nat) (back : Bool) (s : State) : (State.stEvent n back s).mem = s.mem := by
  unfold State.stEvent
  (try simp) <;> (repeat' split) <;> simp

@[simp] theorem State.lateSet_mem (n : Nat) (s : State) : (State.lateSet n s).mem = s.mem := by
  unfold State.lateSet
  (try simp) <;> (repeat' split) <;> simp

@[simp] theorem State.stationWatch_mem (n t : Nat) (s : State) : (State.stationWatch n t s).mem = s.mem := by
  unfold State.stationWatch
  (try simp) <;> (repeat' split) <;> simp

@[simp] theorem State.netOutput_mem (f : TxFrame) (s : State) : (State.netOutput f s).mem = s.mem := by
  unfold State.netOutput
  (try simp) <;> (repeat' split) <;> simp

@[simp] theorem State.netOutputs_mem (s : State) : (State.netOutputs s).mem = s.mem := by
  unfold State.netOutputs
  (try simp) <;> (repeat' split) <;> simp

@[simp] theorem State.stationOut_mem (n t : Nat) (s : State) : (State.stationOut n t s).mem = s.mem := by
  unfold State.stationOut
  (try simp) <;> (repeat' split) <;> simp

@[simp] theorem State.stationOutputs_mem (lines : Nat → Bool) (t : Nat) (s : State) : (State.stationOutputs lines t s).mem = s.mem := by
  unfold State.stationOutputs
  (try simp) <;> (repeat' split) <;> simp

@[simp] theorem State.refSent_mem (k : Nat) (stamp : W64) (s : State) : (State.refSent k stamp s).mem = s.mem := by
  unfold State.refSent
  (try simp) <;> (repeat' split) <;> simp

@[simp] theorem State.frameSent_mem (k : Nat) (f : TxFrame) (delay : BitVec 7) (stamp : W64) (s : State) : (State.frameSent k f delay stamp s).mem = s.mem := by
  unfold State.frameSent
  (try simp) <;> (repeat' split) <;> simp

@[simp] theorem State.frameMissed_mem (k : Nat) (f : TxFrame) (error : Bool) (s : State) : (State.frameMissed k f error s).mem = s.mem := by
  unfold State.frameMissed
  (try simp) <;> (repeat' split) <;> simp

@[simp] theorem State.foreign_mem (k : Nat) (s : State) : (State.foreign k s).mem = s.mem := by
  unfold State.foreign
  (try simp) <;> (repeat' split) <;> simp

@[simp] theorem State.keepFragment_mem (p station : Nat) (d : List W8) (s : State) : (State.keepFragment p station d s).mem = s.mem := by
  unfold State.keepFragment
  (try simp) <;> (repeat' split) <;> simp

@[simp] theorem State.acResponse_mem (k : Nat) (d : List W8) (s : State) : (State.acResponse k d s).mem = s.mem := by
  unfold State.acResponse
  (try simp) <;> (repeat' split) <;> simp

@[simp] theorem State.foreignMaster_mem (k a : Nat) (s : State) : (State.foreignMaster k a s).mem = s.mem := by
  unfold State.foreignMaster
  (try simp) <;> (repeat' split) <;> simp

@[simp] theorem State.keepRecords_mem (node : Nat) (bus : Option Nat) (d : List W8) (s : State) : (State.keepRecords node bus d s).mem = s.mem := by
  unfold State.keepRecords
  (try simp) <;> (repeat' split) <;> simp

@[simp] theorem State.acStart_mem (k : Nat) (s : State) : (State.acStart k s).mem = s.mem := by
  unfold State.acStart
  (try simp) <;> (repeat' split) <;> simp

@[simp] theorem State.acAbort_mem (k : Nat) (s : State) : (State.acAbort k s).mem = s.mem := by
  unfold State.acAbort
  (try simp) <;> (repeat' split) <;> simp

@[simp] theorem State.refLoRead_mem (k : Nat) (s : State) : (State.refLoRead k s).mem = s.mem := by
  unfold State.refLoRead
  (try simp) <;> (repeat' split) <;> simp

@[simp] theorem State.portsActive_mem (agreed : Bool) (s : State) : (State.portsActive agreed s).mem = s.mem := by
  unfold State.portsActive
  (try simp) <;> (repeat' split) <;> simp

@[simp] theorem State.stbWrite_mem (a k : Nat) (v : W32) (s : State) : (State.stbWrite a k v s).mem = s.mem := by
  unfold State.stbWrite
  (try simp) <;> (repeat' split) <;> simp

@[simp] theorem State.setNet_mem (v : Net) (s : State) : (State.setNet v s).mem = s.mem := by
  unfold State.setNet
  (try simp) <;> (repeat' split) <;> simp

@[simp] theorem State.netEvt_mem (b : Nat) (s : State) : (State.netEvt b s).mem = s.mem := by
  unfold State.netEvt
  (try simp) <;> (repeat' split) <;> simp

@[simp] theorem State.badHeader_mem (s : State) : (State.badHeader s).mem = s.mem := by
  unfold State.badHeader
  (try simp) <;> (repeat' split) <;> simp

@[simp] theorem State.announceSend_mem (s : State) : (State.announceSend s).mem = s.mem := by
  unfold State.announceSend
  (try simp) <;> (repeat' split) <;> simp

@[simp] theorem State.announceHeard_mem (node : Nat) (serial : BitVec 128) (s : State) : (State.announceHeard node serial s).mem = s.mem := by
  unfold State.announceHeard
  (try simp) <;> (repeat' split) <;> simp

@[simp] theorem State.ownReturned_mem (seq p : Nat) (s : State) : (State.ownReturned seq p s).mem = s.mem := by
  unfold State.ownReturned
  (try simp) <;> (repeat' split) <;> simp

@[simp] theorem State.keepTunnel_mem (src : Nat) (frag : W8) (d : List W8) (s : State) : (State.keepTunnel src frag d s).mem = s.mem := by
  unfold State.keepTunnel
  (try simp) <;> (repeat' split) <;> simp

@[simp] theorem State.rinfaAccept_mem (h : RinfaHead) (d : List W8) (s : State) : (State.rinfaAccept h d s).mem = s.mem := by
  unfold State.rinfaAccept
  (try simp) <;> (repeat' split) <;> simp

theorem State.managed_mem {p : Nat} {src : Option Nat} {s t : State} (h : State.managed p src s = some t) : t.mem = s.mem := by
  unfold State.managed at h
  (repeat' split at h) <;> cases h <;> simp

@[simp] theorem State.rinfaFrame_mem (p : Nat) (h : RinfaHead) (d frame : List W8) (s : State) : (State.rinfaFrame p h d frame s).mem = s.mem := by
  unfold State.rinfaFrame
  (try simp) <;> (repeat' split) <;> simp

@[simp] theorem State.portGot_mem (p : Nat) (s : State) : (State.portGot p s).mem = s.mem := by
  unfold State.portGot
  (try simp) <;> (repeat' split) <;> simp

@[simp] theorem State.ptpEnter_mem (p st : Nat) (s : State) : (State.ptpEnter p st s).mem = s.mem := by
  unfold State.ptpEnter
  (try simp) <;> (repeat' split) <;> simp

@[simp] theorem State.ptpStat_mem (s : State) : (State.ptpStat s).mem = s.mem := by
  unfold State.ptpStat
  (try simp) <;> (repeat' split) <;> simp

@[simp] theorem State.ptpDecide_mem (s : State) : (State.ptpDecide s).mem = s.mem := by
  unfold State.ptpDecide
  (try simp) <;> (repeat' split) <;> simp

@[simp] theorem State.ptpRefresh_mem (s : State) : (State.ptpRefresh s).mem = s.mem := by
  unfold State.ptpRefresh
  (try simp) <;> (repeat' split) <;> simp

@[simp] theorem State.lockDeclare_mem (locked holdover : Bool) (s : State) : (State.lockDeclare locked holdover s).mem = s.mem := by
  unfold State.lockDeclare
  (try simp) <;> (repeat' split) <;> simp

@[simp] theorem State.setPtpPort_mem (p : Nat) (v : PtpPort) (s : State) : (State.setPtpPort p v s).mem = s.mem := by
  unfold State.setPtpPort
  (try simp) <;> (repeat' split) <;> simp

@[simp] theorem State.delayMeasured_mem (p : Nat) (twice : Int) (s : State) : (State.delayMeasured p twice s).mem = s.mem := by
  unfold State.delayMeasured
  (try simp) <;> (repeat' split) <;> simp

@[simp] theorem State.syncMeasured_mem (p : Nat) (origin receipt : W64) (s : State) : (State.syncMeasured p origin receipt s).mem = s.mem := by
  unfold State.syncMeasured
  (try simp) <;> (repeat' split) <;> simp

@[simp] theorem State.ptpGeneral_mem (p : Nat) (m : PtpGeneral) (s : State) : (State.ptpGeneral p m s).mem = s.mem := by
  unfold State.ptpGeneral
  (try simp) <;> (repeat' split) <;> simp

@[simp] theorem State.ptpSend_mem (p kind : Nat) (d : List W8) (s : State) : (State.ptpSend p kind d s).mem = s.mem := by
  unfold State.ptpSend
  (try simp) <;> (repeat' split) <;> simp

@[simp] theorem State.ptpEvent_mem (p : Nat) (m : PtpEvent) (t : W64) (s : State) : (State.ptpEvent p m t s).mem = s.mem := by
  unfold State.ptpEvent
  (try simp) <;> (repeat' split) <;> simp

@[simp] theorem State.linkSet_mem (p : Nat) (up : Bool) (s : State) : (State.linkSet p up s).mem = s.mem := by
  unfold State.linkSet
  (try simp) <;> (repeat' split) <;> simp

@[simp] theorem State.netFrameWrite_mem (v : W32) (s : State) : (State.netFrameWrite v s).mem = s.mem := by
  unfold State.netFrameWrite
  (try simp) <;> (repeat' split) <;> simp

@[simp] theorem State.netFrozen_mem (a : Nat) (m v : W32) (s : State) : (State.netFrozen a m v s).mem = s.mem := by
  unfold State.netFrozen
  (try simp) <;> (repeat' split) <;> simp

@[simp] theorem State.ptpCtrlWrite_mem (v : W32) (s : State) : (State.ptpCtrlWrite v s).mem = s.mem := by
  unfold State.ptpCtrlWrite
  (try simp) <;> (repeat' split) <;> simp

@[simp] theorem State.netWrite_mem (a0 : Nat) (v : W32) (s : State) : (State.netWrite a0 v s).mem = s.mem := by
  unfold State.netWrite
  (try simp) <;> (repeat' split) <;> simp

@[simp] theorem State.setGrid_mem (v : Grid) (s : State) : (State.setGrid v s).mem = s.mem := by
  unfold State.setGrid
  (try simp) <;> (repeat' split) <;> simp

@[simp] theorem State.setChange_mem (v : Change) (s : State) : (State.setChange v s).mem = s.mem := by
  unfold State.setChange
  (try simp) <;> (repeat' split) <;> simp

@[simp] theorem State.gridFault_mem (b line : Nat) (t : W64) (s : State) : (State.gridFault b line t s).mem = s.mem := by
  unfold State.gridFault
  (try simp) <;> (repeat' split) <;> simp

@[simp] theorem State.scanOverrun_mem (line : Nat) (t : W64) (s : State) : (State.scanOverrun line t s).mem = s.mem := by
  unfold State.scanOverrun
  (try simp) <;> (repeat' split) <;> simp

@[simp] theorem State.holdCommand_mem (ch : Nat) (v : W32) (s : State) : (State.holdCommand ch v s).mem = s.mem := by
  unfold State.holdCommand
  (try simp) <;> (repeat' split) <;> simp

@[simp] theorem State.sendOutputs_mem (e : Nat) (t : W64) (l : List Nat) (s : State) : (State.sendOutputs e t l s).mem = s.mem := by
  induction l generalizing s with
  | nil => rfl
  | cons r l ih =>
    simp only [State.sendOutputs]
    (repeat' split) <;> simp [ih]

@[simp] theorem State.deadlineTest_mem (t : W64) (j : Nat) (s : State) : (State.deadlineTest t j s).mem = s.mem := by
  unfold State.deadlineTest
  (try simp) <;> (repeat' split) <;> simp

@[simp] theorem State.latchFilters_mem (t : Nat) (s : State) : (State.latchFilters t s).mem = s.mem := by
  unfold State.latchFilters
  (try simp) <;> (repeat' split) <;> simp

@[simp] theorem State.applyCommand_mem (g i : Nat) (v : W32) (s : State) : (State.applyCommand g i v s).mem = s.mem := by
  unfold State.applyCommand
  (try simp) <;> (repeat' split) <;> simp

@[simp] theorem State.applyHeld_mem (s : State) : (State.applyHeld s).mem = s.mem := by
  unfold State.applyHeld
  apply foldl_mem
  intro s a
  dsimp only
  split <;> simp

@[simp] theorem State.yieldTry_mem (s : State) : (State.yieldTry s).mem = s.mem := by
  unfold State.yieldTry
  (try simp) <;> (repeat' split) <;> simp

@[simp] theorem State.leverYield_mem (s : State) : (State.leverYield s).mem = s.mem := by
  unfold State.leverYield
  (try simp) <;> (repeat' split) <;> simp

@[simp] theorem State.yieldRetry_mem (s : State) : (State.yieldRetry s).mem = s.mem := by
  unfold State.yieldRetry
  (try simp) <;> (repeat' split) <;> simp

@[simp] theorem State.holdsEnd_mem (s : State) : (State.holdsEnd s).mem = s.mem := by
  unfold State.holdsEnd
  (try simp) <;> (repeat' split) <;> simp

@[simp] theorem State.tickLoRead_mem (s : State) : (State.tickLoRead s).mem = s.mem := by
  unfold State.tickLoRead
  (try simp) <;> (repeat' split) <;> simp

@[simp] theorem State.directCommand_mem (g i : Nat) (ao : Bool) (v : W32) (s : State) : (State.directCommand g i ao v s).mem = s.mem := by
  unfold State.directCommand
  (try simp) <;> (repeat' split) <;> simp

@[simp] theorem State.underShadow_mem (s : State) : (State.underShadow s).mem = s.mem := by
  unfold State.underShadow
  (try simp) <;> (repeat' split) <;> simp

@[simp] theorem State.chgCmdErr_mem (s : State) : (State.chgCmdErr s).mem = s.mem := by
  unfold State.chgCmdErr
  (try simp) <;> (repeat' split) <;> simp

@[simp] theorem State.verifierEnds_mem (s : State) : (State.verifierEnds s).mem = s.mem := by
  unfold State.verifierEnds
  (try simp) <;> (repeat' split) <;> simp

@[simp] theorem State.chgCancel_mem (s : State) : (State.chgCancel s).mem = s.mem := by
  unfold State.chgCancel
  (try simp) <;> (repeat' split) <;> simp

@[simp] theorem State.recordLevels_mem (v : Verified) (s : State) : (State.recordLevels v s).mem = s.mem := by
  unfold State.recordLevels
  (try simp) <;> (repeat' split) <;> simp

@[simp] theorem State.armed_mem (ts : Nat) (s : State) : (State.armed ts s).mem = s.mem := by
  unfold State.armed
  (try simp) <;> (repeat' split) <;> simp

@[simp] theorem State.chgArm_mem (s : State) : (State.chgArm s).mem = s.mem := by
  unfold State.chgArm
  (try simp) <;> (repeat' split) <;> simp

@[simp] theorem State.putSource_mem (n : Nat) (cfg entry sb : W32) (s : State) : (State.putSource n cfg entry sb s).mem = s.mem := by
  unfold State.putSource
  (try simp) <;> (repeat' split) <;> simp

@[simp] theorem State.dropSource_mem (n : Nat) (s : State) : (State.dropSource n s).mem = s.mem := by
  unfold State.dropSource
  (try simp) <;> (repeat' split) <;> simp

@[simp] theorem State.putTask_mem (i : Nat) (s : State) : (State.putTask i s).mem = s.mem := by
  unfold State.putTask
  (try simp) <;> (repeat' split) <;> simp

@[simp] theorem State.engCounts_mem (e : Nat) (s : State) : (State.engCounts e s).mem = s.mem := by
  unfold State.engCounts
  (try simp) <;> (repeat' split) <;> simp

@[simp] theorem State.swapBanks_mem (s : State) : (State.swapBanks s).mem = s.mem := by
  unfold State.swapBanks
  (try simp) <;> (repeat' split) <;> simp

@[simp] theorem State.swapDrop_mem (new : List Nat) (n : Nat) (s : State) : (State.swapDrop new n s).mem = s.mem := by
  unfold State.swapDrop
  (try simp) <;> (repeat' split) <;> simp

@[simp] theorem State.swapTasks_mem (new : List Nat) (s : State) : (State.swapTasks new s).mem = s.mem := by
  unfold State.swapTasks
  (try simp) <;> (repeat' split) <;> simp

@[simp] theorem State.swapFirst_mem (s : State) : (State.swapFirst s).mem = s.mem := by
  unfold State.swapFirst
  (try simp) <;> (repeat' split) <;> simp

@[simp] theorem State.clearDirty_mem (s : State) : (State.clearDirty s).mem = s.mem := by
  unfold State.clearDirty
  (try simp) <;> (repeat' split) <;> simp

@[simp] theorem State.noteRefused_mem (m kind : Nat) (l : List (Nat × Nat)) (s : State) : (State.noteRefused m kind l s).mem = s.mem := by
  refine foldl_mem _ (fun s e => ?_) _ _
  split <;> simp

@[simp] theorem State.sendEpoch_mem (n b : W64) (lines : List (Nat × List W8)) (flags : Nat) (force change : W32) (s : State) : (State.sendEpoch n b lines flags force change s).mem = s.mem := by
  unfold State.sendEpoch
  (try simp) <;> (repeat' split) <;> simp

@[simp] theorem State.sealNow_mem (b : W64) (final : Bool) (s : State) : (State.sealNow b final s).mem = s.mem := by
  unfold State.sealNow
  (try simp) <;> (repeat' split) <;> simp

@[simp] theorem State.sealAtBoundary_mem (b : W64) (final : Bool) (s : State) : (State.sealAtBoundary b final s).mem = s.mem := by
  unfold State.sealAtBoundary
  (try simp) <;> (repeat' split) <;> simp

@[simp] theorem State.epochMissed_mem (s : State) : (State.epochMissed s).mem = s.mem := by
  unfold State.epochMissed
  (try simp) <;> (repeat' split) <;> simp

@[simp] theorem State.yieldHold_mem (s : State) : (State.yieldHold s).mem = s.mem := by
  unfold State.yieldHold
  (try simp) <;> (repeat' split) <;> simp

@[simp] theorem State.epochAcked_mem (epoch since : W64) (s : State) : (State.epochAcked epoch since s).mem = s.mem := by
  unfold State.epochAcked
  (try simp) <;> (repeat' split) <;> simp

@[simp] theorem State.counterCommit_mem (g i b : Nat) (s : State) : (State.counterCommit g i b s).mem = s.mem := by
  unfold State.counterCommit
  (try simp) <;> (repeat' split) <;> simp

@[simp] theorem State.countersCommit_mem (b : Nat) (s : State) : (State.countersCommit b s).mem = s.mem := by
  unfold State.countersCommit
  (try simp) <;> (repeat' split) <;> simp

@[simp] theorem State.triadWake_mem (t : Nat) (s : State) : (State.triadWake t s).mem = s.mem := by
  unfold State.triadWake
  (try simp) <;> (repeat' split) <;> simp

@[simp] theorem State.triadsWake_mem (s : State) : (State.triadsWake s).mem = s.mem := by
  unfold State.triadsWake
  (try simp) <;> (repeat' split) <;> simp

@[simp] theorem State.triadSleep_mem (t : Nat) (s : State) : (State.triadSleep t s).mem = s.mem := by
  unfold State.triadSleep
  (try simp) <;> (repeat' split) <;> simp

@[simp] theorem State.triadsSleep_mem (s : State) : (State.triadsSleep s).mem = s.mem := by
  unfold State.triadsSleep
  (try simp) <;> (repeat' split) <;> simp

@[simp] theorem State.joinStep_mem (epoch : W64) (s : State) : (State.joinStep epoch s).mem = s.mem := by
  unfold State.joinStep
  (try simp) <;> (repeat' split) <;> simp

@[simp] theorem State.shadowClear_mem (a : Nat) (v : W32) (s : State) : (State.shadowClear a v s).mem = s.mem := by
  unfold State.shadowClear
  (try simp) <;> (repeat' split) <;> simp

@[simp] theorem State.shadowTake_mem (s : State) : (State.shadowTake s).mem = s.mem := by
  unfold State.shadowTake
  (try simp) <;> (repeat' split) <;> simp

@[simp] theorem State.guardPut_mem (a : Nat) (v : W32) (s : State) : (State.guardPut a v s).mem = s.mem := by
  unfold State.guardPut
  (try simp) <;> (repeat' split) <;> simp

@[simp] theorem State.shadowApply_mem (s : State) : (State.shadowApply s).mem = s.mem := by
  unfold State.shadowApply
  (try simp) <;> (repeat' split) <;> simp

@[simp] theorem State.retryFresh_mem (g i : Nat) (s : State) : (State.retryFresh g i s).mem = s.mem := by
  unfold State.retryFresh
  (try simp) <;> (repeat' split) <;> simp

@[simp] theorem State.stageOn_mem (g i : Nat) (level : Bool) (s : State) : (State.stageOn g i level s).mem = s.mem := by
  unfold State.stageOn
  (try simp) <;> (repeat' split) <;> simp

@[simp] theorem State.stagesOn_mem (levels : BitVec 512) (s : State) : (State.stagesOn levels s).mem = s.mem := by
  unfold State.stagesOn
  (try simp) <;> (repeat' split) <;> simp

@[simp] theorem State.overlapBegins_mem (s : State) : (State.overlapBegins s).mem = s.mem := by
  refine foldl_mem _ (fun s c => ?_) _ _
  dsimp only
  split <;> simp

@[simp] theorem State.shareEnds_mem (s : State) : (State.shareEnds s).mem = s.mem := by
  unfold State.shareEnds
  (try simp) <;> (repeat' split) <;> simp

@[simp] theorem State.trimQueues_mem (t : Nat) (s : State) : (State.trimQueues t s).mem = s.mem := by
  unfold State.trimQueues
  (try simp) <;> (repeat' split) <;> simp

@[simp] theorem State.yieldEnd_mem (code : Nat) (s : State) : (State.yieldEnd code s).mem = s.mem := by
  unfold State.yieldEnd
  (try simp) <;> (repeat' split) <;> simp

@[simp] theorem State.yieldCancel_mem (s : State) : (State.yieldCancel s).mem = s.mem := by
  unfold State.yieldCancel
  (try simp) <;> (repeat' split) <;> simp

@[simp] theorem State.colCtrlWrite_mem (v : W32) (s : State) : (State.colCtrlWrite v s).mem = s.mem := by
  unfold State.colCtrlWrite
  (try simp) <;> (repeat' split) <;> simp

@[simp] theorem State.colWrite_mem (a : Nat) (v : W32) (s : State) : (State.colWrite a v s).mem = s.mem := by
  unfold State.colWrite
  (try simp) <;> (repeat' split) <;> simp

@[simp] theorem State.changeTold_mem (s : State) : (State.changeTold s).mem = s.mem := by
  unfold State.changeTold
  (try simp) <;> (repeat' split) <;> simp

@[simp] theorem State.yieldOut_mem (s : State) : (State.yieldOut s).mem = s.mem := by
  rw [State.yieldOut, State.setRole_mem, State.triadsSleep_mem, State.shadowTake_mem, State.setAnvil_mem, State.hartDrop_mem,
    State.portsPassive_mem, State.changeTold_mem, State.leaveCode_mem, State.setPair_mem, State.overlapBegins_mem, State.applyHeld_mem]

@[simp] theorem State.mirrorBytes_mem (k : Nat) (d : List W8) (s : State) : (State.mirrorBytes k d s).mem = s.mem := by
  unfold State.mirrorBytes
  (try simp) <;> (repeat' split) <;> simp

@[simp] theorem State.chanEnter_mem (c st : Nat) (s : State) : (State.chanEnter c st s).mem = s.mem := by
  unfold State.chanEnter
  (try simp) <;> (repeat' split) <;> simp

@[simp] theorem State.dmaCmdErr_mem (c : Nat) (s : State) : (State.dmaCmdErr c s).mem = s.mem := by
  unfold State.dmaCmdErr
  (try simp) <;> (repeat' split) <;> simp

@[simp] theorem State.dmaFault_mem (c code a : Nat) (s : State) : (State.dmaFault c code a s).mem = s.mem := by
  unfold State.dmaFault
  (try simp) <;> (repeat' split) <;> simp

@[simp] theorem State.dmaStart_mem (c : Nat) (s : State) : (State.dmaStart c s).mem = s.mem := by
  unfold State.dmaStart
  (try simp) <;> (repeat' split) <;> simp

@[simp] theorem State.dmaResume_mem (c : Nat) (s : State) : (State.dmaResume c s).mem = s.mem := by
  unfold State.dmaResume
  (try simp) <;> (repeat' split) <;> simp

theorem State.descAccess_mem {s t : State} {c kind n : Nat} (h : State.descAccess s c kind = some (n, t)) :
    t.mem = s.mem := by
  unfold State.descAccess at h
  dsimp only at h
  (repeat' split at h) <;> cases h <;> simp

@[simp] theorem State.burstFinds_mem (src : Nat) (fill : Bool) (f : Finding) (s : State) : (State.burstFinds src fill f s).2.mem = s.mem := by
  unfold State.burstFinds
  (repeat' split) <;> simp

@[simp] theorem State.dmaTakes_mem (c a : Nat) (s : State) : (State.dmaTakes c a s).mem = s.mem := by
  unfold State.dmaTakes
  (try simp) <;> (repeat' split) <;> simp

@[simp] theorem State.dmaDescWrite_mem (c : Nat) (v : W32) (s : State) : (State.dmaDescWrite c v s).mem = s.mem := by
  unfold State.dmaDescWrite
  (try simp) <;> (repeat' split) <;> simp

@[simp] theorem State.bufPut_mem (w : Nat) (l : List W8) (s : State) : (State.bufPut w l s).mem = s.mem := by
  unfold State.bufPut
  (try simp) <;> (repeat' split) <;> simp

@[simp] theorem State.truCmdErr_mem (s : State) : (State.truCmdErr s).mem = s.mem := by
  unfold State.truCmdErr
  (try simp) <;> (repeat' split) <;> simp

@[simp] theorem State.truEnd_mem (op code : Nat) (s : State) : (State.truEnd op code s).mem = s.mem := by
  unfold State.truEnd
  (try simp) <;> (repeat' split) <;> simp

@[simp] theorem State.truBegin_mem (op code : Nat) (s : State) : (State.truBegin op code s).mem = s.mem := by
  unfold State.truBegin
  (try simp) <;> (repeat' split) <;> simp

@[simp] theorem State.putChunk_mem (area i : Nat) (l : List W8) (s : State) : (State.putChunk area i l s).mem = s.mem := by
  unfold State.putChunk
  (try simp) <;> (repeat' split) <;> simp

@[simp] theorem State.clearArea_mem (area : Nat) (s : State) : (State.clearArea area s).mem = s.mem := by
  unfold State.clearArea
  (try simp) <;> (repeat' split) <;> simp

@[simp] theorem State.putSlotSt_mem (k st : Nat) (s : State) : (State.putSlotSt k st s).mem = s.mem := by
  unfold State.putSlotSt
  (try simp) <;> (repeat' split) <;> simp

@[simp] theorem State.storeError_mem (block : BitVec 24) (k : Nat) (s : State) : (State.storeError block k s).mem = s.mem := by
  unfold State.storeError
  (try simp) <;> (repeat' split) <;> simp

@[simp] theorem State.floorShow_mem (j : Nat) (s : State) : (State.floorShow j s).mem = s.mem := by
  unfold State.floorShow
  (try simp) <;> (repeat' split) <;> simp

@[simp] theorem State.floorAdvance_mem (k : Nat) (s : State) : (State.floorAdvance k s).mem = s.mem := by
  unfold State.floorAdvance
  (try simp) <;> (repeat' split) <;> simp

@[simp] theorem State.makeCurrent_mem (k : Nat) (s : State) : (State.makeCurrent k s).mem = s.mem := (State.floorAdvance_mem _ _).trans ((State.putSlotSt_mem _ _ _).trans (by split <;> first | rfl | simp))

@[simp] theorem State.xferShow_mem (s : State) : (State.xferShow s).mem = s.mem := by
  unfold State.xferShow
  (try simp) <;> (repeat' split) <;> simp

@[simp] theorem State.stagingIdle_mem (s : State) : (State.stagingIdle s).mem = s.mem := by
  unfold State.stagingIdle
  (try simp) <;> (repeat' split) <;> simp

@[simp] theorem State.chunkTake_mem (i : Nat) (relayed : Bool) (l : List W8) (s : State) : (State.chunkTake i relayed l s).mem = s.mem := by
  unfold State.chunkTake
  (try simp) <;> (repeat' split) <;> simp

@[simp] theorem State.finishTake_mem (code : Nat) (s : State) : (State.finishTake code s).mem = s.mem := by
  unfold State.finishTake
  (try simp) <;> (repeat' split) <;> simp

@[simp] theorem State.installBegin_mem (s : State) : (State.installBegin s).mem = s.mem := by
  unfold State.installBegin
  (try simp) <;> (repeat' split) <;> simp

@[simp] theorem State.installEnd_mem (s : State) : (State.installEnd s).mem = s.mem := by
  unfold State.installEnd
  (try simp) <;> (repeat' split) <;> simp

@[simp] theorem State.appInstall_mem (s : State) : (State.appInstall s).mem = s.mem := by
  unfold State.appInstall
  (try simp) <;> (repeat' split) <;> simp

@[simp] theorem State.newChallenge_mem (s : State) : (State.newChallenge s).mem = s.mem := by
  unfold State.newChallenge
  (try simp) <;> (repeat' split) <;> simp

@[simp] theorem State.tokenTake_mem (l : List W8) (s : State) : (State.tokenTake l s).mem = s.mem := by
  unfold State.tokenTake
  (try simp) <;> (repeat' split) <;> simp

@[simp] theorem State.extendWaiting_mem (s : State) : (State.extendWaiting s).mem = s.mem := by
  unfold State.extendWaiting
  (try simp) <;> (repeat' split) <;> simp

@[simp] theorem State.truCommand_mem (f : State → State) (s : State) (h : ∀ s, (f s).mem = s.mem) : (State.truCommand f s).mem = s.mem := by
  unfold State.truCommand
  first | (split <;> simp [h]; done) | (rw [foldl_mem _ (by intro s a; split <;> simp)]; exact h s)

@[simp] theorem State.sealForget_mem (s : State) : (State.sealForget s).mem = s.mem := by
  unfold State.sealForget
  (try simp) <;> (repeat' split) <;> simp

@[simp] theorem State.truQuote_mem (s : State) : (State.truQuote s).mem = s.mem := by
  unfold State.truQuote
  (try simp) <;> (repeat' split) <;> simp

@[simp] theorem State.truChunk_mem (s : State) : (State.truChunk s).mem = s.mem := by
  unfold State.truChunk
  (try simp) <;> (repeat' split) <;> simp

@[simp] theorem State.truFinish_mem (s : State) : (State.truFinish s).mem = s.mem := by
  unfold State.truFinish
  (try simp) <;> (repeat' split) <;> simp

@[simp] theorem State.truInstall_mem (s : State) : (State.truInstall s).mem = s.mem := by
  unfold State.truInstall
  (try simp) <;> (repeat' split) <;> simp

@[simp] theorem State.truDiscard_mem (s : State) : (State.truDiscard s).mem = s.mem := by
  unfold State.truDiscard
  (try simp) <;> (repeat' split) <;> simp

@[simp] theorem State.udpSend_mem (p node : Nat) (m : List W8) (s : State) : (State.udpSend p node m s).mem = s.mem := by
  unfold State.udpSend
  (try simp) <;> (repeat' split) <;> simp

@[simp] theorem State.tunnelSend_mem (node : Nat) (m : List W8) (s : State) : (State.tunnelSend node m s).mem = s.mem := by
  unfold State.tunnelSend
  (try simp) <;> (repeat' split) <;> simp

@[simp] theorem State.relayOut_mem (via : Option (Fin 4)) (node : Nat) (m : List W8) (s : State) : (State.relayOut via node m s).mem = s.mem := by
  unfold State.relayOut
  (try simp) <;> (repeat' split) <;> simp

theorem State.relayIn_mem {via : Option (Fin 4)} {node : W16} {s t : State} (h : State.relayIn via node s = some t) :
    t.mem = s.mem := by
  unfold State.relayIn at h
  split at h
  · split at h
    · cases h
    · cases h
      simp
  · exact State.managed_mem h

@[simp] theorem State.relayAsk_mem (path kind node : Nat) (s : State) : (State.relayAsk path kind node s).mem = s.mem := by
  unfold State.relayAsk
  (try simp) <;> (repeat' split) <;> simp

@[simp] theorem State.relayStart_mem (path kind node : Nat) (s : State) : (State.relayStart path kind node s).mem = s.mem := by
  unfold State.relayStart
  (try simp) <;> (repeat' split) <;> simp

@[simp] theorem State.truRelay_mem (s : State) : (State.truRelay s).mem = s.mem := by
  unfold State.truRelay
  (try simp) <;> (repeat' split) <;> simp

@[simp] theorem State.truToken_mem (s : State) : (State.truToken s).mem = s.mem := by
  unfold State.truToken
  (try simp) <;> (repeat' split) <;> simp

@[simp] theorem State.truExtend_mem (s : State) : (State.truExtend s).mem = s.mem := by
  unfold State.truExtend
  (try simp) <;> (repeat' split) <;> simp

@[simp] theorem State.truCert_mem (s : State) : (State.truCert s).mem = s.mem := by
  unfold State.truCert
  (try simp) <;> (repeat' split) <;> simp

@[simp] theorem State.truSeal_mem (s : State) : (State.truSeal s).mem = s.mem := by
  unfold State.truSeal
  (try simp) <;> (repeat' split) <;> simp

@[simp] theorem State.truInvalid_mem (op : Nat) (s : State) : (State.truInvalid op s).mem = s.mem := by
  unfold State.truInvalid
  (try simp) <;> (repeat' split) <;> simp

@[simp] theorem State.truApply_mem (op : Nat) (arg : W32) (s : State) : (State.truApply op arg s).mem = s.mem := by
  unfold State.truApply
  (try simp) <;> (repeat' split) <;> simp

@[simp] theorem State.truCmdWrite_mem (v : W32) (s : State) : (State.truCmdWrite v s).mem = s.mem := by
  unfold State.truCmdWrite
  (try simp) <;> (repeat' split) <;> simp

@[simp] theorem State.relayFragments_mem (via : Option (Fin 4)) (node area i : Nat) (s : State) : (State.relayFragments via node area i s).mem = s.mem := by
  unfold State.relayFragments
  (try simp) <;> (repeat' split) <;> simp

@[simp] theorem State.relayRefuse_mem (via : Option (Fin 4)) (node code : Nat) (s : State) : (State.relayRefuse via node code s).mem = s.mem := by
  unfold State.relayRefuse
  (try simp) <;> (repeat' split) <;> simp

@[simp] theorem State.serveNext_mem (err : Option (BitVec 24)) (s : State) : (State.serveNext err s).mem = s.mem := by
  unfold State.serveNext
  (try simp) <;> (repeat' split) <;> simp

@[simp] theorem State.relayEnd_mem (code : Nat) (s : State) : (State.relayEnd code s).mem = s.mem := by
  unfold State.relayEnd
  (try simp) <;> (repeat' split) <;> simp

@[simp] theorem State.appRefused_mem (index code : Nat) (s : State) : (State.appRefused index code s).mem = s.mem := by
  unfold State.appRefused
  (try simp) <;> (repeat' split) <;> simp

@[simp] theorem State.healthConfirm_mem (v : W32) (s : State) : (State.healthConfirm v s).mem = s.mem := by
  unfold State.healthConfirm
  (try simp) <;> (repeat' split) <;> simp

@[simp] theorem State.toOpsec_mem (n : Nat) (s : State) : (State.toOpsec n s).mem = s.mem := by
  unfold State.toOpsec
  (try simp) <;> (repeat' split) <;> simp

@[simp] theorem State.chalRead_mem (s : State) : (State.chalRead s).mem = s.mem := by
  unfold State.chalRead
  (try simp) <;> (repeat' split) <;> simp

@[simp] theorem State.truWrite_mem (a : Nat) (v : W32) (s : State) : (State.truWrite a v s).mem = s.mem := by
  unfold State.truWrite
  (try simp) <;> (repeat' split) <;> simp

@[simp] theorem State.tuyereFirst_mem (code : W8) (s : State) : (State.tuyereFirst code s).mem = s.mem := by
  unfold State.tuyereFirst
  (try simp) <;> (repeat' split) <;> simp

@[simp] theorem State.tuyereSelect_mem (code : W8) (s : State) : (State.tuyereSelect code s).mem = s.mem := by
  unfold State.tuyereSelect
  (try simp) <;> (repeat' split) <;> simp

@[simp] theorem State.tuyereBlocked_mem (s : State) : (State.tuyereBlocked s).mem = s.mem := by
  unfold State.tuyereBlocked
  (try simp) <;> (repeat' split) <;> simp

@[simp] theorem State.setBooks_mem (a b : Nat) (x : Crossing) (s : State) : (State.setBooks a b x s).mem = s.mem := by
  unfold State.setBooks
  (try simp) <;> (repeat' split) <;> simp

@[simp] theorem State.engineReset_mem (i : Nat) (s : State) : (State.engineReset i s).mem = s.mem := by
  unfold State.engineReset
  (try simp) <;> (repeat' split) <;> simp

@[simp] theorem State.crossingFault_mem (a b kind : Nat) (s : State) : (State.crossingFault a b kind s).mem = s.mem := by
  unfold State.crossingFault
  (try simp) <;> (repeat' split) <;> simp

@[simp] theorem State.creditCheck_mem (a b o : Nat) (s : State) : (State.creditCheck a b o s).mem = s.mem := by
  unfold State.creditCheck
  (try simp) <;> (repeat' split) <;> simp

@[simp] theorem State.startRecord_mem (s : State) : (State.startRecord s).mem = s.mem := by
  unfold State.startRecord
  (try simp) <;> (repeat' split) <;> simp

@[simp] theorem State.spareTestFailed_mem (i : Nat) (s : State) : (State.spareTestFailed i s).mem = s.mem := by
  unfold State.spareTestFailed
  dsimp only
  (repeat' split) <;> simp

@[simp] theorem State.coreFailed_mem (c : Nat) (s : State) : (State.coreFailed c s).mem = s.mem := by
  unfold State.coreFailed
  (repeat' split) <;> simp

@[simp] theorem State.startStops_mem (s : State) : (State.startStops s).mem = s.mem := by
  unfold State.startStops
  (try simp) <;> (repeat' split) <;> simp

@[simp] theorem State.voterRetest_mem (t copy : Nat) (fails : Bool) (s : State) : (State.voterRetest t copy fails s).mem = s.mem := by
  unfold State.voterRetest
  (try simp) <;> (repeat' split) <;> simp

@[simp] theorem State.hearthStops_mem (s : State) : (State.hearthStops s).mem = s.mem := by
  unfold State.hearthStops
  (try simp) <;> (repeat' split) <;> simp

@[simp] theorem State.trialFailed_mem (k : Nat) (s : State) : (State.trialFailed k s).mem = s.mem := by
  unfold State.trialFailed
  (try simp) <;> (repeat' split) <;> simp

theorem State.choose_mem {s t : State} {kind : Nat} {bad : List Nat} {r : Option Nat} (h : State.choose kind bad s = (r, t)) :
    t.mem = s.mem := by
  unfold State.choose at h
  dsimp only at h
  (repeat' split at h) <;> (obtain ⟨-, rfl⟩ := Prod.mk.inj h) <;> simp

@[simp] theorem State.runSlot_mem (k : Nat) (s : State) : (State.runSlot k s).mem = s.mem := by
  unfold State.runSlot
  (try simp) <;> (repeat' split) <;> simp

@[simp] theorem State.recoverAsk_mem (s : State) : (State.recoverAsk s).mem = s.mem := by
  unfold State.recoverAsk
  (try simp) <;> (repeat' split) <;> simp

@[simp] theorem State.startBad_mem (bad : Option (Fin 6 × BitVec 24)) (s : State) : (State.startBad bad s).mem = s.mem := by
  unfold State.startBad
  (repeat' split) <;> simp

@[simp] theorem State.sparesRest_mem (s : State) : (State.sparesRest s).mem = s.mem := by
  unfold State.sparesRest
  (try simp) <;> (repeat' split) <;> simp

@[simp] theorem State.claimProbe_mem (s : State) : (State.claimProbe s).mem = s.mem := by
  unfold State.claimProbe
  (try simp) <;> (repeat' split) <;> simp

@[simp] theorem State.decideRole_mem (peerRun peerChange : Bool) (s : State) : (State.decideRole peerRun peerChange s).mem = s.mem := by
  unfold State.decideRole
  (try simp) <;> (repeat' split) <;> simp

@[simp] theorem State.inputsOn_mem (levels : BitVec 512) (s : State) : (State.inputsOn levels s).mem = s.mem := by
  unfold State.inputsOn
  (try simp) <;> (repeat' split) <;> simp

@[simp] theorem State.runApp_mem (s : State) : (State.runApp s).mem = s.mem := by
  unfold State.runApp
  (try simp) <;> (repeat' split) <;> simp

@[simp] theorem State.poolLoses_mem (pool elem : Nat) (s : State) : (State.poolLoses pool elem s).mem = s.mem := by
  unfold State.poolLoses
  (try simp) <;> (repeat' split) <;> simp

@[simp] theorem State.testFailed_mem (test elem : Nat) (s : State) : (State.testFailed test elem s).mem = s.mem := by
  unfold State.testFailed
  (repeat' split) <;> simp

@[simp] theorem State.coreTest_mem (core : Nat) (s : State) : (State.coreTest core s).mem = s.mem := by
  unfold State.coreTest
  (try simp) <;> (repeat' split) <;> simp

@[simp] theorem State.coreTested_mem (core : Nat) (s : State) : (State.coreTested core s).mem = s.mem := by
  unfold State.coreTested
  (repeat' split) <;> simp

@[simp] theorem State.triadTest_mem (core : Nat) (wake : Bool) (s : State) : (State.triadTest core wake s).mem = s.mem := by
  unfold State.triadTest
  (repeat' split) <;> simp

@[simp] theorem State.shadowPut_mem (a : Nat) (v : W32) (s : State) : (State.shadowPut a v s).mem = s.mem := by
  unfold State.shadowPut
  (try simp) <;> (repeat' split) <;> simp

@[simp] theorem State.copyGuardReg_mem (a : Nat) (v : W32) (s : State) : (State.copyGuardReg a v s).mem = s.mem := by
  unfold State.copyGuardReg
  (try simp) <;> (repeat' split) <;> simp

@[simp] theorem State.copyReg_mem (a : Nat) (v : W32) (s : State) : (State.copyReg a v s).mem = s.mem := by
  unfold State.copyReg
  (try simp) <;> (repeat' split) <;> simp

@[simp] theorem State.sendCopy_mem (s : State) : (State.sendCopy s).mem = s.mem := by
  unfold State.sendCopy
  (try simp) <;> (repeat' split) <;> simp

@[simp] theorem State.mirrorBad_mem (s : State) : (State.mirrorBad s).mem = s.mem := by
  unfold State.mirrorBad
  (try simp) <;> (repeat' split) <;> simp

@[simp] theorem State.seekApp_mem (before s : State) : (State.seekApp before s).mem = s.mem := by
  unfold State.seekApp
  (try simp) <;> (repeat' split) <;> simp

@[simp] theorem State.regRead_mem (a : Nat) (s : State) : (State.regRead a s).mem = s.mem := by
  unfold State.regRead
  (try simp) <;> (repeat' split) <;> simp

@[simp] theorem State.ticWrite_mem (a : Nat) (v : W32) (s : State) : (State.ticWrite a v s).mem = s.mem := by
  unfold State.ticWrite
  (try simp) <;> (repeat' split) <;> simp

@[simp] theorem State.fchWrite_mem (a : Nat) (v : W32) (s : State) : (State.fchWrite a v s).mem = s.mem := by
  unfold State.fchWrite
  (try simp) <;> (repeat' split) <;> simp

@[simp] theorem State.mirrorWrite_mem (a : Nat) (v : W32) (before s : State) : (State.mirrorWrite a v before s).mem = s.mem := by
  unfold State.mirrorWrite
  (try simp) <;> (repeat' split) <;> simp

@[simp] theorem State.busRead_mem (a : Nat) (s : State) : (State.busRead a s).mem = s.mem := by
  unfold State.busRead
  (try simp) <;> (repeat' split) <;> simp

@[simp] theorem State.configWrite_mem (a : Nat) (v : W32) (f : State → State) (s : State) (h : ∀ s, (f s).mem = s.mem) : (State.configWrite a v f s).mem = s.mem := by
  unfold State.configWrite
  refine State.atBlock_mem _ _ _ (fun s => ?_)
  simp [h]

@[simp] theorem State.accessCost_mem (x a : Nat) (store : Bool) (s : State) :
    (State.accessCost x a store s).2.mem = s.mem := by
  unfold State.accessCost
  dsimp only
  (repeat' split) <;> simp

@[simp] theorem State.putLine_mem (x l : Nat) (v : CacheLine) (s : State) : (State.putLine x l v s).mem = s.mem := by
  unfold State.putLine
  (try simp) <;> (repeat' split) <;> simp

@[simp] theorem State.dropLine_mem (x l : Nat) (s : State) : (State.dropLine x l s).mem = s.mem := by
  unfold State.dropLine
  (try simp) <;> (repeat' split) <;> simp

@[simp] theorem State.meeting_mem (cmp : Bool) (x a : Nat) (m : Meet) (s : State) : (State.meeting cmp x a m s).mem = s.mem := by
  unfold State.meeting
  (try simp) <;> (repeat' split) <;> simp

@[simp] theorem State.lateBy_mem (x a n : Nat) (s : State) : (State.lateBy x a n s).2.mem = s.mem := by
  unfold State.lateBy
  (repeat' split) <;> simp

@[simp] theorem State.finds_mem (x a : Nat) (f : Finding) (s : State) : (State.finds x a f s).2.mem = s.mem := by
  unfold State.finds
  (repeat' split) <;> simp

@[simp] theorem State.restore_mem (x h : Nat) (s : State) : (State.restore x h s).mem = s.mem := by
  unfold State.restore
  (try simp) <;> (repeat' split) <;> simp

@[simp] theorem State.voted_mem (x kind : Nat) (go : State → State) (s : State) (h : ∀ s, (go s).mem = s.mem) :
    (State.voted x kind go s).mem = s.mem := by
  unfold State.voted
  dsimp only
  split <;> simp [h]

@[simp] theorem State.restored_mem (x h n : Nat) (s : State) : (State.restored x h n s).mem = s.mem := by
  unfold State.restored
  (try simp) <;> (repeat' split) <;> simp

@[simp] theorem State.stateVote_mem (x : Nat) (s : State) : (State.stateVote x s).mem = s.mem := by
  unfold State.stateVote
  (try simp) <;> (repeat' split) <;> simp

@[simp] theorem State.spend_mem (x n : Nat) (s : State) : (State.spend x n s).mem = s.mem := by
  unfold State.spend
  (try simp) <;> (repeat' split) <;> simp

@[simp] theorem State.sourceEnded_mem (n : Nat) (s : State) : (State.sourceEnded n s).mem = s.mem := by
  unfold State.sourceEnded
  (try simp) <;> (repeat' split) <;> simp

@[simp] theorem State.leave_mem (x : Nat) (s : State) : (State.leave x s).mem = s.mem := by
  unfold State.leave
  (try simp) <;> (repeat' split) <;> simp

@[simp] theorem State.isweep_mem (x : Nat) (s : State) : (State.isweep x s).mem = s.mem := by
  unfold State.isweep
  (try simp) <;> (repeat' split) <;> simp

@[simp] theorem State.icacheFill_mem (x l : Nat) (s : State) : (State.icacheFill x l s).mem = s.mem := by
  unfold State.icacheFill
  (try simp) <;> (repeat' split) <;> simp

@[simp] theorem State.fetchTouch_mem (x a : Nat) (s : State) : (State.fetchTouch x a s).2.mem = s.mem := by
  unfold State.fetchTouch
  (repeat' split) <;> simp

@[simp] theorem State.fetchExtra_mem (x a : Nat) (long : Bool) (s : State) :
    (State.fetchExtra x a long s).2.mem = s.mem := by
  unfold State.fetchExtra
  cases long <;> simp

@[simp] theorem State.cleanCost_mem (x l : Nat) (s : State) : (State.cleanCost x l s).2.mem = s.mem := by
  unfold State.cleanCost
  split <;> simp

@[simp] theorem State.startSettled_mem (s : State) : (State.startSettled s).mem = s.mem := by
  unfold State.startSettled
  (try simp) <;> (repeat' split) <;> simp

@[simp] theorem State.verified_mem (v : Verified) (s : State) : (State.verified v s).mem = s.mem := by
  unfold State.verified
  (try simp) <;> (repeat' split) <;> simp

@[simp] theorem State.verify_mem (s : State) : (State.verify s).mem = s.mem := by
  unfold State.verify
  (try simp) <;> (repeat' split) <;> simp

end Sys2Proof.Machine
end

