-- ==== Sys2Proof/Laws/Sparse.lean ====
section
/-!
SUPPORT. The laws of sparse data: a read after a write, and the canonical form, which every operation keeps.
-/
namespace Sys2Proof.Machine

variable {α : Type}

theorem sget_serase_same (d : Nat → α) (m : List (Nat × α)) (k : Nat) : sget d (serase m k) k = d k := by
  induction m with
  | nil => rfl
  | cons e m ih =>
    obtain ⟨j, v⟩ := e
    by_cases h : k = j <;> simp [serase, sget, h] <;> simpa [h] using ih

theorem sget_serase_other (d : Nat → α) (m : List (Nat × α)) {k i : Nat} (h : i ≠ k) :
    sget d (serase m k) i = sget d m i := by
  induction m with
  | nil => rfl
  | cons e m ih =>
    obtain ⟨j, v⟩ := e
    by_cases hj : k = j
    · subst hj; simp [serase, sget, h, ih]
    · by_cases hi : i = j <;> simp [serase, sget, hj, hi, ih]

theorem sget_sput_same (d : Nat → α) (m : List (Nat × α)) (k : Nat) (v : α) : sget d (sput m k v) k = v := by
  induction m with
  | nil => simp [sput, sget]
  | cons e m ih =>
    obtain ⟨j, w⟩ := e
    simp only [sput]
    split
    · simp [sget]
    · split
      · simp [sget]
      · simp [sget, *]

theorem sget_sput_other (d : Nat → α) (m : List (Nat × α)) {k i : Nat} (v : α) (h : i ≠ k) :
    sget d (sput m k v) i = sget d m i := by
  induction m with
  | nil => simp [sput, sget, h]
  | cons e m ih =>
    obtain ⟨j, w⟩ := e
    simp only [sput]
    split
    · simp [sget, h]
    · split
      · subst_vars; simp [sget, h]
      · simp [sget, ih]

/-- A read after a write to the same key gives the value written. -/
@[simp] theorem sget_sset_same [DecidableEq α] (d : Nat → α) (m : List (Nat × α)) (k : Nat) (v : α) :
    sget d (sset d m k v) k = v := by
  simp only [sset]
  split
  · simp [sget_serase_same, *]
  · simp [sget_sput_same]

/-- A write leaves every other key alone. -/
theorem sget_sset_other [DecidableEq α] (d : Nat → α) (m : List (Nat × α)) {k i : Nat} (v : α) (h : i ≠ k) :
    sget d (sset d m k v) i = sget d m i := by
  simp only [sset]
  split
  · exact sget_serase_other d m h
  · exact sget_sput_other d m v h

/-- A read after a write, in one equation. -/
theorem sget_sset [DecidableEq α] (d : Nat → α) (m : List (Nat × α)) (k i : Nat) (v : α) :
    sget d (sset d m k v) i = if i = k then v else sget d m i := by
  split
  · subst_vars; simp
  · exact sget_sset_other d m v ‹_›

/-! ### The canonical form -/

/-- The canonical form says: the head is not at its default and lies before every later key, and the tail is canonical. -/
theorem swf_cons [DecidableEq α] (d : Nat → α) (j : Nat) (v : α) (m : List (Nat × α)) :
    swf d ((j, v) :: m) = true ↔ v ≠ d j ∧ (∀ e ∈ m, j < e.1) ∧ swf d m = true := by
  induction m generalizing j v with
  | nil => simp [swf]
  | cons e m ih =>
    obtain ⟨k, w⟩ := e
    rw [swf, Bool.and_eq_true, Bool.and_eq_true, decide_eq_true_eq, decide_eq_true_eq]
    constructor
    · rintro ⟨⟨h1, h2⟩, h3⟩
      refine ⟨h1, ?_, h3⟩
      intro x hx
      rcases List.mem_cons.1 hx with rfl | hx
      · exact h2
      · exact Nat.lt_trans h2 (((ih k w).1 h3).2.1 x hx)
    · rintro ⟨h1, h2, h3⟩
      exact ⟨⟨h1, h2 _ (List.mem_cons_self ..)⟩, h3⟩

theorem mem_serase {m : List (Nat × α)} {k : Nat} {e : Nat × α} (h : e ∈ serase m k) : e ∈ m := by
  induction m with
  | nil => simp [serase] at h
  | cons f m ih =>
    obtain ⟨j, v⟩ := f
    simp only [serase] at h
    split at h
    · exact List.mem_cons_of_mem _ (ih h)
    · rcases List.mem_cons.1 h with rfl | h
      · exact List.mem_cons_self ..
      · exact List.mem_cons_of_mem _ (ih h)

theorem mem_sput {m : List (Nat × α)} {k : Nat} {v : α} {e : Nat × α} (h : e ∈ sput m k v) : e = (k, v) ∨ e ∈ m := by
  induction m with
  | nil => simp [sput] at h; exact .inl h
  | cons f m ih =>
    obtain ⟨j, w⟩ := f
    simp only [sput] at h
    split at h
    · rcases List.mem_cons.1 h with rfl | h
      · exact .inl rfl
      · exact .inr h
    · split at h
      · rcases List.mem_cons.1 h with rfl | h
        · exact .inl rfl
        · exact .inr (List.mem_cons_of_mem _ h)
      · rcases List.mem_cons.1 h with rfl | h
        · exact .inr (List.mem_cons_self ..)
        · exact (ih h).imp id (List.mem_cons_of_mem _)

theorem swf_serase [DecidableEq α] (d : Nat → α) {m : List (Nat × α)} (k : Nat) (h : swf d m = true) :
    swf d (serase m k) = true := by
  induction m with
  | nil => rfl
  | cons e m ih =>
    obtain ⟨j, v⟩ := e
    obtain ⟨h1, h2, h3⟩ := (swf_cons d j v m).1 h
    simp only [serase]
    split
    · exact ih h3
    · exact (swf_cons d j v _).2 ⟨h1, fun e he => h2 e (mem_serase he), ih h3⟩

theorem swf_sput [DecidableEq α] (d : Nat → α) {m : List (Nat × α)} {k : Nat} {v : α} (hv : v ≠ d k)
    (h : swf d m = true) : swf d (sput m k v) = true := by
  induction m with
  | nil => simpa [sput, swf] using hv
  | cons e m ih =>
    obtain ⟨j, w⟩ := e
    obtain ⟨h1, h2, h3⟩ := (swf_cons d j w m).1 h
    simp only [sput]
    split
    · rename_i hk
      refine (swf_cons d k v _).2 ⟨hv, ?_, h⟩
      intro e he
      rcases List.mem_cons.1 he with rfl | he
      · exact hk
      · exact Nat.lt_trans hk (h2 e he)
    · split
      · subst_vars; exact (swf_cons d _ v _).2 ⟨hv, h2, h3⟩
      · rename_i hk hj
        refine (swf_cons d j w _).2 ⟨h1, ?_, ih h3⟩
        intro e he
        rcases mem_sput he with rfl | he
        · show j < k; omega
        · exact h2 e he

/-- A write keeps the canonical form. -/
theorem swf_sset [DecidableEq α] (d : Nat → α) {m : List (Nat × α)} (k : Nat) (v : α) (h : swf d m = true) :
    swf d (sset d m k v) = true := by
  simp only [sset]
  split
  · exact swf_serase d k h
  · exact swf_sput d ‹_› h

/-- Forgetting keys keeps the canonical form. -/
theorem swf_skeep [DecidableEq α] (d : Nat → α) (p : Nat → Bool) {m : List (Nat × α)} (h : swf d m = true) :
    swf d (skeep p m) = true := by
  induction m with
  | nil => rfl
  | cons e m ih =>
    obtain ⟨j, v⟩ := e
    obtain ⟨h1, h2, h3⟩ := (swf_cons d j v m).1 h
    simp only [skeep, List.filter_cons] at ih ⊢
    split
    · exact (swf_cons d j v _).2 ⟨h1, fun e he => h2 e (List.mem_filter.1 he).1, ih h3⟩
    · exact ih h3

end Sys2Proof.Machine
end

