-- ==== Sys2Proof/Laws/MemForm.lean ====
section
/-!
SUPPORT. Every operation keeps memory in its canonical form: one lemma per operation that writes memory (Laws/MemFrame.lean
says which operations leave memory as it is).
-/
namespace Sys2Proof.Machine

theorem foldl_memwf {α : Type} (g : State → α → State) (h : ∀ s a, Memory.wf s.mem = true → Memory.wf (g s a).mem = true)
    (l : List α) (s : State) (hs : Memory.wf s.mem = true) : Memory.wf (l.foldl g s).mem = true := by
  induction l generalizing s with
  | nil => exact hs
  | cons a l ih => exact ih _ (h _ _ hs)

theorem ite_memwf {c : Prop} [Decidable c] {a b : State} (ha : Memory.wf a.mem = true) (hb : Memory.wf b.mem = true) :
    Memory.wf (if c then a else b).mem = true := by
  split <;> assumption

@[simp] theorem memwf_skeep (p : Nat → Bool) (m : List Host.Cell) (h : Memory.wf m = true) : Memory.wf (skeep p m) = true :=
  swf_skeep _ _ h

theorem foldl_sset_memwf (f : Host.Cell → Nat) (l m : List Host.Cell) (h : Memory.wf m = true) :
    Memory.wf (l.foldl (fun m e => sset memDefault m (f e) e.2) m) = true := by
  induction l generalizing m with
  | nil => exact h
  | cons e l ih => exact ih _ (swf_sset _ _ _ h)

/-- Memory is in its canonical form however an instruction ends. -/
def Ending.memwf : Ending → Prop
  | .done s _ => Memory.wf s.mem = true
  | .raised _ s => Memory.wf s.mem = true
  | .gone s => Memory.wf s.mem = true

@[simp] theorem Ending.memwf_done (s : State) (n : Nat) : (Ending.done s n).memwf = (Memory.wf s.mem = true) := rfl
@[simp] theorem Ending.memwf_raised (t : Trap) (s : State) : (Ending.raised t s).memwf = (Memory.wf s.mem = true) := rfl
@[simp] theorem Ending.memwf_gone (s : State) : (Ending.gone s).memwf = (Memory.wf s.mem = true) := rfl

theorem State.guarded_memwf {x a n kind : Nat} {s : State} {go : Ending} (hm : Memory.wf s.mem = true) (hg : go.memwf) :
    (State.guarded x a n kind s go).memwf := by
  unfold State.guarded
  dsimp only
  split
  · exact hg
  · simpa using hm

theorem State.migGuarded_memwf {x a n kind : Nat} {s : State} {go : Ending} (hm : Memory.wf s.mem = true) (hg : go.memwf) :
    (State.migGuarded x a n kind s go).memwf := by
  unfold State.migGuarded
  (repeat' split) <;> first | exact hg | simpa using hm

theorem State.fetchWord_memwf {x a : Nat} {s : State} {go : Ending} (hm : Memory.wf s.mem = true) (hg : go.memwf) :
    (State.fetchWord x a s go).memwf := by
  refine State.guarded_memwf hm ?_
  split
  · exact hg
  · simpa using hm

theorem reset_memwf : Memory.wf State.reset.mem = true := rfl

@[simp] theorem State.pokeByte_memwf (a : Nat) (v : W8) (s : State) (h : Memory.wf s.mem = true) :
    Memory.wf (State.pokeByte a v s).mem = true := swf_sset _ _ _ h

@[simp] theorem State.pokeBytes_memwf (a : Nat) (l : List W8) (s : State) (h : Memory.wf s.mem = true) :
    Memory.wf (State.pokeBytes a l s).mem = true := by
  induction l generalizing a s with
  | nil => exact h
  | cons b l ih => exact ih _ _ (State.pokeByte_memwf _ _ _ h)

@[simp] theorem State.poke_memwf (a n v : Nat) (s : State) (hm : Memory.wf s.mem = true) : Memory.wf (State.poke a n v s).mem = true := by
  first
  | (unfold State.poke; simp (maxDischargeDepth := 40) [hm] <;> (repeat' split) <;> simp (maxDischargeDepth := 40) [hm])
  | (unfold State.poke; (try dsimp only); (repeat' split) <;> (try simp (maxDischargeDepth := 40) [hm]; done) <;> (repeat' first | assumption | (apply foldl_memwf) | (intro s _ hm) | split | simp (maxDischargeDepth := 40) [*]))

@[simp] theorem State.store_memwf (a : Nat) (bs : List W8) (s : State) (hm : Memory.wf s.mem = true) : Memory.wf (State.store a bs s).mem = true := by
  first
  | (unfold State.store; simp (maxDischargeDepth := 40) [hm] <;> (repeat' split) <;> simp (maxDischargeDepth := 40) [hm])
  | (unfold State.store; (try dsimp only); (repeat' split) <;> (try simp (maxDischargeDepth := 40) [hm]; done) <;> (repeat' first | assumption | (apply foldl_memwf) | (intro s _ hm) | split | simp (maxDischargeDepth := 40) [*]))

theorem State.atBlock_memwf {a : Nat} {f : State → State} {s : State} (hm : Memory.wf s.mem = true)
    (hf : ∀ s, Memory.wf s.mem = true → Memory.wf (f s).mem = true) : Memory.wf (State.atBlock a f s).mem = true := by
  unfold State.atBlock
  split
  · simpa using hm
  · exact hf _ hm

@[simp] theorem State.copyMem_memwf (src dst n : Nat) (s : State) (hm : Memory.wf s.mem = true) : Memory.wf (State.copyMem src dst n s).mem = true := by
  exact foldl_sset_memwf (fun e => e.1 - src + dst) _ _ (memwf_skeep _ _ hm)


@[simp] theorem State.dropMem_memwf (a n : Nat) (s : State) (hm : Memory.wf s.mem = true) : Memory.wf (State.dropMem a n s).mem = true := by
  exact memwf_skeep (fun x => !(a ≤ x && x < a + n)) s.mem hm


@[simp] theorem State.dropSplit_memwf (t : Nat) (s : State) (hm : Memory.wf s.mem = true) : Memory.wf (State.dropSplit t s).mem = true := by
  first
  | (unfold State.dropSplit; simp (maxDischargeDepth := 40) [hm] <;> (repeat' split) <;> simp (maxDischargeDepth := 40) [hm])
  | (unfold State.dropSplit; (try dsimp only); (repeat' split) <;> (try simp (maxDischargeDepth := 40) [hm]; done) <;> (repeat' first | assumption | (apply foldl_memwf) | (intro s _ hm) | split | simp (maxDischargeDepth := 40) [*]))

@[simp] theorem State.lanesFresh_memwf (t : Nat) (keep : Bool) (s : State) (hm : Memory.wf s.mem = true) : Memory.wf (State.lanesFresh t keep s).mem = true := by
  cases keep <;> simp [State.lanesFresh, hm]


@[simp] theorem State.triadReset_memwf (t : Nat) (s : State) (hm : Memory.wf s.mem = true) : Memory.wf (State.triadReset t s).mem = true := by
  first
  | (unfold State.triadReset; simp (maxDischargeDepth := 40) [hm] <;> (repeat' split) <;> simp (maxDischargeDepth := 40) [hm])
  | (unfold State.triadReset; (try dsimp only); (repeat' split) <;> (try simp (maxDischargeDepth := 40) [hm]; done) <;> (repeat' first | assumption | (apply foldl_memwf) | (intro s _ hm) | split | simp (maxDischargeDepth := 40) [*]))

@[simp] theorem State.splitTakes_memwf (t lane i : Nat) (s : State) (hm : Memory.wf s.mem = true) : Memory.wf (State.splitTakes t lane i s).mem = true := by
  first
  | (unfold State.splitTakes; simp (maxDischargeDepth := 40) [hm] <;> (repeat' split) <;> simp (maxDischargeDepth := 40) [hm])
  | (unfold State.splitTakes; (try dsimp only); (repeat' split) <;> (try simp (maxDischargeDepth := 40) [hm]; done) <;> (repeat' first | assumption | (apply foldl_memwf) | (intro s _ hm) | split | simp (maxDischargeDepth := 40) [*]))

@[simp] theorem State.retireSplit_memwf (t lane kind : Nat) (s : State) (hm : Memory.wf s.mem = true) : Memory.wf (State.retireSplit t lane kind s).mem = true := by
  first
  | (unfold State.retireSplit; simp (maxDischargeDepth := 40) [hm] <;> (repeat' split) <;> simp (maxDischargeDepth := 40) [hm])
  | (unfold State.retireSplit; (try dsimp only); (repeat' split) <;> (try simp (maxDischargeDepth := 40) [hm]; done) <;> (repeat' first | assumption | (apply foldl_memwf) | (intro s _ hm) | split | simp (maxDischargeDepth := 40) [*]))

@[simp] theorem State.replaceLane_memwf (t lane : Nat) (s : State) (hm : Memory.wf s.mem = true) : Memory.wf (State.replaceLane t lane s).mem = true := by
  first
  | (unfold State.replaceLane; simp (maxDischargeDepth := 40) [hm] <;> (repeat' split) <;> simp (maxDischargeDepth := 40) [hm])
  | (unfold State.replaceLane; (try dsimp only); (repeat' split) <;> (try simp (maxDischargeDepth := 40) [hm]; done) <;> (repeat' first | assumption | (apply foldl_memwf) | (intro s _ hm) | split | simp (maxDischargeDepth := 40) [*]))

@[simp] theorem State.startIndep_memwf (w slot : Nat) (s : State) (hm : Memory.wf s.mem = true) : Memory.wf (State.startIndep w slot s).mem = true := by
  first
  | (unfold State.startIndep; simp (maxDischargeDepth := 40) [hm] <;> (repeat' split) <;> simp (maxDischargeDepth := 40) [hm])
  | (unfold State.startIndep; (try dsimp only); (repeat' split) <;> (try simp (maxDischargeDepth := 40) [hm]; done) <;> (repeat' first | assumption | (apply foldl_memwf) | (intro s _ hm) | split | simp (maxDischargeDepth := 40) [*]))

@[simp] theorem State.poolCmdWrite_memwf (w : Nat) (v : W32) (s : State) (hm : Memory.wf s.mem = true) : Memory.wf (State.poolCmdWrite w v s).mem = true := by
  first
  | (unfold State.poolCmdWrite; simp (maxDischargeDepth := 40) [hm] <;> (repeat' split) <;> simp (maxDischargeDepth := 40) [hm])
  | (unfold State.poolCmdWrite; (try dsimp only); (repeat' split) <;> (try simp (maxDischargeDepth := 40) [hm]; done) <;> (repeat' first | assumption | (apply foldl_memwf) | (intro s _ hm) | split | simp (maxDischargeDepth := 40) [*]))

@[simp] theorem State.restart_memwf (keep : Nat → Bool) (s : State) (hm : Memory.wf s.mem = true) : Memory.wf (State.restart keep s).mem = true := by
  exact memwf_skeep _ _ hm


@[simp] theorem State.moduleReset_memwf (what : Nat) (sw : Bool) (s : State) (hm : Memory.wf s.mem = true) : Memory.wf (State.moduleReset what sw s).mem = true := by
  first
  | (unfold State.moduleReset; simp (maxDischargeDepth := 40) [hm] <;> (repeat' split) <;> simp (maxDischargeDepth := 40) [hm])
  | (unfold State.moduleReset; (try dsimp only); (repeat' split) <;> (try simp (maxDischargeDepth := 40) [hm]; done) <;> (repeat' first | assumption | (apply foldl_memwf) | (intro s _ hm) | split | simp (maxDischargeDepth := 40) [*]))

@[simp] theorem State.powerOnReset_memwf (bkd : Bool) (s : State) (hm : Memory.wf s.mem = true) : Memory.wf (State.powerOnReset bkd s).mem = true := by
  first
  | (unfold State.powerOnReset; simp (maxDischargeDepth := 40) [hm] <;> (repeat' split) <;> simp (maxDischargeDepth := 40) [hm])
  | (unfold State.powerOnReset; (try dsimp only); (repeat' split) <;> (try simp (maxDischargeDepth := 40) [hm]; done) <;> (repeat' first | assumption | (apply foldl_memwf) | (intro s _ hm) | split | simp (maxDischargeDepth := 40) [*]))

@[simp] theorem State.powerDown_memwf (pulses paMv pbMv lost : Nat) (s : State) (hm : Memory.wf s.mem = true) : Memory.wf (State.powerDown pulses paMv pbMv lost s).mem = true := by
  first
  | (unfold State.powerDown; simp (maxDischargeDepth := 40) [hm] <;> (repeat' split) <;> simp (maxDischargeDepth := 40) [hm])
  | (unfold State.powerDown; (try dsimp only); (repeat' split) <;> (try simp (maxDischargeDepth := 40) [hm]; done) <;> (repeat' first | assumption | (apply foldl_memwf) | (intro s _ hm) | split | simp (maxDischargeDepth := 40) [*]))

@[simp] theorem State.resetCtrlWrite_memwf (v : W32) (s : State) (hm : Memory.wf s.mem = true) : Memory.wf (State.resetCtrlWrite v s).mem = true := by
  first
  | (unfold State.resetCtrlWrite; simp (maxDischargeDepth := 40) [hm] <;> (repeat' split) <;> simp (maxDischargeDepth := 40) [hm])
  | (unfold State.resetCtrlWrite; (try dsimp only); (repeat' split) <;> (try simp (maxDischargeDepth := 40) [hm]; done) <;> (repeat' first | assumption | (apply foldl_memwf) | (intro s _ hm) | split | simp (maxDischargeDepth := 40) [*]))

@[simp] theorem State.sysWrite_memwf (a : Nat) (v : W32) (s : State) (hm : Memory.wf s.mem = true) : Memory.wf (State.sysWrite a v s).mem = true := by
  first
  | (unfold State.sysWrite; simp (maxDischargeDepth := 40) [hm] <;> (repeat' split) <;> simp (maxDischargeDepth := 40) [hm])
  | (unfold State.sysWrite; (try dsimp only); (repeat' split) <;> (try simp (maxDischargeDepth := 40) [hm]; done) <;> (repeat' first | assumption | (apply foldl_memwf) | (intro s _ hm) | split | simp (maxDischargeDepth := 40) [*]))

@[simp] theorem State.loseUnretained_memwf (t : Nat) (s : State) (hm : Memory.wf s.mem = true) : Memory.wf (State.loseUnretained t s).mem = true := by
  unfold State.loseUnretained
  dsimp only
  (repeat' split) <;> simp (maxDischargeDepth := 40) [hm]


@[simp] theorem State.outOfBanked_memwf (i : Nat) (s : State) (hm : Memory.wf s.mem = true) : Memory.wf (State.outOfBanked i s).mem = true := by
  first
  | (unfold State.outOfBanked; simp (maxDischargeDepth := 40) [hm] <;> (repeat' split) <;> simp (maxDischargeDepth := 40) [hm])
  | (unfold State.outOfBanked; (try dsimp only); (repeat' split) <;> (try simp (maxDischargeDepth := 40) [hm]; done) <;> (repeat' first | assumption | (apply foldl_memwf) | (intro s _ hm) | split | simp (maxDischargeDepth := 40) [*]))

@[simp] theorem State.scanForce_memwf (e : Nat) (b : Bool) (i : Nat) (f : Option Nat) (s : State) (hm : Memory.wf s.mem = true) : Memory.wf (State.scanForce e b i f s).mem = true := by
  first
  | (unfold State.scanForce; simp (maxDischargeDepth := 40) [hm] <;> (repeat' split) <;> simp (maxDischargeDepth := 40) [hm])
  | (unfold State.scanForce; (try dsimp only); (repeat' split) <;> (try simp (maxDischargeDepth := 40) [hm]; done) <;> (repeat' first | assumption | (apply foldl_memwf) | (intro s _ hm) | split | simp (maxDischargeDepth := 40) [*]))

@[simp] theorem State.markForce_memwf (loc : W32) (f : Option Nat) (s : State) (hm : Memory.wf s.mem = true) : Memory.wf (State.markForce loc f s).mem = true := by
  first
  | (unfold State.markForce; simp (maxDischargeDepth := 40) [hm] <;> (repeat' split) <;> simp (maxDischargeDepth := 40) [hm])
  | (unfold State.markForce; (try dsimp only); (repeat' split) <;> (try simp (maxDischargeDepth := 40) [hm]; done) <;> (repeat' first | assumption | (apply foldl_memwf) | (intro s _ hm) | split | simp (maxDischargeDepth := 40) [*]))

@[simp] theorem State.forceCount_memwf (n : Nat) (s : State) (hm : Memory.wf s.mem = true) : Memory.wf (State.forceCount n s).mem = true := by
  first
  | (unfold State.forceCount; simp (maxDischargeDepth := 40) [hm] <;> (repeat' split) <;> simp (maxDischargeDepth := 40) [hm])
  | (unfold State.forceCount; (try dsimp only); (repeat' split) <;> (try simp (maxDischargeDepth := 40) [hm]; done) <;> (repeat' first | assumption | (apply foldl_memwf) | (intro s _ hm) | split | simp (maxDischargeDepth := 40) [*]))

theorem State.forceUnder_memwf (l : List Nat) (f : State → State) (s : State) (hf : ∀ s, Memory.wf s.mem = true → Memory.wf (f s).mem = true)
    (hm : Memory.wf s.mem = true) : Memory.wf (State.forceUnder l f s).mem = true := by
  unfold State.forceUnder
  split
  · simpa using hm
  · exact hf s hm

@[simp] theorem State.forceModify_memwf (c : ForceCmd) (t i : Nat) (s : State) (hm : Memory.wf s.mem = true) : Memory.wf (State.forceModify c t i s).mem = true := by
  first
  | (unfold State.forceModify; simp (maxDischargeDepth := 40) [hm] <;> (repeat' split) <;> simp (maxDischargeDepth := 40) [hm])
  | (unfold State.forceModify; (try dsimp only); (repeat' split) <;> (try simp (maxDischargeDepth := 40) [hm]; done) <;> (repeat' first | assumption | (apply foldl_memwf) | (intro s _ hm) | split | simp (maxDischargeDepth := 40) [*]))

@[simp] theorem State.forceInsert_memwf (c : ForceCmd) (t i : Nat) (type w : W32) (s : State) (hm : Memory.wf s.mem = true) : Memory.wf (State.forceInsert c t i type w s).mem = true := by
  first
  | (unfold State.forceInsert; simp (maxDischargeDepth := 40) [hm] <;> (repeat' split) <;> simp (maxDischargeDepth := 40) [hm])
  | (unfold State.forceInsert; (try dsimp only); (repeat' split) <;> (try simp (maxDischargeDepth := 40) [hm]; done) <;> (repeat' first | assumption | (apply foldl_memwf) | (intro s _ hm) | split | simp (maxDischargeDepth := 40) [*]))

@[simp] theorem State.forceApply_memwf (c : ForceCmd) (t : Nat) (s : State) (hm : Memory.wf s.mem = true) : Memory.wf (State.forceApply c t s).mem = true := by
  unfold State.forceApply
  split
  · simpa using hm
  · split
    · simpa using hm
    · split
      · simpa using hm
      · split
        · exact State.forceUnder_memwf _ _ _ (State.forceModify_memwf _ _ _) hm
        · split
          · simpa using hm
          · exact State.forceUnder_memwf _ _ _ (State.forceInsert_memwf _ _ _ _ _) hm


@[simp] theorem State.forceFree_memwf (i : Nat) (s : State) (hm : Memory.wf s.mem = true) : Memory.wf (State.forceFree i s).mem = true := by
  first
  | (unfold State.forceFree; simp (maxDischargeDepth := 40) [hm] <;> (repeat' split) <;> simp (maxDischargeDepth := 40) [hm])
  | (unfold State.forceFree; (try dsimp only); (repeat' split) <;> (try simp (maxDischargeDepth := 40) [hm]; done) <;> (repeat' first | assumption | (apply foldl_memwf) | (intro s _ hm) | split | simp (maxDischargeDepth := 40) [*]))

@[simp] theorem State.forceDelete_memwf (c : ForceCmd) (t i : Nat) (s : State) (hm : Memory.wf s.mem = true) : Memory.wf (State.forceDelete c t i s).mem = true := by
  have h1 : Memory.wf (s.forceFree i).mem = true := by simp [hm]
  rw [State.forceDelete, State.forceEnd_mem, State.rec08Force_mem]
  exact State.forceCount_memwf _ _ h1


@[simp] theorem State.forceRelease_memwf (c : ForceCmd) (t : Nat) (s : State) (hm : Memory.wf s.mem = true) : Memory.wf (State.forceRelease c t s).mem = true := by
  unfold State.forceRelease
  split
  · simpa using hm
  · split
    · simpa using hm
    · exact State.forceUnder_memwf _ _ _ (State.forceDelete_memwf _ _ _) hm


@[simp] theorem State.freeAll_memwf (s : State) (hm : Memory.wf s.mem = true) : Memory.wf (State.freeAll s).mem = true := by
  exact foldl_memwf _ (fun s i h => by split <;> simp (maxDischargeDepth := 40) [h]) _ _ hm


@[simp] theorem State.forceDeleteAll_memwf (c : ForceCmd) (t : Nat) (s : State) (hm : Memory.wf s.mem = true) : Memory.wf (State.forceDeleteAll c t s).mem = true := by
  first
  | (unfold State.forceDeleteAll; simp (maxDischargeDepth := 40) [hm] <;> (repeat' split) <;> simp (maxDischargeDepth := 40) [hm])
  | (unfold State.forceDeleteAll; (try dsimp only); (repeat' split) <;> (try simp (maxDischargeDepth := 40) [hm]; done) <;> (repeat' first | assumption | (apply foldl_memwf) | (intro s _ hm) | split | simp (maxDischargeDepth := 40) [*]))

@[simp] theorem State.forceReleaseAll_memwf (c : ForceCmd) (t : Nat) (s : State) (hm : Memory.wf s.mem = true) : Memory.wf (State.forceReleaseAll c t s).mem = true := by
  exact State.forceUnder_memwf _ _ _ (State.forceDeleteAll_memwf _ _) hm


@[simp] theorem State.forceDo_memwf (c : ForceCmd) (t : Nat) (s : State) (hm : Memory.wf s.mem = true) : Memory.wf (State.forceDo c t s).mem = true := by
  first
  | (unfold State.forceDo; simp (maxDischargeDepth := 40) [hm] <;> (repeat' split) <;> simp (maxDischargeDepth := 40) [hm])
  | (unfold State.forceDo; (try dsimp only); (repeat' split) <;> (try simp (maxDischargeDepth := 40) [hm]; done) <;> (repeat' first | assumption | (apply foldl_memwf) | (intro s _ hm) | split | simp (maxDischargeDepth := 40) [*]))

@[simp] theorem State.forceExec_memwf (t : Nat) (s : State) (hm : Memory.wf s.mem = true) : Memory.wf (State.forceExec t s).mem = true := by
  unfold State.forceExec
  split
  · exact hm
  · split
    · simpa using hm
    · split
      · exact hm
      · split
        · simpa using hm
        · exact State.forceUnder_memwf _ _ _ (State.forceDo_memwf _ _) hm


@[simp] theorem State.unmarkEntry_memwf (e i : Nat) (s : State) (hm : Memory.wf s.mem = true) : Memory.wf (State.unmarkEntry e i s).mem = true := by
  first
  | (unfold State.unmarkEntry; simp (maxDischargeDepth := 40) [hm] <;> (repeat' split) <;> simp (maxDischargeDepth := 40) [hm])
  | (unfold State.unmarkEntry; (try dsimp only); (repeat' split) <;> (try simp (maxDischargeDepth := 40) [hm]; done) <;> (repeat' first | assumption | (apply foldl_memwf) | (intro s _ hm) | split | simp (maxDischargeDepth := 40) [*]))

@[simp] theorem State.unmarkBank_memwf (e : Nat) (s : State) (hm : Memory.wf s.mem = true) : Memory.wf (State.unmarkBank e s).mem = true := by
  exact foldl_memwf _ (fun s i h => State.unmarkEntry_memwf _ _ _ h) _ _ hm


@[simp] theorem State.unmarkForces_memwf (s : State) (hm : Memory.wf s.mem = true) : Memory.wf (State.unmarkForces s).mem = true := by
  simp [State.unmarkForces, hm]


@[simp] theorem State.rebuildForces_memwf (s : State) (hm : Memory.wf s.mem = true) : Memory.wf (State.rebuildForces s).mem = true := by
  unfold State.rebuildForces
  generalize List.range 512 = l
  have h1 (n : Nat) : Memory.wf (s.unmarkForces.wrF Reg.SCN_FORCE_CNT 0 10 n).mem = true := by simp [hm]
  have key (n : Nat) : Memory.wf (if n = 0 then s.unmarkForces.wrF Reg.SCN_FORCE_CNT 0 10 n
      else l.foldl (fun s i => if s.forceV i then s.markForce (s.forceLoc i) (some i) else s)
        (s.unmarkForces.wrF Reg.SCN_FORCE_CNT 0 10 n)).mem = true := by
    split
    · exact h1 n
    · exact foldl_memwf _ (fun s i h => by split <;> first | exact h | simp [h]) _ _ (h1 n)
  exact key _


@[simp] theorem State.rebindForces_memwf (base n : Nat) (s : State) (hm : Memory.wf s.mem = true) : Memory.wf (State.rebindForces base n s).mem = true := by
  unfold State.rebindForces
  split
  · exact hm
  · refine foldl_memwf _ (fun s i h => ?_) _ _ hm
    dsimp only
    (repeat' split) <;> simp (maxDischargeDepth := 40) [h]


@[simp] theorem State.clearForces_memwf (s : State) (hm : Memory.wf s.mem = true) : Memory.wf (State.clearForces s).mem = true := by
  first
  | (unfold State.clearForces; simp (maxDischargeDepth := 40) [hm] <;> (repeat' split) <;> simp (maxDischargeDepth := 40) [hm])
  | (unfold State.clearForces; (try dsimp only); (repeat' split) <;> (try simp (maxDischargeDepth := 40) [hm]; done) <;> (repeat' first | assumption | (apply foldl_memwf) | (intro s _ hm) | split | simp (maxDischargeDepth := 40) [*]))

@[simp] theorem State.engineStore_memwf (m a : Nat) (bs : List W8) (s : State) (hm : Memory.wf s.mem = true) : Memory.wf (State.engineStore m a bs s).mem = true := by
  first
  | (unfold State.engineStore; simp (maxDischargeDepth := 40) [hm] <;> (repeat' split) <;> simp (maxDischargeDepth := 40) [hm])
  | (unfold State.engineStore; (try dsimp only); (repeat' split) <;> (try simp (maxDischargeDepth := 40) [hm]; done) <;> (repeat' first | assumption | (apply foldl_memwf) | (intro s _ hm) | split | simp (maxDischargeDepth := 40) [*]))

@[simp] theorem State.writePoints_memwf (n : Nat) (value : W32 → Nat → Option W32) (s : State) (hm : Memory.wf s.mem = true) : Memory.wf (State.writePoints n value s).mem = true := by
  first
  | (unfold State.writePoints; simp (maxDischargeDepth := 40) [hm] <;> (repeat' split) <;> simp (maxDischargeDepth := 40) [hm])
  | (unfold State.writePoints; (try dsimp only); (repeat' split) <;> (try simp (maxDischargeDepth := 40) [hm]; done) <;> (repeat' first | assumption | (apply foldl_memwf) | (intro s _ hm) | split | simp (maxDischargeDepth := 40) [*]))

@[simp] theorem State.writeStatus_memwf (n : Nat) (inService stale subst : Bool) (s : State) (hm : Memory.wf s.mem = true) : Memory.wf (State.writeStatus n inService stale subst s).mem = true := by
  first
  | (unfold State.writeStatus; simp (maxDischargeDepth := 40) [hm] <;> (repeat' split) <;> simp (maxDischargeDepth := 40) [hm])
  | (unfold State.writeStatus; (try dsimp only); (repeat' split) <;> (try simp (maxDischargeDepth := 40) [hm]; done) <;> (repeat' first | assumption | (apply foldl_memwf) | (intro s _ hm) | split | simp (maxDischargeDepth := 40) [*]))

@[simp] theorem State.stationLost_memwf (n : Nat) (s : State) (hm : Memory.wf s.mem = true) : Memory.wf (State.stationLost n s).mem = true := by
  first
  | (unfold State.stationLost; simp (maxDischargeDepth := 40) [hm] <;> (repeat' split) <;> simp (maxDischargeDepth := 40) [hm])
  | (unfold State.stationLost; (try dsimp only); (repeat' split) <;> (try simp (maxDischargeDepth := 40) [hm]; done) <;> (repeat' first | assumption | (apply foldl_memwf) | (intro s _ hm) | split | simp (maxDischargeDepth := 40) [*]))

@[simp] theorem State.stationTake_memwf (n t : Nat) (s : State) (hm : Memory.wf s.mem = true) : Memory.wf (State.stationTake n t s).mem = true := by
  first
  | (unfold State.stationTake; simp (maxDischargeDepth := 40) [hm] <;> (repeat' split) <;> simp (maxDischargeDepth := 40) [hm])
  | (unfold State.stationTake; (try dsimp only); (repeat' split) <;> (try simp (maxDischargeDepth := 40) [hm]; done) <;> (repeat' first | assumption | (apply foldl_memwf) | (intro s _ hm) | split | simp (maxDischargeDepth := 40) [*]))

@[simp] theorem State.stationPhase_memwf (n t : Nat) (s : State) (hm : Memory.wf s.mem = true) : Memory.wf (State.stationPhase n t s).mem = true := by
  first
  | (unfold State.stationPhase; simp (maxDischargeDepth := 40) [hm] <;> (repeat' split) <;> simp (maxDischargeDepth := 40) [hm])
  | (unfold State.stationPhase; (try dsimp only); (repeat' split) <;> (try simp (maxDischargeDepth := 40) [hm]; done) <;> (repeat' first | assumption | (apply foldl_memwf) | (intro s _ hm) | split | simp (maxDischargeDepth := 40) [*]))

@[simp] theorem State.stationInputs_memwf (t : Nat) (s : State) (hm : Memory.wf s.mem = true) : Memory.wf (State.stationInputs t s).mem = true := by
  first
  | (unfold State.stationInputs; simp (maxDischargeDepth := 40) [hm] <;> (repeat' split) <;> simp (maxDischargeDepth := 40) [hm])
  | (unfold State.stationInputs; (try dsimp only); (repeat' split) <;> (try simp (maxDischargeDepth := 40) [hm]; done) <;> (repeat' first | assumption | (apply foldl_memwf) | (intro s _ hm) | split | simp (maxDischargeDepth := 40) [*]))

@[simp] theorem State.soePut_memwf (r : List W8) (s : State) (hm : Memory.wf s.mem = true) : Memory.wf (State.soePut r s).mem = true := by
  first
  | (unfold State.soePut; simp (maxDischargeDepth := 40) [hm] <;> (repeat' split) <;> simp (maxDischargeDepth := 40) [hm])
  | (unfold State.soePut; (try dsimp only); (repeat' split) <;> (try simp (maxDischargeDepth := 40) [hm]; done) <;> (repeat' first | assumption | (apply foldl_memwf) | (intro s _ hm) | split | simp (maxDischargeDepth := 40) [*]))

@[simp] theorem State.writeInputs_memwf (e : Nat) (t : W64) (l : List (Nat × Nat × List W8)) (s : State)
    (hm : Memory.wf s.mem = true) : Memory.wf (State.writeInputs e t l s).mem = true := by
  induction l generalizing s with
  | nil => exact hm
  | cons r l ih =>
    obtain ⟨j, a, d⟩ := r
    unfold State.writeInputs
    (repeat' split) <;> simp (maxDischargeDepth := 40) [ih, hm]

@[simp] theorem State.readInputs_memwf (e : Nat) (t : W64) (s : State) (hm : Memory.wf s.mem = true) : Memory.wf (State.readInputs e t s).mem = true := by
  first
  | (unfold State.readInputs; simp (maxDischargeDepth := 40) [hm] <;> (repeat' split) <;> simp (maxDischargeDepth := 40) [hm])
  | (unfold State.readInputs; (try dsimp only); (repeat' split) <;> (try simp (maxDischargeDepth := 40) [hm]; done) <;> (repeat' first | assumption | (apply foldl_memwf) | (intro s _ hm) | split | simp (maxDischargeDepth := 40) [*]))

@[simp] theorem State.verifierStarts_memwf (s : State) (hm : Memory.wf s.mem = true) : Memory.wf (State.verifierStarts s).mem = true := by
  first
  | (unfold State.verifierStarts; simp (maxDischargeDepth := 40) [hm] <;> (repeat' split) <;> simp (maxDischargeDepth := 40) [hm])
  | (unfold State.verifierStarts; (try dsimp only); (repeat' split) <;> (try simp (maxDischargeDepth := 40) [hm]; done) <;> (repeat' first | assumption | (apply foldl_memwf) | (intro s _ hm) | split | simp (maxDischargeDepth := 40) [*]))

@[simp] theorem State.chgVerify_memwf (s : State) (hm : Memory.wf s.mem = true) : Memory.wf (State.chgVerify s).mem = true := by
  first
  | (unfold State.chgVerify; simp (maxDischargeDepth := 40) [hm] <;> (repeat' split) <;> simp (maxDischargeDepth := 40) [hm])
  | (unfold State.chgVerify; (try dsimp only); (repeat' split) <;> (try simp (maxDischargeDepth := 40) [hm]; done) <;> (repeat' first | assumption | (apply foldl_memwf) | (intro s _ hm) | split | simp (maxDischargeDepth := 40) [*]))

@[simp] theorem State.chgCtrlWrite_memwf (v : W32) (s : State) (hm : Memory.wf s.mem = true) : Memory.wf (State.chgCtrlWrite v s).mem = true := by
  unfold State.chgCtrlWrite
  (repeat' split)
  · simp [hm]
  · exact State.chgVerify_memwf _ hm
  · simp [hm]
  · simp [hm]
  · exact hm
  · exact hm


@[simp] theorem State.swapForces_memwf (s : State) (hm : Memory.wf s.mem = true) : Memory.wf (State.swapForces s).mem = true := by
  first
  | (unfold State.swapForces; simp (maxDischargeDepth := 40) [hm] <;> (repeat' split) <;> simp (maxDischargeDepth := 40) [hm])
  | (unfold State.swapForces; (try dsimp only); (repeat' split) <;> (try simp (maxDischargeDepth := 40) [hm]; done) <;> (repeat' first | assumption | (apply foldl_memwf) | (intro s _ hm) | split | simp (maxDischargeDepth := 40) [*]))

@[simp] theorem State.swap_memwf (s : State) (hm : Memory.wf s.mem = true) : Memory.wf (State.swap s).mem = true := by
  have h1 : Memory.wf ((s.swapBanks.swapTasks s.taskSources).swapForces).mem = true := State.swapForces_memwf _ (by simpa using hm)
  unfold State.swap
  revert h1
  generalize (s.swapBanks.swapTasks s.taskSources).swapForces = s1
  intro h1
  dsimp only
  split <;> simpa using h1


@[simp] theorem State.standbySwap_memwf (id : W32) (s : State) (hm : Memory.wf s.mem = true) : Memory.wf (State.standbySwap id s).mem = true := by
  first
  | (unfold State.standbySwap; simp (maxDischargeDepth := 40) [hm] <;> (repeat' split) <;> simp (maxDischargeDepth := 40) [hm])
  | (unfold State.standbySwap; (try dsimp only); (repeat' split) <;> (try simp (maxDischargeDepth := 40) [hm]; done) <;> (repeat' first | assumption | (apply foldl_memwf) | (intro s _ hm) | split | simp (maxDischargeDepth := 40) [*]))

@[simp] theorem State.scnWrite_memwf (a : Nat) (v : W32) (s : State) (hm : Memory.wf s.mem = true) : Memory.wf (State.scnWrite a v s).mem = true := by
  first
  | (unfold State.scnWrite; simp (maxDischargeDepth := 40) [hm] <;> (repeat' split) <;> simp (maxDischargeDepth := 40) [hm])
  | (unfold State.scnWrite; (try dsimp only); (repeat' split) <;> (try simp (maxDischargeDepth := 40) [hm]; done) <;> (repeat' first | assumption | (apply foldl_memwf) | (intro s _ hm) | split | simp (maxDischargeDepth := 40) [*]))

@[simp] theorem State.anvilStore_memwf (a : Nat) (d : List W8) (s : State) (hm : Memory.wf s.mem = true) : Memory.wf (State.anvilStore a d s).mem = true := by
  first
  | (unfold State.anvilStore; simp (maxDischargeDepth := 40) [hm] <;> (repeat' split) <;> simp (maxDischargeDepth := 40) [hm])
  | (unfold State.anvilStore; (try dsimp only); (repeat' split) <;> (try simp (maxDischargeDepth := 40) [hm]; done) <;> (repeat' first | assumption | (apply foldl_memwf) | (intro s _ hm) | split | simp (maxDischargeDepth := 40) [*]))

@[simp] theorem State.commit_memwf (epoch ends : W64) (swap : Bool) (force change : W32) (s : State) (hm : Memory.wf s.mem = true) : Memory.wf (State.commit epoch ends swap force change s).mem = true := by
  have h1 := foldl_memwf (fun s (e : Nat × List W8) => s.anvilStore (lineAddr (e.1 % 524288)) e.2)
    (fun s e h => by simp [h]) s.anvil.rxLines s hm
  unfold State.commit
  cases swap <;> simp (maxDischargeDepth := 40) [h1]


@[simp] theorem State.sealArrives_memwf (epoch ends : W64) (lines : W32) (check : W64) (force : W32) (swap final : Bool) (change : W32) (s : State) (hm : Memory.wf s.mem = true) : Memory.wf (State.sealArrives epoch ends lines check force swap final change s).mem = true := by
  first
  | (unfold State.sealArrives; simp (maxDischargeDepth := 40) [hm] <;> (repeat' split) <;> simp (maxDischargeDepth := 40) [hm])
  | (unfold State.sealArrives; (try dsimp only); (repeat' split) <;> (try simp (maxDischargeDepth := 40) [hm]; done) <;> (repeat' first | assumption | (apply foldl_memwf) | (intro s _ hm) | split | simp (maxDischargeDepth := 40) [*]))

@[simp] theorem State.nowRunning_memwf (s : State) (hm : Memory.wf s.mem = true) : Memory.wf (State.nowRunning s).mem = true := by
  first
  | (unfold State.nowRunning; simp (maxDischargeDepth := 40) [hm] <;> (repeat' split) <;> simp (maxDischargeDepth := 40) [hm])
  | (unfold State.nowRunning; (try dsimp only); (repeat' split) <;> (try simp (maxDischargeDepth := 40) [hm]; done) <;> (repeat' first | assumption | (apply foldl_memwf) | (intro s _ hm) | split | simp (maxDischargeDepth := 40) [*]))

@[simp] theorem State.yieldIn_memwf (levels : BitVec 512) (s : State) (hm : Memory.wf s.mem = true) : Memory.wf (State.yieldIn levels s).mem = true := by
  first
  | (unfold State.yieldIn; simp (maxDischargeDepth := 40) [hm] <;> (repeat' split) <;> simp (maxDischargeDepth := 40) [hm])
  | (unfold State.yieldIn; (try dsimp only); (repeat' split) <;> (try simp (maxDischargeDepth := 40) [hm]; done) <;> (repeat' first | assumption | (apply foldl_memwf) | (intro s _ hm) | split | simp (maxDischargeDepth := 40) [*]))

theorem State.memStore_memwf {x : Option Nat} {user : Bool} {a : Nat} {d : List W8} {s t : State}
    (hm : Memory.wf s.mem = true) (h : State.memStore x user a d s = some t) : Memory.wf t.mem = true := by
  unfold State.memStore at h
  split at h
  · cases h
  · split at h
    · cases h
      rw [State.mirrorBytes_mem]
      exact foldl_memwf _ (fun s c h => by simp (maxDischargeDepth := 40) [h]) _ _ hm
    · cases h

theorem State.dmaRelease_memwf (c status : Nat) (s : State) (hm : Memory.wf s.mem = true) :
    Memory.wf (State.dmaRelease c status s).1.mem = true := by
  unfold State.dmaRelease
  split
  · rename_i h
    simp [State.descAccess_mem h, hm]
  · dsimp only
    split
    · rename_i h
      obtain ⟨s1, h1, h2⟩ := Option.bind_eq_some_iff.1 h
      exact State.memStore_memwf (State.memStore_memwf hm h1) h2
    · simp (maxDischargeDepth := 40) [hm]

@[simp] theorem State.dmaComplete_memwf (c : Nat) (s : State) (hm : Memory.wf s.mem = true) : Memory.wf (State.dmaComplete c s).mem = true := by
  have h := fun r => State.dmaRelease_memwf c r s hm
  unfold State.dmaComplete
  dsimp only
  (repeat' split) <;> simp (maxDischargeDepth := 40) [h]


@[simp] theorem State.dmaAbort_memwf (c : Nat) (s : State) (hm : Memory.wf s.mem = true) : Memory.wf (State.dmaAbort c s).mem = true := by
  unfold State.dmaAbort
  dsimp only
  (repeat' split) <;> simp (maxDischargeDepth := 40) [hm, State.dmaRelease_memwf]


theorem State.burstMove_memwf {s t : State} {c src dst k : Nat} {fill : Bool} (hm : Memory.wf s.mem = true)
    (h : State.burstMove s c src dst k fill = .ok t) : Memory.wf t.mem = true := by
  unfold State.burstMove at h
  dsimp only at h
  (repeat' split at h) <;> cases h
  · exact hm
  · rename_i h
    split at h
    · cases h
    · exact State.memStore_memwf hm h

@[simp] theorem State.burstEnds_memwf (c m src dst rem k : Nat) (stop : Option (Nat × Nat × Nat)) (s : State) (hm : Memory.wf s.mem = true) : Memory.wf (State.burstEnds c m src dst rem k stop s).mem = true := by
  first
  | (unfold State.burstEnds; simp (maxDischargeDepth := 40) [hm] <;> (repeat' split) <;> simp (maxDischargeDepth := 40) [hm])
  | (unfold State.burstEnds; (try dsimp only); (repeat' split) <;> (try simp (maxDischargeDepth := 40) [hm]; done) <;> (repeat' first | assumption | (apply foldl_memwf) | (intro s _ hm) | split | simp (maxDischargeDepth := 40) [*]))

@[simp] theorem State.burstRun_memwf (c m src dst rem k : Nat) (fill : Bool) (stop : Option (Nat × Nat × Nat)) (s : State)
    (hm : Memory.wf s.mem = true) : Memory.wf (State.burstRun c m src dst rem k fill stop s).mem = true := by
  unfold State.burstRun
  split
  · simp (maxDischargeDepth := 40) [hm]
  · rename_i h
    exact State.burstEnds_memwf _ _ _ _ _ _ _ _ (State.burstMove_memwf hm h)

@[simp] theorem State.dmaWrite_memwf (a : Nat) (v : W32) (s : State) (hm : Memory.wf s.mem = true) : Memory.wf (State.dmaWrite a v s).mem = true := by
  first
  | (unfold State.dmaWrite; simp (maxDischargeDepth := 40) [hm] <;> (repeat' split) <;> simp (maxDischargeDepth := 40) [hm])
  | (unfold State.dmaWrite; (try dsimp only); (repeat' split) <;> (try simp (maxDischargeDepth := 40) [hm]; done) <;> (repeat' first | assumption | (apply foldl_memwf) | (intro s _ hm) | split | simp (maxDischargeDepth := 40) [*]))

@[simp] theorem State.recoverInstall_memwf (s : State) (hm : Memory.wf s.mem = true) : Memory.wf (State.recoverInstall s).mem = true := by
  first
  | (unfold State.recoverInstall; simp (maxDischargeDepth := 40) [hm] <;> (repeat' split) <;> simp (maxDischargeDepth := 40) [hm])
  | (unfold State.recoverInstall; (try dsimp only); (repeat' split) <;> (try simp (maxDischargeDepth := 40) [hm]; done) <;> (repeat' first | assumption | (apply foldl_memwf) | (intro s _ hm) | split | simp (maxDischargeDepth := 40) [*]))

@[simp] theorem State.relayChunk_memwf (kind : Nat) (index crc : W32) (l : List W8) (s : State) (hm : Memory.wf s.mem = true) : Memory.wf (State.relayChunk kind index crc l s).mem = true := by
  first
  | (unfold State.relayChunk; simp (maxDischargeDepth := 40) [hm] <;> (repeat' split) <;> simp (maxDischargeDepth := 40) [hm])
  | (unfold State.relayChunk; (try dsimp only); (repeat' split) <;> (try simp (maxDischargeDepth := 40) [hm]; done) <;> (repeat' first | assumption | (apply foldl_memwf) | (intro s _ hm) | split | simp (maxDischargeDepth := 40) [*]))

@[simp] theorem State.startPut_memwf (o v : Nat) (s : State) (hm : Memory.wf s.mem = true) : Memory.wf (State.startPut o v s).mem = true := by
  first
  | (unfold State.startPut; simp (maxDischargeDepth := 40) [hm] <;> (repeat' split) <;> simp (maxDischargeDepth := 40) [hm])
  | (unfold State.startPut; (try dsimp only); (repeat' split) <;> (try simp (maxDischargeDepth := 40) [hm]; done) <;> (repeat' first | assumption | (apply foldl_memwf) | (intro s _ hm) | split | simp (maxDischargeDepth := 40) [*]))

@[simp] theorem State.recoverImage_memwf (kind : Nat) (s : State) (hm : Memory.wf s.mem = true) : Memory.wf (State.recoverImage kind s).mem = true := by
  first
  | (unfold State.recoverImage; simp (maxDischargeDepth := 40) [hm] <;> (repeat' split) <;> simp (maxDischargeDepth := 40) [hm])
  | (unfold State.recoverImage; (try dsimp only); (repeat' split) <;> (try simp (maxDischargeDepth := 40) [hm]; done) <;> (repeat' first | assumption | (apply foldl_memwf) | (intro s _ hm) | split | simp (maxDischargeDepth := 40) [*]))

@[simp] theorem State.restoreLines_memwf (r : Retain) (s : State) (hm : Memory.wf s.mem = true) : Memory.wf (State.restoreLines r s).mem = true := by
  first
  | (unfold State.restoreLines; simp (maxDischargeDepth := 40) [hm] <;> (repeat' split) <;> simp (maxDischargeDepth := 40) [hm])
  | (unfold State.restoreLines; (try dsimp only); (repeat' split) <;> (try simp (maxDischargeDepth := 40) [hm]; done) <;> (repeat' first | assumption | (apply foldl_memwf) | (intro s _ hm) | split | simp (maxDischargeDepth := 40) [*]))

@[simp] theorem State.loadImage_memwf (image : List (W32 × List W8)) (s : State) (hm : Memory.wf s.mem = true) : Memory.wf (State.loadImage image s).mem = true := by
  refine foldl_memwf _ (fun s e h => ?_) _ _ hm
  cases hs : s.memStore none false e.1.toNat e.2 with
  | none => exact h
  | some s' => exact State.memStore_memwf h hs


@[simp] theorem State.startApplication_memwf (image : List (W32 × List W8)) (desc : W32) (levels : BitVec 512) (s : State) (hm : Memory.wf s.mem = true) : Memory.wf (State.startApplication image desc levels s).mem = true := by
  unfold State.startApplication
  dsimp only
  (repeat' split) <;> simp (maxDischargeDepth := 40) [hm]


@[simp] theorem State.copyItem_memwf (i : CopyItem) (s : State) (hm : Memory.wf s.mem = true) : Memory.wf (State.copyItem i s).mem = true := by
  first
  | (unfold State.copyItem; simp (maxDischargeDepth := 40) [hm] <;> (repeat' split) <;> simp (maxDischargeDepth := 40) [hm])
  | (unfold State.copyItem; (try dsimp only); (repeat' split) <;> (try simp (maxDischargeDepth := 40) [hm]; done) <;> (repeat' first | assumption | (apply foldl_memwf) | (intro s _ hm) | split | simp (maxDischargeDepth := 40) [*]))

@[simp] theorem State.copyArrives_memwf (items : List CopyItem) (kib : W16) (s : State) (hm : Memory.wf s.mem = true) : Memory.wf (State.copyArrives items kib s).mem = true := by
  first
  | (unfold State.copyArrives; simp (maxDischargeDepth := 40) [hm] <;> (repeat' split) <;> simp (maxDischargeDepth := 40) [hm])
  | (unfold State.copyArrives; (try dsimp only); (repeat' split) <;> (try simp (maxDischargeDepth := 40) [hm]; done) <;> (repeat' first | assumption | (apply foldl_memwf) | (intro s _ hm) | split | simp (maxDischargeDepth := 40) [*]))

@[simp] theorem State.bankArrives_memwf (a : Nat) (d : List W8) (s : State) (hm : Memory.wf s.mem = true) : Memory.wf (State.bankArrives a d s).mem = true := by
  unfold State.bankArrives
  split
  · split
    · simp [hm]
    · split
      · exact State.memStore_memwf hm ‹_›
      · simp [hm]
  · exact hm


@[simp] theorem State.runWaiting_memwf (m : Nat) (w : Waiting) (s : State) (hm : Memory.wf s.mem = true) : Memory.wf (State.runWaiting m w s).mem = true := by
  first
  | (unfold State.runWaiting; simp (maxDischargeDepth := 40) [hm] <;> (repeat' split) <;> simp (maxDischargeDepth := 40) [hm])
  | (unfold State.runWaiting; (try dsimp only); (repeat' split) <;> (try simp (maxDischargeDepth := 40) [hm]; done) <;> (repeat' first | assumption | (apply foldl_memwf) | (intro s _ hm) | split | simp (maxDischargeDepth := 40) [*]))

@[simp] theorem State.engineResume_memwf (m : Nat) (s : State) (hm : Memory.wf s.mem = true) : Memory.wf (State.engineResume m s).mem = true := by
  first
  | (unfold State.engineResume; simp (maxDischargeDepth := 40) [hm] <;> (repeat' split) <;> simp (maxDischargeDepth := 40) [hm])
  | (unfold State.engineResume; (try dsimp only); (repeat' split) <;> (try simp (maxDischargeDepth := 40) [hm]; done) <;> (repeat' first | assumption | (apply foldl_memwf) | (intro s _ hm) | split | simp (maxDischargeDepth := 40) [*]))

@[simp] theorem State.triWrite_memwf (a t : Nat) (v : W32) (s : State) (hm : Memory.wf s.mem = true) : Memory.wf (State.triWrite a t v s).mem = true := by
  first
  | (unfold State.triWrite; simp (maxDischargeDepth := 40) [hm] <;> (repeat' split) <;> simp (maxDischargeDepth := 40) [hm])
  | (unfold State.triWrite; (try dsimp only); (repeat' split) <;> (try simp (maxDischargeDepth := 40) [hm]; done) <;> (repeat' first | assumption | (apply foldl_memwf) | (intro s _ hm) | split | simp (maxDischargeDepth := 40) [*]))

@[simp] theorem State.grdWrite_memwf (who : Option Nat) (a : Nat) (v : W32) (s : State) (hm : Memory.wf s.mem = true) : Memory.wf (State.grdWrite who a v s).mem = true := by
  first
  | (unfold State.grdWrite; simp (maxDischargeDepth := 40) [hm] <;> (repeat' split) <;> simp (maxDischargeDepth := 40) [hm])
  | (unfold State.grdWrite; (try dsimp only); (repeat' split) <;> (try simp (maxDischargeDepth := 40) [hm]; done) <;> (repeat' first | assumption | (apply foldl_memwf) | (intro s _ hm) | split | simp (maxDischargeDepth := 40) [*]))

@[simp] theorem State.blockWrite_memwf (who : Option Nat) (a : Nat) (v : W32) (s : State) (hm : Memory.wf s.mem = true) : Memory.wf (State.blockWrite who a v s).mem = true := by
  unfold State.blockWrite
  repeat' with_reducible refine ite_memwf ?_ ?_
  all_goals first | exact hm | simp [hm]


@[simp] theorem State.regWrite_memwf (who : Option Nat) (a : Nat) (v : W32) (s : State) (hm : Memory.wf s.mem = true) : Memory.wf (State.regWrite who a v s).mem = true := by
  unfold State.regWrite
  dsimp only
  (repeat' split) <;> simp (maxDischargeDepth := 40) [hm]
  exact State.memStore_memwf hm ‹_›


theorem State.configWrite_memwf {a : Nat} {v : W32} {f : State → State} {s : State} (hm : Memory.wf s.mem = true)
    (hf : ∀ s, Memory.wf s.mem = true → Memory.wf (f s).mem = true) : Memory.wf (State.configWrite a v f s).mem = true := by
  unfold State.configWrite
  exact State.atBlock_memwf hm fun s h => by simpa using hf _ (by simpa using h)

theorem State.mirrorIn_memwf (a : Nat) (v : W32) (s : State) (hm : Memory.wf s.mem = true) :
    Memory.wf (State.mirrorIn a v s).1.mem = true := by
  unfold State.mirrorIn
  generalize s.ownAddrs a = l
  generalize hp : ((s, true) : State × Bool) = p
  have hq : Memory.wf p.1.mem = true := by rw [← hp]; exact hm
  clear hp hm
  induction l generalizing p with
  | nil => exact hq
  | cons b l ih =>
    refine ih _ ?_
    dsimp only
    split
    · exact hq
    · split <;> simp (maxDischargeDepth := 40) [hq]

@[simp] theorem State.cleanLine_memwf (x l : Nat) (s : State) (hm : Memory.wf s.mem = true) : Memory.wf (State.cleanLine x l s).mem = true := by
  first
  | (unfold State.cleanLine; simp (maxDischargeDepth := 40) [hm] <;> (repeat' split) <;> simp (maxDischargeDepth := 40) [hm])
  | (unfold State.cleanLine; (try dsimp only); (repeat' split) <;> (try simp (maxDischargeDepth := 40) [hm]; done) <;> (repeat' first | assumption | (apply foldl_memwf) | (intro s _ hm) | split | simp (maxDischargeDepth := 40) [*]))

@[simp] theorem State.sweep_memwf (x : Nat) (s : State) (hm : Memory.wf s.mem = true) : Memory.wf (State.sweep x s).mem = true := by
  first
  | (unfold State.sweep; simp (maxDischargeDepth := 40) [hm] <;> (repeat' split) <;> simp (maxDischargeDepth := 40) [hm])
  | (unfold State.sweep; (try dsimp only); (repeat' split) <;> (try simp (maxDischargeDepth := 40) [hm]; done) <;> (repeat' first | assumption | (apply foldl_memwf) | (intro s _ hm) | split | simp (maxDischargeDepth := 40) [*]))

@[simp] theorem State.makeRoom_memwf (x : Nat) (s : State) (hm : Memory.wf s.mem = true) :
    Memory.wf (State.makeRoom x s).2.mem = true := by
  unfold State.makeRoom
  split
  · exact hm
  · dsimp only
    split <;> simp (maxDischargeDepth := 40) [hm]

@[simp] theorem State.fillLine_memwf (x a : Nat) (s : State) (hm : Memory.wf s.mem = true) :
    Memory.wf (State.fillLine x a s).2.mem = true := by
  unfold State.fillLine
  split
  · exact hm
  · dsimp only
    split <;> simp (maxDischargeDepth := 40) [hm]

@[simp] theorem State.storeLine_memwf (x l : Nat) (d : List W8) (s : State) (hm : Memory.wf s.mem = true) : Memory.wf (State.storeLine x l d s).mem = true := by
  first
  | (unfold State.storeLine; simp (maxDischargeDepth := 40) [hm] <;> (repeat' split) <;> simp (maxDischargeDepth := 40) [hm])
  | (unfold State.storeLine; (try dsimp only); (repeat' split) <;> (try simp (maxDischargeDepth := 40) [hm]; done) <;> (repeat' first | assumption | (apply foldl_memwf) | (intro s _ hm) | split | simp (maxDischargeDepth := 40) [*]))

@[simp] theorem State.loadLines_memwf (t l n : Nat) (s : State) (hm : Memory.wf s.mem = true) : Memory.wf (State.loadLines t l n s).mem = true := by
  exact foldl_memwf _ (fun s x h => foldl_memwf _ (fun s i h => State.fillLine_memwf _ _ _ h) _ _ h) _ _ hm


@[simp] theorem State.coreLoad_memwf (x a n : Nat) (line : Bool) (s : State) (hm : Memory.wf s.mem = true) :
    Memory.wf (State.coreLoad x a n line s).s.mem = true := by
  unfold State.coreLoad
  dsimp only
  (repeat' split) <;> simp (maxDischargeDepth := 40) [hm]

@[simp] theorem State.coreStore_memwf (x a : Nat) (d : List W8) (line : Bool) (s : State) (hm : Memory.wf s.mem = true) :
    Memory.wf (State.coreStore x a d line s).s.mem = true := by
  unfold State.coreStore
  dsimp only
  have h0 : Memory.wf (if cached a = true then s.sweep x else s).mem = true := by split <;> simp (maxDischargeDepth := 40) [hm]
  revert h0
  generalize (if cached a = true then s.sweep x else s) = s0
  intro h0
  split
  · split <;> simp (maxDischargeDepth := 40) [h0]
  · split
    · split <;> simp (maxDischargeDepth := 40) [h0]
    · cases hs : (s0.accessCost x a true).2.memStore (some x) (!(s.ctx x).priv) a d with
      | none => simpa using h0
      | some s' => exact State.memStore_memwf (by simpa using h0) hs

theorem State.meets_memwf {cmp : Bool} {x a : Nat} {m : Meet} {s : State} {go : State → Ending} (hm : Memory.wf s.mem = true)
    (hg : ∀ s1, Memory.wf s1.mem = true → (go s1).memwf) : (State.meets cmp x a m s go).memwf := by
  have h1 : Memory.wf (s.meeting cmp x a m).mem = true := by simpa using hm
  unfold State.meets
  dsimp only
  split
  · exact h1
  · exact hg _ h1

@[simp] theorem State.coreRead_memwf (x a n : Nat) (line : Bool) (m : Meet) (s : State) (hm : Memory.wf s.mem = true) :
    Memory.wf (State.coreRead x a n line m s).s.mem = true := by
  have h := State.coreLoad_memwf x a n line s hm
  unfold State.coreRead
  dsimp only
  split <;> simpa using h

@[simp] theorem State.coreWrite_memwf (x a : Nat) (d : List W8) (line : Bool) (m : Meet) (s : State)
    (hm : Memory.wf s.mem = true) : Memory.wf (State.coreWrite x a d line m s).s.mem = true := by
  have h := State.coreStore_memwf x a d line s hm
  unfold State.coreWrite
  simpa using h

theorem Reply.ends_memwf {r : Reply} {x : Nat} {t : Trap} {go : List W8 → Ending} (hm : Memory.wf r.s.mem = true)
    (hg : ∀ d, (go d).memwf) : (r.ends x t go).memwf := by
  unfold Reply.ends
  (repeat' split) <;> first | exact hm | exact hg _

@[simp] theorem State.putFrame_memwf (x h o : Nat) (v : W32) (s : State) (hm : Memory.wf s.mem = true) : Memory.wf (State.putFrame x h o v s).mem = true := by
  first
  | (unfold State.putFrame; simp (maxDischargeDepth := 40) [hm] <;> (repeat' split) <;> simp (maxDischargeDepth := 40) [hm])
  | (unfold State.putFrame; (try dsimp only); (repeat' split) <;> (try simp (maxDischargeDepth := 40) [hm]; done) <;> (repeat' first | assumption | (apply foldl_memwf) | (intro s _ hm) | split | simp (maxDischargeDepth := 40) [*]))

@[simp] theorem State.saveFrame_memwf (x : Nat) (c : Ctx) (s : State) (hm : Memory.wf s.mem = true) : Memory.wf (State.saveFrame x c s).mem = true := by
  have h1 := foldl_memwf (fun s n => s.poke (frameBase x c.home.toNat + 8 * (n + 1)) 8 (sget (fun _ => 0) c.g (n + 1)).toNat)
    (fun s e h => by simp (maxDischargeDepth := 40) [h]) (List.range 31) s hm
  have h2 := foldl_memwf (fun s n => s.poke (frameBase x c.home.toNat + 0x100 + 8 * n) 8 (sget (fun _ => 0) c.f n).toNat)
    (fun s e h => by simp (maxDischargeDepth := 40) [h]) (List.range 16) _ h1
  exact State.putFrame_memwf _ _ _ _ _ (State.putFrame_memwf _ _ _ _ _ (State.putFrame_memwf _ _ _ _ _
    (State.putFrame_memwf _ _ _ _ _ (State.putFrame_memwf _ _ _ _ _ h2))))


@[simp] theorem State.saveCtx_memwf (x : Nat) (s : State) (hm : Memory.wf s.mem = true) : Memory.wf (State.saveCtx x s).mem = true := by
  first
  | (unfold State.saveCtx; simp (maxDischargeDepth := 40) [hm] <;> (repeat' split) <;> simp (maxDischargeDepth := 40) [hm])
  | (unfold State.saveCtx; (try dsimp only); (repeat' split) <;> (try simp (maxDischargeDepth := 40) [hm]; done) <;> (repeat' first | assumption | (apply foldl_memwf) | (intro s _ hm) | split | simp (maxDischargeDepth := 40) [*]))

theorem State.voted_memwf (x kind : Nat) (go : State → State) (s : State) (hg : ∀ s, Memory.wf s.mem = true → Memory.wf (go s).mem = true)
    (hm : Memory.wf s.mem = true) : Memory.wf (State.voted x kind go s).mem = true := by
  have h1 : Memory.wf (s.sigVote x kind).mem = true := by simp (maxDischargeDepth := 40) [hm]
  unfold State.voted
  dsimp only
  split
  · exact h1
  · exact hg _ h1

theorem State.savedThen_memwf (x : Nat) (go : State → State) (s : State) (hg : ∀ s, Memory.wf s.mem = true → Memory.wf (go s).mem = true)
    (hm : Memory.wf s.mem = true) : Memory.wf (State.savedThen x go s).mem = true :=
  State.voted_memwf _ _ _ _ (fun s h => hg _ (State.saveCtx_memwf _ _ h)) hm

@[simp] theorem State.entered_memwf (x n : Nat) (s : State) (hm : Memory.wf s.mem = true) : Memory.wf (State.entered x n s).mem = true := by
  first
  | (unfold State.entered; simp (maxDischargeDepth := 40) [hm] <;> (repeat' split) <;> simp (maxDischargeDepth := 40) [hm])
  | (unfold State.entered; (try dsimp only); (repeat' split) <;> (try simp (maxDischargeDepth := 40) [hm]; done) <;> (repeat' first | assumption | (apply foldl_memwf) | (intro s _ hm) | split | simp (maxDischargeDepth := 40) [*]))

@[simp] theorem State.enter_memwf (x n : Nat) (s : State) (hm : Memory.wf s.mem = true) : Memory.wf (State.enter x n s).mem = true := by
  exact State.voted_memwf _ _ _ _ (fun s h => State.entered_memwf _ _ _ h) hm


@[simp] theorem State.proceed_memwf (x n : Nat) (s : State) (hm : Memory.wf s.mem = true) : Memory.wf (State.proceed x n s).mem = true := by
  first
  | (unfold State.proceed; simp (maxDischargeDepth := 40) [hm] <;> (repeat' split) <;> simp (maxDischargeDepth := 40) [hm])
  | (unfold State.proceed; (try dsimp only); (repeat' split) <;> (try simp (maxDischargeDepth := 40) [hm]; done) <;> (repeat' first | assumption | (apply foldl_memwf) | (intro s _ hm) | split | simp (maxDischargeDepth := 40) [*]))

@[simp] theorem State.actDone_memwf (x : Nat) (s : State) (hm : Memory.wf s.mem = true) : Memory.wf (State.actDone x s).mem = true := by
  first
  | (unfold State.actDone; simp (maxDischargeDepth := 40) [hm] <;> (repeat' split) <;> simp (maxDischargeDepth := 40) [hm])
  | (unfold State.actDone; (try dsimp only); (repeat' split) <;> (try simp (maxDischargeDepth := 40) [hm]; done) <;> (repeat' first | assumption | (apply foldl_memwf) | (intro s _ hm) | split | simp (maxDischargeDepth := 40) [*]))

@[simp] theorem State.actEnd_memwf (x : Nat) (s : State) (hm : Memory.wf s.mem = true) : Memory.wf (State.actEnd x s).mem = true := by
  exact State.voted_memwf _ _ _ _ (fun s h => State.actDone_memwf _ _ h) hm


@[simp] theorem State.doubleFault_memwf (x vector : Nat) (s : State) (hm : Memory.wf s.mem = true) : Memory.wf (State.doubleFault x vector s).mem = true := by
  first
  | (unfold State.doubleFault; simp (maxDischargeDepth := 40) [hm] <;> (repeat' split) <;> simp (maxDischargeDepth := 40) [hm])
  | (unfold State.doubleFault; (try dsimp only); (repeat' split) <;> (try simp (maxDischargeDepth := 40) [hm]; done) <;> (repeat' first | assumption | (apply foldl_memwf) | (intro s _ hm) | split | simp (maxDischargeDepth := 40) [*]))

@[simp] theorem State.trapTaken_memwf (x : Nat) (t : Trap) (word : W32) (s : State) (hm : Memory.wf s.mem = true) : Memory.wf (State.trapTaken x t word s).mem = true := by
  unfold State.trapTaken
  dsimp only
  split
  · simp (maxDischargeDepth := 40) [hm]
  · split <;> simp (maxDischargeDepth := 40) [hm]


@[simp] theorem State.takeTrap_memwf (x : Nat) (t : Trap) (word : W32) (s : State) (hm : Memory.wf s.mem = true) : Memory.wf (State.takeTrap x t word s).mem = true := by
  exact State.voted_memwf _ _ _ _ (fun s h => State.trapTaken_memwf _ _ _ _ h) hm


@[simp] theorem State.retired_memwf (x cost : Nat) (s : State) (hm : Memory.wf s.mem = true) : Memory.wf (State.retired x cost s).mem = true := by
  first
  | (unfold State.retired; simp (maxDischargeDepth := 40) [hm] <;> (repeat' split) <;> simp (maxDischargeDepth := 40) [hm])
  | (unfold State.retired; (try dsimp only); (repeat' split) <;> (try simp (maxDischargeDepth := 40) [hm]; done) <;> (repeat' first | assumption | (apply foldl_memwf) | (intro s _ hm) | split | simp (maxDischargeDepth := 40) [*]))

theorem State.fetchFound_memwf {x : Nat} {b : Option Nat} {m : Meet} {cost : Nat} {s : State} (hm : Memory.wf s.mem = true) :
    (State.fetchFound x b m cost s).memwf := by
  unfold State.fetchFound
  split
  · exact hm
  · dsimp only
    (repeat' split) <;> simpa using hm

theorem State.fetch_memwf (x : Nat) (long : Bool) (m : Meet) (s : State) (hm : Memory.wf s.mem = true) :
    (State.fetch x long m s).memwf := by
  unfold State.fetch
  refine State.meets_memwf hm fun s1 h => ?_
  have hf : Memory.wf (s1.fetchExtra x (s.ctx x).pc.toNat long).2.mem = true := by simpa using h
  refine State.fetchWord_memwf h ?_
  (repeat' split) <;> first
    | exact State.fetchWord_memwf h (State.fetchFound_memwf hf)
    | exact State.fetchFound_memwf hf
    | exact h

theorem State.insn_memwf {x : Nat} {fm : Meet} {w : W32} {long : Bool} {body : State → Ending} {s : State} (hm : Memory.wf s.mem = true)
    (hb : ∀ s1, Memory.wf s1.mem = true → (body s1).memwf) : Memory.wf (State.insn x fm w long body s).mem = true := by
  unfold State.insn
  split
  · have hf := State.fetch_memwf x long fm s hm
    split
    · rename_i h; rw [h] at hf; exact State.takeTrap_memwf _ _ _ _ hf
    · rename_i h; rw [h] at hf; exact hf
    · rename_i s1 e h
      rw [h] at hf
      have h1 := hb s1 hf
      split
      · rename_i h; rw [h] at h1; exact State.takeTrap_memwf _ _ _ _ h1
      · rename_i h; rw [h] at h1; exact h1
      · rename_i h; rw [h] at h1; exact State.retired_memwf _ _ _ h1
  · exact hm

@[simp] theorem State.regInsn_memwf (x : Nat) (fm : Meet) (w : W32) (long : Bool) (cost : Nat) (f : Ctx → Ctx) (s : State)
    (hm : Memory.wf s.mem = true) : Memory.wf (State.regInsn x fm w long cost f s).mem = true :=
  State.insn_memwf hm fun s1 h1 => by simpa using h1

@[simp] theorem State.badInsn_memwf (x : Nat) (fm : Meet) (w : W32) (long : Bool) (s : State)
    (hm : Memory.wf s.mem = true) : Memory.wf (State.badInsn x fm w long s).mem = true :=
  State.insn_memwf hm fun s1 h1 => h1

@[simp] theorem State.opr_memwf (x : Nat) (fm : Meet) (fn cost : Nat) (op : Nat → Nat → Nat → IntRes) (d f : Bool) (rd ra rb : GReg) (s : State) (hm : Memory.wf s.mem = true) : Memory.wf (State.opr x fm fn cost op d f rd ra rb s).mem = true := by
  first
  | (unfold State.opr; simp (maxDischargeDepth := 40) [hm] <;> (repeat' split) <;> simp (maxDischargeDepth := 40) [hm])
  | (unfold State.opr; (try dsimp only); (repeat' split) <;> (try simp (maxDischargeDepth := 40) [hm]; done) <;> (repeat' first | assumption | (apply foldl_memwf) | (intro s _ hm) | split | simp (maxDischargeDepth := 40) [*]))

@[simp] theorem State.divide_memwf (x : Nat) (fm : Meet) (fn : Nat) (op : Nat → Nat → Nat → IntRes) (d f : Bool) (rd ra rb : GReg) (s : State) (hm : Memory.wf s.mem = true) : Memory.wf (State.divide x fm fn op d f rd ra rb s).mem = true := by
  exact State.insn_memwf hm fun s1 h1 => by split <;> simpa using h1


@[simp] theorem State.unary_memwf (x : Nat) (fm : Meet) (fn : Nat) (op : Nat → Nat → Nat) (d : Bool) (rd ra : GReg) (s : State) (hm : Memory.wf s.mem = true) : Memory.wf (State.unary x fm fn op d rd ra s).mem = true := by
  first
  | (unfold State.unary; simp (maxDischargeDepth := 40) [hm] <;> (repeat' split) <;> simp (maxDischargeDepth := 40) [hm])
  | (unfold State.unary; (try dsimp only); (repeat' split) <;> (try simp (maxDischargeDepth := 40) [hm]; done) <;> (repeat' first | assumption | (apply foldl_memwf) | (intro s _ hm) | split | simp (maxDischargeDepth := 40) [*]))

@[simp] theorem State.extendReg_memwf (x : Nat) (fm : Meet) (fn n : Nat) (z : Bool) (rd ra : GReg) (s : State) (hm : Memory.wf s.mem = true) : Memory.wf (State.extendReg x fm fn n z rd ra s).mem = true := by
  first
  | (unfold State.extendReg; simp (maxDischargeDepth := 40) [hm] <;> (repeat' split) <;> simp (maxDischargeDepth := 40) [hm])
  | (unfold State.extendReg; (try dsimp only); (repeat' split) <;> (try simp (maxDischargeDepth := 40) [hm]; done) <;> (repeat' first | assumption | (apply foldl_memwf) | (intro s _ hm) | split | simp (maxDischargeDepth := 40) [*]))

@[simp] theorem State.limm_memwf (x : Nat) (fm : Meet) (kind : Nat) (d : Bool) (rd ra : GReg) (f : W64 → W64) (s : State) (hm : Memory.wf s.mem = true) : Memory.wf (State.limm x fm kind d rd ra f s).mem = true := by
  first
  | (unfold State.limm; simp (maxDischargeDepth := 40) [hm] <;> (repeat' split) <;> simp (maxDischargeDepth := 40) [hm])
  | (unfold State.limm; (try dsimp only); (repeat' split) <;> (try simp (maxDischargeDepth := 40) [hm]; done) <;> (repeat' first | assumption | (apply foldl_memwf) | (intro s _ hm) | split | simp (maxDischargeDepth := 40) [*]))

theorem State.loadAt_memwf {x a n : Nat} {put : List W8 → Ctx → Ctx} {m : Meet} {s : State} (hm : Memory.wf s.mem = true) :
    (State.loadAt x a n put m s).memwf := by
  unfold State.loadAt
  split
  · exact hm
  · exact State.meets_memwf hm fun s h => State.guarded_memwf h
      (Reply.ends_memwf (State.coreRead_memwf _ _ _ _ _ _ h) fun d => by simpa using State.coreRead_memwf x a n false m s h)

theorem State.storeAt_memwf {x a : Nat} {d : List W8} {m : Meet} {s : State} (hm : Memory.wf s.mem = true) :
    (State.storeAt x a d m s).memwf := by
  unfold State.storeAt
  split
  · exact hm
  · refine State.meets_memwf hm fun s h => State.guarded_memwf h ?_
    have hw := State.coreWrite_memwf x a d false m s h
    dsimp only
    (repeat' split) <;> simpa using hw

theorem State.branch_memwf (x n : Nat) (disp : BitVec n) (taken : Bool) (c : Ctx) (s : State) (hm : Memory.wf s.mem = true) :
    (State.branch x n disp taken c s).memwf := by
  unfold State.branch
  split <;> simpa using hm

@[simp] theorem State.rounding_memwf (x : Nat) (fm : Meet) (w : W32) (rm : Fin 8) (cost : Nat) (f : Nat → Ctx → Ctx) (s : State) (hm : Memory.wf s.mem = true) : Memory.wf (State.rounding x fm w rm cost f s).mem = true := by
  first
  | (unfold State.rounding; simp (maxDischargeDepth := 40) [hm] <;> (repeat' split) <;> simp (maxDischargeDepth := 40) [hm])
  | (unfold State.rounding; (try dsimp only); (repeat' split) <;> (try simp (maxDischargeDepth := 40) [hm]; done) <;> (repeat' first | assumption | (apply foldl_memwf) | (intro s _ hm) | split | simp (maxDischargeDepth := 40) [*]))

@[simp] theorem State.fop_memwf (x : Nat) (fm : Meet) (fn : Nat) (op : Fmt → Nat → Nat → Nat → FRes) (cs cd : Nat) (d : Bool) (rm : Fin 8) (fd fa fb : FReg) (s : State) (hm : Memory.wf s.mem = true) : Memory.wf (State.fop x fm fn op cs cd d rm fd fa fb s).mem = true := by
  first
  | (unfold State.fop; simp (maxDischargeDepth := 40) [hm] <;> (repeat' split) <;> simp (maxDischargeDepth := 40) [hm])
  | (unfold State.fop; (try dsimp only); (repeat' split) <;> (try simp (maxDischargeDepth := 40) [hm]; done) <;> (repeat' first | assumption | (apply foldl_memwf) | (intro s _ hm) | split | simp (maxDischargeDepth := 40) [*]))

@[simp] theorem State.fplain_memwf (x : Nat) (fm : Meet) (fn cost : Nat) (d : Bool) (fd fa fb : FReg) (f : Ctx → Ctx) (s : State) (hm : Memory.wf s.mem = true) : Memory.wf (State.fplain x fm fn cost d fd fa fb f s).mem = true := by
  first
  | (unfold State.fplain; simp (maxDischargeDepth := 40) [hm] <;> (repeat' split) <;> simp (maxDischargeDepth := 40) [hm])
  | (unfold State.fplain; (try dsimp only); (repeat' split) <;> (try simp (maxDischargeDepth := 40) [hm]; done) <;> (repeat' first | assumption | (apply foldl_memwf) | (intro s _ hm) | split | simp (maxDischargeDepth := 40) [*]))

@[simp] theorem State.fmaInsn_memwf (x : Nat) (fm : Meet) (kind : Nat) (np nc d : Bool) (rm : Fin 8) (fd fa fb fc : FReg) (s : State) (hm : Memory.wf s.mem = true) : Memory.wf (State.fmaInsn x fm kind np nc d rm fd fa fb fc s).mem = true := by
  first
  | (unfold State.fmaInsn; simp (maxDischargeDepth := 40) [hm] <;> (repeat' split) <;> simp (maxDischargeDepth := 40) [hm])
  | (unfold State.fmaInsn; (try dsimp only); (repeat' split) <;> (try simp (maxDischargeDepth := 40) [hm]; done) <;> (repeat' first | assumption | (apply foldl_memwf) | (intro s _ hm) | split | simp (maxDischargeDepth := 40) [*]))

theorem State.privInsn_memwf {x : Nat} {fm : Meet} {w : W32} {body : State → Ending} {s : State} (hm : Memory.wf s.mem = true)
    (hb : ∀ s1, Memory.wf s1.mem = true → (body s1).memwf) : Memory.wf (State.privInsn x fm w body s).mem = true :=
  State.insn_memwf hm fun s1 h1 => by
    split
    · exact hb s1 h1
    · exact h1

@[simp] theorem State.displace_memwf (x : Nat) (s : State) (hm : Memory.wf s.mem = true) : Memory.wf (State.displace x s).mem = true := by
  unfold State.displace
  dsimp only
  split
  · exact State.savedThen_memwf _ _ _ (fun s h => State.proceed_memwf _ _ _ h) hm
  · exact hm


theorem State.writesBack_memwf {x l : Nat} {m : Meet} {s : State} {go : State → Ending} (hm : Memory.wf s.mem = true)
    (hg : ∀ s1, Memory.wf s1.mem = true → (go s1).memwf) : (State.writesBack x l m s go).memwf := State.meets_memwf hm hg

theorem State.typed_memwf {x : Nat} {ra : GReg} {n k : Nat} {ms : List Meet} {go : Nat → Nat → State → Ending} {s : State}
    (hm : Memory.wf s.mem = true) (hg : ∀ e c s1, Memory.wf s1.mem = true → (go e c s1).memwf) :
    (State.typed x ra n k ms go s).memwf := by
  unfold State.typed
  dsimp only
  split
  · exact hm
  · refine State.meets_memwf hm fun s h => State.guarded_memwf h (Reply.ends_memwf (by simp (maxDischargeDepth := 40) [h]) fun d => ?_)
    refine Reply.ends_memwf (by simp (maxDischargeDepth := 40) [h]) fun t => ?_
    (repeat' split) <;> first | exact hg _ _ _ (by simp (maxDischargeDepth := 40) [h]) | simp (maxDischargeDepth := 40) [h]

theorem State.cell_memwf {x : Nat} {fm : Meet} {w : W32} {n index tag kind so k : Nat} {rd : GReg} {ms : List Meet}
    {f : Ctx → List W8 → List W8 × W64} {s : State} (hm : Memory.wf s.mem = true) :
    Memory.wf (State.cell x fm w n index tag kind so k rd ms f s).mem = true := by
  refine State.insn_memwf hm fun s1 h1 => ?_
  dsimp only
  split
  · exact h1
  · refine State.meets_memwf h1 fun s2 h2 => State.guarded_memwf h2 (Reply.ends_memwf (by simp (maxDischargeDepth := 40) [h2]) fun d => ?_)
    split
    · simp (maxDischargeDepth := 40) [h2]
    · refine State.meets_memwf (by simp (maxDischargeDepth := 40) [h2]) fun s3 h3 => ?_
      split <;> simp (maxDischargeDepth := 40) [h3]

@[simp] theorem State.tmr_memwf (x : Nat) (fm : Meet) (kind : Nat) (rd rin rpt : GReg) (index : BitVec 9) (ms : List Meet) (s : State) (hm : Memory.wf s.mem = true) : Memory.wf (State.tmr x fm kind rd rin rpt index ms s).mem = true := by
  unfold State.tmr
  dsimp only
  split
  · exact State.badInsn_memwf _ _ _ _ _ hm
  · exact State.cell_memwf hm


@[simp] theorem State.ctr_memwf (x : Nat) (fm : Meet) (kind : Nat) (rd rin rpv : GReg) (index : BitVec 9) (ms : List Meet) (s : State) (hm : Memory.wf s.mem = true) : Memory.wf (State.ctr x fm kind rd rin rpv index ms s).mem = true := by
  unfold State.ctr
  dsimp only
  split
  · exact State.badInsn_memwf _ _ _ _ _ hm
  · exact State.cell_memwf hm


@[simp] theorem State.edgeCell_memwf (x : Nat) (fm : Meet) (kind : Nat) (rd rin : GReg) (index : BitVec 14) (ms : List Meet) (s : State) (hm : Memory.wf s.mem = true) : Memory.wf (State.edgeCell x fm kind rd rin index ms s).mem = true := by
  unfold State.edgeCell
  dsimp only
  split
  · exact State.badInsn_memwf _ _ _ _ _ hm
  · exact State.cell_memwf hm


theorem State.moveStore_memwf {x : Nat} {l fill : Bool} {rd ra rb : GReg} {d : List W8} {cost : Nat} {m : Meet} {s : State}
    (hm : Memory.wf s.mem = true) : (State.moveStore x l fill rd ra rb d cost m s).memwf := by
  unfold State.moveStore
  refine State.meets_memwf hm fun s h => ?_
  dsimp only
  split <;> simp (maxDischargeDepth := 40) [h]

@[simp] theorem State.spanLoad_memwf (x a n : Nat) (m : Meet) (s : State) (hm : Memory.wf s.mem = true) :
    Memory.wf (State.spanLoad x a n m s).s.mem = true := by
  unfold State.spanLoad
  dsimp only
  split <;> simp (maxDischargeDepth := 40) [hm]

theorem State.migRead_memwf {x a n : Nat} {m : Meet} {k : Nat} {rest : State → Nat} {s : State} {go : List W8 → Nat → State → Ending}
    (hm : Memory.wf s.mem = true) (hg : ∀ d k s1, Memory.wf s1.mem = true → (go d k s1).memwf) :
    (State.migRead x a n m k rest s go).memwf :=
  Reply.ends_memwf (by simp (maxDischargeDepth := 40) [hm]) fun d => hg _ _ _ (by simp (maxDischargeDepth := 40) [hm])

theorem State.migLoad_memwf {x a n : Nat} {m : Meet} {k : Nat} {rest : State → Nat} {s : State} {go : List W8 → Nat → State → Ending}
    (hm : Memory.wf s.mem = true) (hg : ∀ d k s1, Memory.wf s1.mem = true → (go d k s1).memwf) :
    (State.migLoad x a n m k rest s go).memwf :=
  State.meets_memwf hm fun _ h => State.migGuarded_memwf h (State.migRead_memwf h hg)

theorem State.migStore_memwf {x a : Nat} {d : List W8} {m : Meet} {k : Nat} {put : Ctx → Ctx} {s : State}
    (hm : Memory.wf s.mem = true) : (State.migStore x a d m k put s).memwf := by
  unfold State.migStore
  refine State.meets_memwf hm fun s h => ?_
  dsimp only
  split <;> simp (maxDischargeDepth := 40) [h]

theorem State.migUnit_memwf {x : Nat} {rd rb : GReg} {o : MigOp} {e : MigEntry} {prog cost : Nat} {ms : List Meet} {s : State}
    (hm : Memory.wf s.mem = true) : (State.migUnit x rd rb o e prog cost ms s).memwf := by
  unfold State.migUnit
  dsimp only
  split
  · simpa using hm
  · split
    · refine State.meets_memwf hm fun s h => State.migGuarded_memwf h (State.migGuarded_memwf h (State.migRead_memwf h fun d k s h => ?_))
      split
      · simpa using h
      · exact State.migStore_memwf h
    · exact State.migGuarded_memwf hm (State.migStore_memwf hm)

theorem State.migOperation_memwf {x : Nat} {rd rb : GReg} {ea ad : Nat} {e : MigEntry} {ms : List Meet} {s : State}
    (hm : Memory.wf s.mem = true) : (State.migOperation x rd rb ea ad e ms s).memwf := by
  unfold State.migOperation
  dsimp only
  refine State.migLoad_memwf hm fun d k s h => ?_
  split
  · refine State.migLoad_memwf h fun b k s h => ?_
    (repeat' split) <;> first | exact State.migUnit_memwf h | simpa using h
  · split
    · simpa using h
    · exact State.migUnit_memwf h

theorem State.migHeader_memwf {x : Nat} {rd ra rb : GReg} {ad : Nat} {e : MigEntry} {m : Meet} {s : State}
    (hm : Memory.wf s.mem = true) : (State.migHeader x rd ra rb ad e m s).memwf := by
  unfold State.migHeader
  split
  · simpa using hm
  · exact State.migGuarded_memwf hm (State.migStore_memwf hm)

theorem State.migr_memwf {x : Nat} {fm : Meet} {kind : MigStep} {rd ra rb : GReg} {ms : List Meet} {s : State}
    (hm : Memory.wf s.mem = true) : Memory.wf (State.migr x fm kind rd ra rb ms s).mem = true := by
  unfold State.migr
  dsimp only
  refine ite_memwf hm (State.privInsn_memwf hm fun s1 h1 => ?_)
  split
  · exact h1
  · refine State.migLoad_memwf h1 fun d k s2 h2 => ?_
    split
    · unfold State.migEnd
      dsimp only
      split <;> simp (maxDischargeDepth := 40) [h2]
    · exact State.migOperation_memwf h2
    · exact State.migHeader_memwf h2

theorem State.amoWrite_memwf {x a n cost : Nat} {v : Option Nat} {put : Ctx → Ctx} {s : State} (hm : Memory.wf s.mem = true) :
    (State.amoWrite x a n cost v put s).memwf := by
  unfold State.amoWrite
  dsimp only
  (repeat' split) <;> simp (maxDischargeDepth := 40) [hm]

theorem State.amo_memwf {x : Nat} {fm : Meet} {op : Nat} {d : Bool} {rd ra rb : GReg} {f : Ctx → Nat → Option Nat} {z : Nat → Ctx → Ctx}
    {m : Meet} {s : State} (hm : Memory.wf s.mem = true) : Memory.wf (State.amo x fm op d rd ra rb f z m s).mem = true := by
  refine State.insn_memwf hm fun s1 h1 => ?_
  dsimp only
  split
  · exact h1
  · refine State.meets_memwf h1 fun s2 h2 => State.guarded_memwf h2 ?_
    split
    · simp (maxDischargeDepth := 40) [h2]
    · exact Reply.ends_memwf (by simp (maxDischargeDepth := 40) [h2]) fun b => State.amoWrite_memwf (by simp (maxDischargeDepth := 40) [h2])

@[simp] theorem State.amoOp_memwf (x : Nat) (fm : Meet) (op : Nat) (g : Nat → Nat → Nat → IntRes) (d : Bool) (rd ra rb : GReg) (m : Meet) (s : State) (hm : Memory.wf s.mem = true) : Memory.wf (State.amoOp x fm op g d rd ra rb m s).mem = true := by
  exact State.amo_memwf hm


end Sys2Proof.Machine
end

