-- ==== Sys2Proof/Laws/ExecForm.lean ====
section
/-!
SUPPORT. The commands that write memory, one by one: each keeps its canonical form.
-/
namespace Sys2Proof.Machine

theorem execSpareWakeDone_memwf {slot : Fin 4} {s s' : State} (hm : Memory.wf s.mem = true) (h : execSpareWakeDone slot s = .next s') :
    Memory.wf s'.mem = true := by
  unfold execSpareWakeDone at h
  (try dsimp only at h)
  (repeat' split at h) <;> (obtain rfl := Host.Outcome.next.inj h) <;> (first | (simp (maxDischargeDepth := 40) [hm]; done) | ((repeat' split) <;> simp (maxDischargeDepth := 40) [hm]; done) | (refine State.insn_memwf hm fun s1 h1 => ?_; first | exact State.loadAt_memwf h1 | exact State.storeAt_memwf h1 | exact h1 | skip; (try dsimp only); (repeat' split) <;> first | exact h1 | exact State.loadAt_memwf h1 | exact State.storeAt_memwf h1 | simp (maxDischargeDepth := 40) [h1, State.branch]; done) | (refine State.privInsn_memwf hm fun s1 h1 => ?_; simp (maxDischargeDepth := 40) [h1]; done))

theorem execSplitEffect_memwf {t : Fin 4} {s s' : State} (hm : Memory.wf s.mem = true) (h : execSplitEffect t s = .next s') :
    Memory.wf s'.mem = true := by
  unfold execSplitEffect at h
  split at h <;> (obtain rfl := Host.Outcome.next.inj h)
  · simp only [State.fire_mem, State.abandonAll_mem]
    exact foldl_memwf _ (fun s k hs => by simp (maxDischargeDepth := 40) [hs]) _ _ (by simp (maxDischargeDepth := 40) [hm])
  · exact hm

theorem execJoinDone_memwf {t : Fin 4} {when : W64} {same1 same2 : Bool} {s s' : State} (hm : Memory.wf s.mem = true) (h : execJoinDone t when same1 same2 s = .next s') :
    Memory.wf s'.mem = true := by
  unfold execJoinDone at h
  split at h
  · dsimp only at h
    have key (s : State) (hs : Memory.wf s.mem = true) :
        Memory.wf ((List.range 3).foldl (fun s k => (s.dropMem (splitTcd (s.laneCore t k)) 0x80000).abandonAll
          (16 + s.laneCore t k)) s).mem = true := foldl_memwf _ (fun s k hs => by simp (maxDischargeDepth := 40) [hs]) _ _ hs
    (repeat' split at h) <;> (obtain rfl := Host.Outcome.next.inj h) <;> simp (maxDischargeDepth := 40) [hm, key]
  · obtain rfl := Host.Outcome.next.inj h; exact hm

theorem execResyncHoldoffEnd_memwf {t : Fin 4} {s s' : State} (hm : Memory.wf s.mem = true) (h : execResyncHoldoffEnd t s = .next s') :
    Memory.wf s'.mem = true := by
  unfold execResyncHoldoffEnd at h
  dsimp only at h
  split at h
  · obtain rfl := Host.Outcome.next.inj h; simpa using hm
  · split at h
    · split at h <;> (obtain rfl := Host.Outcome.next.inj h) <;> simp (maxDischargeDepth := 40) [hm]
    · split at h <;> (obtain rfl := Host.Outcome.next.inj h)
      · refine foldl_memwf _ (fun s e hs => ?_) _ _ (by simpa using hm)
        split <;> simp (maxDischargeDepth := 40) [hs]
      · simpa using hm

theorem execStartIndep_memwf {w : Fin 4} {slot : Fin 4} {s s' : State} (hm : Memory.wf s.mem = true) (h : execStartIndep w slot s = .next s') :
    Memory.wf s'.mem = true := by
  obtain rfl := Host.Outcome.next.inj h
  first | (simp (maxDischargeDepth := 40) [hm]; done) | ((repeat' split) <;> simp (maxDischargeDepth := 40) [hm]; done) | (refine State.insn_memwf hm fun s1 h1 => ?_; first | exact State.loadAt_memwf h1 | exact State.storeAt_memwf h1 | exact h1 | skip; (try dsimp only); (repeat' split) <;> first | exact h1 | exact State.loadAt_memwf h1 | exact State.storeAt_memwf h1 | simp (maxDischargeDepth := 40) [h1, State.branch]; done) | (refine State.privInsn_memwf hm fun s1 h1 => ?_; simp (maxDischargeDepth := 40) [h1]; done)

theorem execGuardSelfTest_memwf {m : Fin 48} {lane : Fin 3} {pass : Bool} {s s' : State} (hm : Memory.wf s.mem = true) (h : execGuardSelfTest m lane pass s = .next s') :
    Memory.wf s'.mem = true := by
  unfold execGuardSelfTest at h
  (try dsimp only at h)
  (repeat' split at h) <;> (obtain rfl := Host.Outcome.next.inj h) <;> (first | (simp (maxDischargeDepth := 40) [hm]; done) | ((repeat' split) <;> simp (maxDischargeDepth := 40) [hm]; done) | (refine State.insn_memwf hm fun s1 h1 => ?_; first | exact State.loadAt_memwf h1 | exact State.storeAt_memwf h1 | exact h1 | skip; (try dsimp only); (repeat' split) <;> first | exact h1 | exact State.loadAt_memwf h1 | exact State.storeAt_memwf h1 | simp (maxDischargeDepth := 40) [h1, State.branch]; done) | (refine State.privInsn_memwf hm fun s1 h1 => ?_; simp (maxDischargeDepth := 40) [h1]; done))

theorem execModuleResetRequest_memwf {v : W32} {s s' : State} (hm : Memory.wf s.mem = true) (h : execModuleResetRequest v s = .next s') :
    Memory.wf s'.mem = true := by
  obtain rfl := Host.Outcome.next.inj h
  split <;> first | exact hm | exact State.resetCtrlWrite_memwf _ _ hm

theorem execTriadResetRequest_memwf {v : W32} {s s' : State} (hm : Memory.wf s.mem = true) (h : execTriadResetRequest v s = .next s') :
    Memory.wf s'.mem = true := by
  obtain rfl := Host.Outcome.next.inj h
  split <;> first | exact hm | exact State.resetCtrlWrite_memwf _ _ hm

theorem execIslandPowerLoss_memwf {i : Fin 48} {s s' : State} (hm : Memory.wf s.mem = true) (h : execIslandPowerLoss i s = .next s') :
    Memory.wf s'.mem = true := by
  unfold execIslandPowerLoss at h
  (try dsimp only at h)
  (repeat' split at h) <;> (obtain rfl := Host.Outcome.next.inj h) <;> (first | (simp (maxDischargeDepth := 40) [hm]; done) | ((repeat' split) <;> simp (maxDischargeDepth := 40) [hm]; done) | (refine State.insn_memwf hm fun s1 h1 => ?_; first | exact State.loadAt_memwf h1 | exact State.storeAt_memwf h1 | exact h1 | skip; (try dsimp only); (repeat' split) <;> first | exact h1 | exact State.loadAt_memwf h1 | exact State.storeAt_memwf h1 | simp (maxDischargeDepth := 40) [h1, State.branch]; done) | (refine State.privInsn_memwf hm fun s1 h1 => ?_; simp (maxDischargeDepth := 40) [h1]; done))

theorem execSleepPrepareDone_memwf {i : Fin 9} {block : Fin 49} {cause : Fin 9} {s s' : State} (hm : Memory.wf s.mem = true) (h : execSleepPrepareDone i block cause s = .next s') :
    Memory.wf s'.mem = true := by
  unfold execSleepPrepareDone at h
  (try dsimp only at h)
  (repeat' split at h) <;> (obtain rfl := Host.Outcome.next.inj h) <;> (first | (simp (maxDischargeDepth := 40) [hm]; done) | ((repeat' split) <;> simp (maxDischargeDepth := 40) [hm]; done) | (refine State.insn_memwf hm fun s1 h1 => ?_; first | exact State.loadAt_memwf h1 | exact State.storeAt_memwf h1 | exact h1 | skip; (try dsimp only); (repeat' split) <;> first | exact h1 | exact State.loadAt_memwf h1 | exact State.storeAt_memwf h1 | simp (maxDischargeDepth := 40) [h1, State.branch]; done) | (refine State.privInsn_memwf hm fun s1 h1 => ?_; simp (maxDischargeDepth := 40) [h1]; done))

theorem execSleepPrepareTimeout_memwf {i : Fin 9} {block : Fin 49} {s s' : State} (hm : Memory.wf s.mem = true) (h : execSleepPrepareTimeout i block s = .next s') :
    Memory.wf s'.mem = true := by
  unfold execSleepPrepareTimeout at h
  (try dsimp only at h)
  (repeat' split at h) <;> (obtain rfl := Host.Outcome.next.inj h) <;> (first | (simp (maxDischargeDepth := 40) [hm]; done) | ((repeat' split) <;> simp (maxDischargeDepth := 40) [hm]; done) | (refine State.insn_memwf hm fun s1 h1 => ?_; first | exact State.loadAt_memwf h1 | exact State.storeAt_memwf h1 | exact h1 | skip; (try dsimp only); (repeat' split) <;> first | exact h1 | exact State.loadAt_memwf h1 | exact State.storeAt_memwf h1 | simp (maxDischargeDepth := 40) [h1, State.branch]; done) | (refine State.privInsn_memwf hm fun s1 h1 => ?_; simp (maxDischargeDepth := 40) [h1]; done))

theorem execSleepCommitDone_memwf {i : Fin 9} {block : Fin 49} {cause : Fin 9} {s s' : State} (hm : Memory.wf s.mem = true) (h : execSleepCommitDone i block cause s = .next s') :
    Memory.wf s'.mem = true := by
  unfold execSleepCommitDone at h
  (try dsimp only at h)
  (repeat' split at h) <;> (obtain rfl := Host.Outcome.next.inj h) <;> (first | (simp (maxDischargeDepth := 40) [hm]; done) | ((repeat' split) <;> simp (maxDischargeDepth := 40) [hm]; done) | (refine State.insn_memwf hm fun s1 h1 => ?_; first | exact State.loadAt_memwf h1 | exact State.storeAt_memwf h1 | exact h1 | skip; (try dsimp only); (repeat' split) <;> first | exact h1 | exact State.loadAt_memwf h1 | exact State.storeAt_memwf h1 | simp (maxDischargeDepth := 40) [h1, State.branch]; done) | (refine State.privInsn_memwf hm fun s1 h1 => ?_; simp (maxDischargeDepth := 40) [h1]; done))

theorem execWakeDone_memwf {i : Fin 9} {s s' : State} (hm : Memory.wf s.mem = true) (h : execWakeDone i s = .next s') :
    Memory.wf s'.mem = true := by
  unfold execWakeDone at h
  (try dsimp only at h)
  (repeat' split at h) <;> (obtain rfl := Host.Outcome.next.inj h) <;> (first | (simp (maxDischargeDepth := 40) [hm]; done) | ((repeat' split) <;> simp (maxDischargeDepth := 40) [hm]; done) | (refine State.insn_memwf hm fun s1 h1 => ?_; first | exact State.loadAt_memwf h1 | exact State.storeAt_memwf h1 | exact h1 | skip; (try dsimp only); (repeat' split) <;> first | exact h1 | exact State.loadAt_memwf h1 | exact State.storeAt_memwf h1 | simp (maxDischargeDepth := 40) [h1, State.branch]; done) | (refine State.privInsn_memwf hm fun s1 h1 => ?_; simp (maxDischargeDepth := 40) [h1]; done))

theorem execMainValidDeassert_memwf {pulses : W32} {paMv pbMv : W16} {lost : Fin 256} {s s' : State} (hm : Memory.wf s.mem = true) (h : execMainValidDeassert pulses paMv pbMv lost s = .next s') :
    Memory.wf s'.mem = true := by
  unfold execMainValidDeassert at h
  (try dsimp only at h)
  (repeat' split at h) <;> (obtain rfl := Host.Outcome.next.inj h) <;> (first | (simp (maxDischargeDepth := 40) [hm]; done) | ((repeat' split) <;> simp (maxDischargeDepth := 40) [hm]; done) | (refine State.insn_memwf hm fun s1 h1 => ?_; first | exact State.loadAt_memwf h1 | exact State.storeAt_memwf h1 | exact h1 | skip; (try dsimp only); (repeat' split) <;> first | exact h1 | exact State.loadAt_memwf h1 | exact State.storeAt_memwf h1 | simp (maxDischargeDepth := 40) [h1, State.branch]; done) | (refine State.privInsn_memwf hm fun s1 h1 => ?_; simp (maxDischargeDepth := 40) [h1]; done))

theorem execMainValidAssert_memwf {pulses : BitVec 48} {s s' : State} (hm : Memory.wf s.mem = true) (h : execMainValidAssert pulses s = .next s') :
    Memory.wf s'.mem = true := by
  unfold execMainValidAssert at h
  (try dsimp only at h)
  (repeat' split at h) <;> (obtain rfl := Host.Outcome.next.inj h) <;> (first | (simp (maxDischargeDepth := 40) [hm]; done) | ((repeat' split) <;> simp (maxDischargeDepth := 40) [hm]; done) | (refine State.insn_memwf hm fun s1 h1 => ?_; first | exact State.loadAt_memwf h1 | exact State.storeAt_memwf h1 | exact h1 | skip; (try dsimp only); (repeat' split) <;> first | exact h1 | exact State.loadAt_memwf h1 | exact State.storeAt_memwf h1 | simp (maxDischargeDepth := 40) [h1, State.branch]; done) | (refine State.privInsn_memwf hm fun s1 h1 => ?_; simp (maxDischargeDepth := 40) [h1]; done))

theorem execForceCommandExecute_memwf {t : W64} {s s' : State} (hm : Memory.wf s.mem = true) (h : execForceCommandExecute t s = .next s') :
    Memory.wf s'.mem = true := by
  unfold execForceCommandExecute at h
  (try dsimp only at h)
  (repeat' split at h) <;> (obtain rfl := Host.Outcome.next.inj h) <;> (first | (simp (maxDischargeDepth := 40) [hm]; done) | ((repeat' split) <;> simp (maxDischargeDepth := 40) [hm]; done) | (refine State.insn_memwf hm fun s1 h1 => ?_; first | exact State.loadAt_memwf h1 | exact State.storeAt_memwf h1 | exact h1 | skip; (try dsimp only); (repeat' split) <;> first | exact h1 | exact State.loadAt_memwf h1 | exact State.storeAt_memwf h1 | simp (maxDischargeDepth := 40) [h1, State.branch]; done) | (refine State.privInsn_memwf hm fun s1 h1 => ?_; simp (maxDischargeDepth := 40) [h1]; done))

theorem execStationLost_memwf {n : Fin 4608} {t : W64} {s s' : State} (hm : Memory.wf s.mem = true) (h : execStationLost n t s = .next s') :
    Memory.wf s'.mem = true := by
  unfold execStationLost at h
  (try dsimp only at h)
  (repeat' split at h) <;> (obtain rfl := Host.Outcome.next.inj h) <;> (first | (simp (maxDischargeDepth := 40) [hm]; done) | ((repeat' split) <;> simp (maxDischargeDepth := 40) [hm]; done) | (refine State.insn_memwf hm fun s1 h1 => ?_; first | exact State.loadAt_memwf h1 | exact State.storeAt_memwf h1 | exact h1 | skip; (try dsimp only); (repeat' split) <;> first | exact h1 | exact State.loadAt_memwf h1 | exact State.storeAt_memwf h1 | simp (maxDischargeDepth := 40) [h1, State.branch]; done) | (refine State.privInsn_memwf hm fun s1 h1 => ?_; simp (maxDischargeDepth := 40) [h1]; done))

theorem execStationReturn_memwf {n : Fin 4608} {t : W64} {s s' : State} (hm : Memory.wf s.mem = true) (h : execStationReturn n t s = .next s') :
    Memory.wf s'.mem = true := by
  unfold execStationReturn at h
  (try dsimp only at h)
  (repeat' split at h) <;> (obtain rfl := Host.Outcome.next.inj h) <;> (first | (simp (maxDischargeDepth := 40) [hm]; done) | ((repeat' split) <;> simp (maxDischargeDepth := 40) [hm]; done) | (refine State.insn_memwf hm fun s1 h1 => ?_; first | exact State.loadAt_memwf h1 | exact State.storeAt_memwf h1 | exact h1 | skip; (try dsimp only); (repeat' split) <;> first | exact h1 | exact State.loadAt_memwf h1 | exact State.storeAt_memwf h1 | simp (maxDischargeDepth := 40) [h1, State.branch]; done) | (refine State.privInsn_memwf hm fun s1 h1 => ?_; simp (maxDischargeDepth := 40) [h1]; done))

theorem execSoeCollect_memwf {src : SoeSource} {s s' : State} (hm : Memory.wf s.mem = true) (h : execSoeCollect src s = .next s') :
    Memory.wf s'.mem = true := by
  unfold execSoeCollect at h
  (try dsimp only at h)
  (repeat' split at h) <;> (obtain rfl := Host.Outcome.next.inj h) <;> (first | (simp (maxDischargeDepth := 40) [hm]; done) | ((repeat' split) <;> simp (maxDischargeDepth := 40) [hm]; done) | (refine State.insn_memwf hm fun s1 h1 => ?_; first | exact State.loadAt_memwf h1 | exact State.storeAt_memwf h1 | exact h1 | skip; (try dsimp only); (repeat' split) <;> first | exact h1 | exact State.loadAt_memwf h1 | exact State.storeAt_memwf h1 | simp (maxDischargeDepth := 40) [h1, State.branch]; done) | (refine State.privInsn_memwf hm fun s1 h1 => ?_; simp (maxDischargeDepth := 40) [h1]; done))

theorem execOutputPhase_memwf {t : W64} {s s' : State} (hm : Memory.wf s.mem = true) (h : execOutputPhase t s = .next s') :
    Memory.wf s'.mem = true := by
  unfold execOutputPhase at h
  (try dsimp only at h)
  (repeat' split at h) <;> (obtain rfl := Host.Outcome.next.inj h) <;> (first | (simp (maxDischargeDepth := 40) [hm]; done) | ((repeat' split) <;> simp (maxDischargeDepth := 40) [hm]; done) | (refine State.insn_memwf hm fun s1 h1 => ?_; first | exact State.loadAt_memwf h1 | exact State.storeAt_memwf h1 | exact h1 | skip; (try dsimp only); (repeat' split) <;> first | exact h1 | exact State.loadAt_memwf h1 | exact State.storeAt_memwf h1 | simp (maxDischargeDepth := 40) [h1, State.branch]; done) | (refine State.privInsn_memwf hm fun s1 h1 => ?_; simp (maxDischargeDepth := 40) [h1]; done))

theorem execGridLatch_memwf {t : W64} {s s' : State} (hm : Memory.wf s.mem = true) (h : execGridLatch t s = .next s') :
    Memory.wf s'.mem = true := by
  unfold execGridLatch at h
  dsimp only at h
  (repeat' split at h) <;> (obtain rfl := Host.Outcome.next.inj h) <;> first
    | simp (maxDischargeDepth := 40) [hm]; done
    | (simp only [State.yieldRetry_mem]
       refine State.stationInputs_memwf _ _ (foldl_memwf _ (fun s e hs => ?_) _ _ (by simp (maxDischargeDepth := 40) [hm]))
       split <;> simp (maxDischargeDepth := 40) [hs])

theorem execChangeVerify_memwf  {s s' : State} (hm : Memory.wf s.mem = true) (h : execChangeVerify s = .next s') :
    Memory.wf s'.mem = true := by
  obtain rfl := Host.Outcome.next.inj h
  exact State.atBlock_memwf hm fun s h => by simp (maxDischargeDepth := 40) [h]

theorem execChangeSwap_memwf  {s s' : State} (hm : Memory.wf s.mem = true) (h : execChangeSwap s = .next s') :
    Memory.wf s'.mem = true := by
  unfold execChangeSwap at h
  (try dsimp only at h)
  (repeat' split at h) <;> (obtain rfl := Host.Outcome.next.inj h) <;> (first | (simp (maxDischargeDepth := 40) [hm]; done) | ((repeat' split) <;> simp (maxDischargeDepth := 40) [hm]; done) | (refine State.insn_memwf hm fun s1 h1 => ?_; first | exact State.loadAt_memwf h1 | exact State.storeAt_memwf h1 | exact h1 | skip; (try dsimp only); (repeat' split) <;> first | exact h1 | exact State.loadAt_memwf h1 | exact State.storeAt_memwf h1 | simp (maxDischargeDepth := 40) [h1, State.branch]; done) | (refine State.privInsn_memwf hm fun s1 h1 => ?_; simp (maxDischargeDepth := 40) [h1]; done))

theorem execTakeoverRunning_memwf {when : W64} {s s' : State} (hm : Memory.wf s.mem = true) (h : execTakeoverRunning when s = .next s') :
    Memory.wf s'.mem = true := by
  unfold execTakeoverRunning at h
  (try dsimp only at h)
  (repeat' split at h) <;> (obtain rfl := Host.Outcome.next.inj h) <;> (first | (simp (maxDischargeDepth := 40) [hm]; done) | ((repeat' split) <;> simp (maxDischargeDepth := 40) [hm]; done) | (refine State.insn_memwf hm fun s1 h1 => ?_; first | exact State.loadAt_memwf h1 | exact State.storeAt_memwf h1 | exact h1 | skip; (try dsimp only); (repeat' split) <;> first | exact h1 | exact State.loadAt_memwf h1 | exact State.storeAt_memwf h1 | simp (maxDischargeDepth := 40) [h1, State.branch]; done) | (refine State.privInsn_memwf hm fun s1 h1 => ?_; simp (maxDischargeDepth := 40) [h1]; done))

theorem execYieldHandover_memwf {levels : BitVec 512} {s s' : State} (hm : Memory.wf s.mem = true) (h : execYieldHandover levels s = .next s') :
    Memory.wf s'.mem = true := by
  unfold execYieldHandover at h
  (try dsimp only at h)
  (repeat' split at h) <;> (obtain rfl := Host.Outcome.next.inj h) <;> (first | (simp (maxDischargeDepth := 40) [hm]; done) | ((repeat' split) <;> simp (maxDischargeDepth := 40) [hm]; done) | (refine State.insn_memwf hm fun s1 h1 => ?_; first | exact State.loadAt_memwf h1 | exact State.storeAt_memwf h1 | exact h1 | skip; (try dsimp only); (repeat' split) <;> first | exact h1 | exact State.loadAt_memwf h1 | exact State.storeAt_memwf h1 | simp (maxDischargeDepth := 40) [h1, State.branch]; done) | (refine State.privInsn_memwf hm fun s1 h1 => ?_; simp (maxDischargeDepth := 40) [h1]; done))

theorem execYieldOverlapEnd_memwf {when : W64} {s s' : State} (hm : Memory.wf s.mem = true) (h : execYieldOverlapEnd when s = .next s') :
    Memory.wf s'.mem = true := by
  unfold execYieldOverlapEnd at h
  (try dsimp only at h)
  (repeat' split at h) <;> (obtain rfl := Host.Outcome.next.inj h) <;> (first | (simp (maxDischargeDepth := 40) [hm]; done) | ((repeat' split) <;> simp (maxDischargeDepth := 40) [hm]; done) | (refine State.insn_memwf hm fun s1 h1 => ?_; first | exact State.loadAt_memwf h1 | exact State.storeAt_memwf h1 | exact h1 | skip; (try dsimp only); (repeat' split) <;> first | exact h1 | exact State.loadAt_memwf h1 | exact State.storeAt_memwf h1 | simp (maxDischargeDepth := 40) [h1, State.branch]; done) | (refine State.privInsn_memwf hm fun s1 h1 => ?_; simp (maxDischargeDepth := 40) [h1]; done))

theorem execDmaAbort_memwf {c : Fin 16} {s s' : State} (hm : Memory.wf s.mem = true) (h : execDmaAbort c s = .next s') :
    Memory.wf s'.mem = true := by
  obtain rfl := Host.Outcome.next.inj h
  exact State.atBlock_memwf hm fun s h => by simp (maxDischargeDepth := 40) [h]

theorem execDmaBurst_memwf {c : Fin 16} {read : Finding} {s s' : State} (hm : Memory.wf s.mem = true) (h : execDmaBurst c read s = .next s') :
    Memory.wf s'.mem = true := by
  unfold execDmaBurst at h
  (try dsimp only at h)
  (repeat' split at h) <;> (obtain rfl := Host.Outcome.next.inj h) <;> (first | (simp (maxDischargeDepth := 40) [hm]; done) | ((repeat' split) <;> simp (maxDischargeDepth := 40) [hm]; done) | (refine State.insn_memwf hm fun s1 h1 => ?_; first | exact State.loadAt_memwf h1 | exact State.storeAt_memwf h1 | exact h1 | skip; (try dsimp only); (repeat' split) <;> first | exact h1 | exact State.loadAt_memwf h1 | exact State.storeAt_memwf h1 | simp (maxDischargeDepth := 40) [h1, State.branch]; done) | (refine State.privInsn_memwf hm fun s1 h1 => ?_; simp (maxDischargeDepth := 40) [h1]; done))

theorem execTrustOperationDone_memwf {err : Option (BitVec 24)} {s s' : State} (hm : Memory.wf s.mem = true) (h : execTrustOperationDone err s = .next s') :
    Memory.wf s'.mem = true := by
  unfold execTrustOperationDone at h
  (try dsimp only at h)
  (repeat' split at h) <;> (obtain rfl := Host.Outcome.next.inj h) <;> (first | (simp (maxDischargeDepth := 40) [hm]; done) | ((repeat' split) <;> simp (maxDischargeDepth := 40) [hm]; done) | (refine State.insn_memwf hm fun s1 h1 => ?_; first | exact State.loadAt_memwf h1 | exact State.storeAt_memwf h1 | exact h1 | skip; (try dsimp only); (repeat' split) <;> first | exact h1 | exact State.loadAt_memwf h1 | exact State.storeAt_memwf h1 | simp (maxDischargeDepth := 40) [h1, State.branch]; done) | (refine State.privInsn_memwf hm fun s1 h1 => ?_; simp (maxDischargeDepth := 40) [h1]; done))

theorem execRelayChunkReceived_memwf {via : Option (Fin 4)} {node : W16} {reply : RelayReply} {s s' : State} (hm : Memory.wf s.mem = true) (h : execRelayChunkReceived via node reply s = .next s') :
    Memory.wf s'.mem = true := by
  unfold execRelayChunkReceived at h
  split at h
  · obtain rfl := Host.Outcome.next.inj h; exact hm
  · rename_i hr
    have h0 := (State.relayIn_mem hr).symm ▸ hm
    (repeat' first | split at h | dsimp only at h) <;> (obtain rfl := Host.Outcome.next.inj h) <;> first | exact h0 | simp (maxDischargeDepth := 40) [h0]

theorem execTrialWindowExpire_memwf  {s s' : State} (hm : Memory.wf s.mem = true) (h : execTrialWindowExpire s = .next s') :
    Memory.wf s'.mem = true := by
  unfold execTrialWindowExpire at h
  (try dsimp only at h)
  (repeat' split at h) <;> (obtain rfl := Host.Outcome.next.inj h) <;> (first | (simp (maxDischargeDepth := 40) [hm]; done) | ((repeat' split) <;> simp (maxDischargeDepth := 40) [hm]; done) | (refine State.insn_memwf hm fun s1 h1 => ?_; first | exact State.loadAt_memwf h1 | exact State.storeAt_memwf h1 | exact h1 | skip; (try dsimp only); (repeat' split) <;> first | exact h1 | exact State.loadAt_memwf h1 | exact State.storeAt_memwf h1 | simp (maxDischargeDepth := 40) [h1, State.branch]; done) | (refine State.privInsn_memwf hm fun s1 h1 => ?_; simp (maxDischargeDepth := 40) [h1]; done))

theorem execSelfTestsDone_memwf {findings : BitVec 7} {cores : BitVec 16} {copies : BitVec 12} {s s' : State} (hm : Memory.wf s.mem = true) (h : execSelfTestsDone findings cores copies s = .next s') :
    Memory.wf s'.mem = true := by
  unfold execSelfTestsDone at h
  (try dsimp only at h)
  (repeat' split at h) <;> (obtain rfl := Host.Outcome.next.inj h) <;> (first | (simp (maxDischargeDepth := 40) [hm]; done) | ((repeat' split) <;> simp (maxDischargeDepth := 40) [hm]; done) | (refine State.insn_memwf hm fun s1 h1 => ?_; first | exact State.loadAt_memwf h1 | exact State.storeAt_memwf h1 | exact h1 | skip; (try dsimp only); (repeat' split) <;> first | exact h1 | exact State.loadAt_memwf h1 | exact State.storeAt_memwf h1 | simp (maxDischargeDepth := 40) [h1, State.branch]; done) | (refine State.privInsn_memwf hm fun s1 h1 => ?_; simp (maxDischargeDepth := 40) [h1]; done))

theorem execRecoveryRetry_memwf  {s s' : State} (hm : Memory.wf s.mem = true) (h : execRecoveryRetry s = .next s') :
    Memory.wf s'.mem = true := by
  unfold execRecoveryRetry at h
  (try dsimp only at h)
  (repeat' split at h) <;> (obtain rfl := Host.Outcome.next.inj h) <;> (first | (simp (maxDischargeDepth := 40) [hm]; done) | ((repeat' split) <;> simp (maxDischargeDepth := 40) [hm]; done) | (refine State.insn_memwf hm fun s1 h1 => ?_; first | exact State.loadAt_memwf h1 | exact State.storeAt_memwf h1 | exact h1 | skip; (try dsimp only); (repeat' split) <;> first | exact h1 | exact State.loadAt_memwf h1 | exact State.storeAt_memwf h1 | simp (maxDischargeDepth := 40) [h1, State.branch]; done) | (refine State.privInsn_memwf hm fun s1 h1 => ?_; simp (maxDischargeDepth := 40) [h1]; done))

theorem execKeeperStart_memwf {bad : Option (Fin 6 × BitVec 24)} {s s' : State} (hm : Memory.wf s.mem = true) (h : execKeeperStart bad s = .next s') :
    Memory.wf s'.mem = true := by
  unfold execKeeperStart at h
  dsimp only at h
  (repeat' split at h) <;> (obtain rfl := Host.Outcome.next.inj h) <;> first
    | simp (maxDischargeDepth := 40) [hm]; done
    | (rename_i hc; have hc := State.choose_mem hc; simp (maxDischargeDepth := 40) [hm, hc])

theorem execSystemImageStart_memwf {bad : Option (Fin 6 × BitVec 24)} {s s' : State} (hm : Memory.wf s.mem = true) (h : execSystemImageStart bad s = .next s') :
    Memory.wf s'.mem = true := by
  unfold execSystemImageStart at h
  split at h
  · split at h <;> (obtain rfl := Host.Outcome.next.inj h)
    · rename_i hc
      have hc := State.choose_mem hc
      dsimp only
      split <;> simp (maxDischargeDepth := 40) [hm, hc]
    · rename_i hc
      have hc := State.choose_mem hc
      simp (maxDischargeDepth := 40) [hm, hc]
  · obtain rfl := Host.Outcome.next.inj h; exact hm

theorem execClaimProbeEnd_memwf {seen loopFault : Bool} {image : List (W32 × List W8)} {crit : List (Fin 512)} {desc : W32} {levels : BitVec 512} {s s' : State} (hm : Memory.wf s.mem = true) (h : execClaimProbeEnd seen loopFault image crit desc levels s = .next s') :
    Memory.wf s'.mem = true := by
  unfold execClaimProbeEnd at h
  (try dsimp only at h)
  (repeat' split at h) <;> (obtain rfl := Host.Outcome.next.inj h) <;> (first | (simp (maxDischargeDepth := 40) [hm]; done) | ((repeat' split) <;> simp (maxDischargeDepth := 40) [hm]; done) | (refine State.insn_memwf hm fun s1 h1 => ?_; first | exact State.loadAt_memwf h1 | exact State.storeAt_memwf h1 | exact h1 | skip; (try dsimp only); (repeat' split) <;> first | exact h1 | exact State.loadAt_memwf h1 | exact State.storeAt_memwf h1 | simp (maxDischargeDepth := 40) [h1, State.branch]; done) | (refine State.privInsn_memwf hm fun s1 h1 => ?_; simp (maxDischargeDepth := 40) [h1]; done))

theorem execSealRecordReceived_memwf {epoch ends : W64} {lines : W32} {check : W64} {force : W32} {swap final : Bool} {change : W32} {s s' : State} (hm : Memory.wf s.mem = true) (h : execSealRecordReceived epoch ends lines check force swap final change s = .next s') :
    Memory.wf s'.mem = true := by
  unfold execSealRecordReceived at h
  (try dsimp only at h)
  (repeat' split at h) <;> (obtain rfl := Host.Outcome.next.inj h) <;> (first | (simp (maxDischargeDepth := 40) [hm]; done) | ((repeat' split) <;> simp (maxDischargeDepth := 40) [hm]; done) | (refine State.insn_memwf hm fun s1 h1 => ?_; first | exact State.loadAt_memwf h1 | exact State.storeAt_memwf h1 | exact h1 | skip; (try dsimp only); (repeat' split) <;> first | exact h1 | exact State.loadAt_memwf h1 | exact State.storeAt_memwf h1 | simp (maxDischargeDepth := 40) [h1, State.branch]; done) | (refine State.privInsn_memwf hm fun s1 h1 => ?_; simp (maxDischargeDepth := 40) [h1]; done))

theorem execRegisterWrite_memwf {a v : W32} {s s' : State} (hm : Memory.wf s.mem = true) (h : execRegisterWrite a v s = .next s') :
    Memory.wf s'.mem = true := by
  obtain rfl := Host.Outcome.next.inj h
  first | (simp (maxDischargeDepth := 40) [hm]; done) | ((repeat' split) <;> simp (maxDischargeDepth := 40) [hm]; done) | (refine State.insn_memwf hm fun s1 h1 => ?_; first | exact State.loadAt_memwf h1 | exact State.storeAt_memwf h1 | exact h1 | skip; (try dsimp only); (repeat' split) <;> first | exact h1 | exact State.loadAt_memwf h1 | exact State.storeAt_memwf h1 | simp (maxDischargeDepth := 40) [h1, State.branch]; done) | (refine State.privInsn_memwf hm fun s1 h1 => ?_; simp (maxDischargeDepth := 40) [h1]; done)

theorem execGuardEnable_memwf {m : Fin 48} {s s' : State} (hm : Memory.wf s.mem = true) (h : execGuardEnable m s = .next s') :
    Memory.wf s'.mem = true := by
  obtain rfl := Host.Outcome.next.inj h
  split
  · exact State.configWrite_memwf hm fun s h => by simp (maxDischargeDepth := 40) [h]
  · exact hm

theorem execTuyereMemoryAccess_memwf {a : W32} {data : Option W32} {s s' : State} (hm : Memory.wf s.mem = true) (h : execTuyereMemoryAccess a data s = .next s') :
    Memory.wf s'.mem = true := by
  unfold execTuyereMemoryAccess at h
  split at h
  · obtain rfl := Host.Outcome.next.inj h; simpa using hm
  · split at h
    · obtain rfl := Host.Outcome.next.inj h; exact hm
    · split at h
      · obtain rfl := Host.Outcome.next.inj h; simpa using hm
      · have h1 : Memory.wf (s.tuyereFirst 0x11).mem = true := by simpa using hm
        revert h
        generalize s.tuyereFirst 0x11 = s1 at h1
        intro h
        cases data with
        | none =>
          dsimp only at h
          (repeat' split at h) <;> (obtain rfl := Host.Outcome.next.inj h) <;> simp (maxDischargeDepth := 40) [h1]
        | some v =>
          dsimp only at h
          (repeat' split at h) <;> (obtain rfl := Host.Outcome.next.inj h) <;> first
            | (simp (maxDischargeDepth := 40) [h1]; done)
            | (rw [State.okResp_mem]; exact State.memStore_memwf h1 ‹_›)

theorem execConfigMessageReceived_memwf {m : ConfigMsg} {s s' : State} (hm : Memory.wf s.mem = true) (h : execConfigMessageReceived m s = .next s') :
    Memory.wf s'.mem = true := by
  have h0 : Memory.wf s.heard.mem = true := by simpa using hm
  unfold execConfigMessageReceived at h
  revert h
  generalize s.heard = s0 at h0
  intro h
  split at h
  · obtain rfl := Host.Outcome.next.inj h; split <;> simpa using h0
  · dsimp only at h
    split at h <;> (obtain rfl := Host.Outcome.next.inj h)
    · split <;> simp (maxDischargeDepth := 40) [h0, State.mirrorIn_memwf]
    · exact h0
  · obtain rfl := Host.Outcome.next.inj h
    (repeat' split) <;> simp (maxDischargeDepth := 40) [h0]

theorem execCopyDataReceived_memwf {items : List CopyItem} {kib : W16} {s s' : State} (hm : Memory.wf s.mem = true) (h : execCopyDataReceived items kib s = .next s') :
    Memory.wf s'.mem = true := by
  obtain rfl := Host.Outcome.next.inj h
  split
  · exact foldl_memwf (fun s m => State.engineResume m s) (fun s m hs => State.engineResume_memwf m s hs) _ _ (by simp (maxDischargeDepth := 40) [hm])
  · split <;> simp (maxDischargeDepth := 40) [hm]

theorem execPartitionFilled_memwf {t : Fin 4} {dcp : Bool} {s s' : State} (hm : Memory.wf s.mem = true) (h : execPartitionFilled t dcp s = .next s') :
    Memory.wf s'.mem = true := by
  unfold execPartitionFilled at h
  (try dsimp only at h)
  (repeat' split at h) <;> (obtain rfl := Host.Outcome.next.inj h) <;> (first | (simp (maxDischargeDepth := 40) [hm]; done) | ((repeat' split) <;> simp (maxDischargeDepth := 40) [hm]; done) | (refine State.insn_memwf hm fun s1 h1 => ?_; first | exact State.loadAt_memwf h1 | exact State.storeAt_memwf h1 | exact h1 | skip; (try dsimp only); (repeat' split) <;> first | exact h1 | exact State.loadAt_memwf h1 | exact State.storeAt_memwf h1 | simp (maxDischargeDepth := 40) [h1, State.branch]; done) | (refine State.privInsn_memwf hm fun s1 h1 => ?_; simp (maxDischargeDepth := 40) [h1]; done))

theorem execAdd_memwf {x : Target} {fm : Meet} {d f : Bool} {rd ra rb : GReg} {s s' : State} (hm : Memory.wf s.mem = true) (h : execAdd x fm d f rd ra rb s = .next s') :
    Memory.wf s'.mem = true := by
  obtain rfl := Host.Outcome.next.inj h
  first | (simp (maxDischargeDepth := 40) [hm]; done) | ((repeat' split) <;> simp (maxDischargeDepth := 40) [hm]; done) | (refine State.insn_memwf hm fun s1 h1 => ?_; first | exact State.loadAt_memwf h1 | exact State.storeAt_memwf h1 | exact h1 | skip; (try dsimp only); (repeat' split) <;> first | exact h1 | exact State.loadAt_memwf h1 | exact State.storeAt_memwf h1 | simp (maxDischargeDepth := 40) [h1, State.branch]; done) | (refine State.privInsn_memwf hm fun s1 h1 => ?_; simp (maxDischargeDepth := 40) [h1]; done)

theorem execSub_memwf {x : Target} {fm : Meet} {d f : Bool} {rd ra rb : GReg} {s s' : State} (hm : Memory.wf s.mem = true) (h : execSub x fm d f rd ra rb s = .next s') :
    Memory.wf s'.mem = true := by
  obtain rfl := Host.Outcome.next.inj h
  first | (simp (maxDischargeDepth := 40) [hm]; done) | ((repeat' split) <;> simp (maxDischargeDepth := 40) [hm]; done) | (refine State.insn_memwf hm fun s1 h1 => ?_; first | exact State.loadAt_memwf h1 | exact State.storeAt_memwf h1 | exact h1 | skip; (try dsimp only); (repeat' split) <;> first | exact h1 | exact State.loadAt_memwf h1 | exact State.storeAt_memwf h1 | simp (maxDischargeDepth := 40) [h1, State.branch]; done) | (refine State.privInsn_memwf hm fun s1 h1 => ?_; simp (maxDischargeDepth := 40) [h1]; done)

theorem execAnd_memwf {x : Target} {fm : Meet} {d f : Bool} {rd ra rb : GReg} {s s' : State} (hm : Memory.wf s.mem = true) (h : execAnd x fm d f rd ra rb s = .next s') :
    Memory.wf s'.mem = true := by
  obtain rfl := Host.Outcome.next.inj h
  first | (simp (maxDischargeDepth := 40) [hm]; done) | ((repeat' split) <;> simp (maxDischargeDepth := 40) [hm]; done) | (refine State.insn_memwf hm fun s1 h1 => ?_; first | exact State.loadAt_memwf h1 | exact State.storeAt_memwf h1 | exact h1 | skip; (try dsimp only); (repeat' split) <;> first | exact h1 | exact State.loadAt_memwf h1 | exact State.storeAt_memwf h1 | simp (maxDischargeDepth := 40) [h1, State.branch]; done) | (refine State.privInsn_memwf hm fun s1 h1 => ?_; simp (maxDischargeDepth := 40) [h1]; done)

theorem execOr_memwf {x : Target} {fm : Meet} {d f : Bool} {rd ra rb : GReg} {s s' : State} (hm : Memory.wf s.mem = true) (h : execOr x fm d f rd ra rb s = .next s') :
    Memory.wf s'.mem = true := by
  obtain rfl := Host.Outcome.next.inj h
  first | (simp (maxDischargeDepth := 40) [hm]; done) | ((repeat' split) <;> simp (maxDischargeDepth := 40) [hm]; done) | (refine State.insn_memwf hm fun s1 h1 => ?_; first | exact State.loadAt_memwf h1 | exact State.storeAt_memwf h1 | exact h1 | skip; (try dsimp only); (repeat' split) <;> first | exact h1 | exact State.loadAt_memwf h1 | exact State.storeAt_memwf h1 | simp (maxDischargeDepth := 40) [h1, State.branch]; done) | (refine State.privInsn_memwf hm fun s1 h1 => ?_; simp (maxDischargeDepth := 40) [h1]; done)

theorem execXor_memwf {x : Target} {fm : Meet} {d f : Bool} {rd ra rb : GReg} {s s' : State} (hm : Memory.wf s.mem = true) (h : execXor x fm d f rd ra rb s = .next s') :
    Memory.wf s'.mem = true := by
  obtain rfl := Host.Outcome.next.inj h
  first | (simp (maxDischargeDepth := 40) [hm]; done) | ((repeat' split) <;> simp (maxDischargeDepth := 40) [hm]; done) | (refine State.insn_memwf hm fun s1 h1 => ?_; first | exact State.loadAt_memwf h1 | exact State.storeAt_memwf h1 | exact h1 | skip; (try dsimp only); (repeat' split) <;> first | exact h1 | exact State.loadAt_memwf h1 | exact State.storeAt_memwf h1 | simp (maxDischargeDepth := 40) [h1, State.branch]; done) | (refine State.privInsn_memwf hm fun s1 h1 => ?_; simp (maxDischargeDepth := 40) [h1]; done)

theorem execAndn_memwf {x : Target} {fm : Meet} {d f : Bool} {rd ra rb : GReg} {s s' : State} (hm : Memory.wf s.mem = true) (h : execAndn x fm d f rd ra rb s = .next s') :
    Memory.wf s'.mem = true := by
  obtain rfl := Host.Outcome.next.inj h
  first | (simp (maxDischargeDepth := 40) [hm]; done) | ((repeat' split) <;> simp (maxDischargeDepth := 40) [hm]; done) | (refine State.insn_memwf hm fun s1 h1 => ?_; first | exact State.loadAt_memwf h1 | exact State.storeAt_memwf h1 | exact h1 | skip; (try dsimp only); (repeat' split) <;> first | exact h1 | exact State.loadAt_memwf h1 | exact State.storeAt_memwf h1 | simp (maxDischargeDepth := 40) [h1, State.branch]; done) | (refine State.privInsn_memwf hm fun s1 h1 => ?_; simp (maxDischargeDepth := 40) [h1]; done)

theorem execSll_memwf {x : Target} {fm : Meet} {d f : Bool} {rd ra rb : GReg} {s s' : State} (hm : Memory.wf s.mem = true) (h : execSll x fm d f rd ra rb s = .next s') :
    Memory.wf s'.mem = true := by
  obtain rfl := Host.Outcome.next.inj h
  first | (simp (maxDischargeDepth := 40) [hm]; done) | ((repeat' split) <;> simp (maxDischargeDepth := 40) [hm]; done) | (refine State.insn_memwf hm fun s1 h1 => ?_; first | exact State.loadAt_memwf h1 | exact State.storeAt_memwf h1 | exact h1 | skip; (try dsimp only); (repeat' split) <;> first | exact h1 | exact State.loadAt_memwf h1 | exact State.storeAt_memwf h1 | simp (maxDischargeDepth := 40) [h1, State.branch]; done) | (refine State.privInsn_memwf hm fun s1 h1 => ?_; simp (maxDischargeDepth := 40) [h1]; done)

theorem execSrl_memwf {x : Target} {fm : Meet} {d f : Bool} {rd ra rb : GReg} {s s' : State} (hm : Memory.wf s.mem = true) (h : execSrl x fm d f rd ra rb s = .next s') :
    Memory.wf s'.mem = true := by
  obtain rfl := Host.Outcome.next.inj h
  first | (simp (maxDischargeDepth := 40) [hm]; done) | ((repeat' split) <;> simp (maxDischargeDepth := 40) [hm]; done) | (refine State.insn_memwf hm fun s1 h1 => ?_; first | exact State.loadAt_memwf h1 | exact State.storeAt_memwf h1 | exact h1 | skip; (try dsimp only); (repeat' split) <;> first | exact h1 | exact State.loadAt_memwf h1 | exact State.storeAt_memwf h1 | simp (maxDischargeDepth := 40) [h1, State.branch]; done) | (refine State.privInsn_memwf hm fun s1 h1 => ?_; simp (maxDischargeDepth := 40) [h1]; done)

theorem execSra_memwf {x : Target} {fm : Meet} {d f : Bool} {rd ra rb : GReg} {s s' : State} (hm : Memory.wf s.mem = true) (h : execSra x fm d f rd ra rb s = .next s') :
    Memory.wf s'.mem = true := by
  obtain rfl := Host.Outcome.next.inj h
  first | (simp (maxDischargeDepth := 40) [hm]; done) | ((repeat' split) <;> simp (maxDischargeDepth := 40) [hm]; done) | (refine State.insn_memwf hm fun s1 h1 => ?_; first | exact State.loadAt_memwf h1 | exact State.storeAt_memwf h1 | exact h1 | skip; (try dsimp only); (repeat' split) <;> first | exact h1 | exact State.loadAt_memwf h1 | exact State.storeAt_memwf h1 | simp (maxDischargeDepth := 40) [h1, State.branch]; done) | (refine State.privInsn_memwf hm fun s1 h1 => ?_; simp (maxDischargeDepth := 40) [h1]; done)

theorem execRor_memwf {x : Target} {fm : Meet} {d f : Bool} {rd ra rb : GReg} {s s' : State} (hm : Memory.wf s.mem = true) (h : execRor x fm d f rd ra rb s = .next s') :
    Memory.wf s'.mem = true := by
  obtain rfl := Host.Outcome.next.inj h
  first | (simp (maxDischargeDepth := 40) [hm]; done) | ((repeat' split) <;> simp (maxDischargeDepth := 40) [hm]; done) | (refine State.insn_memwf hm fun s1 h1 => ?_; first | exact State.loadAt_memwf h1 | exact State.storeAt_memwf h1 | exact h1 | skip; (try dsimp only); (repeat' split) <;> first | exact h1 | exact State.loadAt_memwf h1 | exact State.storeAt_memwf h1 | simp (maxDischargeDepth := 40) [h1, State.branch]; done) | (refine State.privInsn_memwf hm fun s1 h1 => ?_; simp (maxDischargeDepth := 40) [h1]; done)

theorem execMin_memwf {x : Target} {fm : Meet} {d f : Bool} {rd ra rb : GReg} {s s' : State} (hm : Memory.wf s.mem = true) (h : execMin x fm d f rd ra rb s = .next s') :
    Memory.wf s'.mem = true := by
  obtain rfl := Host.Outcome.next.inj h
  first | (simp (maxDischargeDepth := 40) [hm]; done) | ((repeat' split) <;> simp (maxDischargeDepth := 40) [hm]; done) | (refine State.insn_memwf hm fun s1 h1 => ?_; first | exact State.loadAt_memwf h1 | exact State.storeAt_memwf h1 | exact h1 | skip; (try dsimp only); (repeat' split) <;> first | exact h1 | exact State.loadAt_memwf h1 | exact State.storeAt_memwf h1 | simp (maxDischargeDepth := 40) [h1, State.branch]; done) | (refine State.privInsn_memwf hm fun s1 h1 => ?_; simp (maxDischargeDepth := 40) [h1]; done)

theorem execMax_memwf {x : Target} {fm : Meet} {d f : Bool} {rd ra rb : GReg} {s s' : State} (hm : Memory.wf s.mem = true) (h : execMax x fm d f rd ra rb s = .next s') :
    Memory.wf s'.mem = true := by
  obtain rfl := Host.Outcome.next.inj h
  first | (simp (maxDischargeDepth := 40) [hm]; done) | ((repeat' split) <;> simp (maxDischargeDepth := 40) [hm]; done) | (refine State.insn_memwf hm fun s1 h1 => ?_; first | exact State.loadAt_memwf h1 | exact State.storeAt_memwf h1 | exact h1 | skip; (try dsimp only); (repeat' split) <;> first | exact h1 | exact State.loadAt_memwf h1 | exact State.storeAt_memwf h1 | simp (maxDischargeDepth := 40) [h1, State.branch]; done) | (refine State.privInsn_memwf hm fun s1 h1 => ?_; simp (maxDischargeDepth := 40) [h1]; done)

theorem execMinu_memwf {x : Target} {fm : Meet} {d f : Bool} {rd ra rb : GReg} {s s' : State} (hm : Memory.wf s.mem = true) (h : execMinu x fm d f rd ra rb s = .next s') :
    Memory.wf s'.mem = true := by
  obtain rfl := Host.Outcome.next.inj h
  first | (simp (maxDischargeDepth := 40) [hm]; done) | ((repeat' split) <;> simp (maxDischargeDepth := 40) [hm]; done) | (refine State.insn_memwf hm fun s1 h1 => ?_; first | exact State.loadAt_memwf h1 | exact State.storeAt_memwf h1 | exact h1 | skip; (try dsimp only); (repeat' split) <;> first | exact h1 | exact State.loadAt_memwf h1 | exact State.storeAt_memwf h1 | simp (maxDischargeDepth := 40) [h1, State.branch]; done) | (refine State.privInsn_memwf hm fun s1 h1 => ?_; simp (maxDischargeDepth := 40) [h1]; done)

theorem execMaxu_memwf {x : Target} {fm : Meet} {d f : Bool} {rd ra rb : GReg} {s s' : State} (hm : Memory.wf s.mem = true) (h : execMaxu x fm d f rd ra rb s = .next s') :
    Memory.wf s'.mem = true := by
  obtain rfl := Host.Outcome.next.inj h
  first | (simp (maxDischargeDepth := 40) [hm]; done) | ((repeat' split) <;> simp (maxDischargeDepth := 40) [hm]; done) | (refine State.insn_memwf hm fun s1 h1 => ?_; first | exact State.loadAt_memwf h1 | exact State.storeAt_memwf h1 | exact h1 | skip; (try dsimp only); (repeat' split) <;> first | exact h1 | exact State.loadAt_memwf h1 | exact State.storeAt_memwf h1 | simp (maxDischargeDepth := 40) [h1, State.branch]; done) | (refine State.privInsn_memwf hm fun s1 h1 => ?_; simp (maxDischargeDepth := 40) [h1]; done)

theorem execCmp_memwf {x : Target} {fm : Meet} {d : Bool} {ra rb : GReg} {s s' : State} (hm : Memory.wf s.mem = true) (h : execCmp x fm d ra rb s = .next s') :
    Memory.wf s'.mem = true := by
  obtain rfl := Host.Outcome.next.inj h
  first | (simp (maxDischargeDepth := 40) [hm]; done) | ((repeat' split) <;> simp (maxDischargeDepth := 40) [hm]; done) | (refine State.insn_memwf hm fun s1 h1 => ?_; first | exact State.loadAt_memwf h1 | exact State.storeAt_memwf h1 | exact h1 | skip; (try dsimp only); (repeat' split) <;> first | exact h1 | exact State.loadAt_memwf h1 | exact State.storeAt_memwf h1 | simp (maxDischargeDepth := 40) [h1, State.branch]; done) | (refine State.privInsn_memwf hm fun s1 h1 => ?_; simp (maxDischargeDepth := 40) [h1]; done)

theorem execMul_memwf {x : Target} {fm : Meet} {d f : Bool} {rd ra rb : GReg} {s s' : State} (hm : Memory.wf s.mem = true) (h : execMul x fm d f rd ra rb s = .next s') :
    Memory.wf s'.mem = true := by
  obtain rfl := Host.Outcome.next.inj h
  first | (simp (maxDischargeDepth := 40) [hm]; done) | ((repeat' split) <;> simp (maxDischargeDepth := 40) [hm]; done) | (refine State.insn_memwf hm fun s1 h1 => ?_; first | exact State.loadAt_memwf h1 | exact State.storeAt_memwf h1 | exact h1 | skip; (try dsimp only); (repeat' split) <;> first | exact h1 | exact State.loadAt_memwf h1 | exact State.storeAt_memwf h1 | simp (maxDischargeDepth := 40) [h1, State.branch]; done) | (refine State.privInsn_memwf hm fun s1 h1 => ?_; simp (maxDischargeDepth := 40) [h1]; done)

theorem execMulh_memwf {x : Target} {fm : Meet} {d f : Bool} {rd ra rb : GReg} {s s' : State} (hm : Memory.wf s.mem = true) (h : execMulh x fm d f rd ra rb s = .next s') :
    Memory.wf s'.mem = true := by
  obtain rfl := Host.Outcome.next.inj h
  first | (simp (maxDischargeDepth := 40) [hm]; done) | ((repeat' split) <;> simp (maxDischargeDepth := 40) [hm]; done) | (refine State.insn_memwf hm fun s1 h1 => ?_; first | exact State.loadAt_memwf h1 | exact State.storeAt_memwf h1 | exact h1 | skip; (try dsimp only); (repeat' split) <;> first | exact h1 | exact State.loadAt_memwf h1 | exact State.storeAt_memwf h1 | simp (maxDischargeDepth := 40) [h1, State.branch]; done) | (refine State.privInsn_memwf hm fun s1 h1 => ?_; simp (maxDischargeDepth := 40) [h1]; done)

theorem execMulhu_memwf {x : Target} {fm : Meet} {d f : Bool} {rd ra rb : GReg} {s s' : State} (hm : Memory.wf s.mem = true) (h : execMulhu x fm d f rd ra rb s = .next s') :
    Memory.wf s'.mem = true := by
  obtain rfl := Host.Outcome.next.inj h
  first | (simp (maxDischargeDepth := 40) [hm]; done) | ((repeat' split) <;> simp (maxDischargeDepth := 40) [hm]; done) | (refine State.insn_memwf hm fun s1 h1 => ?_; first | exact State.loadAt_memwf h1 | exact State.storeAt_memwf h1 | exact h1 | skip; (try dsimp only); (repeat' split) <;> first | exact h1 | exact State.loadAt_memwf h1 | exact State.storeAt_memwf h1 | simp (maxDischargeDepth := 40) [h1, State.branch]; done) | (refine State.privInsn_memwf hm fun s1 h1 => ?_; simp (maxDischargeDepth := 40) [h1]; done)

theorem execDiv_memwf {x : Target} {fm : Meet} {d f : Bool} {rd ra rb : GReg} {s s' : State} (hm : Memory.wf s.mem = true) (h : execDiv x fm d f rd ra rb s = .next s') :
    Memory.wf s'.mem = true := by
  obtain rfl := Host.Outcome.next.inj h
  first | (simp (maxDischargeDepth := 40) [hm]; done) | ((repeat' split) <;> simp (maxDischargeDepth := 40) [hm]; done) | (refine State.insn_memwf hm fun s1 h1 => ?_; first | exact State.loadAt_memwf h1 | exact State.storeAt_memwf h1 | exact h1 | skip; (try dsimp only); (repeat' split) <;> first | exact h1 | exact State.loadAt_memwf h1 | exact State.storeAt_memwf h1 | simp (maxDischargeDepth := 40) [h1, State.branch]; done) | (refine State.privInsn_memwf hm fun s1 h1 => ?_; simp (maxDischargeDepth := 40) [h1]; done)

theorem execDivu_memwf {x : Target} {fm : Meet} {d f : Bool} {rd ra rb : GReg} {s s' : State} (hm : Memory.wf s.mem = true) (h : execDivu x fm d f rd ra rb s = .next s') :
    Memory.wf s'.mem = true := by
  obtain rfl := Host.Outcome.next.inj h
  first | (simp (maxDischargeDepth := 40) [hm]; done) | ((repeat' split) <;> simp (maxDischargeDepth := 40) [hm]; done) | (refine State.insn_memwf hm fun s1 h1 => ?_; first | exact State.loadAt_memwf h1 | exact State.storeAt_memwf h1 | exact h1 | skip; (try dsimp only); (repeat' split) <;> first | exact h1 | exact State.loadAt_memwf h1 | exact State.storeAt_memwf h1 | simp (maxDischargeDepth := 40) [h1, State.branch]; done) | (refine State.privInsn_memwf hm fun s1 h1 => ?_; simp (maxDischargeDepth := 40) [h1]; done)

theorem execRem_memwf {x : Target} {fm : Meet} {d f : Bool} {rd ra rb : GReg} {s s' : State} (hm : Memory.wf s.mem = true) (h : execRem x fm d f rd ra rb s = .next s') :
    Memory.wf s'.mem = true := by
  obtain rfl := Host.Outcome.next.inj h
  first | (simp (maxDischargeDepth := 40) [hm]; done) | ((repeat' split) <;> simp (maxDischargeDepth := 40) [hm]; done) | (refine State.insn_memwf hm fun s1 h1 => ?_; first | exact State.loadAt_memwf h1 | exact State.storeAt_memwf h1 | exact h1 | skip; (try dsimp only); (repeat' split) <;> first | exact h1 | exact State.loadAt_memwf h1 | exact State.storeAt_memwf h1 | simp (maxDischargeDepth := 40) [h1, State.branch]; done) | (refine State.privInsn_memwf hm fun s1 h1 => ?_; simp (maxDischargeDepth := 40) [h1]; done)

theorem execRemu_memwf {x : Target} {fm : Meet} {d f : Bool} {rd ra rb : GReg} {s s' : State} (hm : Memory.wf s.mem = true) (h : execRemu x fm d f rd ra rb s = .next s') :
    Memory.wf s'.mem = true := by
  obtain rfl := Host.Outcome.next.inj h
  first | (simp (maxDischargeDepth := 40) [hm]; done) | ((repeat' split) <;> simp (maxDischargeDepth := 40) [hm]; done) | (refine State.insn_memwf hm fun s1 h1 => ?_; first | exact State.loadAt_memwf h1 | exact State.storeAt_memwf h1 | exact h1 | skip; (try dsimp only); (repeat' split) <;> first | exact h1 | exact State.loadAt_memwf h1 | exact State.storeAt_memwf h1 | simp (maxDischargeDepth := 40) [h1, State.branch]; done) | (refine State.privInsn_memwf hm fun s1 h1 => ?_; simp (maxDischargeDepth := 40) [h1]; done)

theorem execSel_memwf {x : Target} {fm : Meet} {k : Cond} {d : Bool} {rd ra rb : GReg} {s s' : State} (hm : Memory.wf s.mem = true) (h : execSel x fm k d rd ra rb s = .next s') :
    Memory.wf s'.mem = true := by
  unfold execSel at h
  (try dsimp only at h)
  (repeat' split at h) <;> (obtain rfl := Host.Outcome.next.inj h) <;> (first | (simp (maxDischargeDepth := 40) [hm]; done) | ((repeat' split) <;> simp (maxDischargeDepth := 40) [hm]; done) | (refine State.insn_memwf hm fun s1 h1 => ?_; first | exact State.loadAt_memwf h1 | exact State.storeAt_memwf h1 | exact h1 | skip; (try dsimp only); (repeat' split) <;> first | exact h1 | exact State.loadAt_memwf h1 | exact State.storeAt_memwf h1 | simp (maxDischargeDepth := 40) [h1, State.branch]; done) | (refine State.privInsn_memwf hm fun s1 h1 => ?_; simp (maxDischargeDepth := 40) [h1]; done))

theorem execSet_memwf {x : Target} {fm : Meet} {k : Cond} {d : Bool} {rd ra : GReg} {s s' : State} (hm : Memory.wf s.mem = true) (h : execSet x fm k d rd ra s = .next s') :
    Memory.wf s'.mem = true := by
  unfold execSet at h
  (try dsimp only at h)
  (repeat' split at h) <;> (obtain rfl := Host.Outcome.next.inj h) <;> (first | (simp (maxDischargeDepth := 40) [hm]; done) | ((repeat' split) <;> simp (maxDischargeDepth := 40) [hm]; done) | (refine State.insn_memwf hm fun s1 h1 => ?_; first | exact State.loadAt_memwf h1 | exact State.storeAt_memwf h1 | exact h1 | skip; (try dsimp only); (repeat' split) <;> first | exact h1 | exact State.loadAt_memwf h1 | exact State.storeAt_memwf h1 | simp (maxDischargeDepth := 40) [h1, State.branch]; done) | (refine State.privInsn_memwf hm fun s1 h1 => ?_; simp (maxDischargeDepth := 40) [h1]; done))

theorem execClz_memwf {x : Target} {fm : Meet} {d : Bool} {rd ra : GReg} {s s' : State} (hm : Memory.wf s.mem = true) (h : execClz x fm d rd ra s = .next s') :
    Memory.wf s'.mem = true := by
  obtain rfl := Host.Outcome.next.inj h
  first | (simp (maxDischargeDepth := 40) [hm]; done) | ((repeat' split) <;> simp (maxDischargeDepth := 40) [hm]; done) | (refine State.insn_memwf hm fun s1 h1 => ?_; first | exact State.loadAt_memwf h1 | exact State.storeAt_memwf h1 | exact h1 | skip; (try dsimp only); (repeat' split) <;> first | exact h1 | exact State.loadAt_memwf h1 | exact State.storeAt_memwf h1 | simp (maxDischargeDepth := 40) [h1, State.branch]; done) | (refine State.privInsn_memwf hm fun s1 h1 => ?_; simp (maxDischargeDepth := 40) [h1]; done)

theorem execCtz_memwf {x : Target} {fm : Meet} {d : Bool} {rd ra : GReg} {s s' : State} (hm : Memory.wf s.mem = true) (h : execCtz x fm d rd ra s = .next s') :
    Memory.wf s'.mem = true := by
  obtain rfl := Host.Outcome.next.inj h
  first | (simp (maxDischargeDepth := 40) [hm]; done) | ((repeat' split) <;> simp (maxDischargeDepth := 40) [hm]; done) | (refine State.insn_memwf hm fun s1 h1 => ?_; first | exact State.loadAt_memwf h1 | exact State.storeAt_memwf h1 | exact h1 | skip; (try dsimp only); (repeat' split) <;> first | exact h1 | exact State.loadAt_memwf h1 | exact State.storeAt_memwf h1 | simp (maxDischargeDepth := 40) [h1, State.branch]; done) | (refine State.privInsn_memwf hm fun s1 h1 => ?_; simp (maxDischargeDepth := 40) [h1]; done)

theorem execPopc_memwf {x : Target} {fm : Meet} {d : Bool} {rd ra : GReg} {s s' : State} (hm : Memory.wf s.mem = true) (h : execPopc x fm d rd ra s = .next s') :
    Memory.wf s'.mem = true := by
  obtain rfl := Host.Outcome.next.inj h
  first | (simp (maxDischargeDepth := 40) [hm]; done) | ((repeat' split) <;> simp (maxDischargeDepth := 40) [hm]; done) | (refine State.insn_memwf hm fun s1 h1 => ?_; first | exact State.loadAt_memwf h1 | exact State.storeAt_memwf h1 | exact h1 | skip; (try dsimp only); (repeat' split) <;> first | exact h1 | exact State.loadAt_memwf h1 | exact State.storeAt_memwf h1 | simp (maxDischargeDepth := 40) [h1, State.branch]; done) | (refine State.privInsn_memwf hm fun s1 h1 => ?_; simp (maxDischargeDepth := 40) [h1]; done)

theorem execSextb_memwf {x : Target} {fm : Meet} {rd ra : GReg} {s s' : State} (hm : Memory.wf s.mem = true) (h : execSextb x fm rd ra s = .next s') :
    Memory.wf s'.mem = true := by
  obtain rfl := Host.Outcome.next.inj h
  first | (simp (maxDischargeDepth := 40) [hm]; done) | ((repeat' split) <;> simp (maxDischargeDepth := 40) [hm]; done) | (refine State.insn_memwf hm fun s1 h1 => ?_; first | exact State.loadAt_memwf h1 | exact State.storeAt_memwf h1 | exact h1 | skip; (try dsimp only); (repeat' split) <;> first | exact h1 | exact State.loadAt_memwf h1 | exact State.storeAt_memwf h1 | simp (maxDischargeDepth := 40) [h1, State.branch]; done) | (refine State.privInsn_memwf hm fun s1 h1 => ?_; simp (maxDischargeDepth := 40) [h1]; done)

theorem execSexth_memwf {x : Target} {fm : Meet} {rd ra : GReg} {s s' : State} (hm : Memory.wf s.mem = true) (h : execSexth x fm rd ra s = .next s') :
    Memory.wf s'.mem = true := by
  obtain rfl := Host.Outcome.next.inj h
  first | (simp (maxDischargeDepth := 40) [hm]; done) | ((repeat' split) <;> simp (maxDischargeDepth := 40) [hm]; done) | (refine State.insn_memwf hm fun s1 h1 => ?_; first | exact State.loadAt_memwf h1 | exact State.storeAt_memwf h1 | exact h1 | skip; (try dsimp only); (repeat' split) <;> first | exact h1 | exact State.loadAt_memwf h1 | exact State.storeAt_memwf h1 | simp (maxDischargeDepth := 40) [h1, State.branch]; done) | (refine State.privInsn_memwf hm fun s1 h1 => ?_; simp (maxDischargeDepth := 40) [h1]; done)

theorem execSextw_memwf {x : Target} {fm : Meet} {rd ra : GReg} {s s' : State} (hm : Memory.wf s.mem = true) (h : execSextw x fm rd ra s = .next s') :
    Memory.wf s'.mem = true := by
  obtain rfl := Host.Outcome.next.inj h
  first | (simp (maxDischargeDepth := 40) [hm]; done) | ((repeat' split) <;> simp (maxDischargeDepth := 40) [hm]; done) | (refine State.insn_memwf hm fun s1 h1 => ?_; first | exact State.loadAt_memwf h1 | exact State.storeAt_memwf h1 | exact h1 | skip; (try dsimp only); (repeat' split) <;> first | exact h1 | exact State.loadAt_memwf h1 | exact State.storeAt_memwf h1 | simp (maxDischargeDepth := 40) [h1, State.branch]; done) | (refine State.privInsn_memwf hm fun s1 h1 => ?_; simp (maxDischargeDepth := 40) [h1]; done)

theorem execZextb_memwf {x : Target} {fm : Meet} {rd ra : GReg} {s s' : State} (hm : Memory.wf s.mem = true) (h : execZextb x fm rd ra s = .next s') :
    Memory.wf s'.mem = true := by
  obtain rfl := Host.Outcome.next.inj h
  first | (simp (maxDischargeDepth := 40) [hm]; done) | ((repeat' split) <;> simp (maxDischargeDepth := 40) [hm]; done) | (refine State.insn_memwf hm fun s1 h1 => ?_; first | exact State.loadAt_memwf h1 | exact State.storeAt_memwf h1 | exact h1 | skip; (try dsimp only); (repeat' split) <;> first | exact h1 | exact State.loadAt_memwf h1 | exact State.storeAt_memwf h1 | simp (maxDischargeDepth := 40) [h1, State.branch]; done) | (refine State.privInsn_memwf hm fun s1 h1 => ?_; simp (maxDischargeDepth := 40) [h1]; done)

theorem execZexth_memwf {x : Target} {fm : Meet} {rd ra : GReg} {s s' : State} (hm : Memory.wf s.mem = true) (h : execZexth x fm rd ra s = .next s') :
    Memory.wf s'.mem = true := by
  obtain rfl := Host.Outcome.next.inj h
  first | (simp (maxDischargeDepth := 40) [hm]; done) | ((repeat' split) <;> simp (maxDischargeDepth := 40) [hm]; done) | (refine State.insn_memwf hm fun s1 h1 => ?_; first | exact State.loadAt_memwf h1 | exact State.storeAt_memwf h1 | exact h1 | skip; (try dsimp only); (repeat' split) <;> first | exact h1 | exact State.loadAt_memwf h1 | exact State.storeAt_memwf h1 | simp (maxDischargeDepth := 40) [h1, State.branch]; done) | (refine State.privInsn_memwf hm fun s1 h1 => ?_; simp (maxDischargeDepth := 40) [h1]; done)

theorem execZextw_memwf {x : Target} {fm : Meet} {rd ra : GReg} {s s' : State} (hm : Memory.wf s.mem = true) (h : execZextw x fm rd ra s = .next s') :
    Memory.wf s'.mem = true := by
  obtain rfl := Host.Outcome.next.inj h
  first | (simp (maxDischargeDepth := 40) [hm]; done) | ((repeat' split) <;> simp (maxDischargeDepth := 40) [hm]; done) | (refine State.insn_memwf hm fun s1 h1 => ?_; first | exact State.loadAt_memwf h1 | exact State.storeAt_memwf h1 | exact h1 | skip; (try dsimp only); (repeat' split) <;> first | exact h1 | exact State.loadAt_memwf h1 | exact State.storeAt_memwf h1 | simp (maxDischargeDepth := 40) [h1, State.branch]; done) | (refine State.privInsn_memwf hm fun s1 h1 => ?_; simp (maxDischargeDepth := 40) [h1]; done)

theorem execAddi_memwf {x : Target} {fm : Meet} {rd ra : GReg} {imm : W16} {s s' : State} (hm : Memory.wf s.mem = true) (h : execAddi x fm rd ra imm s = .next s') :
    Memory.wf s'.mem = true := by
  obtain rfl := Host.Outcome.next.inj h
  first | (simp (maxDischargeDepth := 40) [hm]; done) | ((repeat' split) <;> simp (maxDischargeDepth := 40) [hm]; done) | (refine State.insn_memwf hm fun s1 h1 => ?_; first | exact State.loadAt_memwf h1 | exact State.storeAt_memwf h1 | exact h1 | skip; (try dsimp only); (repeat' split) <;> first | exact h1 | exact State.loadAt_memwf h1 | exact State.storeAt_memwf h1 | simp (maxDischargeDepth := 40) [h1, State.branch]; done) | (refine State.privInsn_memwf hm fun s1 h1 => ?_; simp (maxDischargeDepth := 40) [h1]; done)

theorem execAddiw_memwf {x : Target} {fm : Meet} {rd ra : GReg} {imm : W16} {s s' : State} (hm : Memory.wf s.mem = true) (h : execAddiw x fm rd ra imm s = .next s') :
    Memory.wf s'.mem = true := by
  obtain rfl := Host.Outcome.next.inj h
  first | (simp (maxDischargeDepth := 40) [hm]; done) | ((repeat' split) <;> simp (maxDischargeDepth := 40) [hm]; done) | (refine State.insn_memwf hm fun s1 h1 => ?_; first | exact State.loadAt_memwf h1 | exact State.storeAt_memwf h1 | exact h1 | skip; (try dsimp only); (repeat' split) <;> first | exact h1 | exact State.loadAt_memwf h1 | exact State.storeAt_memwf h1 | simp (maxDischargeDepth := 40) [h1, State.branch]; done) | (refine State.privInsn_memwf hm fun s1 h1 => ?_; simp (maxDischargeDepth := 40) [h1]; done)

theorem execAndi_memwf {x : Target} {fm : Meet} {rd ra : GReg} {imm : W16} {s s' : State} (hm : Memory.wf s.mem = true) (h : execAndi x fm rd ra imm s = .next s') :
    Memory.wf s'.mem = true := by
  obtain rfl := Host.Outcome.next.inj h
  first | (simp (maxDischargeDepth := 40) [hm]; done) | ((repeat' split) <;> simp (maxDischargeDepth := 40) [hm]; done) | (refine State.insn_memwf hm fun s1 h1 => ?_; first | exact State.loadAt_memwf h1 | exact State.storeAt_memwf h1 | exact h1 | skip; (try dsimp only); (repeat' split) <;> first | exact h1 | exact State.loadAt_memwf h1 | exact State.storeAt_memwf h1 | simp (maxDischargeDepth := 40) [h1, State.branch]; done) | (refine State.privInsn_memwf hm fun s1 h1 => ?_; simp (maxDischargeDepth := 40) [h1]; done)

theorem execOri_memwf {x : Target} {fm : Meet} {rd ra : GReg} {imm : W16} {s s' : State} (hm : Memory.wf s.mem = true) (h : execOri x fm rd ra imm s = .next s') :
    Memory.wf s'.mem = true := by
  obtain rfl := Host.Outcome.next.inj h
  first | (simp (maxDischargeDepth := 40) [hm]; done) | ((repeat' split) <;> simp (maxDischargeDepth := 40) [hm]; done) | (refine State.insn_memwf hm fun s1 h1 => ?_; first | exact State.loadAt_memwf h1 | exact State.storeAt_memwf h1 | exact h1 | skip; (try dsimp only); (repeat' split) <;> first | exact h1 | exact State.loadAt_memwf h1 | exact State.storeAt_memwf h1 | simp (maxDischargeDepth := 40) [h1, State.branch]; done) | (refine State.privInsn_memwf hm fun s1 h1 => ?_; simp (maxDischargeDepth := 40) [h1]; done)

theorem execXori_memwf {x : Target} {fm : Meet} {rd ra : GReg} {imm : W16} {s s' : State} (hm : Memory.wf s.mem = true) (h : execXori x fm rd ra imm s = .next s') :
    Memory.wf s'.mem = true := by
  obtain rfl := Host.Outcome.next.inj h
  first | (simp (maxDischargeDepth := 40) [hm]; done) | ((repeat' split) <;> simp (maxDischargeDepth := 40) [hm]; done) | (refine State.insn_memwf hm fun s1 h1 => ?_; first | exact State.loadAt_memwf h1 | exact State.storeAt_memwf h1 | exact h1 | skip; (try dsimp only); (repeat' split) <;> first | exact h1 | exact State.loadAt_memwf h1 | exact State.storeAt_memwf h1 | simp (maxDischargeDepth := 40) [h1, State.branch]; done) | (refine State.privInsn_memwf hm fun s1 h1 => ?_; simp (maxDischargeDepth := 40) [h1]; done)

theorem execLui_memwf {x : Target} {fm : Meet} {rd : GReg} {imm : W16} {s s' : State} (hm : Memory.wf s.mem = true) (h : execLui x fm rd imm s = .next s') :
    Memory.wf s'.mem = true := by
  obtain rfl := Host.Outcome.next.inj h
  first | (simp (maxDischargeDepth := 40) [hm]; done) | ((repeat' split) <;> simp (maxDischargeDepth := 40) [hm]; done) | (refine State.insn_memwf hm fun s1 h1 => ?_; first | exact State.loadAt_memwf h1 | exact State.storeAt_memwf h1 | exact h1 | skip; (try dsimp only); (repeat' split) <;> first | exact h1 | exact State.loadAt_memwf h1 | exact State.storeAt_memwf h1 | simp (maxDischargeDepth := 40) [h1, State.branch]; done) | (refine State.privInsn_memwf hm fun s1 h1 => ?_; simp (maxDischargeDepth := 40) [h1]; done)

theorem execShi_memwf {x : Target} {fm : Meet} {kind : Fin 4} {d f : Bool} {rd ra : GReg} {k : BitVec 6} {s s' : State} (hm : Memory.wf s.mem = true) (h : execShi x fm kind d f rd ra k s = .next s') :
    Memory.wf s'.mem = true := by
  unfold execShi at h
  (try dsimp only at h)
  (repeat' split at h) <;> (obtain rfl := Host.Outcome.next.inj h) <;> (first | (simp (maxDischargeDepth := 40) [hm]; done) | ((repeat' split) <;> simp (maxDischargeDepth := 40) [hm]; done) | (refine State.insn_memwf hm fun s1 h1 => ?_; first | exact State.loadAt_memwf h1 | exact State.storeAt_memwf h1 | exact h1 | skip; (try dsimp only); (repeat' split) <;> first | exact h1 | exact State.loadAt_memwf h1 | exact State.storeAt_memwf h1 | simp (maxDischargeDepth := 40) [h1, State.branch]; done) | (refine State.privInsn_memwf hm fun s1 h1 => ?_; simp (maxDischargeDepth := 40) [h1]; done))

theorem execCmpi_memwf {x : Target} {fm : Meet} {d : Bool} {ra : GReg} {imm : W16} {s s' : State} (hm : Memory.wf s.mem = true) (h : execCmpi x fm d ra imm s = .next s') :
    Memory.wf s'.mem = true := by
  obtain rfl := Host.Outcome.next.inj h
  first | (simp (maxDischargeDepth := 40) [hm]; done) | ((repeat' split) <;> simp (maxDischargeDepth := 40) [hm]; done) | (refine State.insn_memwf hm fun s1 h1 => ?_; first | exact State.loadAt_memwf h1 | exact State.storeAt_memwf h1 | exact h1 | skip; (try dsimp only); (repeat' split) <;> first | exact h1 | exact State.loadAt_memwf h1 | exact State.storeAt_memwf h1 | simp (maxDischargeDepth := 40) [h1, State.branch]; done) | (refine State.privInsn_memwf hm fun s1 h1 => ?_; simp (maxDischargeDepth := 40) [h1]; done)

theorem execLimmMov_memwf {x : Target} {fm : Meet} {rd : GReg} {imm : W32} {s s' : State} (hm : Memory.wf s.mem = true) (h : execLimmMov x fm rd imm s = .next s') :
    Memory.wf s'.mem = true := by
  obtain rfl := Host.Outcome.next.inj h
  first | (simp (maxDischargeDepth := 40) [hm]; done) | ((repeat' split) <;> simp (maxDischargeDepth := 40) [hm]; done) | (refine State.insn_memwf hm fun s1 h1 => ?_; first | exact State.loadAt_memwf h1 | exact State.storeAt_memwf h1 | exact h1 | skip; (try dsimp only); (repeat' split) <;> first | exact h1 | exact State.loadAt_memwf h1 | exact State.storeAt_memwf h1 | simp (maxDischargeDepth := 40) [h1, State.branch]; done) | (refine State.privInsn_memwf hm fun s1 h1 => ?_; simp (maxDischargeDepth := 40) [h1]; done)

theorem execLimmAdd_memwf {x : Target} {fm : Meet} {d : Bool} {rd ra : GReg} {imm : W32} {s s' : State} (hm : Memory.wf s.mem = true) (h : execLimmAdd x fm d rd ra imm s = .next s') :
    Memory.wf s'.mem = true := by
  obtain rfl := Host.Outcome.next.inj h
  first | (simp (maxDischargeDepth := 40) [hm]; done) | ((repeat' split) <;> simp (maxDischargeDepth := 40) [hm]; done) | (refine State.insn_memwf hm fun s1 h1 => ?_; first | exact State.loadAt_memwf h1 | exact State.storeAt_memwf h1 | exact h1 | skip; (try dsimp only); (repeat' split) <;> first | exact h1 | exact State.loadAt_memwf h1 | exact State.storeAt_memwf h1 | simp (maxDischargeDepth := 40) [h1, State.branch]; done) | (refine State.privInsn_memwf hm fun s1 h1 => ?_; simp (maxDischargeDepth := 40) [h1]; done)

theorem execLimmAnd_memwf {x : Target} {fm : Meet} {d : Bool} {rd ra : GReg} {imm : W32} {s s' : State} (hm : Memory.wf s.mem = true) (h : execLimmAnd x fm d rd ra imm s = .next s') :
    Memory.wf s'.mem = true := by
  obtain rfl := Host.Outcome.next.inj h
  first | (simp (maxDischargeDepth := 40) [hm]; done) | ((repeat' split) <;> simp (maxDischargeDepth := 40) [hm]; done) | (refine State.insn_memwf hm fun s1 h1 => ?_; first | exact State.loadAt_memwf h1 | exact State.storeAt_memwf h1 | exact h1 | skip; (try dsimp only); (repeat' split) <;> first | exact h1 | exact State.loadAt_memwf h1 | exact State.storeAt_memwf h1 | simp (maxDischargeDepth := 40) [h1, State.branch]; done) | (refine State.privInsn_memwf hm fun s1 h1 => ?_; simp (maxDischargeDepth := 40) [h1]; done)

theorem execLimmOr_memwf {x : Target} {fm : Meet} {d : Bool} {rd ra : GReg} {imm : W32} {s s' : State} (hm : Memory.wf s.mem = true) (h : execLimmOr x fm d rd ra imm s = .next s') :
    Memory.wf s'.mem = true := by
  obtain rfl := Host.Outcome.next.inj h
  first | (simp (maxDischargeDepth := 40) [hm]; done) | ((repeat' split) <;> simp (maxDischargeDepth := 40) [hm]; done) | (refine State.insn_memwf hm fun s1 h1 => ?_; first | exact State.loadAt_memwf h1 | exact State.storeAt_memwf h1 | exact h1 | skip; (try dsimp only); (repeat' split) <;> first | exact h1 | exact State.loadAt_memwf h1 | exact State.storeAt_memwf h1 | simp (maxDischargeDepth := 40) [h1, State.branch]; done) | (refine State.privInsn_memwf hm fun s1 h1 => ?_; simp (maxDischargeDepth := 40) [h1]; done)

theorem execLimmXor_memwf {x : Target} {fm : Meet} {d : Bool} {rd ra : GReg} {imm : W32} {s s' : State} (hm : Memory.wf s.mem = true) (h : execLimmXor x fm d rd ra imm s = .next s') :
    Memory.wf s'.mem = true := by
  obtain rfl := Host.Outcome.next.inj h
  first | (simp (maxDischargeDepth := 40) [hm]; done) | ((repeat' split) <;> simp (maxDischargeDepth := 40) [hm]; done) | (refine State.insn_memwf hm fun s1 h1 => ?_; first | exact State.loadAt_memwf h1 | exact State.storeAt_memwf h1 | exact h1 | skip; (try dsimp only); (repeat' split) <;> first | exact h1 | exact State.loadAt_memwf h1 | exact State.storeAt_memwf h1 | simp (maxDischargeDepth := 40) [h1, State.branch]; done) | (refine State.privInsn_memwf hm fun s1 h1 => ?_; simp (maxDischargeDepth := 40) [h1]; done)

theorem execLimmMovu_memwf {x : Target} {fm : Meet} {rd : GReg} {imm : W32} {s s' : State} (hm : Memory.wf s.mem = true) (h : execLimmMovu x fm rd imm s = .next s') :
    Memory.wf s'.mem = true := by
  obtain rfl := Host.Outcome.next.inj h
  first | (simp (maxDischargeDepth := 40) [hm]; done) | ((repeat' split) <;> simp (maxDischargeDepth := 40) [hm]; done) | (refine State.insn_memwf hm fun s1 h1 => ?_; first | exact State.loadAt_memwf h1 | exact State.storeAt_memwf h1 | exact h1 | skip; (try dsimp only); (repeat' split) <;> first | exact h1 | exact State.loadAt_memwf h1 | exact State.storeAt_memwf h1 | simp (maxDischargeDepth := 40) [h1, State.branch]; done) | (refine State.privInsn_memwf hm fun s1 h1 => ?_; simp (maxDischargeDepth := 40) [h1]; done)

theorem execLimmOrh_memwf {x : Target} {fm : Meet} {rd ra : GReg} {imm : W32} {s s' : State} (hm : Memory.wf s.mem = true) (h : execLimmOrh x fm rd ra imm s = .next s') :
    Memory.wf s'.mem = true := by
  obtain rfl := Host.Outcome.next.inj h
  first | (simp (maxDischargeDepth := 40) [hm]; done) | ((repeat' split) <;> simp (maxDischargeDepth := 40) [hm]; done) | (refine State.insn_memwf hm fun s1 h1 => ?_; first | exact State.loadAt_memwf h1 | exact State.storeAt_memwf h1 | exact h1 | skip; (try dsimp only); (repeat' split) <;> first | exact h1 | exact State.loadAt_memwf h1 | exact State.storeAt_memwf h1 | simp (maxDischargeDepth := 40) [h1, State.branch]; done) | (refine State.privInsn_memwf hm fun s1 h1 => ?_; simp (maxDischargeDepth := 40) [h1]; done)

theorem execLimmCmp_memwf {x : Target} {fm : Meet} {d : Bool} {ra : GReg} {imm : W32} {s s' : State} (hm : Memory.wf s.mem = true) (h : execLimmCmp x fm d ra imm s = .next s') :
    Memory.wf s'.mem = true := by
  obtain rfl := Host.Outcome.next.inj h
  first | (simp (maxDischargeDepth := 40) [hm]; done) | ((repeat' split) <;> simp (maxDischargeDepth := 40) [hm]; done) | (refine State.insn_memwf hm fun s1 h1 => ?_; first | exact State.loadAt_memwf h1 | exact State.storeAt_memwf h1 | exact h1 | skip; (try dsimp only); (repeat' split) <;> first | exact h1 | exact State.loadAt_memwf h1 | exact State.storeAt_memwf h1 | simp (maxDischargeDepth := 40) [h1, State.branch]; done) | (refine State.privInsn_memwf hm fun s1 h1 => ?_; simp (maxDischargeDepth := 40) [h1]; done)

theorem execLd_memwf {x : Target} {fm : Meet} {rd ra : GReg} {size : Fin 4} {z : Bool} {off : BitVec 13} {m : Meet} {s s' : State} (hm : Memory.wf s.mem = true) (h : execLd x fm rd ra size z off m s = .next s') :
    Memory.wf s'.mem = true := by
  unfold execLd at h
  (try dsimp only at h)
  (repeat' split at h) <;> (obtain rfl := Host.Outcome.next.inj h) <;> (first | (simp (maxDischargeDepth := 40) [hm]; done) | ((repeat' split) <;> simp (maxDischargeDepth := 40) [hm]; done) | (refine State.insn_memwf hm fun s1 h1 => ?_; first | exact State.loadAt_memwf h1 | exact State.storeAt_memwf h1 | exact h1 | skip; (try dsimp only); (repeat' split) <;> first | exact h1 | exact State.loadAt_memwf h1 | exact State.storeAt_memwf h1 | simp (maxDischargeDepth := 40) [h1, State.branch]; done) | (refine State.privInsn_memwf hm fun s1 h1 => ?_; simp (maxDischargeDepth := 40) [h1]; done))

theorem execSt_memwf {x : Target} {fm : Meet} {rs ra : GReg} {size : Fin 4} {off : BitVec 13} {m : Meet} {s s' : State} (hm : Memory.wf s.mem = true) (h : execSt x fm rs ra size off m s = .next s') :
    Memory.wf s'.mem = true := by
  obtain rfl := Host.Outcome.next.inj h
  first | (simp (maxDischargeDepth := 40) [hm]; done) | ((repeat' split) <;> simp (maxDischargeDepth := 40) [hm]; done) | (refine State.insn_memwf hm fun s1 h1 => ?_; first | exact State.loadAt_memwf h1 | exact State.storeAt_memwf h1 | exact h1 | skip; (try dsimp only); (repeat' split) <;> first | exact h1 | exact State.loadAt_memwf h1 | exact State.storeAt_memwf h1 | simp (maxDischargeDepth := 40) [h1, State.branch]; done) | (refine State.privInsn_memwf hm fun s1 h1 => ?_; simp (maxDischargeDepth := 40) [h1]; done)

theorem execLdx_memwf {x : Target} {fm : Meet} {rd ra rb : GReg} {size : Fin 4} {z sc : Bool} {m : Meet} {s s' : State} (hm : Memory.wf s.mem = true) (h : execLdx x fm rd ra rb size z sc m s = .next s') :
    Memory.wf s'.mem = true := by
  unfold execLdx at h
  (try dsimp only at h)
  (repeat' split at h) <;> (obtain rfl := Host.Outcome.next.inj h) <;> (first | (simp (maxDischargeDepth := 40) [hm]; done) | ((repeat' split) <;> simp (maxDischargeDepth := 40) [hm]; done) | (refine State.insn_memwf hm fun s1 h1 => ?_; first | exact State.loadAt_memwf h1 | exact State.storeAt_memwf h1 | exact h1 | skip; (try dsimp only); (repeat' split) <;> first | exact h1 | exact State.loadAt_memwf h1 | exact State.storeAt_memwf h1 | simp (maxDischargeDepth := 40) [h1, State.branch]; done) | (refine State.privInsn_memwf hm fun s1 h1 => ?_; simp (maxDischargeDepth := 40) [h1]; done))

theorem execStx_memwf {x : Target} {fm : Meet} {rs ra rb : GReg} {size : Fin 4} {sc : Bool} {m : Meet} {s s' : State} (hm : Memory.wf s.mem = true) (h : execStx x fm rs ra rb size sc m s = .next s') :
    Memory.wf s'.mem = true := by
  obtain rfl := Host.Outcome.next.inj h
  first | (simp (maxDischargeDepth := 40) [hm]; done) | ((repeat' split) <;> simp (maxDischargeDepth := 40) [hm]; done) | (refine State.insn_memwf hm fun s1 h1 => ?_; first | exact State.loadAt_memwf h1 | exact State.storeAt_memwf h1 | exact h1 | skip; (try dsimp only); (repeat' split) <;> first | exact h1 | exact State.loadAt_memwf h1 | exact State.storeAt_memwf h1 | simp (maxDischargeDepth := 40) [h1, State.branch]; done) | (refine State.privInsn_memwf hm fun s1 h1 => ?_; simp (maxDischargeDepth := 40) [h1]; done)

theorem execFld_memwf {x : Target} {fm : Meet} {fd : FReg} {ra : GReg} {d : Bool} {off : BitVec 13} {m : Meet} {s s' : State} (hm : Memory.wf s.mem = true) (h : execFld x fm fd ra d off m s = .next s') :
    Memory.wf s'.mem = true := by
  obtain rfl := Host.Outcome.next.inj h
  first | (simp (maxDischargeDepth := 40) [hm]; done) | ((repeat' split) <;> simp (maxDischargeDepth := 40) [hm]; done) | (refine State.insn_memwf hm fun s1 h1 => ?_; first | exact State.loadAt_memwf h1 | exact State.storeAt_memwf h1 | exact h1 | skip; (try dsimp only); (repeat' split) <;> first | exact h1 | exact State.loadAt_memwf h1 | exact State.storeAt_memwf h1 | simp (maxDischargeDepth := 40) [h1, State.branch]; done) | (refine State.privInsn_memwf hm fun s1 h1 => ?_; simp (maxDischargeDepth := 40) [h1]; done)

theorem execFst_memwf {x : Target} {fm : Meet} {fs : FReg} {ra : GReg} {d : Bool} {off : BitVec 13} {m : Meet} {s s' : State} (hm : Memory.wf s.mem = true) (h : execFst x fm fs ra d off m s = .next s') :
    Memory.wf s'.mem = true := by
  obtain rfl := Host.Outcome.next.inj h
  first | (simp (maxDischargeDepth := 40) [hm]; done) | ((repeat' split) <;> simp (maxDischargeDepth := 40) [hm]; done) | (refine State.insn_memwf hm fun s1 h1 => ?_; first | exact State.loadAt_memwf h1 | exact State.storeAt_memwf h1 | exact h1 | skip; (try dsimp only); (repeat' split) <;> first | exact h1 | exact State.loadAt_memwf h1 | exact State.storeAt_memwf h1 | simp (maxDischargeDepth := 40) [h1, State.branch]; done) | (refine State.privInsn_memwf hm fun s1 h1 => ?_; simp (maxDischargeDepth := 40) [h1]; done)

theorem execIlsLoad_memwf {x : Target} {fm : Meet} {reg : GReg} {sb : Bool} {size : Fin 4} {z : Bool} {off : BitVec 15} {m : Meet} {s s' : State} (hm : Memory.wf s.mem = true) (h : execIlsLoad x fm reg sb size z off m s = .next s') :
    Memory.wf s'.mem = true := by
  obtain rfl := Host.Outcome.next.inj h
  first | (simp (maxDischargeDepth := 40) [hm]; done) | ((repeat' split) <;> simp (maxDischargeDepth := 40) [hm]; done) | (refine State.insn_memwf hm fun s1 h1 => ?_; first | exact State.loadAt_memwf h1 | exact State.storeAt_memwf h1 | exact h1 | skip; (try dsimp only); (repeat' split) <;> first | exact h1 | exact State.loadAt_memwf h1 | exact State.storeAt_memwf h1 | simp (maxDischargeDepth := 40) [h1, State.branch]; done) | (refine State.privInsn_memwf hm fun s1 h1 => ?_; simp (maxDischargeDepth := 40) [h1]; done)

theorem execIlsStore_memwf {x : Target} {fm : Meet} {reg : GReg} {sb : Bool} {size : Fin 4} {off : BitVec 15} {m : Meet} {s s' : State} (hm : Memory.wf s.mem = true) (h : execIlsStore x fm reg sb size off m s = .next s') :
    Memory.wf s'.mem = true := by
  obtain rfl := Host.Outcome.next.inj h
  first | (simp (maxDischargeDepth := 40) [hm]; done) | ((repeat' split) <;> simp (maxDischargeDepth := 40) [hm]; done) | (refine State.insn_memwf hm fun s1 h1 => ?_; first | exact State.loadAt_memwf h1 | exact State.storeAt_memwf h1 | exact h1 | skip; (try dsimp only); (repeat' split) <;> first | exact h1 | exact State.loadAt_memwf h1 | exact State.storeAt_memwf h1 | simp (maxDischargeDepth := 40) [h1, State.branch]; done) | (refine State.privInsn_memwf hm fun s1 h1 => ?_; simp (maxDischargeDepth := 40) [h1]; done)

theorem execIlsFload_memwf {x : Target} {fm : Meet} {reg : FReg} {sb d : Bool} {off : BitVec 15} {m : Meet} {s s' : State} (hm : Memory.wf s.mem = true) (h : execIlsFload x fm reg sb d off m s = .next s') :
    Memory.wf s'.mem = true := by
  obtain rfl := Host.Outcome.next.inj h
  first | (simp (maxDischargeDepth := 40) [hm]; done) | ((repeat' split) <;> simp (maxDischargeDepth := 40) [hm]; done) | (refine State.insn_memwf hm fun s1 h1 => ?_; first | exact State.loadAt_memwf h1 | exact State.storeAt_memwf h1 | exact h1 | skip; (try dsimp only); (repeat' split) <;> first | exact h1 | exact State.loadAt_memwf h1 | exact State.storeAt_memwf h1 | simp (maxDischargeDepth := 40) [h1, State.branch]; done) | (refine State.privInsn_memwf hm fun s1 h1 => ?_; simp (maxDischargeDepth := 40) [h1]; done)

theorem execIlsFstore_memwf {x : Target} {fm : Meet} {reg : FReg} {sb d : Bool} {off : BitVec 15} {m : Meet} {s s' : State} (hm : Memory.wf s.mem = true) (h : execIlsFstore x fm reg sb d off m s = .next s') :
    Memory.wf s'.mem = true := by
  obtain rfl := Host.Outcome.next.inj h
  first | (simp (maxDischargeDepth := 40) [hm]; done) | ((repeat' split) <;> simp (maxDischargeDepth := 40) [hm]; done) | (refine State.insn_memwf hm fun s1 h1 => ?_; first | exact State.loadAt_memwf h1 | exact State.storeAt_memwf h1 | exact h1 | skip; (try dsimp only); (repeat' split) <;> first | exact h1 | exact State.loadAt_memwf h1 | exact State.storeAt_memwf h1 | simp (maxDischargeDepth := 40) [h1, State.branch]; done) | (refine State.privInsn_memwf hm fun s1 h1 => ?_; simp (maxDischargeDepth := 40) [h1]; done)

theorem execBc_memwf {x : Target} {fm : Meet} {k : Cond} {disp : BitVec 22} {s s' : State} (hm : Memory.wf s.mem = true) (h : execBc x fm k disp s = .next s') :
    Memory.wf s'.mem = true := by
  unfold execBc at h
  dsimp only at h
  split at h <;> (obtain rfl := Host.Outcome.next.inj h)
  · exact State.badInsn_memwf _ _ _ _ _ hm
  · exact State.insn_memwf hm fun s1 h1 => State.branch_memwf _ _ _ _ _ _ h1

theorem execBl_memwf {x : Target} {fm : Meet} {disp : BitVec 26} {s s' : State} (hm : Memory.wf s.mem = true) (h : execBl x fm disp s = .next s') :
    Memory.wf s'.mem = true := by
  obtain rfl := Host.Outcome.next.inj h
  exact State.insn_memwf hm fun s1 h1 => State.branch_memwf _ _ _ _ _ _ h1

theorem execJalr_memwf {x : Target} {fm : Meet} {rd ra : GReg} {imm : W16} {s s' : State} (hm : Memory.wf s.mem = true) (h : execJalr x fm rd ra imm s = .next s') :
    Memory.wf s'.mem = true := by
  obtain rfl := Host.Outcome.next.inj h
  exact State.insn_memwf hm fun s1 h1 => by dsimp only; (repeat' split) <;> simpa using h1

theorem execCb_memwf {x : Target} {fm : Meet} {ra rb : GReg} {k : Cond} {disp : BitVec 12} {s s' : State} (hm : Memory.wf s.mem = true) (h : execCb x fm ra rb k disp s = .next s') :
    Memory.wf s'.mem = true := by
  unfold execCb at h
  dsimp only at h
  split at h <;> (obtain rfl := Host.Outcome.next.inj h)
  · exact State.badInsn_memwf _ _ _ _ _ hm
  · exact State.insn_memwf hm fun s1 h1 => State.branch_memwf _ _ _ _ _ _ h1

theorem execCbz_memwf {x : Target} {fm : Meet} {ra : GReg} {nz : Bool} {disp : BitVec 20} {s s' : State} (hm : Memory.wf s.mem = true) (h : execCbz x fm ra nz disp s = .next s') :
    Memory.wf s'.mem = true := by
  obtain rfl := Host.Outcome.next.inj h
  exact State.insn_memwf hm fun s1 h1 => State.branch_memwf _ _ _ _ _ _ h1

theorem execDbnz_memwf {x : Target} {fm : Meet} {ra : GReg} {disp : BitVec 21} {s s' : State} (hm : Memory.wf s.mem = true) (h : execDbnz x fm ra disp s = .next s') :
    Memory.wf s'.mem = true := by
  unfold execDbnz at h
  dsimp only at h
  split at h <;> (obtain rfl := Host.Outcome.next.inj h)
  · exact State.badInsn_memwf _ _ _ _ _ hm
  · exact State.insn_memwf hm fun s1 h1 => State.branch_memwf _ _ _ _ _ _ h1

theorem execFadd_memwf {x : Target} {fm : Meet} {d : Bool} {rm : Fin 8} {fd fa fb : FReg} {s s' : State} (hm : Memory.wf s.mem = true) (h : execFadd x fm d rm fd fa fb s = .next s') :
    Memory.wf s'.mem = true := by
  obtain rfl := Host.Outcome.next.inj h
  first | (simp (maxDischargeDepth := 40) [hm]; done) | ((repeat' split) <;> simp (maxDischargeDepth := 40) [hm]; done) | (refine State.insn_memwf hm fun s1 h1 => ?_; first | exact State.loadAt_memwf h1 | exact State.storeAt_memwf h1 | exact h1 | skip; (try dsimp only); (repeat' split) <;> first | exact h1 | exact State.loadAt_memwf h1 | exact State.storeAt_memwf h1 | simp (maxDischargeDepth := 40) [h1, State.branch]; done) | (refine State.privInsn_memwf hm fun s1 h1 => ?_; simp (maxDischargeDepth := 40) [h1]; done)

theorem execFsub_memwf {x : Target} {fm : Meet} {d : Bool} {rm : Fin 8} {fd fa fb : FReg} {s s' : State} (hm : Memory.wf s.mem = true) (h : execFsub x fm d rm fd fa fb s = .next s') :
    Memory.wf s'.mem = true := by
  obtain rfl := Host.Outcome.next.inj h
  first | (simp (maxDischargeDepth := 40) [hm]; done) | ((repeat' split) <;> simp (maxDischargeDepth := 40) [hm]; done) | (refine State.insn_memwf hm fun s1 h1 => ?_; first | exact State.loadAt_memwf h1 | exact State.storeAt_memwf h1 | exact h1 | skip; (try dsimp only); (repeat' split) <;> first | exact h1 | exact State.loadAt_memwf h1 | exact State.storeAt_memwf h1 | simp (maxDischargeDepth := 40) [h1, State.branch]; done) | (refine State.privInsn_memwf hm fun s1 h1 => ?_; simp (maxDischargeDepth := 40) [h1]; done)

theorem execFmul_memwf {x : Target} {fm : Meet} {d : Bool} {rm : Fin 8} {fd fa fb : FReg} {s s' : State} (hm : Memory.wf s.mem = true) (h : execFmul x fm d rm fd fa fb s = .next s') :
    Memory.wf s'.mem = true := by
  obtain rfl := Host.Outcome.next.inj h
  first | (simp (maxDischargeDepth := 40) [hm]; done) | ((repeat' split) <;> simp (maxDischargeDepth := 40) [hm]; done) | (refine State.insn_memwf hm fun s1 h1 => ?_; first | exact State.loadAt_memwf h1 | exact State.storeAt_memwf h1 | exact h1 | skip; (try dsimp only); (repeat' split) <;> first | exact h1 | exact State.loadAt_memwf h1 | exact State.storeAt_memwf h1 | simp (maxDischargeDepth := 40) [h1, State.branch]; done) | (refine State.privInsn_memwf hm fun s1 h1 => ?_; simp (maxDischargeDepth := 40) [h1]; done)

theorem execFdiv_memwf {x : Target} {fm : Meet} {d : Bool} {rm : Fin 8} {fd fa fb : FReg} {s s' : State} (hm : Memory.wf s.mem = true) (h : execFdiv x fm d rm fd fa fb s = .next s') :
    Memory.wf s'.mem = true := by
  obtain rfl := Host.Outcome.next.inj h
  first | (simp (maxDischargeDepth := 40) [hm]; done) | ((repeat' split) <;> simp (maxDischargeDepth := 40) [hm]; done) | (refine State.insn_memwf hm fun s1 h1 => ?_; first | exact State.loadAt_memwf h1 | exact State.storeAt_memwf h1 | exact h1 | skip; (try dsimp only); (repeat' split) <;> first | exact h1 | exact State.loadAt_memwf h1 | exact State.storeAt_memwf h1 | simp (maxDischargeDepth := 40) [h1, State.branch]; done) | (refine State.privInsn_memwf hm fun s1 h1 => ?_; simp (maxDischargeDepth := 40) [h1]; done)

theorem execFsqrt_memwf {x : Target} {fm : Meet} {d : Bool} {rm : Fin 8} {fd fa : FReg} {s s' : State} (hm : Memory.wf s.mem = true) (h : execFsqrt x fm d rm fd fa s = .next s') :
    Memory.wf s'.mem = true := by
  obtain rfl := Host.Outcome.next.inj h
  first | (simp (maxDischargeDepth := 40) [hm]; done) | ((repeat' split) <;> simp (maxDischargeDepth := 40) [hm]; done) | (refine State.insn_memwf hm fun s1 h1 => ?_; first | exact State.loadAt_memwf h1 | exact State.storeAt_memwf h1 | exact h1 | skip; (try dsimp only); (repeat' split) <;> first | exact h1 | exact State.loadAt_memwf h1 | exact State.storeAt_memwf h1 | simp (maxDischargeDepth := 40) [h1, State.branch]; done) | (refine State.privInsn_memwf hm fun s1 h1 => ?_; simp (maxDischargeDepth := 40) [h1]; done)

theorem execFmin_memwf {x : Target} {fm : Meet} {d : Bool} {fd fa fb : FReg} {s s' : State} (hm : Memory.wf s.mem = true) (h : execFmin x fm d fd fa fb s = .next s') :
    Memory.wf s'.mem = true := by
  obtain rfl := Host.Outcome.next.inj h
  first | (simp (maxDischargeDepth := 40) [hm]; done) | ((repeat' split) <;> simp (maxDischargeDepth := 40) [hm]; done) | (refine State.insn_memwf hm fun s1 h1 => ?_; first | exact State.loadAt_memwf h1 | exact State.storeAt_memwf h1 | exact h1 | skip; (try dsimp only); (repeat' split) <;> first | exact h1 | exact State.loadAt_memwf h1 | exact State.storeAt_memwf h1 | simp (maxDischargeDepth := 40) [h1, State.branch]; done) | (refine State.privInsn_memwf hm fun s1 h1 => ?_; simp (maxDischargeDepth := 40) [h1]; done)

theorem execFmax_memwf {x : Target} {fm : Meet} {d : Bool} {fd fa fb : FReg} {s s' : State} (hm : Memory.wf s.mem = true) (h : execFmax x fm d fd fa fb s = .next s') :
    Memory.wf s'.mem = true := by
  obtain rfl := Host.Outcome.next.inj h
  first | (simp (maxDischargeDepth := 40) [hm]; done) | ((repeat' split) <;> simp (maxDischargeDepth := 40) [hm]; done) | (refine State.insn_memwf hm fun s1 h1 => ?_; first | exact State.loadAt_memwf h1 | exact State.storeAt_memwf h1 | exact h1 | skip; (try dsimp only); (repeat' split) <;> first | exact h1 | exact State.loadAt_memwf h1 | exact State.storeAt_memwf h1 | simp (maxDischargeDepth := 40) [h1, State.branch]; done) | (refine State.privInsn_memwf hm fun s1 h1 => ?_; simp (maxDischargeDepth := 40) [h1]; done)

theorem execFabs_memwf {x : Target} {fm : Meet} {d : Bool} {fd fa : FReg} {s s' : State} (hm : Memory.wf s.mem = true) (h : execFabs x fm d fd fa s = .next s') :
    Memory.wf s'.mem = true := by
  obtain rfl := Host.Outcome.next.inj h
  first | (simp (maxDischargeDepth := 40) [hm]; done) | ((repeat' split) <;> simp (maxDischargeDepth := 40) [hm]; done) | (refine State.insn_memwf hm fun s1 h1 => ?_; first | exact State.loadAt_memwf h1 | exact State.storeAt_memwf h1 | exact h1 | skip; (try dsimp only); (repeat' split) <;> first | exact h1 | exact State.loadAt_memwf h1 | exact State.storeAt_memwf h1 | simp (maxDischargeDepth := 40) [h1, State.branch]; done) | (refine State.privInsn_memwf hm fun s1 h1 => ?_; simp (maxDischargeDepth := 40) [h1]; done)

theorem execFneg_memwf {x : Target} {fm : Meet} {d : Bool} {fd fa : FReg} {s s' : State} (hm : Memory.wf s.mem = true) (h : execFneg x fm d fd fa s = .next s') :
    Memory.wf s'.mem = true := by
  obtain rfl := Host.Outcome.next.inj h
  first | (simp (maxDischargeDepth := 40) [hm]; done) | ((repeat' split) <;> simp (maxDischargeDepth := 40) [hm]; done) | (refine State.insn_memwf hm fun s1 h1 => ?_; first | exact State.loadAt_memwf h1 | exact State.storeAt_memwf h1 | exact h1 | skip; (try dsimp only); (repeat' split) <;> first | exact h1 | exact State.loadAt_memwf h1 | exact State.storeAt_memwf h1 | simp (maxDischargeDepth := 40) [h1, State.branch]; done) | (refine State.privInsn_memwf hm fun s1 h1 => ?_; simp (maxDischargeDepth := 40) [h1]; done)

theorem execFmov_memwf {x : Target} {fm : Meet} {d : Bool} {fd fa : FReg} {s s' : State} (hm : Memory.wf s.mem = true) (h : execFmov x fm d fd fa s = .next s') :
    Memory.wf s'.mem = true := by
  obtain rfl := Host.Outcome.next.inj h
  first | (simp (maxDischargeDepth := 40) [hm]; done) | ((repeat' split) <;> simp (maxDischargeDepth := 40) [hm]; done) | (refine State.insn_memwf hm fun s1 h1 => ?_; first | exact State.loadAt_memwf h1 | exact State.storeAt_memwf h1 | exact h1 | skip; (try dsimp only); (repeat' split) <;> first | exact h1 | exact State.loadAt_memwf h1 | exact State.storeAt_memwf h1 | simp (maxDischargeDepth := 40) [h1, State.branch]; done) | (refine State.privInsn_memwf hm fun s1 h1 => ?_; simp (maxDischargeDepth := 40) [h1]; done)

theorem execFcmp_memwf {x : Target} {fm : Meet} {d : Bool} {fa fb : FReg} {s s' : State} (hm : Memory.wf s.mem = true) (h : execFcmp x fm d fa fb s = .next s') :
    Memory.wf s'.mem = true := by
  obtain rfl := Host.Outcome.next.inj h
  first | (simp (maxDischargeDepth := 40) [hm]; done) | ((repeat' split) <;> simp (maxDischargeDepth := 40) [hm]; done) | (refine State.insn_memwf hm fun s1 h1 => ?_; first | exact State.loadAt_memwf h1 | exact State.storeAt_memwf h1 | exact h1 | skip; (try dsimp only); (repeat' split) <;> first | exact h1 | exact State.loadAt_memwf h1 | exact State.storeAt_memwf h1 | simp (maxDischargeDepth := 40) [h1, State.branch]; done) | (refine State.privInsn_memwf hm fun s1 h1 => ?_; simp (maxDischargeDepth := 40) [h1]; done)

theorem execFcmps_memwf {x : Target} {fm : Meet} {d : Bool} {fa fb : FReg} {s s' : State} (hm : Memory.wf s.mem = true) (h : execFcmps x fm d fa fb s = .next s') :
    Memory.wf s'.mem = true := by
  obtain rfl := Host.Outcome.next.inj h
  first | (simp (maxDischargeDepth := 40) [hm]; done) | ((repeat' split) <;> simp (maxDischargeDepth := 40) [hm]; done) | (refine State.insn_memwf hm fun s1 h1 => ?_; first | exact State.loadAt_memwf h1 | exact State.storeAt_memwf h1 | exact h1 | skip; (try dsimp only); (repeat' split) <;> first | exact h1 | exact State.loadAt_memwf h1 | exact State.storeAt_memwf h1 | simp (maxDischargeDepth := 40) [h1, State.branch]; done) | (refine State.privInsn_memwf hm fun s1 h1 => ?_; simp (maxDischargeDepth := 40) [h1]; done)

theorem execFcvt_memwf {x : Target} {fm : Meet} {d : Bool} {rm : Fin 8} {fd fa : FReg} {s s' : State} (hm : Memory.wf s.mem = true) (h : execFcvt x fm d rm fd fa s = .next s') :
    Memory.wf s'.mem = true := by
  obtain rfl := Host.Outcome.next.inj h
  first | (simp (maxDischargeDepth := 40) [hm]; done) | ((repeat' split) <;> simp (maxDischargeDepth := 40) [hm]; done) | (refine State.insn_memwf hm fun s1 h1 => ?_; first | exact State.loadAt_memwf h1 | exact State.storeAt_memwf h1 | exact h1 | skip; (try dsimp only); (repeat' split) <;> first | exact h1 | exact State.loadAt_memwf h1 | exact State.storeAt_memwf h1 | simp (maxDischargeDepth := 40) [h1, State.branch]; done) | (refine State.privInsn_memwf hm fun s1 h1 => ?_; simp (maxDischargeDepth := 40) [h1]; done)

theorem execFmadd_memwf {x : Target} {fm : Meet} {d : Bool} {rm : Fin 8} {fd fa fb fc : FReg} {s s' : State} (hm : Memory.wf s.mem = true) (h : execFmadd x fm d rm fd fa fb fc s = .next s') :
    Memory.wf s'.mem = true := by
  obtain rfl := Host.Outcome.next.inj h
  first | (simp (maxDischargeDepth := 40) [hm]; done) | ((repeat' split) <;> simp (maxDischargeDepth := 40) [hm]; done) | (refine State.insn_memwf hm fun s1 h1 => ?_; first | exact State.loadAt_memwf h1 | exact State.storeAt_memwf h1 | exact h1 | skip; (try dsimp only); (repeat' split) <;> first | exact h1 | exact State.loadAt_memwf h1 | exact State.storeAt_memwf h1 | simp (maxDischargeDepth := 40) [h1, State.branch]; done) | (refine State.privInsn_memwf hm fun s1 h1 => ?_; simp (maxDischargeDepth := 40) [h1]; done)

theorem execFmsub_memwf {x : Target} {fm : Meet} {d : Bool} {rm : Fin 8} {fd fa fb fc : FReg} {s s' : State} (hm : Memory.wf s.mem = true) (h : execFmsub x fm d rm fd fa fb fc s = .next s') :
    Memory.wf s'.mem = true := by
  obtain rfl := Host.Outcome.next.inj h
  first | (simp (maxDischargeDepth := 40) [hm]; done) | ((repeat' split) <;> simp (maxDischargeDepth := 40) [hm]; done) | (refine State.insn_memwf hm fun s1 h1 => ?_; first | exact State.loadAt_memwf h1 | exact State.storeAt_memwf h1 | exact h1 | skip; (try dsimp only); (repeat' split) <;> first | exact h1 | exact State.loadAt_memwf h1 | exact State.storeAt_memwf h1 | simp (maxDischargeDepth := 40) [h1, State.branch]; done) | (refine State.privInsn_memwf hm fun s1 h1 => ?_; simp (maxDischargeDepth := 40) [h1]; done)

theorem execFnmadd_memwf {x : Target} {fm : Meet} {d : Bool} {rm : Fin 8} {fd fa fb fc : FReg} {s s' : State} (hm : Memory.wf s.mem = true) (h : execFnmadd x fm d rm fd fa fb fc s = .next s') :
    Memory.wf s'.mem = true := by
  obtain rfl := Host.Outcome.next.inj h
  first | (simp (maxDischargeDepth := 40) [hm]; done) | ((repeat' split) <;> simp (maxDischargeDepth := 40) [hm]; done) | (refine State.insn_memwf hm fun s1 h1 => ?_; first | exact State.loadAt_memwf h1 | exact State.storeAt_memwf h1 | exact h1 | skip; (try dsimp only); (repeat' split) <;> first | exact h1 | exact State.loadAt_memwf h1 | exact State.storeAt_memwf h1 | simp (maxDischargeDepth := 40) [h1, State.branch]; done) | (refine State.privInsn_memwf hm fun s1 h1 => ?_; simp (maxDischargeDepth := 40) [h1]; done)

theorem execFnmsub_memwf {x : Target} {fm : Meet} {d : Bool} {rm : Fin 8} {fd fa fb fc : FReg} {s s' : State} (hm : Memory.wf s.mem = true) (h : execFnmsub x fm d rm fd fa fb fc s = .next s') :
    Memory.wf s'.mem = true := by
  obtain rfl := Host.Outcome.next.inj h
  first | (simp (maxDischargeDepth := 40) [hm]; done) | ((repeat' split) <;> simp (maxDischargeDepth := 40) [hm]; done) | (refine State.insn_memwf hm fun s1 h1 => ?_; first | exact State.loadAt_memwf h1 | exact State.storeAt_memwf h1 | exact h1 | skip; (try dsimp only); (repeat' split) <;> first | exact h1 | exact State.loadAt_memwf h1 | exact State.storeAt_memwf h1 | simp (maxDischargeDepth := 40) [h1, State.branch]; done) | (refine State.privInsn_memwf hm fun s1 h1 => ?_; simp (maxDischargeDepth := 40) [h1]; done)

theorem execFcviToInt_memwf {x : Target} {fm : Meet} {rd : GReg} {fa : FReg} {rm : Fin 8} {d w u : Bool} {s s' : State} (hm : Memory.wf s.mem = true) (h : execFcviToInt x fm rd fa rm d w u s = .next s') :
    Memory.wf s'.mem = true := by
  obtain rfl := Host.Outcome.next.inj h
  first | (simp (maxDischargeDepth := 40) [hm]; done) | ((repeat' split) <;> simp (maxDischargeDepth := 40) [hm]; done) | (refine State.insn_memwf hm fun s1 h1 => ?_; first | exact State.loadAt_memwf h1 | exact State.storeAt_memwf h1 | exact h1 | skip; (try dsimp only); (repeat' split) <;> first | exact h1 | exact State.loadAt_memwf h1 | exact State.storeAt_memwf h1 | simp (maxDischargeDepth := 40) [h1, State.branch]; done) | (refine State.privInsn_memwf hm fun s1 h1 => ?_; simp (maxDischargeDepth := 40) [h1]; done)

theorem execFcviToFloat_memwf {x : Target} {fm : Meet} {fd : FReg} {ra : GReg} {rm : Fin 8} {d w u : Bool} {s s' : State} (hm : Memory.wf s.mem = true) (h : execFcviToFloat x fm fd ra rm d w u s = .next s') :
    Memory.wf s'.mem = true := by
  obtain rfl := Host.Outcome.next.inj h
  first | (simp (maxDischargeDepth := 40) [hm]; done) | ((repeat' split) <;> simp (maxDischargeDepth := 40) [hm]; done) | (refine State.insn_memwf hm fun s1 h1 => ?_; first | exact State.loadAt_memwf h1 | exact State.storeAt_memwf h1 | exact h1 | skip; (try dsimp only); (repeat' split) <;> first | exact h1 | exact State.loadAt_memwf h1 | exact State.storeAt_memwf h1 | simp (maxDischargeDepth := 40) [h1, State.branch]; done) | (refine State.privInsn_memwf hm fun s1 h1 => ?_; simp (maxDischargeDepth := 40) [h1]; done)

theorem execFmvToGeneral_memwf {x : Target} {fm : Meet} {rd : GReg} {fa : FReg} {d : Bool} {s s' : State} (hm : Memory.wf s.mem = true) (h : execFmvToGeneral x fm rd fa d s = .next s') :
    Memory.wf s'.mem = true := by
  obtain rfl := Host.Outcome.next.inj h
  first | (simp (maxDischargeDepth := 40) [hm]; done) | ((repeat' split) <;> simp (maxDischargeDepth := 40) [hm]; done) | (refine State.insn_memwf hm fun s1 h1 => ?_; first | exact State.loadAt_memwf h1 | exact State.storeAt_memwf h1 | exact h1 | skip; (try dsimp only); (repeat' split) <;> first | exact h1 | exact State.loadAt_memwf h1 | exact State.storeAt_memwf h1 | simp (maxDischargeDepth := 40) [h1, State.branch]; done) | (refine State.privInsn_memwf hm fun s1 h1 => ?_; simp (maxDischargeDepth := 40) [h1]; done)

theorem execFmvToFloat_memwf {x : Target} {fm : Meet} {fd : FReg} {ra : GReg} {d : Bool} {s s' : State} (hm : Memory.wf s.mem = true) (h : execFmvToFloat x fm fd ra d s = .next s') :
    Memory.wf s'.mem = true := by
  obtain rfl := Host.Outcome.next.inj h
  first | (simp (maxDischargeDepth := 40) [hm]; done) | ((repeat' split) <;> simp (maxDischargeDepth := 40) [hm]; done) | (refine State.insn_memwf hm fun s1 h1 => ?_; first | exact State.loadAt_memwf h1 | exact State.storeAt_memwf h1 | exact h1 | skip; (try dsimp only); (repeat' split) <;> first | exact h1 | exact State.loadAt_memwf h1 | exact State.storeAt_memwf h1 | simp (maxDischargeDepth := 40) [h1, State.branch]; done) | (refine State.privInsn_memwf hm fun s1 h1 => ?_; simp (maxDischargeDepth := 40) [h1]; done)

theorem execFli_memwf {x : Target} {fm : Meet} {fd : FReg} {d : Bool} {imm : W32} {s s' : State} (hm : Memory.wf s.mem = true) (h : execFli x fm fd d imm s = .next s') :
    Memory.wf s'.mem = true := by
  obtain rfl := Host.Outcome.next.inj h
  first | (simp (maxDischargeDepth := 40) [hm]; done) | ((repeat' split) <;> simp (maxDischargeDepth := 40) [hm]; done) | (refine State.insn_memwf hm fun s1 h1 => ?_; first | exact State.loadAt_memwf h1 | exact State.storeAt_memwf h1 | exact h1 | skip; (try dsimp only); (repeat' split) <;> first | exact h1 | exact State.loadAt_memwf h1 | exact State.storeAt_memwf h1 | simp (maxDischargeDepth := 40) [h1, State.branch]; done) | (refine State.privInsn_memwf hm fun s1 h1 => ?_; simp (maxDischargeDepth := 40) [h1]; done)

theorem execSyscall_memwf {x : Target} {fm : Meet} {code : W16} {s s' : State} (hm : Memory.wf s.mem = true) (h : execSyscall x fm code s = .next s') :
    Memory.wf s'.mem = true := by
  obtain rfl := Host.Outcome.next.inj h
  first | (simp (maxDischargeDepth := 40) [hm]; done) | ((repeat' split) <;> simp (maxDischargeDepth := 40) [hm]; done) | (refine State.insn_memwf hm fun s1 h1 => ?_; first | exact State.loadAt_memwf h1 | exact State.storeAt_memwf h1 | exact h1 | skip; (try dsimp only); (repeat' split) <;> first | exact h1 | exact State.loadAt_memwf h1 | exact State.storeAt_memwf h1 | simp (maxDischargeDepth := 40) [h1, State.branch]; done) | (refine State.privInsn_memwf hm fun s1 h1 => ?_; simp (maxDischargeDepth := 40) [h1]; done)

theorem execBreak_memwf {x : Target} {fm : Meet} {code : W16} {s s' : State} (hm : Memory.wf s.mem = true) (h : execBreak x fm code s = .next s') :
    Memory.wf s'.mem = true := by
  obtain rfl := Host.Outcome.next.inj h
  first | (simp (maxDischargeDepth := 40) [hm]; done) | ((repeat' split) <;> simp (maxDischargeDepth := 40) [hm]; done) | (refine State.insn_memwf hm fun s1 h1 => ?_; first | exact State.loadAt_memwf h1 | exact State.storeAt_memwf h1 | exact h1 | skip; (try dsimp only); (repeat' split) <;> first | exact h1 | exact State.loadAt_memwf h1 | exact State.storeAt_memwf h1 | simp (maxDischargeDepth := 40) [h1, State.branch]; done) | (refine State.privInsn_memwf hm fun s1 h1 => ?_; simp (maxDischargeDepth := 40) [h1]; done)

theorem execMfsr_memwf {x : Target} {fm : Meet} {rd : GReg} {sr : Fin 32} {s s' : State} (hm : Memory.wf s.mem = true) (h : execMfsr x fm rd sr s = .next s') :
    Memory.wf s'.mem = true := by
  obtain rfl := Host.Outcome.next.inj h
  exact State.insn_memwf hm fun s1 h1 => by (repeat' split) <;> simpa using h1

theorem execMtsr_memwf {x : Target} {fm : Meet} {ra : GReg} {sr : Fin 32} {s s' : State} (hm : Memory.wf s.mem = true) (h : execMtsr x fm ra sr s = .next s') :
    Memory.wf s'.mem = true := by
  obtain rfl := Host.Outcome.next.inj h
  exact State.insn_memwf hm fun s1 h1 => by dsimp only; (repeat' split) <;> simpa using h1

theorem execRfe_memwf {x : Target} {fm : Meet} {s s' : State} (hm : Memory.wf s.mem = true) (h : execRfe x fm s = .next s') :
    Memory.wf s'.mem = true := by
  obtain rfl := Host.Outcome.next.inj h
  split
  · exact hm
  · refine State.displace_memwf _ _ (State.insn_memwf hm fun s1 h1 => ?_)
    dsimp only
    (repeat' split) <;> simp (maxDischargeDepth := 40) [h1]

theorem execWait_memwf {x : Target} {fm : Meet} {s s' : State} (hm : Memory.wf s.mem = true) (h : execWait x fm s = .next s') :
    Memory.wf s'.mem = true := by
  obtain rfl := Host.Outcome.next.inj h
  first | (simp (maxDischargeDepth := 40) [hm]; done) | ((repeat' split) <;> simp (maxDischargeDepth := 40) [hm]; done) | (refine State.insn_memwf hm fun s1 h1 => ?_; first | exact State.loadAt_memwf h1 | exact State.storeAt_memwf h1 | exact h1 | skip; (try dsimp only); (repeat' split) <;> first | exact h1 | exact State.loadAt_memwf h1 | exact State.storeAt_memwf h1 | simp (maxDischargeDepth := 40) [h1, State.branch]; done) | (refine State.privInsn_memwf hm fun s1 h1 => ?_; simp (maxDischargeDepth := 40) [h1]; done)

theorem execCacheCleanLine_memwf {x : Target} {fm : Meet} {ra : GReg} {m : Meet} {s s' : State} (hm : Memory.wf s.mem = true) (h : execCacheCleanLine x fm ra m s = .next s') :
    Memory.wf s'.mem = true := by
  obtain rfl := Host.Outcome.next.inj h
  exact State.privInsn_memwf hm fun s1 h1 => State.writesBack_memwf h1 fun s2 h2 => by simp (maxDischargeDepth := 40) [State.dropLine, h2]

theorem execCacheInvalidateLine_memwf {x : Target} {fm : Meet} {ra : GReg} {s s' : State} (hm : Memory.wf s.mem = true) (h : execCacheInvalidateLine x fm ra s = .next s') :
    Memory.wf s'.mem = true := by
  obtain rfl := Host.Outcome.next.inj h
  exact State.privInsn_memwf hm fun s1 h1 => by simp [State.dropLine, h1]

theorem execCacheCleanInvalidateLine_memwf {x : Target} {fm : Meet} {ra : GReg} {m : Meet} {s s' : State} (hm : Memory.wf s.mem = true) (h : execCacheCleanInvalidateLine x fm ra m s = .next s') :
    Memory.wf s'.mem = true := by
  obtain rfl := Host.Outcome.next.inj h
  exact State.privInsn_memwf hm fun s1 h1 => State.writesBack_memwf h1 fun s2 h2 => by simp (maxDischargeDepth := 40) [State.dropLine, h2]

theorem execCacheInvalidateIcache_memwf {x : Target} {fm : Meet} {ra : GReg} {s s' : State} (hm : Memory.wf s.mem = true) (h : execCacheInvalidateIcache x fm ra s = .next s') :
    Memory.wf s'.mem = true := by
  obtain rfl := Host.Outcome.next.inj h
  exact State.privInsn_memwf hm fun s1 h1 => by simp [State.dropLine, h1]

theorem execCacheCleanDcache_memwf {x : Target} {fm : Meet} {ra : GReg} {m : Meet} {s s' : State} (hm : Memory.wf s.mem = true) (h : execCacheCleanDcache x fm ra m s = .next s') :
    Memory.wf s'.mem = true := by
  obtain rfl := Host.Outcome.next.inj h
  refine State.privInsn_memwf hm fun s1 h1 => State.writesBack_memwf h1 fun s2 h2 => ?_
  have key (l : List (Nat × CacheLine)) (p : Nat × State) (hp : Memory.wf p.2.mem = true) : Memory.wf (l.foldl (fun p e =>
      let q := State.cleanCost x e.1 p.2
      (p.1 + (q.1 - 2), q.2.cleanLine x e.1)) p).2.mem = true := by
    induction l generalizing p with
    | nil => exact hp
    | cons e l ih => exact ih _ (State.cleanLine_memwf _ _ _ (by simpa using hp))
  exact key _ (1024, s2) h2

theorem execIllegalInstruction_memwf {x : Target} {fm : Meet} {w : W32} {s s' : State} (hm : Memory.wf s.mem = true) (h : execIllegalInstruction x fm w s = .next s') :
    Memory.wf s'.mem = true := by
  obtain rfl := Host.Outcome.next.inj h
  split
  · exact hm
  · exact State.badInsn_memwf _ _ _ _ _ hm

theorem execActivationEntry_memwf {x : Target} {s s' : State} (hm : Memory.wf s.mem = true) (h : execActivationEntry x s = .next s') :
    Memory.wf s'.mem = true := by
  have hp (s : State) (h : Memory.wf s.mem = true) : Memory.wf (s.proceed x 36).mem = true := State.proceed_memwf _ _ _ h
  unfold execActivationEntry at h
  dsimp only at h
  (repeat' split at h) <;> (obtain rfl := Host.Outcome.next.inj h) <;> first
    | exact hm
    | (simp (maxDischargeDepth := 40) [hm]; done)
    | (split
       · simp (maxDischargeDepth := 40) [hm]
       · exact State.savedThen_memwf _ _ _ hp hm)
    | exact State.savedThen_memwf _ _ _ hp hm

theorem execFbcall_memwf {x : Target} {fm : Meet} {ra : GReg} {n : BitVec 12} {ms : List Meet} {s s' : State} (hm : Memory.wf s.mem = true) (h : execFbcall x fm ra n ms s = .next s') :
    Memory.wf s'.mem = true := by
  obtain rfl := Host.Outcome.next.inj h
  refine State.insn_memwf hm fun s1 h1 => State.typed_memwf h1 fun e c s2 h2 => ?_
  dsimp only
  split <;> simpa using h2

theorem execFbret_memwf {x : Target} {fm : Meet} {s s' : State} (hm : Memory.wf s.mem = true) (h : execFbret x fm s = .next s') :
    Memory.wf s'.mem = true := by
  obtain rfl := Host.Outcome.next.inj h
  exact State.insn_memwf hm fun s1 h1 => by dsimp only; (repeat' split) <;> simpa using h1

theorem execFbchk_memwf {x : Target} {fm : Meet} {ra : GReg} {n : BitVec 12} {ms : List Meet} {s s' : State} (hm : Memory.wf s.mem = true) (h : execFbchk x fm ra n ms s = .next s') :
    Memory.wf s'.mem = true := by
  obtain rfl := Host.Outcome.next.inj h
  exact State.insn_memwf hm fun s1 h1 => State.typed_memwf h1 fun e c s2 h2 => by simpa using h2

theorem execTnow_memwf {x : Target} {fm : Meet} {rd : GReg} {s s' : State} (hm : Memory.wf s.mem = true) (h : execTnow x fm rd s = .next s') :
    Memory.wf s'.mem = true := by
  obtain rfl := Host.Outcome.next.inj h
  first | (simp (maxDischargeDepth := 40) [hm]; done) | ((repeat' split) <;> simp (maxDischargeDepth := 40) [hm]; done) | (refine State.insn_memwf hm fun s1 h1 => ?_; first | exact State.loadAt_memwf h1 | exact State.storeAt_memwf h1 | exact h1 | skip; (try dsimp only); (repeat' split) <;> first | exact h1 | exact State.loadAt_memwf h1 | exact State.storeAt_memwf h1 | simp (maxDischargeDepth := 40) [h1, State.branch]; done) | (refine State.privInsn_memwf hm fun s1 h1 => ?_; simp (maxDischargeDepth := 40) [h1]; done)

theorem execTelap_memwf {x : Target} {fm : Meet} {rd ra : GReg} {s s' : State} (hm : Memory.wf s.mem = true) (h : execTelap x fm rd ra s = .next s') :
    Memory.wf s'.mem = true := by
  obtain rfl := Host.Outcome.next.inj h
  first | (simp (maxDischargeDepth := 40) [hm]; done) | ((repeat' split) <;> simp (maxDischargeDepth := 40) [hm]; done) | (refine State.insn_memwf hm fun s1 h1 => ?_; first | exact State.loadAt_memwf h1 | exact State.storeAt_memwf h1 | exact h1 | skip; (try dsimp only); (repeat' split) <;> first | exact h1 | exact State.loadAt_memwf h1 | exact State.storeAt_memwf h1 | simp (maxDischargeDepth := 40) [h1, State.branch]; done) | (refine State.privInsn_memwf hm fun s1 h1 => ?_; simp (maxDischargeDepth := 40) [h1]; done)

theorem execTon_memwf {x : Target} {fm : Meet} {rd rin rpt : GReg} {index : BitVec 9} {ms : List Meet} {s s' : State} (hm : Memory.wf s.mem = true) (h : execTon x fm rd rin rpt index ms s = .next s') :
    Memory.wf s'.mem = true := by
  obtain rfl := Host.Outcome.next.inj h
  first | (simp (maxDischargeDepth := 40) [hm]; done) | ((repeat' split) <;> simp (maxDischargeDepth := 40) [hm]; done) | (refine State.insn_memwf hm fun s1 h1 => ?_; first | exact State.loadAt_memwf h1 | exact State.storeAt_memwf h1 | exact h1 | skip; (try dsimp only); (repeat' split) <;> first | exact h1 | exact State.loadAt_memwf h1 | exact State.storeAt_memwf h1 | simp (maxDischargeDepth := 40) [h1, State.branch]; done) | (refine State.privInsn_memwf hm fun s1 h1 => ?_; simp (maxDischargeDepth := 40) [h1]; done)

theorem execTof_memwf {x : Target} {fm : Meet} {rd rin rpt : GReg} {index : BitVec 9} {ms : List Meet} {s s' : State} (hm : Memory.wf s.mem = true) (h : execTof x fm rd rin rpt index ms s = .next s') :
    Memory.wf s'.mem = true := by
  obtain rfl := Host.Outcome.next.inj h
  first | (simp (maxDischargeDepth := 40) [hm]; done) | ((repeat' split) <;> simp (maxDischargeDepth := 40) [hm]; done) | (refine State.insn_memwf hm fun s1 h1 => ?_; first | exact State.loadAt_memwf h1 | exact State.storeAt_memwf h1 | exact h1 | skip; (try dsimp only); (repeat' split) <;> first | exact h1 | exact State.loadAt_memwf h1 | exact State.storeAt_memwf h1 | simp (maxDischargeDepth := 40) [h1, State.branch]; done) | (refine State.privInsn_memwf hm fun s1 h1 => ?_; simp (maxDischargeDepth := 40) [h1]; done)

theorem execTp_memwf {x : Target} {fm : Meet} {rd rin rpt : GReg} {index : BitVec 9} {ms : List Meet} {s s' : State} (hm : Memory.wf s.mem = true) (h : execTp x fm rd rin rpt index ms s = .next s') :
    Memory.wf s'.mem = true := by
  obtain rfl := Host.Outcome.next.inj h
  first | (simp (maxDischargeDepth := 40) [hm]; done) | ((repeat' split) <;> simp (maxDischargeDepth := 40) [hm]; done) | (refine State.insn_memwf hm fun s1 h1 => ?_; first | exact State.loadAt_memwf h1 | exact State.storeAt_memwf h1 | exact h1 | skip; (try dsimp only); (repeat' split) <;> first | exact h1 | exact State.loadAt_memwf h1 | exact State.storeAt_memwf h1 | simp (maxDischargeDepth := 40) [h1, State.branch]; done) | (refine State.privInsn_memwf hm fun s1 h1 => ?_; simp (maxDischargeDepth := 40) [h1]; done)

theorem execCtu_memwf {x : Target} {fm : Meet} {rd rin rpv : GReg} {index : BitVec 9} {ms : List Meet} {s s' : State} (hm : Memory.wf s.mem = true) (h : execCtu x fm rd rin rpv index ms s = .next s') :
    Memory.wf s'.mem = true := by
  obtain rfl := Host.Outcome.next.inj h
  first | (simp (maxDischargeDepth := 40) [hm]; done) | ((repeat' split) <;> simp (maxDischargeDepth := 40) [hm]; done) | (refine State.insn_memwf hm fun s1 h1 => ?_; first | exact State.loadAt_memwf h1 | exact State.storeAt_memwf h1 | exact h1 | skip; (try dsimp only); (repeat' split) <;> first | exact h1 | exact State.loadAt_memwf h1 | exact State.storeAt_memwf h1 | simp (maxDischargeDepth := 40) [h1, State.branch]; done) | (refine State.privInsn_memwf hm fun s1 h1 => ?_; simp (maxDischargeDepth := 40) [h1]; done)

theorem execCtd_memwf {x : Target} {fm : Meet} {rd rin rpv : GReg} {index : BitVec 9} {ms : List Meet} {s s' : State} (hm : Memory.wf s.mem = true) (h : execCtd x fm rd rin rpv index ms s = .next s') :
    Memory.wf s'.mem = true := by
  obtain rfl := Host.Outcome.next.inj h
  first | (simp (maxDischargeDepth := 40) [hm]; done) | ((repeat' split) <;> simp (maxDischargeDepth := 40) [hm]; done) | (refine State.insn_memwf hm fun s1 h1 => ?_; first | exact State.loadAt_memwf h1 | exact State.storeAt_memwf h1 | exact h1 | skip; (try dsimp only); (repeat' split) <;> first | exact h1 | exact State.loadAt_memwf h1 | exact State.storeAt_memwf h1 | simp (maxDischargeDepth := 40) [h1, State.branch]; done) | (refine State.privInsn_memwf hm fun s1 h1 => ?_; simp (maxDischargeDepth := 40) [h1]; done)

theorem execCtud_memwf {x : Target} {fm : Meet} {rd rin rpv : GReg} {index : BitVec 9} {ms : List Meet} {s s' : State} (hm : Memory.wf s.mem = true) (h : execCtud x fm rd rin rpv index ms s = .next s') :
    Memory.wf s'.mem = true := by
  obtain rfl := Host.Outcome.next.inj h
  first | (simp (maxDischargeDepth := 40) [hm]; done) | ((repeat' split) <;> simp (maxDischargeDepth := 40) [hm]; done) | (refine State.insn_memwf hm fun s1 h1 => ?_; first | exact State.loadAt_memwf h1 | exact State.storeAt_memwf h1 | exact h1 | skip; (try dsimp only); (repeat' split) <;> first | exact h1 | exact State.loadAt_memwf h1 | exact State.storeAt_memwf h1 | simp (maxDischargeDepth := 40) [h1, State.branch]; done) | (refine State.privInsn_memwf hm fun s1 h1 => ?_; simp (maxDischargeDepth := 40) [h1]; done)

theorem execEdgeRising_memwf {x : Target} {fm : Meet} {rd rin : GReg} {index : BitVec 14} {ms : List Meet} {s s' : State} (hm : Memory.wf s.mem = true) (h : execEdgeRising x fm rd rin index ms s = .next s') :
    Memory.wf s'.mem = true := by
  obtain rfl := Host.Outcome.next.inj h
  first | (simp (maxDischargeDepth := 40) [hm]; done) | ((repeat' split) <;> simp (maxDischargeDepth := 40) [hm]; done) | (refine State.insn_memwf hm fun s1 h1 => ?_; first | exact State.loadAt_memwf h1 | exact State.storeAt_memwf h1 | exact h1 | skip; (try dsimp only); (repeat' split) <;> first | exact h1 | exact State.loadAt_memwf h1 | exact State.storeAt_memwf h1 | simp (maxDischargeDepth := 40) [h1, State.branch]; done) | (refine State.privInsn_memwf hm fun s1 h1 => ?_; simp (maxDischargeDepth := 40) [h1]; done)

theorem execEdgeFalling_memwf {x : Target} {fm : Meet} {rd rin : GReg} {index : BitVec 14} {ms : List Meet} {s s' : State} (hm : Memory.wf s.mem = true) (h : execEdgeFalling x fm rd rin index ms s = .next s') :
    Memory.wf s'.mem = true := by
  obtain rfl := Host.Outcome.next.inj h
  first | (simp (maxDischargeDepth := 40) [hm]; done) | ((repeat' split) <;> simp (maxDischargeDepth := 40) [hm]; done) | (refine State.insn_memwf hm fun s1 h1 => ?_; first | exact State.loadAt_memwf h1 | exact State.storeAt_memwf h1 | exact h1 | skip; (try dsimp only); (repeat' split) <;> first | exact h1 | exact State.loadAt_memwf h1 | exact State.storeAt_memwf h1 | simp (maxDischargeDepth := 40) [h1, State.branch]; done) | (refine State.privInsn_memwf hm fun s1 h1 => ?_; simp (maxDischargeDepth := 40) [h1]; done)

theorem execEdgeBoth_memwf {x : Target} {fm : Meet} {rd rin : GReg} {index : BitVec 14} {ms : List Meet} {s s' : State} (hm : Memory.wf s.mem = true) (h : execEdgeBoth x fm rd rin index ms s = .next s') :
    Memory.wf s'.mem = true := by
  obtain rfl := Host.Outcome.next.inj h
  first | (simp (maxDischargeDepth := 40) [hm]; done) | ((repeat' split) <;> simp (maxDischargeDepth := 40) [hm]; done) | (refine State.insn_memwf hm fun s1 h1 => ?_; first | exact State.loadAt_memwf h1 | exact State.storeAt_memwf h1 | exact h1 | skip; (try dsimp only); (repeat' split) <;> first | exact h1 | exact State.loadAt_memwf h1 | exact State.storeAt_memwf h1 | simp (maxDischargeDepth := 40) [h1, State.branch]; done) | (refine State.privInsn_memwf hm fun s1 h1 => ?_; simp (maxDischargeDepth := 40) [h1]; done)

theorem execBmovCopyStep_memwf {x : Target} {fm : Meet} {l : Bool} {rd ra rb : GReg} {ms : List Meet} {s s' : State} (hm : Memory.wf s.mem = true) (h : execBmovCopyStep x fm l rd ra rb ms s = .next s') :
    Memory.wf s'.mem = true := by
  obtain rfl := Host.Outcome.next.inj h
  refine State.insn_memwf hm fun s1 h1 => ?_
  dsimp only
  split
  · simpa [State.moveEnds] using h1
  · split
    · exact h1
    · exact State.meets_memwf h1 fun s2 h2 => State.guarded_memwf h2 (State.guarded_memwf h2
        (Reply.ends_memwf (by simp [h2]) fun d => State.moveStore_memwf (by simp [h2])))

theorem execBmovFillStep_memwf {x : Target} {fm : Meet} {l : Bool} {rd ra rb : GReg} {m : Meet} {s s' : State} (hm : Memory.wf s.mem = true) (h : execBmovFillStep x fm l rd ra rb m s = .next s') :
    Memory.wf s'.mem = true := by
  obtain rfl := Host.Outcome.next.inj h
  refine State.insn_memwf hm fun s1 h1 => ?_
  dsimp only
  split
  · simpa [State.moveEnds] using h1
  · split
    · exact h1
    · exact State.guarded_memwf h1 (State.moveStore_memwf h1)

theorem execMigrOperationStep_memwf {x : Target} {fm : Meet} {rd ra rb : GReg} {ms : List Meet} {s s' : State} (hm : Memory.wf s.mem = true) (h : execMigrOperationStep x fm rd ra rb ms s = .next s') :
    Memory.wf s'.mem = true := by
  obtain rfl := Host.Outcome.next.inj h
  exact State.migr_memwf hm

theorem execMigrHeaderStep_memwf {x : Target} {fm : Meet} {rd ra rb : GReg} {ms : List Meet} {s s' : State} (hm : Memory.wf s.mem = true) (h : execMigrHeaderStep x fm rd ra rb ms s = .next s') :
    Memory.wf s'.mem = true := by
  obtain rfl := Host.Outcome.next.inj h
  exact State.migr_memwf hm

theorem execMigrEndStep_memwf {x : Target} {fm : Meet} {rd ra rb : GReg} {ms : List Meet} {s s' : State} (hm : Memory.wf s.mem = true) (h : execMigrEndStep x fm rd ra rb ms s = .next s') :
    Memory.wf s'.mem = true := by
  obtain rfl := Host.Outcome.next.inj h
  exact State.migr_memwf hm

theorem execAmoSwap_memwf {x : Target} {fm : Meet} {d : Bool} {rd ra rb : GReg} {m : Meet} {s s' : State} (hm : Memory.wf s.mem = true) (h : execAmoSwap x fm d rd ra rb m s = .next s') :
    Memory.wf s'.mem = true := by
  obtain rfl := Host.Outcome.next.inj h
  first | (simp (maxDischargeDepth := 40) [hm]; done) | ((repeat' split) <;> simp (maxDischargeDepth := 40) [hm]; done) | (refine State.insn_memwf hm fun s1 h1 => ?_; first | exact State.loadAt_memwf h1 | exact State.storeAt_memwf h1 | exact h1 | skip; (try dsimp only); (repeat' split) <;> first | exact h1 | exact State.loadAt_memwf h1 | exact State.storeAt_memwf h1 | simp (maxDischargeDepth := 40) [h1, State.branch]; done) | (refine State.privInsn_memwf hm fun s1 h1 => ?_; simp (maxDischargeDepth := 40) [h1]; done)

theorem execAmoAdd_memwf {x : Target} {fm : Meet} {d : Bool} {rd ra rb : GReg} {m : Meet} {s s' : State} (hm : Memory.wf s.mem = true) (h : execAmoAdd x fm d rd ra rb m s = .next s') :
    Memory.wf s'.mem = true := by
  obtain rfl := Host.Outcome.next.inj h
  first | (simp (maxDischargeDepth := 40) [hm]; done) | ((repeat' split) <;> simp (maxDischargeDepth := 40) [hm]; done) | (refine State.insn_memwf hm fun s1 h1 => ?_; first | exact State.loadAt_memwf h1 | exact State.storeAt_memwf h1 | exact h1 | skip; (try dsimp only); (repeat' split) <;> first | exact h1 | exact State.loadAt_memwf h1 | exact State.storeAt_memwf h1 | simp (maxDischargeDepth := 40) [h1, State.branch]; done) | (refine State.privInsn_memwf hm fun s1 h1 => ?_; simp (maxDischargeDepth := 40) [h1]; done)

theorem execAmoAnd_memwf {x : Target} {fm : Meet} {d : Bool} {rd ra rb : GReg} {m : Meet} {s s' : State} (hm : Memory.wf s.mem = true) (h : execAmoAnd x fm d rd ra rb m s = .next s') :
    Memory.wf s'.mem = true := by
  obtain rfl := Host.Outcome.next.inj h
  first | (simp (maxDischargeDepth := 40) [hm]; done) | ((repeat' split) <;> simp (maxDischargeDepth := 40) [hm]; done) | (refine State.insn_memwf hm fun s1 h1 => ?_; first | exact State.loadAt_memwf h1 | exact State.storeAt_memwf h1 | exact h1 | skip; (try dsimp only); (repeat' split) <;> first | exact h1 | exact State.loadAt_memwf h1 | exact State.storeAt_memwf h1 | simp (maxDischargeDepth := 40) [h1, State.branch]; done) | (refine State.privInsn_memwf hm fun s1 h1 => ?_; simp (maxDischargeDepth := 40) [h1]; done)

theorem execAmoOr_memwf {x : Target} {fm : Meet} {d : Bool} {rd ra rb : GReg} {m : Meet} {s s' : State} (hm : Memory.wf s.mem = true) (h : execAmoOr x fm d rd ra rb m s = .next s') :
    Memory.wf s'.mem = true := by
  obtain rfl := Host.Outcome.next.inj h
  first | (simp (maxDischargeDepth := 40) [hm]; done) | ((repeat' split) <;> simp (maxDischargeDepth := 40) [hm]; done) | (refine State.insn_memwf hm fun s1 h1 => ?_; first | exact State.loadAt_memwf h1 | exact State.storeAt_memwf h1 | exact h1 | skip; (try dsimp only); (repeat' split) <;> first | exact h1 | exact State.loadAt_memwf h1 | exact State.storeAt_memwf h1 | simp (maxDischargeDepth := 40) [h1, State.branch]; done) | (refine State.privInsn_memwf hm fun s1 h1 => ?_; simp (maxDischargeDepth := 40) [h1]; done)

theorem execAmoXor_memwf {x : Target} {fm : Meet} {d : Bool} {rd ra rb : GReg} {m : Meet} {s s' : State} (hm : Memory.wf s.mem = true) (h : execAmoXor x fm d rd ra rb m s = .next s') :
    Memory.wf s'.mem = true := by
  obtain rfl := Host.Outcome.next.inj h
  first | (simp (maxDischargeDepth := 40) [hm]; done) | ((repeat' split) <;> simp (maxDischargeDepth := 40) [hm]; done) | (refine State.insn_memwf hm fun s1 h1 => ?_; first | exact State.loadAt_memwf h1 | exact State.storeAt_memwf h1 | exact h1 | skip; (try dsimp only); (repeat' split) <;> first | exact h1 | exact State.loadAt_memwf h1 | exact State.storeAt_memwf h1 | simp (maxDischargeDepth := 40) [h1, State.branch]; done) | (refine State.privInsn_memwf hm fun s1 h1 => ?_; simp (maxDischargeDepth := 40) [h1]; done)

theorem execAmoMin_memwf {x : Target} {fm : Meet} {d : Bool} {rd ra rb : GReg} {m : Meet} {s s' : State} (hm : Memory.wf s.mem = true) (h : execAmoMin x fm d rd ra rb m s = .next s') :
    Memory.wf s'.mem = true := by
  obtain rfl := Host.Outcome.next.inj h
  first | (simp (maxDischargeDepth := 40) [hm]; done) | ((repeat' split) <;> simp (maxDischargeDepth := 40) [hm]; done) | (refine State.insn_memwf hm fun s1 h1 => ?_; first | exact State.loadAt_memwf h1 | exact State.storeAt_memwf h1 | exact h1 | skip; (try dsimp only); (repeat' split) <;> first | exact h1 | exact State.loadAt_memwf h1 | exact State.storeAt_memwf h1 | simp (maxDischargeDepth := 40) [h1, State.branch]; done) | (refine State.privInsn_memwf hm fun s1 h1 => ?_; simp (maxDischargeDepth := 40) [h1]; done)

theorem execAmoMax_memwf {x : Target} {fm : Meet} {d : Bool} {rd ra rb : GReg} {m : Meet} {s s' : State} (hm : Memory.wf s.mem = true) (h : execAmoMax x fm d rd ra rb m s = .next s') :
    Memory.wf s'.mem = true := by
  obtain rfl := Host.Outcome.next.inj h
  first | (simp (maxDischargeDepth := 40) [hm]; done) | ((repeat' split) <;> simp (maxDischargeDepth := 40) [hm]; done) | (refine State.insn_memwf hm fun s1 h1 => ?_; first | exact State.loadAt_memwf h1 | exact State.storeAt_memwf h1 | exact h1 | skip; (try dsimp only); (repeat' split) <;> first | exact h1 | exact State.loadAt_memwf h1 | exact State.storeAt_memwf h1 | simp (maxDischargeDepth := 40) [h1, State.branch]; done) | (refine State.privInsn_memwf hm fun s1 h1 => ?_; simp (maxDischargeDepth := 40) [h1]; done)

theorem execAmoMinu_memwf {x : Target} {fm : Meet} {d : Bool} {rd ra rb : GReg} {m : Meet} {s s' : State} (hm : Memory.wf s.mem = true) (h : execAmoMinu x fm d rd ra rb m s = .next s') :
    Memory.wf s'.mem = true := by
  obtain rfl := Host.Outcome.next.inj h
  first | (simp (maxDischargeDepth := 40) [hm]; done) | ((repeat' split) <;> simp (maxDischargeDepth := 40) [hm]; done) | (refine State.insn_memwf hm fun s1 h1 => ?_; first | exact State.loadAt_memwf h1 | exact State.storeAt_memwf h1 | exact h1 | skip; (try dsimp only); (repeat' split) <;> first | exact h1 | exact State.loadAt_memwf h1 | exact State.storeAt_memwf h1 | simp (maxDischargeDepth := 40) [h1, State.branch]; done) | (refine State.privInsn_memwf hm fun s1 h1 => ?_; simp (maxDischargeDepth := 40) [h1]; done)

theorem execAmoMaxu_memwf {x : Target} {fm : Meet} {d : Bool} {rd ra rb : GReg} {m : Meet} {s s' : State} (hm : Memory.wf s.mem = true) (h : execAmoMaxu x fm d rd ra rb m s = .next s') :
    Memory.wf s'.mem = true := by
  obtain rfl := Host.Outcome.next.inj h
  first | (simp (maxDischargeDepth := 40) [hm]; done) | ((repeat' split) <;> simp (maxDischargeDepth := 40) [hm]; done) | (refine State.insn_memwf hm fun s1 h1 => ?_; first | exact State.loadAt_memwf h1 | exact State.storeAt_memwf h1 | exact h1 | skip; (try dsimp only); (repeat' split) <;> first | exact h1 | exact State.loadAt_memwf h1 | exact State.storeAt_memwf h1 | simp (maxDischargeDepth := 40) [h1, State.branch]; done) | (refine State.privInsn_memwf hm fun s1 h1 => ?_; simp (maxDischargeDepth := 40) [h1]; done)

theorem execAmoCas_memwf {x : Target} {fm : Meet} {d : Bool} {rd ra rb : GReg} {m : Meet} {s s' : State} (hm : Memory.wf s.mem = true) (h : execAmoCas x fm d rd ra rb m s = .next s') :
    Memory.wf s'.mem = true := by
  obtain rfl := Host.Outcome.next.inj h
  exact State.amo_memwf hm


end Sys2Proof.Machine
end

