-- ==== Sys2Proof/Laws/ExecFrame.lean ====
section
/-!
SUPPORT. The commands that leave memory, and those that leave the contexts of every target, one by one.
-/
namespace Sys2Proof.Machine

theorem execRtcSubRead_mem {pulses : W32} {s s' : State} (h : execRtcSubRead pulses s = .next s') : s'.mem = s.mem := by
  unfold execRtcSubRead at h
  (try dsimp only at h)
  (repeat' split at h) <;> (obtain rfl := Host.Outcome.next.inj h) <;> simp

theorem execOpsecLoRead_mem {pulses : W32} {s s' : State} (h : execOpsecLoRead pulses s = .next s') : s'.mem = s.mem := by
  unfold execOpsecLoRead at h
  (try dsimp only at h)
  (repeat' split at h) <;> (obtain rfl := Host.Outcome.next.inj h) <;> simp

theorem execBreset_mem  {s s' : State} (h : execBreset s = .next s') : s'.mem = s.mem := by
  obtain rfl := Host.Outcome.next.inj h
  simp

theorem execRtcSet_mem  {s s' : State} (h : execRtcSet s = .next s') : s'.mem = s.mem := by
  obtain rfl := Host.Outcome.next.inj h
  simp

theorem execStore_mem  {s s' : State} (h : execStore s = .next s') : s'.mem = s.mem := by
  obtain rfl := Host.Outcome.next.inj h
  simp

theorem execUnstore_mem  {s s' : State} (h : execUnstore s = .next s') : s'.mem = s.mem := by
  obtain rfl := Host.Outcome.next.inj h
  simp

theorem execRtcWindow_mem {meas : W16} {when : W64} {s s' : State} (h : execRtcWindow meas when s = .next s') : s'.mem = s.mem := by
  unfold execRtcWindow at h
  (try dsimp only at h)
  (repeat' split at h) <;> (obtain rfl := Host.Outcome.next.inj h) <;> simp

theorem execCounterSave_mem {pulses : W32} {s s' : State} (h : execCounterSave pulses s = .next s') : s'.mem = s.mem := by
  obtain rfl := Host.Outcome.next.inj h
  simp

theorem execPullupLost_mem  {s s' : State} (h : execPullupLost s = .next s') : s'.mem = s.mem := by
  unfold execPullupLost at h
  (try dsimp only at h)
  (repeat' split at h) <;> (obtain rfl := Host.Outcome.next.inj h) <;> simp

theorem execPullupReturn_mem  {s s' : State} (h : execPullupReturn s = .next s') : s'.mem = s.mem := by
  unfold execPullupReturn at h
  (try dsimp only at h)
  (repeat' split at h) <;> (obtain rfl := Host.Outcome.next.inj h) <;> simp

theorem execRestartDelayExpire_mem  {s s' : State} (h : execRestartDelayExpire s = .next s') : s'.mem = s.mem := by
  unfold execRestartDelayExpire at h
  (try dsimp only at h)
  (repeat' split at h) <;> (obtain rfl := Host.Outcome.next.inj h) <;> simp

theorem execStoreReleaseDone_mem  {s s' : State} (h : execStoreReleaseDone s = .next s') : s'.mem = s.mem := by
  unfold execStoreReleaseDone at h
  (try dsimp only at h)
  (repeat' split at h) <;> (obtain rfl := Host.Outcome.next.inj h) <;> simp

theorem execCellLow_mem {hours : W16} {mv : W16} {failed : Bool} {s s' : State} (h : execCellLow hours mv failed s = .next s') : s'.mem = s.mem := by
  unfold execCellLow at h
  (try dsimp only at h)
  (repeat' split at h) <;> (obtain rfl := Host.Outcome.next.inj h) <;> simp

theorem execBrownoutArbitration_mem {mainFirst : Bool} {s s' : State} (h : execBrownoutArbitration mainFirst s = .next s') : s'.mem = s.mem := by
  unfold execBrownoutArbitration at h
  (try dsimp only at h)
  (repeat' split at h) <;> (obtain rfl := Host.Outcome.next.inj h) <;> simp

theorem execCellExhausted_mem  {s s' : State} (h : execCellExhausted s = .next s') : s'.mem = s.mem := by
  obtain rfl := Host.Outcome.next.inj h
  simp

theorem execBackupLockoutEnd_mem  {s s' : State} (h : execBackupLockoutEnd s = .next s') : s'.mem = s.mem := by
  unfold execBackupLockoutEnd at h
  (try dsimp only at h)
  (repeat' split at h) <;> (obtain rfl := Host.Outcome.next.inj h) <;> simp

theorem execRecordWrite_mem  {s s' : State} (h : execRecordWrite s = .next s') : s'.mem = s.mem := by
  obtain rfl := Host.Outcome.next.inj h
  simp

theorem execDropRecord_mem  {s s' : State} (h : execDropRecord s = .next s') : s'.mem = s.mem := by
  unfold execDropRecord at h
  (try dsimp only at h)
  (repeat' split at h) <;> (obtain rfl := Host.Outcome.next.inj h) <;> simp

theorem execPlaceholderFill_mem  {s s' : State} (h : execPlaceholderFill s = .next s') : s'.mem = s.mem := by
  unfold execPlaceholderFill at h
  (try dsimp only at h)
  (repeat' split at h) <;> (obtain rfl := Host.Outcome.next.inj h) <;> simp

theorem execSwWrite_mem  {s s' : State} (h : execSwWrite s = .next s') : s'.mem = s.mem := by
  obtain rfl := Host.Outcome.next.inj h
  simp

theorem execCursorLoad_mem {c : Fin 2} {v : W32} {s s' : State} (h : execCursorLoad c v s = .next s') : s'.mem = s.mem := by
  obtain rfl := Host.Outcome.next.inj h
  simp

theorem execFind_mem {c : Fin 2} {byOpsec : Bool} {s s' : State} (h : execFind c byOpsec s = .next s') : s'.mem = s.mem := by
  obtain rfl := Host.Outcome.next.inj h
  simp

theorem execWindowWord15Read_mem {c : Fin 2} {s s' : State} (h : execWindowWord15Read c s = .next s') : s'.mem = s.mem := by
  obtain rfl := Host.Outcome.next.inj h
  simp

theorem execNextLoRead_mem {low : Bool} {s s' : State} (h : execNextLoRead low s = .next s') : s'.mem = s.mem := by
  obtain rfl := Host.Outcome.next.inj h
  simp

theorem execPtEnClear_mem {v : W32} {s s' : State} (h : execPtEnClear v s = .next s') : s'.mem = s.mem := by
  obtain rfl := Host.Outcome.next.inj h
  simp

theorem execSparesForecast_mem  {s s' : State} (h : execSparesForecast s = .next s') : s'.mem = s.mem := by
  obtain rfl := Host.Outcome.next.inj h
  simp

theorem execPhaseCurrentFault_mem {phase : Fin 10} {s s' : State} (h : execPhaseCurrentFault phase s = .next s') : s'.mem = s.mem := by
  unfold execPhaseCurrentFault at h
  (try dsimp only at h)
  (repeat' split at h) <;> (obtain rfl := Host.Outcome.next.inj h) <;> simp

theorem execLedgerRebuild_mem {lostA lostB : Bool} {s s' : State} (h : execLedgerRebuild lostA lostB s = .next s') : s'.mem = s.mem := by
  unfold execLedgerRebuild at h
  (try dsimp only at h)
  (repeat' split at h) <;> (obtain rfl := Host.Outcome.next.inj h) <;> simp

theorem execVoterTimeout_mem {t : Fin 4} {lane : Fin 3} {icnt : W16} {s s' : State} (h : execVoterTimeout t lane icnt s = .next s') : s'.mem = s.mem := by
  obtain rfl := Host.Outcome.next.inj h
  simp

theorem execResyncSpareConnected_mem {t : Fin 4} {s s' : State} (h : execResyncSpareConnected t s = .next s') : s'.mem = s.mem := by
  unfold execResyncSpareConnected at h
  (try dsimp only at h)
  (repeat' split at h) <;> (obtain rfl := Host.Outcome.next.inj h) <;> simp

theorem execResyncCopyDone_mem {t : Fin 4} {same : Bool} {s s' : State} (h : execResyncCopyDone t same s = .next s') : s'.mem = s.mem := by
  unfold execResyncCopyDone at h
  (try dsimp only at h)
  (repeat' split at h) <;> (obtain rfl := Host.Outcome.next.inj h) <;> simp

theorem execResyncRejoin_mem {t : Fin 4} {when : W64} {s s' : State} (h : execResyncRejoin t when s = .next s') : s'.mem = s.mem := by
  unfold execResyncRejoin at h
  (try dsimp only at h)
  (repeat' split at h) <;> (obtain rfl := Host.Outcome.next.inj h) <;> simp

theorem execTriSplit_mem {t : Fin 4} {s s' : State} (h : execTriSplit t s = .next s') : s'.mem = s.mem := by
  obtain rfl := Host.Outcome.next.inj h
  simp

theorem execTriJoin_mem {t : Fin 4} {s s' : State} (h : execTriJoin t s = .next s') : s'.mem = s.mem := by
  obtain rfl := Host.Outcome.next.inj h
  simp

theorem execTriResync_mem {t : Fin 4} {lane : Fin 4} {s s' : State} (h : execTriResync t lane s = .next s') : s'.mem = s.mem := by
  obtain rfl := Host.Outcome.next.inj h
  simp

theorem execTriRetire_mem {t : Fin 4} {lane : Fin 4} {s s' : State} (h : execTriRetire t lane s = .next s') : s'.mem = s.mem := by
  obtain rfl := Host.Outcome.next.inj h
  simp

theorem execStopIndep_mem {w : Fin 4} {slot : Fin 4} {s s' : State} (h : execStopIndep w slot s = .next s') : s'.mem = s.mem := by
  obtain rfl := Host.Outcome.next.inj h
  simp

theorem execStopIndepEffect_mem {slot : Fin 4} {s s' : State} (h : execStopIndepEffect slot s = .next s') : s'.mem = s.mem := by
  unfold execStopIndepEffect at h
  (try dsimp only at h)
  (repeat' split at h) <;> (obtain rfl := Host.Outcome.next.inj h) <;> simp

theorem execCachePartitionWrite_mem {t : Fin 4} {dcp : Bool} {v : W32} {s s' : State} (h : execCachePartitionWrite t dcp v s = .next s') : s'.mem = s.mem := by
  obtain rfl := Host.Outcome.next.inj h
  simp

theorem execGuardDrainDone_mem {m : Fin 48} {s s' : State} (h : execGuardDrainDone m s = .next s') : s'.mem = s.mem := by
  obtain rfl := Host.Outcome.next.inj h
  simp

theorem execSwtrig_mem {v : W32} {s s' : State} (h : execSwtrig v s = .next s') : s'.mem = s.mem := by
  obtain rfl := Host.Outcome.next.inj h
  simp

theorem execClockSelectWrite_mem {hi : Bool} {v : W32} {s s' : State} (h : execClockSelectWrite hi v s = .next s') : s'.mem = s.mem := by
  obtain rfl := Host.Outcome.next.inj h
  simp

theorem execNsWrap_mem  {s s' : State} (h : execNsWrap s = .next s') : s'.mem = s.mem := by
  unfold execNsWrap at h
  (try dsimp only at h)
  (repeat' split at h) <;> (obtain rfl := Host.Outcome.next.inj h) <;> simp

theorem execEpochLate_mem  {s s' : State} (h : execEpochLate s = .next s') : s'.mem = s.mem := by
  unfold execEpochLate at h
  (try dsimp only at h)
  (repeat' split at h) <;> (obtain rfl := Host.Outcome.next.inj h) <;> simp

theorem execEpochAdv_mem  {s s' : State} (h : execEpochAdv s = .next s') : s'.mem = s.mem := by
  obtain rfl := Host.Outcome.next.inj h
  simp

theorem execIncWrite_mem {v : W32} {s s' : State} (h : execIncWrite v s = .next s') : s'.mem = s.mem := by
  obtain rfl := Host.Outcome.next.inj h
  simp

theorem execTimeSet_mem  {s s' : State} (h : execTimeSet s = .next s') : s'.mem = s.mem := by
  obtain rfl := Host.Outcome.next.inj h
  simp

theorem execTimeStep_mem  {s s' : State} (h : execTimeStep s = .next s') : s'.mem = s.mem := by
  obtain rfl := Host.Outcome.next.inj h
  simp

theorem execStepCancel_mem  {s s' : State} (h : execStepCancel s = .next s') : s'.mem = s.mem := by
  obtain rfl := Host.Outcome.next.inj h
  simp

theorem execAlarmFire_mem {a : Fin 3} {when : W64} {s s' : State} (h : execAlarmFire a when s = .next s') : s'.mem = s.mem := by
  unfold execAlarmFire at h
  (try dsimp only at h)
  (repeat' split at h) <;> (obtain rfl := Host.Outcome.next.inj h) <;> simp

theorem execAlarmArm_mem {a : Fin 3} {v : W32} {s s' : State} (h : execAlarmArm a v s = .next s') : s'.mem = s.mem := by
  obtain rfl := Host.Outcome.next.inj h
  simp

theorem execStepApply_mem {when : W64} {s s' : State} (h : execStepApply when s = .next s') : s'.mem = s.mem := by
  obtain rfl := Host.Outcome.next.inj h
  simp

theorem execNsRead_mem  {s s' : State} (h : execNsRead s = .next s') : s'.mem = s.mem := by
  obtain rfl := Host.Outcome.next.inj h
  simp

theorem execNowLoRead_mem  {s s' : State} (h : execNowLoRead s = .next s') : s'.mem = s.mem := by
  obtain rfl := Host.Outcome.next.inj h
  simp

theorem execReferenceLost_mem {r : Ref} {ppm : W16} {s s' : State} (h : execReferenceLost r ppm s = .next s') : s'.mem = s.mem := by
  unfold execReferenceLost at h
  (try dsimp only at h)
  (repeat' split at h) <;> (obtain rfl := Host.Outcome.next.inj h) <;> simp

theorem execReferenceGood_mem {r : Ref} {ppm : W16} {s s' : State} (h : execReferenceGood r ppm s = .next s') : s'.mem = s.mem := by
  unfold execReferenceGood at h
  (try dsimp only at h)
  (repeat' split at h) <;> (obtain rfl := Host.Outcome.next.inj h) <;> simp

theorem execBothReferencesLost_mem  {s s' : State} (h : execBothReferencesLost s = .next s') : s'.mem = s.mem := by
  unfold execBothReferencesLost at h
  (try dsimp only at h)
  (repeat' split at h) <;> (obtain rfl := Host.Outcome.next.inj h) <;> simp

theorem execHoldoverTimeout_mem  {s s' : State} (h : execHoldoverTimeout s = .next s') : s'.mem = s.mem := by
  obtain rfl := Host.Outcome.next.inj h
  simp

theorem execTimeBaseFault_mem  {s s' : State} (h : execTimeBaseFault s = .next s') : s'.mem = s.mem := by
  obtain rfl := Host.Outcome.next.inj h
  simp

theorem execIslandPowerUp_mem {i : Fin 48} {s s' : State} (h : execIslandPowerUp i s = .next s') : s'.mem = s.mem := by
  obtain rfl := Host.Outcome.next.inj h
  simp

theorem execScrubWord_mem {a : W32} {f : Finding} {s s' : State} (h : execScrubWord a f s = .next s') : s'.mem = s.mem := by
  unfold execScrubWord at h
  (try dsimp only at h)
  (repeat' split at h) <;> (obtain rfl := Host.Outcome.next.inj h) <;> simp

theorem execDramRowReplace_mem {device : Fin 11} {bank : Fin 16} {row : Fin 16384} {s s' : State} (h : execDramRowReplace device bank row s = .next s') : s'.mem = s.mem := by
  unfold execDramRowReplace at h
  (try dsimp only at h)
  (repeat' split at h) <;> (obtain rfl := Host.Outcome.next.inj h) <;> simp

theorem execDramDeviceReplace_mem {device : Fin 11} {s s' : State} (h : execDramDeviceReplace device s = .next s') : s'.mem = s.mem := by
  unfold execDramDeviceReplace at h
  (try dsimp only at h)
  (repeat' split at h) <;> (obtain rfl := Host.Outcome.next.inj h) <;> simp

theorem execMramBankReplace_mem {bank : Fin 64} {s s' : State} (h : execMramBankReplace bank s = .next s') : s'.mem = s.mem := by
  unfold execMramBankReplace at h
  (try dsimp only at h)
  (repeat' split at h) <;> (obtain rfl := Host.Outcome.next.inj h) <;> simp

theorem execReplacementCopyDone_mem {pool : Fin 9} {element : W32} {s s' : State} (h : execReplacementCopyDone pool element s = .next s') : s'.mem = s.mem := by
  obtain rfl := Host.Outcome.next.inj h
  simp

theorem execDramZeroDone_mem  {s s' : State} (h : execDramZeroDone s = .next s') : s'.mem = s.mem := by
  obtain rfl := Host.Outcome.next.inj h
  simp

theorem execLaneLockLost_mem {lane : Fin 3} {s s' : State} (h : execLaneLockLost lane s = .next s') : s'.mem = s.mem := by
  unfold execLaneLockLost at h
  (try dsimp only at h)
  (repeat' split at h) <;> (obtain rfl := Host.Outcome.next.inj h) <;> simp

theorem execLinkLost_mem  {s s' : State} (h : execLinkLost s = .next s') : s'.mem = s.mem := by
  unfold execLinkLost at h
  (try dsimp only at h)
  (repeat' split at h) <;> (obtain rfl := Host.Outcome.next.inj h) <;> simp

theorem execLinkUp_mem {lanes : BitVec 3} {s s' : State} (h : execLinkUp lanes s = .next s') : s'.mem = s.mem := by
  unfold execLinkUp at h
  (try dsimp only at h)
  (repeat' split at h) <;> (obtain rfl := Host.Outcome.next.inj h) <;> simp

theorem execFrameAckTimeout_mem {seq : W32} {when : W64} {s s' : State} (h : execFrameAckTimeout seq when s = .next s') : s'.mem = s.mem := by
  unfold execFrameAckTimeout at h
  (try dsimp only at h)
  (repeat' split at h) <;> (obtain rfl := Host.Outcome.next.inj h) <;> simp

theorem execLaneRetrain_mem {lane : Fin 3} {ok : Bool} {s s' : State} (h : execLaneRetrain lane ok s = .next s') : s'.mem = s.mem := by
  unfold execLaneRetrain at h
  (try dsimp only at h)
  (repeat' split at h) <;> (obtain rfl := Host.Outcome.next.inj h) <;> simp

theorem execHeartbeatSend_mem {when : W64} {s s' : State} (h : execHeartbeatSend when s = .next s') : s'.mem = s.mem := by
  unfold execHeartbeatSend at h
  (try dsimp only at h)
  (repeat' split at h) <;> (obtain rfl := Host.Outcome.next.inj h) <;> simp

theorem execHeartbeatReceived_mem {role : Fin 5} {claim ready recovering trial : Bool} {fmt acc : W8} {merit : W64} {serial : BitVec 128} {ofs : W32} {when : W64} {s s' : State} (h : execHeartbeatReceived role claim ready recovering trial fmt acc merit serial ofs when s = .next s') : s'.mem = s.mem := by
  unfold execHeartbeatReceived at h
  (try dsimp only at h)
  (repeat' split at h) <;> (obtain rfl := Host.Outcome.next.inj h) <;> simp

theorem execPartnerSilent_mem  {s s' : State} (h : execPartnerSilent s = .next s') : s'.mem = s.mem := by
  unfold execPartnerSilent at h
  (try dsimp only at h)
  (repeat' split at h) <;> (obtain rfl := Host.Outcome.next.inj h) <;> simp

theorem execReleaseOrderReceived_mem  {s s' : State} (h : execReleaseOrderReceived s = .next s') : s'.mem = s.mem := by
  obtain rfl := Host.Outcome.next.inj h
  simp

theorem execReleaseFail_mem  {s s' : State} (h : execReleaseFail s = .next s') : s'.mem = s.mem := by
  unfold execReleaseFail at h
  (try dsimp only at h)
  (repeat' split at h) <;> (obtain rfl := Host.Outcome.next.inj h) <;> simp

theorem execClaimConflict_mem  {s s' : State} (h : execClaimConflict s = .next s') : s'.mem = s.mem := by
  unfold execClaimConflict at h
  (try dsimp only at h)
  (repeat' split at h) <;> (obtain rfl := Host.Outcome.next.inj h) <;> simp

theorem execClaimReleasedByWire_mem  {s s' : State} (h : execClaimReleasedByWire s = .next s') : s'.mem = s.mem := by
  unfold execClaimReleasedByWire at h
  (try dsimp only at h)
  (repeat' split at h) <;> (obtain rfl := Host.Outcome.next.inj h) <;> simp

theorem execResign_mem {fault : Bool} {s s' : State} (h : execResign fault s = .next s') : s'.mem = s.mem := by
  obtain rfl := Host.Outcome.next.inj h
  simp

theorem execSealedLoRead_mem {commit : Bool} {s s' : State} (h : execSealedLoRead commit s = .next s') : s'.mem = s.mem := by
  obtain rfl := Host.Outcome.next.inj h
  simp

theorem execYtsLoRead_mem  {s s' : State} (h : execYtsLoRead s = .next s') : s'.mem = s.mem := by
  obtain rfl := Host.Outcome.next.inj h
  simp

theorem execPlWrite_mem {i : Fin 8} {w : W32} {s s' : State} (h : execPlWrite i w s = .next s') : s'.mem = s.mem := by
  obtain rfl := Host.Outcome.next.inj h
  simp

theorem execLevelChangeDone_mem {i : Fin 8} {s s' : State} (h : execLevelChangeDone i s = .next s') : s'.mem = s.mem := by
  unfold execLevelChangeDone at h
  (try dsimp only at h)
  (repeat' split at h) <;> (obtain rfl := Host.Outcome.next.inj h) <;> simp

theorem execLevelChangeHoldoffEnd_mem {i : Fin 8} {s s' : State} (h : execLevelChangeHoldoffEnd i s = .next s') : s'.mem = s.mem := by
  unfold execLevelChangeHoldoffEnd at h
  (try dsimp only at h)
  (repeat' split at h) <;> (obtain rfl := Host.Outcome.next.inj h) <;> simp

theorem execWakeSource_mem {i : Fin 9} {src : Fin 10} {s s' : State} (h : execWakeSource i src s = .next s') : s'.mem = s.mem := by
  unfold execWakeSource at h
  (try dsimp only at h)
  (repeat' split at h) <;> (obtain rfl := Host.Outcome.next.inj h) <;> simp

theorem execEvtInfoRead_mem {g : Fin 32} {s s' : State} (h : execEvtInfoRead g s = .next s') : s'.mem = s.mem := by
  obtain rfl := Host.Outcome.next.inj h
  simp

theorem execEdgeLoRead_mem {g : Fin 32} {i : Fin 17} {s s' : State} (h : execEdgeLoRead g i s = .next s') : s'.mem = s.mem := by
  obtain rfl := Host.Outcome.next.inj h
  simp

theorem execDigitalInputEdge_mem {g : Fin 32} {i : Fin 17} {stamp : W64} {raw : Bool} {s s' : State} (h : execDigitalInputEdge g i stamp raw s = .next s') : s'.mem = s.mem := by
  obtain rfl := Host.Outcome.next.inj h
  simp

theorem execDebounceAccept_mem {g : Fin 32} {i : Fin 17} {s s' : State} (h : execDebounceAccept g i s = .next s') : s'.mem = s.mem := by
  unfold execDebounceAccept at h
  (try dsimp only at h)
  (repeat' split at h) <;> (obtain rfl := Host.Outcome.next.inj h) <;> simp

theorem execSliceReady_mem {g : Fin 32} {i : Fin 17} {raw : Bool} {s s' : State} (h : execSliceReady g i raw s = .next s') : s'.mem = s.mem := by
  unfold execSliceReady at h
  (try dsimp only at h)
  (repeat' split at h) <;> (obtain rfl := Host.Outcome.next.inj h) <;> simp

theorem execSliceConfigConfirm_mem {g : Fin 32} {i : Fin 17} {s s' : State} (h : execSliceConfigConfirm g i s = .next s') : s'.mem = s.mem := by
  unfold execSliceConfigConfirm at h
  (try dsimp only at h)
  (repeat' split at h) <;> (obtain rfl := Host.Outcome.next.inj h) <;> simp

theorem execLineBandMeasure_mem {g : Fin 32} {i : Fin 17} {ohms : W32} {when : W64} {s s' : State} (h : execLineBandMeasure g i ohms when s = .next s') : s'.mem = s.mem := by
  unfold execLineBandMeasure at h
  (try dsimp only at h)
  (repeat' split at h) <;> (obtain rfl := Host.Outcome.next.inj h) <;> simp

theorem execLineBandReport_mem {g : Fin 32} {i : Fin 17} {when : W64} {s s' : State} (h : execLineBandReport g i when s = .next s') : s'.mem = s.mem := by
  unfold execLineBandReport at h
  (try dsimp only at h)
  (repeat' split at h) <;> (obtain rfl := Host.Outcome.next.inj h) <;> simp

theorem execOverloadTrip_mem {g : Fin 32} {i : Fin 17} {when : W64} {s s' : State} (h : execOverloadTrip g i when s = .next s') : s'.mem = s.mem := by
  unfold execOverloadTrip at h
  (try dsimp only at h)
  (repeat' split at h) <;> (obtain rfl := Host.Outcome.next.inj h) <;> simp

theorem execThermalShutdown_mem {g : Fin 32} {i : Fin 17} {when : W64} {s s' : State} (h : execThermalShutdown g i when s = .next s') : s'.mem = s.mem := by
  unfold execThermalShutdown at h
  (try dsimp only at h)
  (repeat' split at h) <;> (obtain rfl := Host.Outcome.next.inj h) <;> simp

theorem execRetryAttempt_mem {g : Fin 32} {i : Fin 17} {tick : W64} {s s' : State} (h : execRetryAttempt g i tick s = .next s') : s'.mem = s.mem := by
  unfold execRetryAttempt at h
  (try dsimp only at h)
  (repeat' split at h) <;> (obtain rfl := Host.Outcome.next.inj h) <;> simp

theorem execRetryRearm_mem {g : Fin 32} {i : Fin 17} {s s' : State} (h : execRetryRearm g i s = .next s') : s'.mem = s.mem := by
  unfold execRetryRearm at h
  (try dsimp only at h)
  (repeat' split at h) <;> (obtain rfl := Host.Outcome.next.inj h) <;> simp

theorem execFaultDetect_mem {g : Fin 32} {i : Fin 17} {b : Fin 32} {when : W64} {s s' : State} (h : execFaultDetect g i b when s = .next s') : s'.mem = s.mem := by
  unfold execFaultDetect at h
  (try dsimp only at h)
  (repeat' split at h) <;> (obtain rfl := Host.Outcome.next.inj h) <;> simp

theorem execFaultClear_mem {g : Fin 32} {i : Fin 17} {b : Fin 32} {when : W64} {s s' : State} (h : execFaultClear g i b when s = .next s') : s'.mem = s.mem := by
  unfold execFaultClear at h
  (try dsimp only at h)
  (repeat' split at h) <;> (obtain rfl := Host.Outcome.next.inj h) <;> simp

theorem execBackfeed_mem {g : Fin 32} {i : Fin 17} {s s' : State} (h : execBackfeed g i s = .next s') : s'.mem = s.mem := by
  unfold execBackfeed at h
  (try dsimp only at h)
  (repeat' split at h) <;> (obtain rfl := Host.Outcome.next.inj h) <;> simp

theorem execSliceFailure_mem {g : Fin 32} {i : Fin 17} {s s' : State} (h : execSliceFailure g i s = .next s') : s'.mem = s.mem := by
  obtain rfl := Host.Outcome.next.inj h
  simp

theorem execSubstitutionComplete_mem {g : Fin 32} {s s' : State} (h : execSubstitutionComplete g s = .next s') : s'.mem = s.mem := by
  unfold execSubstitutionComplete at h
  (try dsimp only at h)
  (repeat' split at h) <;> (obtain rfl := Host.Outcome.next.inj h) <;> simp

theorem execSubst_mem {g : Fin 32} {i : Fin 17} {s s' : State} (h : execSubst g i s = .next s') : s'.mem = s.mem := by
  unfold execSubst at h
  (try dsimp only at h)
  (repeat' split at h) <;> (obtain rfl := Host.Outcome.next.inj h) <;> simp

theorem execSubstitutionOverlapEnd_mem {g : Fin 32} {s s' : State} (h : execSubstitutionOverlapEnd g s = .next s') : s'.mem = s.mem := by
  unfold execSubstitutionOverlapEnd at h
  (try dsimp only at h)
  (repeat' split at h) <;> (obtain rfl := Host.Outcome.next.inj h) <;> simp

theorem execSreset_mem {g : Fin 32} {i : Fin 17} {s s' : State} (h : execSreset g i s = .next s') : s'.mem = s.mem := by
  obtain rfl := Host.Outcome.next.inj h
  simp

theorem execSpareSliceTest_mem {g : Fin 32} {phase : TestPhase} {s s' : State} (h : execSpareSliceTest g phase s = .next s') : s'.mem = s.mem := by
  unfold execSpareSliceTest at h
  (try dsimp only at h)
  (repeat' split at h) <;> (obtain rfl := Host.Outcome.next.inj h) <;> simp

theorem execStim_mem {g : Fin 32} {i : Fin 17} {s s' : State} (h : execStim g i s = .next s') : s'.mem = s.mem := by
  unfold execStim at h
  (try dsimp only at h)
  (repeat' split at h) <;> (obtain rfl := Host.Outcome.next.inj h) <;> simp

theorem execStimulusEnd_mem {g : Fin 32} {i : Fin 17} {pass : Bool} {s s' : State} (h : execStimulusEnd g i pass s = .next s') : s'.mem = s.mem := by
  unfold execStimulusEnd at h
  (try dsimp only at h)
  (repeat' split at h) <;> (obtain rfl := Host.Outcome.next.inj h) <;> simp

theorem execAnalogStimulus_mem {g : Fin 32} {i : Fin 17} {raw : W32} {s s' : State} (h : execAnalogStimulus g i raw s = .next s') : s'.mem = s.mem := by
  unfold execAnalogStimulus at h
  (try dsimp only at h)
  (repeat' split at h) <;> (obtain rfl := Host.Outcome.next.inj h) <;> simp

theorem execConversionDone_mem {g : Fin 32} {i : Fin 17} {value : W32} {s s' : State} (h : execConversionDone g i value s = .next s') : s'.mem = s.mem := by
  obtain rfl := Host.Outcome.next.inj h
  simp

theorem execReferenceMonitorFailure_mem {g : Fin 32} {i : Fin 17} {s s' : State} (h : execReferenceMonitorFailure g i s = .next s') : s'.mem = s.mem := by
  obtain rfl := Host.Outcome.next.inj h
  simp

theorem execGridRunStart_mem {g : Fin 32} {i : Fin 17} {when : W64} {s s' : State} (h : execGridRunStart g i when s = .next s') : s'.mem = s.mem := by
  unfold execGridRunStart at h
  (try dsimp only at h)
  (repeat' split at h) <;> (obtain rfl := Host.Outcome.next.inj h) <;> simp

theorem execFaultRunStart_mem {g : Fin 32} {i : Fin 17} {s s' : State} (h : execFaultRunStart g i s = .next s') : s'.mem = s.mem := by
  unfold execFaultRunStart at h
  (try dsimp only at h)
  (repeat' split at h) <;> (obtain rfl := Host.Outcome.next.inj h) <;> simp

theorem execInjSw_mem {g : Fin 32} {i : Fin 17} {s s' : State} (h : execInjSw g i s = .next s') : s'.mem = s.mem := by
  unfold execInjSw at h
  (try dsimp only at h)
  (repeat' split at h) <;> (obtain rfl := Host.Outcome.next.inj h) <;> simp

theorem execRePhase_mem {g : Fin 32} {s s' : State} (h : execRePhase g s = .next s') : s'.mem = s.mem := by
  unfold execRePhase at h
  (try dsimp only at h)
  (repeat' split at h) <;> (obtain rfl := Host.Outcome.next.inj h) <;> simp

theorem execComplySet_mem {g : Fin 32} {i : Fin 17} {measured : W32} {s s' : State} (h : execComplySet g i measured s = .next s') : s'.mem = s.mem := by
  unfold execComplySet at h
  (try dsimp only at h)
  (repeat' split at h) <;> (obtain rfl := Host.Outcome.next.inj h) <;> simp

theorem execDevSet_mem {g : Fin 32} {i : Fin 17} {s s' : State} (h : execDevSet g i s = .next s') : s'.mem = s.mem := by
  unfold execDevSet at h
  (try dsimp only at h)
  (repeat' split at h) <;> (obtain rfl := Host.Outcome.next.inj h) <;> simp

theorem execAoTrimApply_mem {g : Fin 32} {i : Fin 17} {s s' : State} (h : execAoTrimApply g i s = .next s') : s'.mem = s.mem := by
  unfold execAoTrimApply at h
  (try dsimp only at h)
  (repeat' split at h) <;> (obtain rfl := Host.Outcome.next.inj h) <;> simp

theorem execAoTrimClear_mem {g : Fin 32} {i : Fin 17} {s s' : State} (h : execAoTrimClear g i s = .next s') : s'.mem = s.mem := by
  unfold execAoTrimClear at h
  (try dsimp only at h)
  (repeat' split at h) <;> (obtain rfl := Host.Outcome.next.inj h) <;> simp

theorem execCounterEdge_mem {g : Fin 32} {i : Fin 17} {stamp : W64} {rising : Bool} {n : W16} {s s' : State} (h : execCounterEdge g i stamp rising n s = .next s') : s'.mem = s.mem := by
  unfold execCounterEdge at h
  (try dsimp only at h)
  (repeat' split at h) <;> (obtain rfl := Host.Outcome.next.inj h) <;> simp

theorem execHartStart_mem {g : Fin 32} {m : Fin 4} {s s' : State} (h : execHartStart g m s = .next s') : s'.mem = s.mem := by
  obtain rfl := Host.Outcome.next.inj h
  simp

theorem execHartAbort_mem {g : Fin 32} {m : Fin 4} {s s' : State} (h : execHartAbort g m s = .next s') : s'.mem = s.mem := by
  obtain rfl := Host.Outcome.next.inj h
  simp

theorem execHartDone_mem {g : Fin 32} {m : Fin 4} {err : Fin 3} {bytes : List W8} {retried : Fin 4} {burst : W8} {s s' : State} (h : execHartDone g m err bytes retried burst s = .next s') : s'.mem = s.mem := by
  unfold execHartDone at h
  (try dsimp only at h)
  (repeat' split at h) <;> (obtain rfl := Host.Outcome.next.inj h) <;> simp

theorem execFeedLost_mem {f : Feed} {s s' : State} (h : execFeedLost f s = .next s') : s'.mem = s.mem := by
  unfold execFeedLost at h
  (try dsimp only at h)
  (repeat' split at h) <;> (obtain rfl := Host.Outcome.next.inj h) <;> simp

theorem execFeedOvervoltage_mem {f : Feed} {s s' : State} (h : execFeedOvervoltage f s = .next s') : s'.mem = s.mem := by
  unfold execFeedOvervoltage at h
  (try dsimp only at h)
  (repeat' split at h) <;> (obtain rfl := Host.Outcome.next.inj h) <;> simp

theorem execLogicFeedReturn_mem {f : Feed} {s s' : State} (h : execLogicFeedReturn f s = .next s') : s'.mem = s.mem := by
  unfold execLogicFeedReturn at h
  (try dsimp only at h)
  (repeat' split at h) <;> (obtain rfl := Host.Outcome.next.inj h) <;> simp

theorem execThermalWarning_mem  {s s' : State} (h : execThermalWarning s = .next s') : s'.mem = s.mem := by
  obtain rfl := Host.Outcome.next.inj h
  simp

theorem execPresenceLoopOpen_mem  {s s' : State} (h : execPresenceLoopOpen s = .next s') : s'.mem = s.mem := by
  unfold execPresenceLoopOpen at h
  (try dsimp only at h)
  (repeat' split at h) <;> (obtain rfl := Host.Outcome.next.inj h) <;> simp

theorem execPositionSample_mem {pos : BitVec 2} {peer : Bool} {s s' : State} (h : execPositionSample pos peer s = .next s') : s'.mem = s.mem := by
  unfold execPositionSample at h
  (try dsimp only at h)
  (repeat' split at h) <;> (obtain rfl := Host.Outcome.next.inj h) <;> simp

theorem execConnectorFeedDiagnostic_mem {c : Fin 4} {feedB : Bool} {volts : W16} {s s' : State} (h : execConnectorFeedDiagnostic c feedB volts s = .next s') : s'.mem = s.mem := by
  unfold execConnectorFeedDiagnostic at h
  (try dsimp only at h)
  (repeat' split at h) <;> (obtain rfl := Host.Outcome.next.inj h) <;> simp

theorem execConnectorFeedLow_mem {c : Fin 4} {s s' : State} (h : execConnectorFeedLow c s = .next s') : s'.mem = s.mem := by
  unfold execConnectorFeedLow at h
  (try dsimp only at h)
  (repeat' split at h) <;> (obtain rfl := Host.Outcome.next.inj h) <;> simp

theorem execGroupShed_mem {g : Fin 32} {draw : W16} {s s' : State} (h : execGroupShed g draw s = .next s') : s'.mem = s.mem := by
  unfold execGroupShed at h
  (try dsimp only at h)
  (repeat' split at h) <;> (obtain rfl := Host.Outcome.next.inj h) <;> simp

theorem execConnectorOverBudget_mem {c : Fin 4} {draw : W16} {s s' : State} (h : execConnectorOverBudget c draw s = .next s') : s'.mem = s.mem := by
  unfold execConnectorOverBudget at h
  (try dsimp only at h)
  (repeat' split at h) <;> (obtain rfl := Host.Outcome.next.inj h) <;> simp

theorem execFieldFeedReturn_mem {c : Fin 4} {what : Fin 3} {volts : W16} {s s' : State} (h : execFieldFeedReturn c what volts s = .next s') : s'.mem = s.mem := by
  unfold execFieldFeedReturn at h
  (try dsimp only at h)
  (repeat' split at h) <;> (obtain rfl := Host.Outcome.next.inj h) <;> simp

theorem execForceApply_mem {node : W16} {s s' : State} (h : execForceApply node s = .next s') : s'.mem = s.mem := by
  obtain rfl := Host.Outcome.next.inj h
  simp

theorem execForceRelease_mem {node : W16} {s s' : State} (h : execForceRelease node s = .next s') : s'.mem = s.mem := by
  obtain rfl := Host.Outcome.next.inj h
  simp

theorem execForceReleaseAll_mem {node : W16} {s s' : State} (h : execForceReleaseAll node s = .next s') : s'.mem = s.mem := by
  obtain rfl := Host.Outcome.next.inj h
  simp

theorem execForceCmdMalformed_mem {v : W32} {s s' : State} (h : execForceCmdMalformed v s = .next s') : s'.mem = s.mem := by
  unfold execForceCmdMalformed at h
  (try dsimp only at h)
  (repeat' split at h) <;> (obtain rfl := Host.Outcome.next.inj h) <;> simp

theorem execIntegrationDone_mem {k : Fin 8} {s s' : State} (h : execIntegrationDone k s = .next s') : s'.mem = s.mem := by
  unfold execIntegrationDone at h
  (try dsimp only at h)
  (repeat' split at h) <;> (obtain rfl := Host.Outcome.next.inj h) <;> simp

theorem execRecover_mem {k : Fin 8} {s s' : State} (h : execRecover k s = .next s') : s'.mem = s.mem := by
  obtain rfl := Host.Outcome.next.inj h
  simp

theorem execRecoveryDone_mem {k : Fin 8} {s s' : State} (h : execRecoveryDone k s = .next s') : s'.mem = s.mem := by
  unfold execRecoveryDone at h
  (try dsimp only at h)
  (repeat' split at h) <;> (obtain rfl := Host.Outcome.next.inj h) <;> simp

theorem execDominantTimeout_mem {k : Fin 8} {s s' : State} (h : execDominantTimeout k s = .next s') : s'.mem = s.mem := by
  unfold execDominantTimeout at h
  (try dsimp only at h)
  (repeat' split at h) <;> (obtain rfl := Host.Outcome.next.inj h) <;> simp

theorem execCanErrorDetected_mem {k : Fin 8} {big : Bool} {s s' : State} (h : execCanErrorDetected k big s = .next s') : s'.mem = s.mem := by
  unfold execCanErrorDetected at h
  (try dsimp only at h)
  (repeat' split at h) <;> (obtain rfl := Host.Outcome.next.inj h) <;> simp

theorem execReferenceRelease_mem {k : Fin 9} {t : W64} {s s' : State} (h : execReferenceRelease k t s = .next s') : s'.mem = s.mem := by
  unfold execReferenceRelease at h
  (try dsimp only at h)
  (repeat' split at h) <;> (obtain rfl := Host.Outcome.next.inj h) <;> simp

theorem execCanFrameTransmitted_mem {k : Fin 8} {result : Fin 4} {delay : BitVec 7} {stamp : W64} {s s' : State} (h : execCanFrameTransmitted k result delay stamp s = .next s') : s'.mem = s.mem := by
  unfold execCanFrameTransmitted at h
  (try dsimp only at h)
  (repeat' split at h) <;> (obtain rfl := Host.Outcome.next.inj h) <;> simp

theorem execFrameDeadlineWithdraw_mem {k : Fin 9} {when : W64} {s s' : State} (h : execFrameDeadlineWithdraw k when s = .next s') : s'.mem = s.mem := by
  unfold execFrameDeadlineWithdraw at h
  (try dsimp only at h)
  (repeat' split at h) <;> (obtain rfl := Host.Outcome.next.inj h) <;> simp

theorem execCanFrameReceived_mem {k : Fin 8} {id : Fin 2048} {form : Fin 3} {data : List W8} {stamp : W64} {s s' : State} (h : execCanFrameReceived k id form data stamp s = .next s') : s'.mem = s.mem := by
  unfold execCanFrameReceived at h
  (try dsimp only at h)
  (repeat' split at h) <;> (obtain rfl := Host.Outcome.next.inj h) <;> simp

theorem execAcyclicStart_mem {k : Fin 8} {s s' : State} (h : execAcyclicStart k s = .next s') : s'.mem = s.mem := by
  obtain rfl := Host.Outcome.next.inj h
  simp

theorem execAcyclicAbort_mem {k : Fin 8} {s s' : State} (h : execAcyclicAbort k s = .next s') : s'.mem = s.mem := by
  obtain rfl := Host.Outcome.next.inj h
  simp

theorem execAcyclicResponse_mem {k : Fin 8} {data : List W8} {s s' : State} (h : execAcyclicResponse k data s = .next s') : s'.mem = s.mem := by
  obtain rfl := Host.Outcome.next.inj h
  simp

theorem execAcyclicTimeout_mem {k : Fin 8} {when : W64} {s s' : State} (h : execAcyclicTimeout k when s = .next s') : s'.mem = s.mem := by
  unfold execAcyclicTimeout at h
  (try dsimp only at h)
  (repeat' split at h) <;> (obtain rfl := Host.Outcome.next.inj h) <;> simp

theorem execQueueEmptyReport_mem {k : Fin 8} {s s' : State} (h : execQueueEmptyReport k s = .next s') : s'.mem = s.mem := by
  unfold execQueueEmptyReport at h
  (try dsimp only at h)
  (repeat' split at h) <;> (obtain rfl := Host.Outcome.next.inj h) <;> simp

theorem execRefLoRead_mem {k : Fin 8} {s s' : State} (h : execRefLoRead k s = .next s') : s'.mem = s.mem := by
  obtain rfl := Host.Outcome.next.inj h
  simp

theorem execAnnounceSend_mem  {s s' : State} (h : execAnnounceSend s = .next s') : s'.mem = s.mem := by
  obtain rfl := Host.Outcome.next.inj h
  simp

theorem execAnnounceReceived_mem {node : W16} {serial : BitVec 128} {s s' : State} (h : execAnnounceReceived node serial s = .next s') : s'.mem = s.mem := by
  obtain rfl := Host.Outcome.next.inj h
  simp

theorem execRinfaFrameReceived_mem {p : Fin 4} {fcs : Bool} {frame : List W8} {when : W64} {s s' : State} (h : execRinfaFrameReceived p fcs frame when s = .next s') : s'.mem = s.mem := by
  unfold execRinfaFrameReceived at h
  (try dsimp only at h)
  (repeat' split at h) <;> (obtain rfl := Host.Outcome.next.inj h) <;> simp

theorem execRingOpen_mem {when : W64} {s s' : State} (h : execRingOpen when s = .next s') : s'.mem = s.mem := by
  unfold execRingOpen at h
  (try dsimp only at h)
  (repeat' split at h) <;> (obtain rfl := Host.Outcome.next.inj h) <;> simp

theorem execSyncTimeout_mem  {s s' : State} (h : execSyncTimeout s = .next s') : s'.mem = s.mem := by
  unfold execSyncTimeout at h
  (try dsimp only at h)
  (repeat' split at h) <;> (obtain rfl := Host.Outcome.next.inj h) <;> simp

theorem execPtpGeneralMessageReceived_mem {p : Fin 4} {udp : Bool} {domain : W8} {m : PtpGeneral} {s s' : State} (h : execPtpGeneralMessageReceived p udp domain m s = .next s') : s'.mem = s.mem := by
  unfold execPtpGeneralMessageReceived at h
  (try dsimp only at h)
  (repeat' split at h) <;> (obtain rfl := Host.Outcome.next.inj h) <;> simp

theorem execSyncReceived_mem {p : Fin 4} {udp : Bool} {domain : W8} {m : PtpEvent} {when : W64} {s s' : State} (h : execSyncReceived p udp domain m when s = .next s') : s'.mem = s.mem := by
  unfold execSyncReceived at h
  (try dsimp only at h)
  (repeat' split at h) <;> (obtain rfl := Host.Outcome.next.inj h) <;> simp

theorem execPtpIntervalTimer_mem {p : Fin 4} {t : PtpTimer} {when : W64} {s s' : State} (h : execPtpIntervalTimer p t when s = .next s') : s'.mem = s.mem := by
  unfold execPtpIntervalTimer at h
  (try dsimp only at h)
  (repeat' split at h) <;> (obtain rfl := Host.Outcome.next.inj h) <;> simp

theorem execPortLinkChange_mem {p : Fin 4} {up : Bool} {media : Fin 4} {s s' : State} (h : execPortLinkChange p up media s = .next s') : s'.mem = s.mem := by
  unfold execPortLinkChange at h
  (try dsimp only at h)
  (repeat' split at h) <;> (obtain rfl := Host.Outcome.next.inj h) <;> simp

theorem execScanOverrun_mem {line : Fin 12} {t : W64} {s s' : State} (h : execScanOverrun line t s = .next s') : s'.mem = s.mem := by
  obtain rfl := Host.Outcome.next.inj h
  simp

theorem execLineTickFire_mem {t : W64} {s s' : State} (h : execLineTickFire t s = .next s') : s'.mem = s.mem := by
  unfold execLineTickFire at h
  (try dsimp only at h)
  (repeat' split at h) <;> (obtain rfl := Host.Outcome.next.inj h) <;> simp

theorem execEpochHoldBegin_mem {b : W64} {s s' : State} (h : execEpochHoldBegin b s = .next s') : s'.mem = s.mem := by
  unfold execEpochHoldBegin at h
  (try dsimp only at h)
  (repeat' split at h) <;> (obtain rfl := Host.Outcome.next.inj h) <;> simp

theorem execTickLoRead_mem  {s s' : State} (h : execTickLoRead s = .next s') : s'.mem = s.mem := by
  obtain rfl := Host.Outcome.next.inj h
  simp

theorem execDirectCommand_mem {g : Fin 32} {i : Fin 17} {ao : Bool} {v : W32} {s s' : State} (h : execDirectCommand g i ao v s = .next s') : s'.mem = s.mem := by
  obtain rfl := Host.Outcome.next.inj h
  simp

theorem execChangeCancel_mem  {s s' : State} (h : execChangeCancel s = .next s') : s'.mem = s.mem := by
  obtain rfl := Host.Outcome.next.inj h
  simp

theorem execChangeArm_mem {when : W64} {s s' : State} (h : execChangeArm when s = .next s') : s'.mem = s.mem := by
  obtain rfl := Host.Outcome.next.inj h
  simp

theorem execChangeArmingReceived_mem {id : W32} {ts : W64} {s s' : State} (h : execChangeArmingReceived id ts s = .next s') : s'.mem = s.mem := by
  unfold execChangeArmingReceived at h
  (try dsimp only at h)
  (repeat' split at h) <;> (obtain rfl := Host.Outcome.next.inj h) <;> simp

theorem execMigrationStart_mem {t : Fin 4} {s s' : State} (h : execMigrationStart t s = .next s') : s'.mem = s.mem := by
  unfold execMigrationStart at h
  (try dsimp only at h)
  (repeat' split at h) <;> (obtain rfl := Host.Outcome.next.inj h) <;> simp

theorem execMigrationDeadline_mem  {s s' : State} (h : execMigrationDeadline s = .next s') : s'.mem = s.mem := by
  unfold execMigrationDeadline at h
  (try dsimp only at h)
  (repeat' split at h) <;> (obtain rfl := Host.Outcome.next.inj h) <;> simp

theorem execYieldHold_mem  {s s' : State} (h : execYieldHold s = .next s') : s'.mem = s.mem := by
  unfold execYieldHold at h
  (try dsimp only at h)
  (repeat' split at h) <;> (obtain rfl := Host.Outcome.next.inj h) <;> simp

theorem execEpochSeal_mem {b : W64} {s s' : State} (h : execEpochSeal b s = .next s') : s'.mem = s.mem := by
  unfold execEpochSeal at h
  (try dsimp only at h)
  (repeat' split at h) <;> (obtain rfl := Host.Outcome.next.inj h) <;> simp

theorem execCommitAckReceived_mem {epoch when : W64} {s s' : State} (h : execCommitAckReceived epoch when s = .next s') : s'.mem = s.mem := by
  unfold execCommitAckReceived at h
  (try dsimp only at h)
  (repeat' split at h) <;> (obtain rfl := Host.Outcome.next.inj h) <;> simp

theorem execLineRecordReceived_mem {line : BitVec 19} {epochLow : W32} {data : List W8} {s s' : State} (h : execLineRecordReceived line epochLow data s = .next s') : s'.mem = s.mem := by
  unfold execLineRecordReceived at h
  (try dsimp only at h)
  (repeat' split at h) <;> (obtain rfl := Host.Outcome.next.inj h) <;> simp

theorem execShadowRecordReceived_mem {t : W64} {commands : List (Fin 512 × W32)} {s s' : State} (h : execShadowRecordReceived t commands s = .next s') : s'.mem = s.mem := by
  unfold execShadowRecordReceived at h
  (try dsimp only at h)
  (repeat' split at h) <;> (obtain rfl := Host.Outcome.next.inj h) <;> simp

theorem execShadowLate_mem {t : W64} {s s' : State} (h : execShadowLate t s = .next s') : s'.mem = s.mem := by
  unfold execShadowLate at h
  (try dsimp only at h)
  (repeat' split at h) <;> (obtain rfl := Host.Outcome.next.inj h) <;> simp

theorem execColReleaseSeen_mem {levels : BitVec 512} {when : W64} {s s' : State} (h : execColReleaseSeen levels when s = .next s') : s'.mem = s.mem := by
  unfold execColReleaseSeen at h
  (try dsimp only at h)
  (repeat' split at h) <;> (obtain rfl := Host.Outcome.next.inj h) <;> simp

theorem execYield_mem {when : W64} {s s' : State} (h : execYield when s = .next s') : s'.mem = s.mem := by
  obtain rfl := Host.Outcome.next.inj h
  simp

theorem execYieldMessageReceived_mem {ty ts : W64} {s s' : State} (h : execYieldMessageReceived ty ts s = .next s') : s'.mem = s.mem := by
  unfold execYieldMessageReceived at h
  (try dsimp only at h)
  (repeat' split at h) <;> (obtain rfl := Host.Outcome.next.inj h) <;> simp

theorem execYieldCancel_mem  {s s' : State} (h : execYieldCancel s = .next s') : s'.mem = s.mem := by
  obtain rfl := Host.Outcome.next.inj h
  simp

theorem execYieldAbandon_mem {when : W64} {s s' : State} (h : execYieldAbandon when s = .next s') : s'.mem = s.mem := by
  unfold execYieldAbandon at h
  (try dsimp only at h)
  (repeat' split at h) <;> (obtain rfl := Host.Outcome.next.inj h) <;> simp

theorem execFullCopyStart_mem {b : W64} {s s' : State} (h : execFullCopyStart b s = .next s') : s'.mem = s.mem := by
  unfold execFullCopyStart at h
  (try dsimp only at h)
  (repeat' split at h) <;> (obtain rfl := Host.Outcome.next.inj h) <;> simp

theorem execLeverSwitchOpen_mem {when : W64} {s s' : State} (h : execLeverSwitchOpen when s = .next s') : s'.mem = s.mem := by
  unfold execLeverSwitchOpen at h
  (try dsimp only at h)
  (repeat' split at h) <;> (obtain rfl := Host.Outcome.next.inj h) <;> simp

theorem execLeverSwitchClose_mem  {s s' : State} (h : execLeverSwitchClose s = .next s') : s'.mem = s.mem := by
  obtain rfl := Host.Outcome.next.inj h
  simp

theorem execDmaStart_mem {c : Fin 16} {s s' : State} (h : execDmaStart c s = .next s') : s'.mem = s.mem := by
  obtain rfl := Host.Outcome.next.inj h
  simp

theorem execDmaResume_mem {c : Fin 16} {s s' : State} (h : execDmaResume c s = .next s') : s'.mem = s.mem := by
  obtain rfl := Host.Outcome.next.inj h
  simp

theorem execDmaDescriptorRead_mem {c : Fin 16} {f : Finding} {s s' : State} (h : execDmaDescriptorRead c f s = .next s') : s'.mem = s.mem := by
  unfold execDmaDescriptorRead at h
  split at h
  · split at h
    · rename_i hd
      obtain rfl := Host.Outcome.next.inj h
      exact State.descAccess_mem hd
    · dsimp only at h
      (repeat' split at h) <;> (obtain rfl := Host.Outcome.next.inj h) <;> simp
  · obtain rfl := Host.Outcome.next.inj h
    rfl

theorem execDmaDescWrite_mem {c : Fin 16} {v : W32} {s s' : State} (h : execDmaDescWrite c v s = .next s') : s'.mem = s.mem := by
  obtain rfl := Host.Outcome.next.inj h
  simp

theorem execFloorFuseBlown_mem {j : Fin 3} {s s' : State} (h : execFloorFuseBlown j s = .next s') : s'.mem = s.mem := by
  unfold execFloorFuseBlown at h
  (try dsimp only at h)
  (repeat' split at h) <;> (obtain rfl := Host.Outcome.next.inj h) <;> simp

theorem execQuote_mem  {s s' : State} (h : execQuote s = .next s') : s'.mem = s.mem := by
  obtain rfl := Host.Outcome.next.inj h
  simp

theorem execChunk_mem  {s s' : State} (h : execChunk s = .next s') : s'.mem = s.mem := by
  obtain rfl := Host.Outcome.next.inj h
  simp

theorem execFinish_mem  {s s' : State} (h : execFinish s = .next s') : s'.mem = s.mem := by
  obtain rfl := Host.Outcome.next.inj h
  simp

theorem execInstall_mem  {s s' : State} (h : execInstall s = .next s') : s'.mem = s.mem := by
  obtain rfl := Host.Outcome.next.inj h
  simp

theorem execDiscard_mem  {s s' : State} (h : execDiscard s = .next s') : s'.mem = s.mem := by
  obtain rfl := Host.Outcome.next.inj h
  simp

theorem execRelay_mem  {s s' : State} (h : execRelay s = .next s') : s'.mem = s.mem := by
  obtain rfl := Host.Outcome.next.inj h
  simp

theorem execToken_mem  {s s' : State} (h : execToken s = .next s') : s'.mem = s.mem := by
  obtain rfl := Host.Outcome.next.inj h
  simp

theorem execExtend_mem  {s s' : State} (h : execExtend s = .next s') : s'.mem = s.mem := by
  obtain rfl := Host.Outcome.next.inj h
  simp

theorem execCert_mem  {s s' : State} (h : execCert s = .next s') : s'.mem = s.mem := by
  obtain rfl := Host.Outcome.next.inj h
  simp

theorem execSeal_mem {when : W64} {s s' : State} (h : execSeal when s = .next s') : s'.mem = s.mem := by
  obtain rfl := Host.Outcome.next.inj h
  simp

theorem execTruCmdInvalid_mem {op : Fin 16} {s s' : State} (h : execTruCmdInvalid op s = .next s') : s'.mem = s.mem := by
  unfold execTruCmdInvalid at h
  (try dsimp only at h)
  (repeat' split at h) <;> (obtain rfl := Host.Outcome.next.inj h) <;> simp

theorem execRelayRequestReceived_mem {via : Option (Fin 4)} {kind : Fin 256} {serial : BitVec 128} {node : W16} {bad : Option (Fin 6 × BitVec 24)} {s s' : State} (h : execRelayRequestReceived via kind serial node bad s = .next s') : s'.mem = s.mem := by
  unfold execRelayRequestReceived at h
  split at h
  · obtain rfl := Host.Outcome.next.inj h; rfl
  · rename_i hr
    have hr := State.relayIn_mem hr
    (repeat' first | split at h | dsimp only at h) <;> (obtain rfl := Host.Outcome.next.inj h) <;> simp [hr]

theorem execHealthConfirm_mem {v : W32} {s s' : State} (h : execHealthConfirm v s = .next s') : s'.mem = s.mem := by
  obtain rfl := Host.Outcome.next.inj h
  simp

theorem execChalLoRead_mem  {s s' : State} (h : execChalLoRead s = .next s') : s'.mem = s.mem := by
  obtain rfl := Host.Outcome.next.inj h
  simp

theorem execTuyereInstruction_mem {code : W8} {s s' : State} (h : execTuyereInstruction code s = .next s') : s'.mem = s.mem := by
  unfold execTuyereInstruction at h
  (try dsimp only at h)
  (repeat' split at h) <;> (obtain rfl := Host.Outcome.next.inj h) <;> simp

theorem execTuyereTestReset_mem  {s s' : State} (h : execTuyereTestReset s = .next s') : s'.mem = s.mem := by
  obtain rfl := Host.Outcome.next.inj h
  simp

theorem execTuyereDebugAccess_mem {c : Fin 16} {op : DebugOp} {s s' : State} (h : execTuyereDebugAccess c op s = .next s') : s'.mem = s.mem := by
  unfold execTuyereDebugAccess at h
  (try dsimp only at h)
  (repeat' split at h) <;> (obtain rfl := Host.Outcome.next.inj h) <;> simp

theorem execCreditReturn_mem {a b : Fin 48} {moves : List CrossMove} {o : Nat} {s s' : State} (h : execCreditReturn a b moves o s = .next s') : s'.mem = s.mem := by
  unfold execCreditReturn at h
  (try dsimp only at h)
  (repeat' split at h) <;> (obtain rfl := Host.Outcome.next.inj h) <;> simp

theorem execNullCreditReturn_mem {a b : Fin 48} {o : Nat} {s s' : State} (h : execNullCreditReturn a b o s = .next s') : s'.mem = s.mem := by
  unfold execNullCreditReturn at h
  (try dsimp only at h)
  (repeat' split at h) <;> (obtain rfl := Host.Outcome.next.inj h) <;> simp

theorem execTimeEstablish_mem {ptp : W64} {s s' : State} (h : execTimeEstablish ptp s = .next s') : s'.mem = s.mem := by
  unfold execTimeEstablish at h
  (try dsimp only at h)
  (repeat' split at h) <;> (obtain rfl := Host.Outcome.next.inj h) <;> simp

theorem execPtpWaitExpire_mem  {s s' : State} (h : execPtpWaitExpire s = .next s') : s'.mem = s.mem := by
  unfold execPtpWaitExpire at h
  (try dsimp only at h)
  (repeat' split at h) <;> (obtain rfl := Host.Outcome.next.inj h) <;> simp

theorem execRoleDecision_mem {peerRun peerChange : Bool} {s s' : State} (h : execRoleDecision peerRun peerChange s = .next s') : s'.mem = s.mem := by
  obtain rfl := Host.Outcome.next.inj h
  simp

theorem execListeningEnd_mem {peerRun peerChange : Bool} {s s' : State} (h : execListeningEnd peerRun peerChange s = .next s') : s'.mem = s.mem := by
  unfold execListeningEnd at h
  (try dsimp only at h)
  (repeat' split at h) <;> (obtain rfl := Host.Outcome.next.inj h) <;> simp

theorem execStartWaitExpire_mem  {s s' : State} (h : execStartWaitExpire s = .next s') : s'.mem = s.mem := by
  unfold execStartWaitExpire at h
  (try dsimp only at h)
  (repeat' split at h) <;> (obtain rfl := Host.Outcome.next.inj h) <;> simp

theorem execStarterTimeout_mem  {s s' : State} (h : execStarterTimeout s = .next s') : s'.mem = s.mem := by
  obtain rfl := Host.Outcome.next.inj h
  simp

theorem execProbeBackoffExpire_mem {peerRun peerChange : Bool} {s s' : State} (h : execProbeBackoffExpire peerRun peerChange s = .next s') : s'.mem = s.mem := by
  unfold execProbeBackoffExpire at h
  (try dsimp only at h)
  (repeat' split at h) <;> (obtain rfl := Host.Outcome.next.inj h) <;> simp

theorem execStartRequest_mem {p : Fin 4} {s s' : State} (h : execStartRequest p s = .next s') : s'.mem = s.mem := by
  unfold execStartRequest at h
  split at h <;> (obtain rfl := Host.Outcome.next.inj h)
  · rename_i hr
    simp [State.managed_mem hr]
  · rfl

theorem execRetainCopy_mem {lines : List (Fin 524288)} {starts ends : W64} {s s' : State} (h : execRetainCopy lines starts ends s = .next s') : s'.mem = s.mem := by
  unfold execRetainCopy at h
  (try dsimp only at h)
  (repeat' split at h) <;> (obtain rfl := Host.Outcome.next.inj h) <;> simp

theorem execProofTestRun_mem {test : Fin 9} {elem : W16} {phase : TestPhase} {s s' : State} (h : execProofTestRun test elem phase s = .next s') : s'.mem = s.mem := by
  unfold execProofTestRun at h
  (try dsimp only at h)
  (repeat' split at h) <;> (obtain rfl := Host.Outcome.next.inj h) <;> simp

theorem execCopyPassDone_mem {epoch : W64} {kib : W16} {s s' : State} (h : execCopyPassDone epoch kib s = .next s') : s'.mem = s.mem := by
  unfold execCopyPassDone at h
  (try dsimp only at h)
  (repeat' split at h) <;> (obtain rfl := Host.Outcome.next.inj h) <;> simp

theorem execSourceConfigWrite_mem {n : Fin 256} {v : W32} {s s' : State} (h : execSourceConfigWrite n v s = .next s') : s'.mem = s.mem := by
  obtain rfl := Host.Outcome.next.inj h
  simp

theorem execGuardDisable_mem {m : Fin 48} {inFlight : Bool} {s s' : State} (h : execGuardDisable m inFlight s = .next s') : s'.mem = s.mem := by
  unfold execGuardDisable at h
  (try dsimp only at h)
  (repeat' split at h) <;> (obtain rfl := Host.Outcome.next.inj h) <;> simp

theorem execGuardRegionWrite_mem {m : Fin 48} {n : Fin 16} {attr : Bool} {v : W32} {s s' : State} (h : execGuardRegionWrite m n attr v s = .next s') : s'.mem = s.mem := by
  unfold execGuardRegionWrite at h
  (try dsimp only at h)
  (repeat' split at h) <;> (obtain rfl := Host.Outcome.next.inj h) <;> simp

theorem execSliceConfigWrite_mem {g : Fin 32} {i : Fin 17} {off : Fin 1024} {v : W32} {s s' : State} (h : execSliceConfigWrite g i off v s = .next s') : s'.mem = s.mem := by
  obtain rfl := Host.Outcome.next.inj h
  simp

theorem execPortOn_mem {k : Fin 8} {s s' : State} (h : execPortOn k s = .next s') : s'.mem = s.mem := by
  obtain rfl := Host.Outcome.next.inj h
  simp

theorem execPortOff_mem {k : Fin 8} {s s' : State} (h : execPortOff k s = .next s') : s'.mem = s.mem := by
  obtain rfl := Host.Outcome.next.inj h
  simp

theorem execNetFrameWrite_mem {v : W32} {s s' : State} (h : execNetFrameWrite v s = .next s') : s'.mem = s.mem := by
  obtain rfl := Host.Outcome.next.inj h
  simp

theorem execVerificationDone_mem  {s s' : State} (h : execVerificationDone s = .next s') : s'.mem = s.mem := by
  obtain rfl := Host.Outcome.next.inj h
  simp


theorem execRtcSubRead_cores {pulses : W32} {s s' : State} (h : execRtcSubRead pulses s = .next s') : s'.cores = s.cores := by
  unfold execRtcSubRead at h
  (try dsimp only at h)
  (repeat' split at h) <;> (obtain rfl := Host.Outcome.next.inj h) <;> simp

theorem execOpsecLoRead_cores {pulses : W32} {s s' : State} (h : execOpsecLoRead pulses s = .next s') : s'.cores = s.cores := by
  unfold execOpsecLoRead at h
  (try dsimp only at h)
  (repeat' split at h) <;> (obtain rfl := Host.Outcome.next.inj h) <;> simp

theorem execBreset_cores  {s s' : State} (h : execBreset s = .next s') : s'.cores = s.cores := by
  obtain rfl := Host.Outcome.next.inj h
  simp

theorem execRtcSet_cores  {s s' : State} (h : execRtcSet s = .next s') : s'.cores = s.cores := by
  obtain rfl := Host.Outcome.next.inj h
  simp

theorem execStore_cores  {s s' : State} (h : execStore s = .next s') : s'.cores = s.cores := by
  obtain rfl := Host.Outcome.next.inj h
  simp

theorem execUnstore_cores  {s s' : State} (h : execUnstore s = .next s') : s'.cores = s.cores := by
  obtain rfl := Host.Outcome.next.inj h
  simp

theorem execRtcWindow_cores {meas : W16} {when : W64} {s s' : State} (h : execRtcWindow meas when s = .next s') : s'.cores = s.cores := by
  unfold execRtcWindow at h
  (try dsimp only at h)
  (repeat' split at h) <;> (obtain rfl := Host.Outcome.next.inj h) <;> simp

theorem execCounterSave_cores {pulses : W32} {s s' : State} (h : execCounterSave pulses s = .next s') : s'.cores = s.cores := by
  obtain rfl := Host.Outcome.next.inj h
  simp

theorem execPullupLost_cores  {s s' : State} (h : execPullupLost s = .next s') : s'.cores = s.cores := by
  unfold execPullupLost at h
  (try dsimp only at h)
  (repeat' split at h) <;> (obtain rfl := Host.Outcome.next.inj h) <;> simp

theorem execPullupReturn_cores  {s s' : State} (h : execPullupReturn s = .next s') : s'.cores = s.cores := by
  unfold execPullupReturn at h
  (try dsimp only at h)
  (repeat' split at h) <;> (obtain rfl := Host.Outcome.next.inj h) <;> simp

theorem execRestartDelayExpire_cores  {s s' : State} (h : execRestartDelayExpire s = .next s') : s'.cores = s.cores := by
  unfold execRestartDelayExpire at h
  (try dsimp only at h)
  (repeat' split at h) <;> (obtain rfl := Host.Outcome.next.inj h) <;> simp

theorem execStoreReleaseDone_cores  {s s' : State} (h : execStoreReleaseDone s = .next s') : s'.cores = s.cores := by
  unfold execStoreReleaseDone at h
  (try dsimp only at h)
  (repeat' split at h) <;> (obtain rfl := Host.Outcome.next.inj h) <;> simp

theorem execCellLow_cores {hours : W16} {mv : W16} {failed : Bool} {s s' : State} (h : execCellLow hours mv failed s = .next s') : s'.cores = s.cores := by
  unfold execCellLow at h
  (try dsimp only at h)
  (repeat' split at h) <;> (obtain rfl := Host.Outcome.next.inj h) <;> simp

theorem execBrownoutArbitration_cores {mainFirst : Bool} {s s' : State} (h : execBrownoutArbitration mainFirst s = .next s') : s'.cores = s.cores := by
  unfold execBrownoutArbitration at h
  (try dsimp only at h)
  (repeat' split at h) <;> (obtain rfl := Host.Outcome.next.inj h) <;> simp

theorem execCellExhausted_cores  {s s' : State} (h : execCellExhausted s = .next s') : s'.cores = s.cores := by
  obtain rfl := Host.Outcome.next.inj h
  simp

theorem execBackupLockoutEnd_cores  {s s' : State} (h : execBackupLockoutEnd s = .next s') : s'.cores = s.cores := by
  unfold execBackupLockoutEnd at h
  (try dsimp only at h)
  (repeat' split at h) <;> (obtain rfl := Host.Outcome.next.inj h) <;> simp

theorem execRecordWrite_cores  {s s' : State} (h : execRecordWrite s = .next s') : s'.cores = s.cores := by
  obtain rfl := Host.Outcome.next.inj h
  simp

theorem execDropRecord_cores  {s s' : State} (h : execDropRecord s = .next s') : s'.cores = s.cores := by
  unfold execDropRecord at h
  (try dsimp only at h)
  (repeat' split at h) <;> (obtain rfl := Host.Outcome.next.inj h) <;> simp

theorem execPlaceholderFill_cores  {s s' : State} (h : execPlaceholderFill s = .next s') : s'.cores = s.cores := by
  unfold execPlaceholderFill at h
  (try dsimp only at h)
  (repeat' split at h) <;> (obtain rfl := Host.Outcome.next.inj h) <;> simp

theorem execSwWrite_cores  {s s' : State} (h : execSwWrite s = .next s') : s'.cores = s.cores := by
  obtain rfl := Host.Outcome.next.inj h
  simp

theorem execCursorLoad_cores {c : Fin 2} {v : W32} {s s' : State} (h : execCursorLoad c v s = .next s') : s'.cores = s.cores := by
  obtain rfl := Host.Outcome.next.inj h
  simp

theorem execFind_cores {c : Fin 2} {byOpsec : Bool} {s s' : State} (h : execFind c byOpsec s = .next s') : s'.cores = s.cores := by
  obtain rfl := Host.Outcome.next.inj h
  simp

theorem execWindowWord15Read_cores {c : Fin 2} {s s' : State} (h : execWindowWord15Read c s = .next s') : s'.cores = s.cores := by
  obtain rfl := Host.Outcome.next.inj h
  simp

theorem execNextLoRead_cores {low : Bool} {s s' : State} (h : execNextLoRead low s = .next s') : s'.cores = s.cores := by
  obtain rfl := Host.Outcome.next.inj h
  simp

theorem execPtEnClear_cores {v : W32} {s s' : State} (h : execPtEnClear v s = .next s') : s'.cores = s.cores := by
  obtain rfl := Host.Outcome.next.inj h
  simp

theorem execSparesForecast_cores  {s s' : State} (h : execSparesForecast s = .next s') : s'.cores = s.cores := by
  obtain rfl := Host.Outcome.next.inj h
  simp

theorem execPhaseCurrentFault_cores {phase : Fin 10} {s s' : State} (h : execPhaseCurrentFault phase s = .next s') : s'.cores = s.cores := by
  unfold execPhaseCurrentFault at h
  (try dsimp only at h)
  (repeat' split at h) <;> (obtain rfl := Host.Outcome.next.inj h) <;> simp

theorem execLedgerRebuild_cores {lostA lostB : Bool} {s s' : State} (h : execLedgerRebuild lostA lostB s = .next s') : s'.cores = s.cores := by
  unfold execLedgerRebuild at h
  (try dsimp only at h)
  (repeat' split at h) <;> (obtain rfl := Host.Outcome.next.inj h) <;> simp

theorem execResyncSpareConnected_cores {t : Fin 4} {s s' : State} (h : execResyncSpareConnected t s = .next s') : s'.cores = s.cores := by
  unfold execResyncSpareConnected at h
  (try dsimp only at h)
  (repeat' split at h) <;> (obtain rfl := Host.Outcome.next.inj h) <;> simp

theorem execSpareWakeDone_cores {slot : Fin 4} {s s' : State} (h : execSpareWakeDone slot s = .next s') : s'.cores = s.cores := by
  unfold execSpareWakeDone at h
  (try dsimp only at h)
  (repeat' split at h) <;> (obtain rfl := Host.Outcome.next.inj h) <;> simp

theorem execTriSplit_cores {t : Fin 4} {s s' : State} (h : execTriSplit t s = .next s') : s'.cores = s.cores := by
  obtain rfl := Host.Outcome.next.inj h
  simp

theorem execTriJoin_cores {t : Fin 4} {s s' : State} (h : execTriJoin t s = .next s') : s'.cores = s.cores := by
  obtain rfl := Host.Outcome.next.inj h
  simp

theorem execTriResync_cores {t : Fin 4} {lane : Fin 4} {s s' : State} (h : execTriResync t lane s = .next s') : s'.cores = s.cores := by
  obtain rfl := Host.Outcome.next.inj h
  simp

theorem execGuardDrainDone_cores {m : Fin 48} {s s' : State} (h : execGuardDrainDone m s = .next s') : s'.cores = s.cores := by
  obtain rfl := Host.Outcome.next.inj h
  simp

theorem execSwtrig_cores {v : W32} {s s' : State} (h : execSwtrig v s = .next s') : s'.cores = s.cores := by
  obtain rfl := Host.Outcome.next.inj h
  simp

theorem execClockSelectWrite_cores {hi : Bool} {v : W32} {s s' : State} (h : execClockSelectWrite hi v s = .next s') : s'.cores = s.cores := by
  obtain rfl := Host.Outcome.next.inj h
  simp

theorem execNsWrap_cores  {s s' : State} (h : execNsWrap s = .next s') : s'.cores = s.cores := by
  unfold execNsWrap at h
  (try dsimp only at h)
  (repeat' split at h) <;> (obtain rfl := Host.Outcome.next.inj h) <;> simp

theorem execEpochLate_cores  {s s' : State} (h : execEpochLate s = .next s') : s'.cores = s.cores := by
  unfold execEpochLate at h
  (try dsimp only at h)
  (repeat' split at h) <;> (obtain rfl := Host.Outcome.next.inj h) <;> simp

theorem execEpochAdv_cores  {s s' : State} (h : execEpochAdv s = .next s') : s'.cores = s.cores := by
  obtain rfl := Host.Outcome.next.inj h
  simp

theorem execIncWrite_cores {v : W32} {s s' : State} (h : execIncWrite v s = .next s') : s'.cores = s.cores := by
  obtain rfl := Host.Outcome.next.inj h
  simp

theorem execTimeSet_cores  {s s' : State} (h : execTimeSet s = .next s') : s'.cores = s.cores := by
  obtain rfl := Host.Outcome.next.inj h
  simp

theorem execTimeStep_cores  {s s' : State} (h : execTimeStep s = .next s') : s'.cores = s.cores := by
  obtain rfl := Host.Outcome.next.inj h
  simp

theorem execStepCancel_cores  {s s' : State} (h : execStepCancel s = .next s') : s'.cores = s.cores := by
  obtain rfl := Host.Outcome.next.inj h
  simp

theorem execAlarmFire_cores {a : Fin 3} {when : W64} {s s' : State} (h : execAlarmFire a when s = .next s') : s'.cores = s.cores := by
  unfold execAlarmFire at h
  (try dsimp only at h)
  (repeat' split at h) <;> (obtain rfl := Host.Outcome.next.inj h) <;> simp

theorem execAlarmArm_cores {a : Fin 3} {v : W32} {s s' : State} (h : execAlarmArm a v s = .next s') : s'.cores = s.cores := by
  obtain rfl := Host.Outcome.next.inj h
  simp

theorem execStepApply_cores {when : W64} {s s' : State} (h : execStepApply when s = .next s') : s'.cores = s.cores := by
  obtain rfl := Host.Outcome.next.inj h
  simp

theorem execNsRead_cores  {s s' : State} (h : execNsRead s = .next s') : s'.cores = s.cores := by
  obtain rfl := Host.Outcome.next.inj h
  simp

theorem execNowLoRead_cores  {s s' : State} (h : execNowLoRead s = .next s') : s'.cores = s.cores := by
  obtain rfl := Host.Outcome.next.inj h
  simp

theorem execReferenceLost_cores {r : Ref} {ppm : W16} {s s' : State} (h : execReferenceLost r ppm s = .next s') : s'.cores = s.cores := by
  unfold execReferenceLost at h
  (try dsimp only at h)
  (repeat' split at h) <;> (obtain rfl := Host.Outcome.next.inj h) <;> simp

theorem execReferenceGood_cores {r : Ref} {ppm : W16} {s s' : State} (h : execReferenceGood r ppm s = .next s') : s'.cores = s.cores := by
  unfold execReferenceGood at h
  (try dsimp only at h)
  (repeat' split at h) <;> (obtain rfl := Host.Outcome.next.inj h) <;> simp

theorem execBothReferencesLost_cores  {s s' : State} (h : execBothReferencesLost s = .next s') : s'.cores = s.cores := by
  unfold execBothReferencesLost at h
  (try dsimp only at h)
  (repeat' split at h) <;> (obtain rfl := Host.Outcome.next.inj h) <;> simp

theorem execHoldoverTimeout_cores  {s s' : State} (h : execHoldoverTimeout s = .next s') : s'.cores = s.cores := by
  obtain rfl := Host.Outcome.next.inj h
  simp

theorem execTimeBaseFault_cores  {s s' : State} (h : execTimeBaseFault s = .next s') : s'.cores = s.cores := by
  obtain rfl := Host.Outcome.next.inj h
  simp

theorem execIslandPowerUp_cores {i : Fin 48} {s s' : State} (h : execIslandPowerUp i s = .next s') : s'.cores = s.cores := by
  obtain rfl := Host.Outcome.next.inj h
  simp

theorem execDramRowReplace_cores {device : Fin 11} {bank : Fin 16} {row : Fin 16384} {s s' : State} (h : execDramRowReplace device bank row s = .next s') : s'.cores = s.cores := by
  unfold execDramRowReplace at h
  (try dsimp only at h)
  (repeat' split at h) <;> (obtain rfl := Host.Outcome.next.inj h) <;> simp

theorem execDramDeviceReplace_cores {device : Fin 11} {s s' : State} (h : execDramDeviceReplace device s = .next s') : s'.cores = s.cores := by
  unfold execDramDeviceReplace at h
  (try dsimp only at h)
  (repeat' split at h) <;> (obtain rfl := Host.Outcome.next.inj h) <;> simp

theorem execMramBankReplace_cores {bank : Fin 64} {s s' : State} (h : execMramBankReplace bank s = .next s') : s'.cores = s.cores := by
  unfold execMramBankReplace at h
  (try dsimp only at h)
  (repeat' split at h) <;> (obtain rfl := Host.Outcome.next.inj h) <;> simp

theorem execReplacementCopyDone_cores {pool : Fin 9} {element : W32} {s s' : State} (h : execReplacementCopyDone pool element s = .next s') : s'.cores = s.cores := by
  obtain rfl := Host.Outcome.next.inj h
  simp

theorem execDramZeroDone_cores  {s s' : State} (h : execDramZeroDone s = .next s') : s'.cores = s.cores := by
  obtain rfl := Host.Outcome.next.inj h
  simp

theorem execLaneLockLost_cores {lane : Fin 3} {s s' : State} (h : execLaneLockLost lane s = .next s') : s'.cores = s.cores := by
  unfold execLaneLockLost at h
  (try dsimp only at h)
  (repeat' split at h) <;> (obtain rfl := Host.Outcome.next.inj h) <;> simp

theorem execLinkLost_cores  {s s' : State} (h : execLinkLost s = .next s') : s'.cores = s.cores := by
  unfold execLinkLost at h
  (try dsimp only at h)
  (repeat' split at h) <;> (obtain rfl := Host.Outcome.next.inj h) <;> simp

theorem execLinkUp_cores {lanes : BitVec 3} {s s' : State} (h : execLinkUp lanes s = .next s') : s'.cores = s.cores := by
  unfold execLinkUp at h
  (try dsimp only at h)
  (repeat' split at h) <;> (obtain rfl := Host.Outcome.next.inj h) <;> simp

theorem execFrameAckTimeout_cores {seq : W32} {when : W64} {s s' : State} (h : execFrameAckTimeout seq when s = .next s') : s'.cores = s.cores := by
  unfold execFrameAckTimeout at h
  (try dsimp only at h)
  (repeat' split at h) <;> (obtain rfl := Host.Outcome.next.inj h) <;> simp

theorem execLaneRetrain_cores {lane : Fin 3} {ok : Bool} {s s' : State} (h : execLaneRetrain lane ok s = .next s') : s'.cores = s.cores := by
  unfold execLaneRetrain at h
  (try dsimp only at h)
  (repeat' split at h) <;> (obtain rfl := Host.Outcome.next.inj h) <;> simp

theorem execHeartbeatSend_cores {when : W64} {s s' : State} (h : execHeartbeatSend when s = .next s') : s'.cores = s.cores := by
  unfold execHeartbeatSend at h
  (try dsimp only at h)
  (repeat' split at h) <;> (obtain rfl := Host.Outcome.next.inj h) <;> simp

theorem execHeartbeatReceived_cores {role : Fin 5} {claim ready recovering trial : Bool} {fmt acc : W8} {merit : W64} {serial : BitVec 128} {ofs : W32} {when : W64} {s s' : State} (h : execHeartbeatReceived role claim ready recovering trial fmt acc merit serial ofs when s = .next s') : s'.cores = s.cores := by
  unfold execHeartbeatReceived at h
  (try dsimp only at h)
  (repeat' split at h) <;> (obtain rfl := Host.Outcome.next.inj h) <;> simp

theorem execPartnerSilent_cores  {s s' : State} (h : execPartnerSilent s = .next s') : s'.cores = s.cores := by
  unfold execPartnerSilent at h
  (try dsimp only at h)
  (repeat' split at h) <;> (obtain rfl := Host.Outcome.next.inj h) <;> simp

theorem execReleaseOrderReceived_cores  {s s' : State} (h : execReleaseOrderReceived s = .next s') : s'.cores = s.cores := by
  obtain rfl := Host.Outcome.next.inj h
  simp

theorem execReleaseFail_cores  {s s' : State} (h : execReleaseFail s = .next s') : s'.cores = s.cores := by
  unfold execReleaseFail at h
  (try dsimp only at h)
  (repeat' split at h) <;> (obtain rfl := Host.Outcome.next.inj h) <;> simp

theorem execClaimConflict_cores  {s s' : State} (h : execClaimConflict s = .next s') : s'.cores = s.cores := by
  unfold execClaimConflict at h
  (try dsimp only at h)
  (repeat' split at h) <;> (obtain rfl := Host.Outcome.next.inj h) <;> simp

theorem execClaimReleasedByWire_cores  {s s' : State} (h : execClaimReleasedByWire s = .next s') : s'.cores = s.cores := by
  unfold execClaimReleasedByWire at h
  (try dsimp only at h)
  (repeat' split at h) <;> (obtain rfl := Host.Outcome.next.inj h) <;> simp

theorem execResign_cores {fault : Bool} {s s' : State} (h : execResign fault s = .next s') : s'.cores = s.cores := by
  obtain rfl := Host.Outcome.next.inj h
  simp

theorem execSealedLoRead_cores {commit : Bool} {s s' : State} (h : execSealedLoRead commit s = .next s') : s'.cores = s.cores := by
  obtain rfl := Host.Outcome.next.inj h
  simp

theorem execYtsLoRead_cores  {s s' : State} (h : execYtsLoRead s = .next s') : s'.cores = s.cores := by
  obtain rfl := Host.Outcome.next.inj h
  simp

theorem execPlWrite_cores {i : Fin 8} {w : W32} {s s' : State} (h : execPlWrite i w s = .next s') : s'.cores = s.cores := by
  obtain rfl := Host.Outcome.next.inj h
  simp

theorem execLevelChangeDone_cores {i : Fin 8} {s s' : State} (h : execLevelChangeDone i s = .next s') : s'.cores = s.cores := by
  unfold execLevelChangeDone at h
  (try dsimp only at h)
  (repeat' split at h) <;> (obtain rfl := Host.Outcome.next.inj h) <;> simp

theorem execLevelChangeHoldoffEnd_cores {i : Fin 8} {s s' : State} (h : execLevelChangeHoldoffEnd i s = .next s') : s'.cores = s.cores := by
  unfold execLevelChangeHoldoffEnd at h
  (try dsimp only at h)
  (repeat' split at h) <;> (obtain rfl := Host.Outcome.next.inj h) <;> simp

theorem execSleepPrepareDone_cores {i : Fin 9} {block : Fin 49} {cause : Fin 9} {s s' : State} (h : execSleepPrepareDone i block cause s = .next s') : s'.cores = s.cores := by
  unfold execSleepPrepareDone at h
  (try dsimp only at h)
  (repeat' split at h) <;> (obtain rfl := Host.Outcome.next.inj h) <;> simp

theorem execSleepPrepareTimeout_cores {i : Fin 9} {block : Fin 49} {s s' : State} (h : execSleepPrepareTimeout i block s = .next s') : s'.cores = s.cores := by
  unfold execSleepPrepareTimeout at h
  (try dsimp only at h)
  (repeat' split at h) <;> (obtain rfl := Host.Outcome.next.inj h) <;> simp

theorem execSleepCommitDone_cores {i : Fin 9} {block : Fin 49} {cause : Fin 9} {s s' : State} (h : execSleepCommitDone i block cause s = .next s') : s'.cores = s.cores := by
  unfold execSleepCommitDone at h
  (try dsimp only at h)
  (repeat' split at h) <;> (obtain rfl := Host.Outcome.next.inj h) <;> simp

theorem execWakeSource_cores {i : Fin 9} {src : Fin 10} {s s' : State} (h : execWakeSource i src s = .next s') : s'.cores = s.cores := by
  unfold execWakeSource at h
  (try dsimp only at h)
  (repeat' split at h) <;> (obtain rfl := Host.Outcome.next.inj h) <;> simp

theorem execEvtInfoRead_cores {g : Fin 32} {s s' : State} (h : execEvtInfoRead g s = .next s') : s'.cores = s.cores := by
  obtain rfl := Host.Outcome.next.inj h
  simp

theorem execEdgeLoRead_cores {g : Fin 32} {i : Fin 17} {s s' : State} (h : execEdgeLoRead g i s = .next s') : s'.cores = s.cores := by
  obtain rfl := Host.Outcome.next.inj h
  simp

theorem execDigitalInputEdge_cores {g : Fin 32} {i : Fin 17} {stamp : W64} {raw : Bool} {s s' : State} (h : execDigitalInputEdge g i stamp raw s = .next s') : s'.cores = s.cores := by
  obtain rfl := Host.Outcome.next.inj h
  simp

theorem execDebounceAccept_cores {g : Fin 32} {i : Fin 17} {s s' : State} (h : execDebounceAccept g i s = .next s') : s'.cores = s.cores := by
  unfold execDebounceAccept at h
  (try dsimp only at h)
  (repeat' split at h) <;> (obtain rfl := Host.Outcome.next.inj h) <;> simp

theorem execSliceReady_cores {g : Fin 32} {i : Fin 17} {raw : Bool} {s s' : State} (h : execSliceReady g i raw s = .next s') : s'.cores = s.cores := by
  unfold execSliceReady at h
  (try dsimp only at h)
  (repeat' split at h) <;> (obtain rfl := Host.Outcome.next.inj h) <;> simp

theorem execSliceConfigConfirm_cores {g : Fin 32} {i : Fin 17} {s s' : State} (h : execSliceConfigConfirm g i s = .next s') : s'.cores = s.cores := by
  unfold execSliceConfigConfirm at h
  (try dsimp only at h)
  (repeat' split at h) <;> (obtain rfl := Host.Outcome.next.inj h) <;> simp

theorem execLineBandMeasure_cores {g : Fin 32} {i : Fin 17} {ohms : W32} {when : W64} {s s' : State} (h : execLineBandMeasure g i ohms when s = .next s') : s'.cores = s.cores := by
  unfold execLineBandMeasure at h
  (try dsimp only at h)
  (repeat' split at h) <;> (obtain rfl := Host.Outcome.next.inj h) <;> simp

theorem execLineBandReport_cores {g : Fin 32} {i : Fin 17} {when : W64} {s s' : State} (h : execLineBandReport g i when s = .next s') : s'.cores = s.cores := by
  unfold execLineBandReport at h
  (try dsimp only at h)
  (repeat' split at h) <;> (obtain rfl := Host.Outcome.next.inj h) <;> simp

theorem execOverloadTrip_cores {g : Fin 32} {i : Fin 17} {when : W64} {s s' : State} (h : execOverloadTrip g i when s = .next s') : s'.cores = s.cores := by
  unfold execOverloadTrip at h
  (try dsimp only at h)
  (repeat' split at h) <;> (obtain rfl := Host.Outcome.next.inj h) <;> simp

theorem execThermalShutdown_cores {g : Fin 32} {i : Fin 17} {when : W64} {s s' : State} (h : execThermalShutdown g i when s = .next s') : s'.cores = s.cores := by
  unfold execThermalShutdown at h
  (try dsimp only at h)
  (repeat' split at h) <;> (obtain rfl := Host.Outcome.next.inj h) <;> simp

theorem execRetryAttempt_cores {g : Fin 32} {i : Fin 17} {tick : W64} {s s' : State} (h : execRetryAttempt g i tick s = .next s') : s'.cores = s.cores := by
  unfold execRetryAttempt at h
  (try dsimp only at h)
  (repeat' split at h) <;> (obtain rfl := Host.Outcome.next.inj h) <;> simp

theorem execRetryRearm_cores {g : Fin 32} {i : Fin 17} {s s' : State} (h : execRetryRearm g i s = .next s') : s'.cores = s.cores := by
  unfold execRetryRearm at h
  (try dsimp only at h)
  (repeat' split at h) <;> (obtain rfl := Host.Outcome.next.inj h) <;> simp

theorem execFaultDetect_cores {g : Fin 32} {i : Fin 17} {b : Fin 32} {when : W64} {s s' : State} (h : execFaultDetect g i b when s = .next s') : s'.cores = s.cores := by
  unfold execFaultDetect at h
  (try dsimp only at h)
  (repeat' split at h) <;> (obtain rfl := Host.Outcome.next.inj h) <;> simp

theorem execFaultClear_cores {g : Fin 32} {i : Fin 17} {b : Fin 32} {when : W64} {s s' : State} (h : execFaultClear g i b when s = .next s') : s'.cores = s.cores := by
  unfold execFaultClear at h
  (try dsimp only at h)
  (repeat' split at h) <;> (obtain rfl := Host.Outcome.next.inj h) <;> simp

theorem execBackfeed_cores {g : Fin 32} {i : Fin 17} {s s' : State} (h : execBackfeed g i s = .next s') : s'.cores = s.cores := by
  unfold execBackfeed at h
  (try dsimp only at h)
  (repeat' split at h) <;> (obtain rfl := Host.Outcome.next.inj h) <;> simp

theorem execSliceFailure_cores {g : Fin 32} {i : Fin 17} {s s' : State} (h : execSliceFailure g i s = .next s') : s'.cores = s.cores := by
  obtain rfl := Host.Outcome.next.inj h
  simp

theorem execSubstitutionComplete_cores {g : Fin 32} {s s' : State} (h : execSubstitutionComplete g s = .next s') : s'.cores = s.cores := by
  unfold execSubstitutionComplete at h
  (try dsimp only at h)
  (repeat' split at h) <;> (obtain rfl := Host.Outcome.next.inj h) <;> simp

theorem execSubst_cores {g : Fin 32} {i : Fin 17} {s s' : State} (h : execSubst g i s = .next s') : s'.cores = s.cores := by
  unfold execSubst at h
  (try dsimp only at h)
  (repeat' split at h) <;> (obtain rfl := Host.Outcome.next.inj h) <;> simp

theorem execSubstitutionOverlapEnd_cores {g : Fin 32} {s s' : State} (h : execSubstitutionOverlapEnd g s = .next s') : s'.cores = s.cores := by
  unfold execSubstitutionOverlapEnd at h
  (try dsimp only at h)
  (repeat' split at h) <;> (obtain rfl := Host.Outcome.next.inj h) <;> simp

theorem execSreset_cores {g : Fin 32} {i : Fin 17} {s s' : State} (h : execSreset g i s = .next s') : s'.cores = s.cores := by
  obtain rfl := Host.Outcome.next.inj h
  simp

theorem execSpareSliceTest_cores {g : Fin 32} {phase : TestPhase} {s s' : State} (h : execSpareSliceTest g phase s = .next s') : s'.cores = s.cores := by
  unfold execSpareSliceTest at h
  (try dsimp only at h)
  (repeat' split at h) <;> (obtain rfl := Host.Outcome.next.inj h) <;> simp

theorem execStim_cores {g : Fin 32} {i : Fin 17} {s s' : State} (h : execStim g i s = .next s') : s'.cores = s.cores := by
  unfold execStim at h
  (try dsimp only at h)
  (repeat' split at h) <;> (obtain rfl := Host.Outcome.next.inj h) <;> simp

theorem execStimulusEnd_cores {g : Fin 32} {i : Fin 17} {pass : Bool} {s s' : State} (h : execStimulusEnd g i pass s = .next s') : s'.cores = s.cores := by
  unfold execStimulusEnd at h
  (try dsimp only at h)
  (repeat' split at h) <;> (obtain rfl := Host.Outcome.next.inj h) <;> simp

theorem execAnalogStimulus_cores {g : Fin 32} {i : Fin 17} {raw : W32} {s s' : State} (h : execAnalogStimulus g i raw s = .next s') : s'.cores = s.cores := by
  unfold execAnalogStimulus at h
  (try dsimp only at h)
  (repeat' split at h) <;> (obtain rfl := Host.Outcome.next.inj h) <;> simp

theorem execConversionDone_cores {g : Fin 32} {i : Fin 17} {value : W32} {s s' : State} (h : execConversionDone g i value s = .next s') : s'.cores = s.cores := by
  obtain rfl := Host.Outcome.next.inj h
  simp

theorem execReferenceMonitorFailure_cores {g : Fin 32} {i : Fin 17} {s s' : State} (h : execReferenceMonitorFailure g i s = .next s') : s'.cores = s.cores := by
  obtain rfl := Host.Outcome.next.inj h
  simp

theorem execGridRunStart_cores {g : Fin 32} {i : Fin 17} {when : W64} {s s' : State} (h : execGridRunStart g i when s = .next s') : s'.cores = s.cores := by
  unfold execGridRunStart at h
  (try dsimp only at h)
  (repeat' split at h) <;> (obtain rfl := Host.Outcome.next.inj h) <;> simp

theorem execFaultRunStart_cores {g : Fin 32} {i : Fin 17} {s s' : State} (h : execFaultRunStart g i s = .next s') : s'.cores = s.cores := by
  unfold execFaultRunStart at h
  (try dsimp only at h)
  (repeat' split at h) <;> (obtain rfl := Host.Outcome.next.inj h) <;> simp

theorem execInjSw_cores {g : Fin 32} {i : Fin 17} {s s' : State} (h : execInjSw g i s = .next s') : s'.cores = s.cores := by
  unfold execInjSw at h
  (try dsimp only at h)
  (repeat' split at h) <;> (obtain rfl := Host.Outcome.next.inj h) <;> simp

theorem execRePhase_cores {g : Fin 32} {s s' : State} (h : execRePhase g s = .next s') : s'.cores = s.cores := by
  unfold execRePhase at h
  (try dsimp only at h)
  (repeat' split at h) <;> (obtain rfl := Host.Outcome.next.inj h) <;> simp

theorem execComplySet_cores {g : Fin 32} {i : Fin 17} {measured : W32} {s s' : State} (h : execComplySet g i measured s = .next s') : s'.cores = s.cores := by
  unfold execComplySet at h
  (try dsimp only at h)
  (repeat' split at h) <;> (obtain rfl := Host.Outcome.next.inj h) <;> simp

theorem execDevSet_cores {g : Fin 32} {i : Fin 17} {s s' : State} (h : execDevSet g i s = .next s') : s'.cores = s.cores := by
  unfold execDevSet at h
  (try dsimp only at h)
  (repeat' split at h) <;> (obtain rfl := Host.Outcome.next.inj h) <;> simp

theorem execAoTrimApply_cores {g : Fin 32} {i : Fin 17} {s s' : State} (h : execAoTrimApply g i s = .next s') : s'.cores = s.cores := by
  unfold execAoTrimApply at h
  (try dsimp only at h)
  (repeat' split at h) <;> (obtain rfl := Host.Outcome.next.inj h) <;> simp

theorem execAoTrimClear_cores {g : Fin 32} {i : Fin 17} {s s' : State} (h : execAoTrimClear g i s = .next s') : s'.cores = s.cores := by
  unfold execAoTrimClear at h
  (try dsimp only at h)
  (repeat' split at h) <;> (obtain rfl := Host.Outcome.next.inj h) <;> simp

theorem execCounterEdge_cores {g : Fin 32} {i : Fin 17} {stamp : W64} {rising : Bool} {n : W16} {s s' : State} (h : execCounterEdge g i stamp rising n s = .next s') : s'.cores = s.cores := by
  unfold execCounterEdge at h
  (try dsimp only at h)
  (repeat' split at h) <;> (obtain rfl := Host.Outcome.next.inj h) <;> simp

theorem execHartStart_cores {g : Fin 32} {m : Fin 4} {s s' : State} (h : execHartStart g m s = .next s') : s'.cores = s.cores := by
  obtain rfl := Host.Outcome.next.inj h
  simp

theorem execHartAbort_cores {g : Fin 32} {m : Fin 4} {s s' : State} (h : execHartAbort g m s = .next s') : s'.cores = s.cores := by
  obtain rfl := Host.Outcome.next.inj h
  simp

theorem execHartDone_cores {g : Fin 32} {m : Fin 4} {err : Fin 3} {bytes : List W8} {retried : Fin 4} {burst : W8} {s s' : State} (h : execHartDone g m err bytes retried burst s = .next s') : s'.cores = s.cores := by
  unfold execHartDone at h
  (try dsimp only at h)
  (repeat' split at h) <;> (obtain rfl := Host.Outcome.next.inj h) <;> simp

theorem execFeedLost_cores {f : Feed} {s s' : State} (h : execFeedLost f s = .next s') : s'.cores = s.cores := by
  unfold execFeedLost at h
  (try dsimp only at h)
  (repeat' split at h) <;> (obtain rfl := Host.Outcome.next.inj h) <;> simp

theorem execFeedOvervoltage_cores {f : Feed} {s s' : State} (h : execFeedOvervoltage f s = .next s') : s'.cores = s.cores := by
  unfold execFeedOvervoltage at h
  (try dsimp only at h)
  (repeat' split at h) <;> (obtain rfl := Host.Outcome.next.inj h) <;> simp

theorem execLogicFeedReturn_cores {f : Feed} {s s' : State} (h : execLogicFeedReturn f s = .next s') : s'.cores = s.cores := by
  unfold execLogicFeedReturn at h
  (try dsimp only at h)
  (repeat' split at h) <;> (obtain rfl := Host.Outcome.next.inj h) <;> simp

theorem execThermalWarning_cores  {s s' : State} (h : execThermalWarning s = .next s') : s'.cores = s.cores := by
  obtain rfl := Host.Outcome.next.inj h
  simp

theorem execPresenceLoopOpen_cores  {s s' : State} (h : execPresenceLoopOpen s = .next s') : s'.cores = s.cores := by
  unfold execPresenceLoopOpen at h
  (try dsimp only at h)
  (repeat' split at h) <;> (obtain rfl := Host.Outcome.next.inj h) <;> simp

theorem execPositionSample_cores {pos : BitVec 2} {peer : Bool} {s s' : State} (h : execPositionSample pos peer s = .next s') : s'.cores = s.cores := by
  unfold execPositionSample at h
  (try dsimp only at h)
  (repeat' split at h) <;> (obtain rfl := Host.Outcome.next.inj h) <;> simp

theorem execConnectorFeedDiagnostic_cores {c : Fin 4} {feedB : Bool} {volts : W16} {s s' : State} (h : execConnectorFeedDiagnostic c feedB volts s = .next s') : s'.cores = s.cores := by
  unfold execConnectorFeedDiagnostic at h
  (try dsimp only at h)
  (repeat' split at h) <;> (obtain rfl := Host.Outcome.next.inj h) <;> simp

theorem execConnectorFeedLow_cores {c : Fin 4} {s s' : State} (h : execConnectorFeedLow c s = .next s') : s'.cores = s.cores := by
  unfold execConnectorFeedLow at h
  (try dsimp only at h)
  (repeat' split at h) <;> (obtain rfl := Host.Outcome.next.inj h) <;> simp

theorem execGroupShed_cores {g : Fin 32} {draw : W16} {s s' : State} (h : execGroupShed g draw s = .next s') : s'.cores = s.cores := by
  unfold execGroupShed at h
  (try dsimp only at h)
  (repeat' split at h) <;> (obtain rfl := Host.Outcome.next.inj h) <;> simp

theorem execConnectorOverBudget_cores {c : Fin 4} {draw : W16} {s s' : State} (h : execConnectorOverBudget c draw s = .next s') : s'.cores = s.cores := by
  unfold execConnectorOverBudget at h
  (try dsimp only at h)
  (repeat' split at h) <;> (obtain rfl := Host.Outcome.next.inj h) <;> simp

theorem execFieldFeedReturn_cores {c : Fin 4} {what : Fin 3} {volts : W16} {s s' : State} (h : execFieldFeedReturn c what volts s = .next s') : s'.cores = s.cores := by
  unfold execFieldFeedReturn at h
  (try dsimp only at h)
  (repeat' split at h) <;> (obtain rfl := Host.Outcome.next.inj h) <;> simp

theorem execForceApply_cores {node : W16} {s s' : State} (h : execForceApply node s = .next s') : s'.cores = s.cores := by
  obtain rfl := Host.Outcome.next.inj h
  simp

theorem execForceRelease_cores {node : W16} {s s' : State} (h : execForceRelease node s = .next s') : s'.cores = s.cores := by
  obtain rfl := Host.Outcome.next.inj h
  simp

theorem execForceReleaseAll_cores {node : W16} {s s' : State} (h : execForceReleaseAll node s = .next s') : s'.cores = s.cores := by
  obtain rfl := Host.Outcome.next.inj h
  simp

theorem execForceCmdMalformed_cores {v : W32} {s s' : State} (h : execForceCmdMalformed v s = .next s') : s'.cores = s.cores := by
  unfold execForceCmdMalformed at h
  (try dsimp only at h)
  (repeat' split at h) <;> (obtain rfl := Host.Outcome.next.inj h) <;> simp

theorem execForceCommandExecute_cores {t : W64} {s s' : State} (h : execForceCommandExecute t s = .next s') : s'.cores = s.cores := by
  unfold execForceCommandExecute at h
  (try dsimp only at h)
  (repeat' split at h) <;> (obtain rfl := Host.Outcome.next.inj h) <;> simp

theorem execIntegrationDone_cores {k : Fin 8} {s s' : State} (h : execIntegrationDone k s = .next s') : s'.cores = s.cores := by
  unfold execIntegrationDone at h
  (try dsimp only at h)
  (repeat' split at h) <;> (obtain rfl := Host.Outcome.next.inj h) <;> simp

theorem execRecover_cores {k : Fin 8} {s s' : State} (h : execRecover k s = .next s') : s'.cores = s.cores := by
  obtain rfl := Host.Outcome.next.inj h
  simp

theorem execRecoveryDone_cores {k : Fin 8} {s s' : State} (h : execRecoveryDone k s = .next s') : s'.cores = s.cores := by
  unfold execRecoveryDone at h
  (try dsimp only at h)
  (repeat' split at h) <;> (obtain rfl := Host.Outcome.next.inj h) <;> simp

theorem execDominantTimeout_cores {k : Fin 8} {s s' : State} (h : execDominantTimeout k s = .next s') : s'.cores = s.cores := by
  unfold execDominantTimeout at h
  (try dsimp only at h)
  (repeat' split at h) <;> (obtain rfl := Host.Outcome.next.inj h) <;> simp

theorem execCanErrorDetected_cores {k : Fin 8} {big : Bool} {s s' : State} (h : execCanErrorDetected k big s = .next s') : s'.cores = s.cores := by
  unfold execCanErrorDetected at h
  (try dsimp only at h)
  (repeat' split at h) <;> (obtain rfl := Host.Outcome.next.inj h) <;> simp

theorem execStationLost_cores {n : Fin 4608} {t : W64} {s s' : State} (h : execStationLost n t s = .next s') : s'.cores = s.cores := by
  unfold execStationLost at h
  (try dsimp only at h)
  (repeat' split at h) <;> (obtain rfl := Host.Outcome.next.inj h) <;> simp

theorem execStationReturn_cores {n : Fin 4608} {t : W64} {s s' : State} (h : execStationReturn n t s = .next s') : s'.cores = s.cores := by
  unfold execStationReturn at h
  (try dsimp only at h)
  (repeat' split at h) <;> (obtain rfl := Host.Outcome.next.inj h) <;> simp

theorem execReferenceRelease_cores {k : Fin 9} {t : W64} {s s' : State} (h : execReferenceRelease k t s = .next s') : s'.cores = s.cores := by
  unfold execReferenceRelease at h
  (try dsimp only at h)
  (repeat' split at h) <;> (obtain rfl := Host.Outcome.next.inj h) <;> simp

theorem execCanFrameTransmitted_cores {k : Fin 8} {result : Fin 4} {delay : BitVec 7} {stamp : W64} {s s' : State} (h : execCanFrameTransmitted k result delay stamp s = .next s') : s'.cores = s.cores := by
  unfold execCanFrameTransmitted at h
  (try dsimp only at h)
  (repeat' split at h) <;> (obtain rfl := Host.Outcome.next.inj h) <;> simp

theorem execFrameDeadlineWithdraw_cores {k : Fin 9} {when : W64} {s s' : State} (h : execFrameDeadlineWithdraw k when s = .next s') : s'.cores = s.cores := by
  unfold execFrameDeadlineWithdraw at h
  (try dsimp only at h)
  (repeat' split at h) <;> (obtain rfl := Host.Outcome.next.inj h) <;> simp

theorem execCanFrameReceived_cores {k : Fin 8} {id : Fin 2048} {form : Fin 3} {data : List W8} {stamp : W64} {s s' : State} (h : execCanFrameReceived k id form data stamp s = .next s') : s'.cores = s.cores := by
  unfold execCanFrameReceived at h
  (try dsimp only at h)
  (repeat' split at h) <;> (obtain rfl := Host.Outcome.next.inj h) <;> simp

theorem execAcyclicStart_cores {k : Fin 8} {s s' : State} (h : execAcyclicStart k s = .next s') : s'.cores = s.cores := by
  obtain rfl := Host.Outcome.next.inj h
  simp

theorem execAcyclicAbort_cores {k : Fin 8} {s s' : State} (h : execAcyclicAbort k s = .next s') : s'.cores = s.cores := by
  obtain rfl := Host.Outcome.next.inj h
  simp

theorem execAcyclicResponse_cores {k : Fin 8} {data : List W8} {s s' : State} (h : execAcyclicResponse k data s = .next s') : s'.cores = s.cores := by
  obtain rfl := Host.Outcome.next.inj h
  simp

theorem execAcyclicTimeout_cores {k : Fin 8} {when : W64} {s s' : State} (h : execAcyclicTimeout k when s = .next s') : s'.cores = s.cores := by
  unfold execAcyclicTimeout at h
  (try dsimp only at h)
  (repeat' split at h) <;> (obtain rfl := Host.Outcome.next.inj h) <;> simp

theorem execQueueEmptyReport_cores {k : Fin 8} {s s' : State} (h : execQueueEmptyReport k s = .next s') : s'.cores = s.cores := by
  unfold execQueueEmptyReport at h
  (try dsimp only at h)
  (repeat' split at h) <;> (obtain rfl := Host.Outcome.next.inj h) <;> simp

theorem execRefLoRead_cores {k : Fin 8} {s s' : State} (h : execRefLoRead k s = .next s') : s'.cores = s.cores := by
  obtain rfl := Host.Outcome.next.inj h
  simp

theorem execAnnounceSend_cores  {s s' : State} (h : execAnnounceSend s = .next s') : s'.cores = s.cores := by
  obtain rfl := Host.Outcome.next.inj h
  simp

theorem execAnnounceReceived_cores {node : W16} {serial : BitVec 128} {s s' : State} (h : execAnnounceReceived node serial s = .next s') : s'.cores = s.cores := by
  obtain rfl := Host.Outcome.next.inj h
  simp

theorem execRinfaFrameReceived_cores {p : Fin 4} {fcs : Bool} {frame : List W8} {when : W64} {s s' : State} (h : execRinfaFrameReceived p fcs frame when s = .next s') : s'.cores = s.cores := by
  unfold execRinfaFrameReceived at h
  (try dsimp only at h)
  (repeat' split at h) <;> (obtain rfl := Host.Outcome.next.inj h) <;> simp

theorem execRingOpen_cores {when : W64} {s s' : State} (h : execRingOpen when s = .next s') : s'.cores = s.cores := by
  unfold execRingOpen at h
  (try dsimp only at h)
  (repeat' split at h) <;> (obtain rfl := Host.Outcome.next.inj h) <;> simp

theorem execSyncTimeout_cores  {s s' : State} (h : execSyncTimeout s = .next s') : s'.cores = s.cores := by
  unfold execSyncTimeout at h
  (try dsimp only at h)
  (repeat' split at h) <;> (obtain rfl := Host.Outcome.next.inj h) <;> simp

theorem execPtpGeneralMessageReceived_cores {p : Fin 4} {udp : Bool} {domain : W8} {m : PtpGeneral} {s s' : State} (h : execPtpGeneralMessageReceived p udp domain m s = .next s') : s'.cores = s.cores := by
  unfold execPtpGeneralMessageReceived at h
  (try dsimp only at h)
  (repeat' split at h) <;> (obtain rfl := Host.Outcome.next.inj h) <;> simp

theorem execSyncReceived_cores {p : Fin 4} {udp : Bool} {domain : W8} {m : PtpEvent} {when : W64} {s s' : State} (h : execSyncReceived p udp domain m when s = .next s') : s'.cores = s.cores := by
  unfold execSyncReceived at h
  (try dsimp only at h)
  (repeat' split at h) <;> (obtain rfl := Host.Outcome.next.inj h) <;> simp

theorem execPtpIntervalTimer_cores {p : Fin 4} {t : PtpTimer} {when : W64} {s s' : State} (h : execPtpIntervalTimer p t when s = .next s') : s'.cores = s.cores := by
  unfold execPtpIntervalTimer at h
  (try dsimp only at h)
  (repeat' split at h) <;> (obtain rfl := Host.Outcome.next.inj h) <;> simp

theorem execPortLinkChange_cores {p : Fin 4} {up : Bool} {media : Fin 4} {s s' : State} (h : execPortLinkChange p up media s = .next s') : s'.cores = s.cores := by
  unfold execPortLinkChange at h
  (try dsimp only at h)
  (repeat' split at h) <;> (obtain rfl := Host.Outcome.next.inj h) <;> simp

theorem execSoeCollect_cores {src : SoeSource} {s s' : State} (h : execSoeCollect src s = .next s') : s'.cores = s.cores := by
  unfold execSoeCollect at h
  (try dsimp only at h)
  (repeat' split at h) <;> (obtain rfl := Host.Outcome.next.inj h) <;> simp

theorem execScanOverrun_cores {line : Fin 12} {t : W64} {s s' : State} (h : execScanOverrun line t s = .next s') : s'.cores = s.cores := by
  obtain rfl := Host.Outcome.next.inj h
  simp

theorem execOutputPhase_cores {t : W64} {s s' : State} (h : execOutputPhase t s = .next s') : s'.cores = s.cores := by
  unfold execOutputPhase at h
  (try dsimp only at h)
  (repeat' split at h) <;> (obtain rfl := Host.Outcome.next.inj h) <;> simp

theorem execGridLatch_cores {t : W64} {s s' : State} (h : execGridLatch t s = .next s') : s'.cores = s.cores := by
  unfold execGridLatch at h
  (try dsimp only at h)
  (repeat' split at h) <;> (obtain rfl := Host.Outcome.next.inj h) <;> simp

theorem execLineTickFire_cores {t : W64} {s s' : State} (h : execLineTickFire t s = .next s') : s'.cores = s.cores := by
  unfold execLineTickFire at h
  (try dsimp only at h)
  (repeat' split at h) <;> (obtain rfl := Host.Outcome.next.inj h) <;> simp

theorem execEpochHoldBegin_cores {b : W64} {s s' : State} (h : execEpochHoldBegin b s = .next s') : s'.cores = s.cores := by
  unfold execEpochHoldBegin at h
  (try dsimp only at h)
  (repeat' split at h) <;> (obtain rfl := Host.Outcome.next.inj h) <;> simp

theorem execTickLoRead_cores  {s s' : State} (h : execTickLoRead s = .next s') : s'.cores = s.cores := by
  obtain rfl := Host.Outcome.next.inj h
  simp

theorem execDirectCommand_cores {g : Fin 32} {i : Fin 17} {ao : Bool} {v : W32} {s s' : State} (h : execDirectCommand g i ao v s = .next s') : s'.cores = s.cores := by
  obtain rfl := Host.Outcome.next.inj h
  simp

theorem execChangeCancel_cores  {s s' : State} (h : execChangeCancel s = .next s') : s'.cores = s.cores := by
  obtain rfl := Host.Outcome.next.inj h
  simp

theorem execChangeArm_cores {when : W64} {s s' : State} (h : execChangeArm when s = .next s') : s'.cores = s.cores := by
  obtain rfl := Host.Outcome.next.inj h
  simp

theorem execChangeArmingReceived_cores {id : W32} {ts : W64} {s s' : State} (h : execChangeArmingReceived id ts s = .next s') : s'.cores = s.cores := by
  unfold execChangeArmingReceived at h
  (try dsimp only at h)
  (repeat' split at h) <;> (obtain rfl := Host.Outcome.next.inj h) <;> simp

theorem execMigrationStart_cores {t : Fin 4} {s s' : State} (h : execMigrationStart t s = .next s') : s'.cores = s.cores := by
  unfold execMigrationStart at h
  (try dsimp only at h)
  (repeat' split at h) <;> (obtain rfl := Host.Outcome.next.inj h) <;> simp

theorem execMigrationDeadline_cores  {s s' : State} (h : execMigrationDeadline s = .next s') : s'.cores = s.cores := by
  unfold execMigrationDeadline at h
  (try dsimp only at h)
  (repeat' split at h) <;> (obtain rfl := Host.Outcome.next.inj h) <;> simp

theorem execChangeSwap_cores  {s s' : State} (h : execChangeSwap s = .next s') : s'.cores = s.cores := by
  unfold execChangeSwap at h
  (try dsimp only at h)
  (repeat' split at h) <;> (obtain rfl := Host.Outcome.next.inj h) <;> simp

theorem execYieldHold_cores  {s s' : State} (h : execYieldHold s = .next s') : s'.cores = s.cores := by
  unfold execYieldHold at h
  (try dsimp only at h)
  (repeat' split at h) <;> (obtain rfl := Host.Outcome.next.inj h) <;> simp

theorem execEpochSeal_cores {b : W64} {s s' : State} (h : execEpochSeal b s = .next s') : s'.cores = s.cores := by
  unfold execEpochSeal at h
  (try dsimp only at h)
  (repeat' split at h) <;> (obtain rfl := Host.Outcome.next.inj h) <;> simp

theorem execCommitAckReceived_cores {epoch when : W64} {s s' : State} (h : execCommitAckReceived epoch when s = .next s') : s'.cores = s.cores := by
  unfold execCommitAckReceived at h
  (try dsimp only at h)
  (repeat' split at h) <;> (obtain rfl := Host.Outcome.next.inj h) <;> simp

theorem execLineRecordReceived_cores {line : BitVec 19} {epochLow : W32} {data : List W8} {s s' : State} (h : execLineRecordReceived line epochLow data s = .next s') : s'.cores = s.cores := by
  unfold execLineRecordReceived at h
  (try dsimp only at h)
  (repeat' split at h) <;> (obtain rfl := Host.Outcome.next.inj h) <;> simp

theorem execShadowRecordReceived_cores {t : W64} {commands : List (Fin 512 × W32)} {s s' : State} (h : execShadowRecordReceived t commands s = .next s') : s'.cores = s.cores := by
  unfold execShadowRecordReceived at h
  (try dsimp only at h)
  (repeat' split at h) <;> (obtain rfl := Host.Outcome.next.inj h) <;> simp

theorem execShadowLate_cores {t : W64} {s s' : State} (h : execShadowLate t s = .next s') : s'.cores = s.cores := by
  unfold execShadowLate at h
  (try dsimp only at h)
  (repeat' split at h) <;> (obtain rfl := Host.Outcome.next.inj h) <;> simp

theorem execColReleaseSeen_cores {levels : BitVec 512} {when : W64} {s s' : State} (h : execColReleaseSeen levels when s = .next s') : s'.cores = s.cores := by
  unfold execColReleaseSeen at h
  (try dsimp only at h)
  (repeat' split at h) <;> (obtain rfl := Host.Outcome.next.inj h) <;> simp

theorem execTakeoverRunning_cores {when : W64} {s s' : State} (h : execTakeoverRunning when s = .next s') : s'.cores = s.cores := by
  unfold execTakeoverRunning at h
  (try dsimp only at h)
  (repeat' split at h) <;> (obtain rfl := Host.Outcome.next.inj h) <;> simp

theorem execYield_cores {when : W64} {s s' : State} (h : execYield when s = .next s') : s'.cores = s.cores := by
  obtain rfl := Host.Outcome.next.inj h
  simp

theorem execYieldMessageReceived_cores {ty ts : W64} {s s' : State} (h : execYieldMessageReceived ty ts s = .next s') : s'.cores = s.cores := by
  unfold execYieldMessageReceived at h
  (try dsimp only at h)
  (repeat' split at h) <;> (obtain rfl := Host.Outcome.next.inj h) <;> simp

theorem execYieldCancel_cores  {s s' : State} (h : execYieldCancel s = .next s') : s'.cores = s.cores := by
  obtain rfl := Host.Outcome.next.inj h
  simp

theorem execFullCopyStart_cores {b : W64} {s s' : State} (h : execFullCopyStart b s = .next s') : s'.cores = s.cores := by
  unfold execFullCopyStart at h
  (try dsimp only at h)
  (repeat' split at h) <;> (obtain rfl := Host.Outcome.next.inj h) <;> simp

theorem execLeverSwitchOpen_cores {when : W64} {s s' : State} (h : execLeverSwitchOpen when s = .next s') : s'.cores = s.cores := by
  unfold execLeverSwitchOpen at h
  (try dsimp only at h)
  (repeat' split at h) <;> (obtain rfl := Host.Outcome.next.inj h) <;> simp

theorem execLeverSwitchClose_cores  {s s' : State} (h : execLeverSwitchClose s = .next s') : s'.cores = s.cores := by
  obtain rfl := Host.Outcome.next.inj h
  simp

theorem execDmaStart_cores {c : Fin 16} {s s' : State} (h : execDmaStart c s = .next s') : s'.cores = s.cores := by
  obtain rfl := Host.Outcome.next.inj h
  simp

theorem execDmaResume_cores {c : Fin 16} {s s' : State} (h : execDmaResume c s = .next s') : s'.cores = s.cores := by
  obtain rfl := Host.Outcome.next.inj h
  simp

theorem execDmaAbort_cores {c : Fin 16} {s s' : State} (h : execDmaAbort c s = .next s') : s'.cores = s.cores := by
  obtain rfl := Host.Outcome.next.inj h
  simp

theorem execDmaDescWrite_cores {c : Fin 16} {v : W32} {s s' : State} (h : execDmaDescWrite c v s = .next s') : s'.cores = s.cores := by
  obtain rfl := Host.Outcome.next.inj h
  simp

theorem execFloorFuseBlown_cores {j : Fin 3} {s s' : State} (h : execFloorFuseBlown j s = .next s') : s'.cores = s.cores := by
  unfold execFloorFuseBlown at h
  (try dsimp only at h)
  (repeat' split at h) <;> (obtain rfl := Host.Outcome.next.inj h) <;> simp

theorem execQuote_cores  {s s' : State} (h : execQuote s = .next s') : s'.cores = s.cores := by
  obtain rfl := Host.Outcome.next.inj h
  simp

theorem execChunk_cores  {s s' : State} (h : execChunk s = .next s') : s'.cores = s.cores := by
  obtain rfl := Host.Outcome.next.inj h
  simp

theorem execFinish_cores  {s s' : State} (h : execFinish s = .next s') : s'.cores = s.cores := by
  obtain rfl := Host.Outcome.next.inj h
  simp

theorem execInstall_cores  {s s' : State} (h : execInstall s = .next s') : s'.cores = s.cores := by
  obtain rfl := Host.Outcome.next.inj h
  simp

theorem execDiscard_cores  {s s' : State} (h : execDiscard s = .next s') : s'.cores = s.cores := by
  obtain rfl := Host.Outcome.next.inj h
  simp

theorem execRelay_cores  {s s' : State} (h : execRelay s = .next s') : s'.cores = s.cores := by
  obtain rfl := Host.Outcome.next.inj h
  simp

theorem execToken_cores  {s s' : State} (h : execToken s = .next s') : s'.cores = s.cores := by
  obtain rfl := Host.Outcome.next.inj h
  simp

theorem execExtend_cores  {s s' : State} (h : execExtend s = .next s') : s'.cores = s.cores := by
  obtain rfl := Host.Outcome.next.inj h
  simp

theorem execCert_cores  {s s' : State} (h : execCert s = .next s') : s'.cores = s.cores := by
  obtain rfl := Host.Outcome.next.inj h
  simp

theorem execSeal_cores {when : W64} {s s' : State} (h : execSeal when s = .next s') : s'.cores = s.cores := by
  obtain rfl := Host.Outcome.next.inj h
  simp

theorem execTruCmdInvalid_cores {op : Fin 16} {s s' : State} (h : execTruCmdInvalid op s = .next s') : s'.cores = s.cores := by
  unfold execTruCmdInvalid at h
  (try dsimp only at h)
  (repeat' split at h) <;> (obtain rfl := Host.Outcome.next.inj h) <;> simp

theorem execRelayRequestReceived_cores {via : Option (Fin 4)} {kind : Fin 256} {serial : BitVec 128} {node : W16} {bad : Option (Fin 6 × BitVec 24)} {s s' : State} (h : execRelayRequestReceived via kind serial node bad s = .next s') : s'.cores = s.cores := by
  unfold execRelayRequestReceived at h
  split at h
  · obtain rfl := Host.Outcome.next.inj h; rfl
  · rename_i hr
    have hr := State.relayIn_cores hr
    (repeat' first | split at h | dsimp only at h) <;> (obtain rfl := Host.Outcome.next.inj h) <;> simp [hr]

theorem execHealthConfirm_cores {v : W32} {s s' : State} (h : execHealthConfirm v s = .next s') : s'.cores = s.cores := by
  obtain rfl := Host.Outcome.next.inj h
  simp

theorem execChalLoRead_cores  {s s' : State} (h : execChalLoRead s = .next s') : s'.cores = s.cores := by
  obtain rfl := Host.Outcome.next.inj h
  simp

theorem execTuyereInstruction_cores {code : W8} {s s' : State} (h : execTuyereInstruction code s = .next s') : s'.cores = s.cores := by
  unfold execTuyereInstruction at h
  (try dsimp only at h)
  (repeat' split at h) <;> (obtain rfl := Host.Outcome.next.inj h) <;> simp

theorem execTuyereTestReset_cores  {s s' : State} (h : execTuyereTestReset s = .next s') : s'.cores = s.cores := by
  obtain rfl := Host.Outcome.next.inj h
  simp

theorem execTimeEstablish_cores {ptp : W64} {s s' : State} (h : execTimeEstablish ptp s = .next s') : s'.cores = s.cores := by
  unfold execTimeEstablish at h
  (try dsimp only at h)
  (repeat' split at h) <;> (obtain rfl := Host.Outcome.next.inj h) <;> simp

theorem execPtpWaitExpire_cores  {s s' : State} (h : execPtpWaitExpire s = .next s') : s'.cores = s.cores := by
  unfold execPtpWaitExpire at h
  (try dsimp only at h)
  (repeat' split at h) <;> (obtain rfl := Host.Outcome.next.inj h) <;> simp

theorem execRoleDecision_cores {peerRun peerChange : Bool} {s s' : State} (h : execRoleDecision peerRun peerChange s = .next s') : s'.cores = s.cores := by
  obtain rfl := Host.Outcome.next.inj h
  simp

theorem execListeningEnd_cores {peerRun peerChange : Bool} {s s' : State} (h : execListeningEnd peerRun peerChange s = .next s') : s'.cores = s.cores := by
  unfold execListeningEnd at h
  (try dsimp only at h)
  (repeat' split at h) <;> (obtain rfl := Host.Outcome.next.inj h) <;> simp

theorem execStartWaitExpire_cores  {s s' : State} (h : execStartWaitExpire s = .next s') : s'.cores = s.cores := by
  unfold execStartWaitExpire at h
  (try dsimp only at h)
  (repeat' split at h) <;> (obtain rfl := Host.Outcome.next.inj h) <;> simp

theorem execStarterTimeout_cores  {s s' : State} (h : execStarterTimeout s = .next s') : s'.cores = s.cores := by
  obtain rfl := Host.Outcome.next.inj h
  simp

theorem execProbeBackoffExpire_cores {peerRun peerChange : Bool} {s s' : State} (h : execProbeBackoffExpire peerRun peerChange s = .next s') : s'.cores = s.cores := by
  unfold execProbeBackoffExpire at h
  (try dsimp only at h)
  (repeat' split at h) <;> (obtain rfl := Host.Outcome.next.inj h) <;> simp

theorem execStartRequest_cores {p : Fin 4} {s s' : State} (h : execStartRequest p s = .next s') : s'.cores = s.cores := by
  unfold execStartRequest at h
  split at h <;> (obtain rfl := Host.Outcome.next.inj h)
  · rename_i hr
    simp [State.managed_cores hr]
  · rfl

theorem execRetainCopy_cores {lines : List (Fin 524288)} {starts ends : W64} {s s' : State} (h : execRetainCopy lines starts ends s = .next s') : s'.cores = s.cores := by
  unfold execRetainCopy at h
  (try dsimp only at h)
  (repeat' split at h) <;> (obtain rfl := Host.Outcome.next.inj h) <;> simp

theorem execCopyPassDone_cores {epoch : W64} {kib : W16} {s s' : State} (h : execCopyPassDone epoch kib s = .next s') : s'.cores = s.cores := by
  unfold execCopyPassDone at h
  (try dsimp only at h)
  (repeat' split at h) <;> (obtain rfl := Host.Outcome.next.inj h) <;> simp

theorem execSourceConfigWrite_cores {n : Fin 256} {v : W32} {s s' : State} (h : execSourceConfigWrite n v s = .next s') : s'.cores = s.cores := by
  obtain rfl := Host.Outcome.next.inj h
  simp

theorem execGuardDisable_cores {m : Fin 48} {inFlight : Bool} {s s' : State} (h : execGuardDisable m inFlight s = .next s') : s'.cores = s.cores := by
  unfold execGuardDisable at h
  (try dsimp only at h)
  (repeat' split at h) <;> (obtain rfl := Host.Outcome.next.inj h) <;> simp

theorem execGuardRegionWrite_cores {m : Fin 48} {n : Fin 16} {attr : Bool} {v : W32} {s s' : State} (h : execGuardRegionWrite m n attr v s = .next s') : s'.cores = s.cores := by
  unfold execGuardRegionWrite at h
  (try dsimp only at h)
  (repeat' split at h) <;> (obtain rfl := Host.Outcome.next.inj h) <;> simp

theorem execSliceConfigWrite_cores {g : Fin 32} {i : Fin 17} {off : Fin 1024} {v : W32} {s s' : State} (h : execSliceConfigWrite g i off v s = .next s') : s'.cores = s.cores := by
  obtain rfl := Host.Outcome.next.inj h
  simp

theorem execPortOn_cores {k : Fin 8} {s s' : State} (h : execPortOn k s = .next s') : s'.cores = s.cores := by
  obtain rfl := Host.Outcome.next.inj h
  simp

theorem execPortOff_cores {k : Fin 8} {s s' : State} (h : execPortOff k s = .next s') : s'.cores = s.cores := by
  obtain rfl := Host.Outcome.next.inj h
  simp

theorem execNetFrameWrite_cores {v : W32} {s s' : State} (h : execNetFrameWrite v s = .next s') : s'.cores = s.cores := by
  obtain rfl := Host.Outcome.next.inj h
  simp


end Sys2Proof.Machine
end

