-- ==== Sys2Proof/Laws/State.lean ====
section
/-!
SUPPORT. The updates of one part of the state: what each puts there, and that it leaves every other part alone.
-/
namespace Sys2Proof.Machine

@[simp] theorem State.wr_fields (a : Nat) (v : W32) (s : State) :
    (State.wr a v s).regs = (sset resetVal s.regs a v) ∧ (State.wr a v s).pending = s.pending ∧
    (State.wr a v s).free = s.free ∧ (State.wr a v s).resp = s.resp ∧ (State.wr a v s).mem = s.mem ∧
    (State.wr a v s).sent = s.sent ∧ (State.wr a v s).time = s.time ∧ (State.wr a v s).power = s.power ∧
    (State.wr a v s).pair = s.pair ∧ (State.wr a v s).anvil = s.anvil ∧ (State.wr a v s).recorder = s.recorder ∧
    (State.wr a v s).ledger = s.ledger ∧ (State.wr a v s).cores = s.cores ∧ (State.wr a v s).tic = s.tic ∧
    (State.wr a v s).triads = s.triads ∧ (State.wr a v s).dma = s.dma ∧ (State.wr a v s).crossings = s.crossings ∧
    (State.wr a v s).islandsOff = s.islandsOff ∧ (State.wr a v s).holdover = s.holdover ∧
    (State.wr a v s).dramReady = s.dramReady ∧ (State.wr a v s).bellows = s.bellows ∧
    (State.wr a v s).backup = s.backup ∧ (State.wr a v s).start = s.start ∧ (State.wr a v s).grid = s.grid ∧
    (State.wr a v s).change = s.change ∧ (State.wr a v s).force = s.force ∧ (State.wr a v s).slices = s.slices ∧
    (State.wr a v s).groups = s.groups ∧ (State.wr a v s).trims = s.trims ∧ (State.wr a v s).critical = s.critical ∧
    (State.wr a v s).ports = s.ports ∧ (State.wr a v s).stations = s.stations ∧ (State.wr a v s).net = s.net ∧
    (State.wr a v s).trust = s.trust ∧ (State.wr a v s).memErrors = s.memErrors ∧ (State.wr a v s).stalls = s.stalls :=
  by and_intros <;> rfl

@[simp] theorem State.okResp_fields (v : W64) (s : State) :
    (State.okResp v s).resp = ({ data := v, err := false }) ∧ (State.okResp v s).pending = s.pending ∧
    (State.okResp v s).free = s.free ∧ (State.okResp v s).regs = s.regs ∧ (State.okResp v s).mem = s.mem ∧
    (State.okResp v s).sent = s.sent ∧ (State.okResp v s).time = s.time ∧ (State.okResp v s).power = s.power ∧
    (State.okResp v s).pair = s.pair ∧ (State.okResp v s).anvil = s.anvil ∧
    (State.okResp v s).recorder = s.recorder ∧ (State.okResp v s).ledger = s.ledger ∧
    (State.okResp v s).cores = s.cores ∧ (State.okResp v s).tic = s.tic ∧ (State.okResp v s).triads = s.triads ∧
    (State.okResp v s).dma = s.dma ∧ (State.okResp v s).crossings = s.crossings ∧
    (State.okResp v s).islandsOff = s.islandsOff ∧ (State.okResp v s).holdover = s.holdover ∧
    (State.okResp v s).dramReady = s.dramReady ∧ (State.okResp v s).bellows = s.bellows ∧
    (State.okResp v s).backup = s.backup ∧ (State.okResp v s).start = s.start ∧ (State.okResp v s).grid = s.grid ∧
    (State.okResp v s).change = s.change ∧ (State.okResp v s).force = s.force ∧
    (State.okResp v s).slices = s.slices ∧ (State.okResp v s).groups = s.groups ∧
    (State.okResp v s).trims = s.trims ∧ (State.okResp v s).critical = s.critical ∧
    (State.okResp v s).ports = s.ports ∧ (State.okResp v s).stations = s.stations ∧ (State.okResp v s).net = s.net ∧
    (State.okResp v s).trust = s.trust ∧ (State.okResp v s).memErrors = s.memErrors ∧
    (State.okResp v s).stalls = s.stalls :=
  by and_intros <;> rfl

@[simp] theorem State.busErr_fields (s : State) :
    (State.busErr s).resp = ({ data := 0, err := true }) ∧ (State.busErr s).pending = s.pending ∧
    (State.busErr s).free = s.free ∧ (State.busErr s).regs = s.regs ∧ (State.busErr s).mem = s.mem ∧
    (State.busErr s).sent = s.sent ∧ (State.busErr s).time = s.time ∧ (State.busErr s).power = s.power ∧
    (State.busErr s).pair = s.pair ∧ (State.busErr s).anvil = s.anvil ∧ (State.busErr s).recorder = s.recorder ∧
    (State.busErr s).ledger = s.ledger ∧ (State.busErr s).cores = s.cores ∧ (State.busErr s).tic = s.tic ∧
    (State.busErr s).triads = s.triads ∧ (State.busErr s).dma = s.dma ∧ (State.busErr s).crossings = s.crossings ∧
    (State.busErr s).islandsOff = s.islandsOff ∧ (State.busErr s).holdover = s.holdover ∧
    (State.busErr s).dramReady = s.dramReady ∧ (State.busErr s).bellows = s.bellows ∧
    (State.busErr s).backup = s.backup ∧ (State.busErr s).start = s.start ∧ (State.busErr s).grid = s.grid ∧
    (State.busErr s).change = s.change ∧ (State.busErr s).force = s.force ∧ (State.busErr s).slices = s.slices ∧
    (State.busErr s).groups = s.groups ∧ (State.busErr s).trims = s.trims ∧ (State.busErr s).critical = s.critical ∧
    (State.busErr s).ports = s.ports ∧ (State.busErr s).stations = s.stations ∧ (State.busErr s).net = s.net ∧
    (State.busErr s).trust = s.trust ∧ (State.busErr s).memErrors = s.memErrors ∧ (State.busErr s).stalls = s.stalls :=
  by and_intros <;> rfl

@[simp] theorem State.drawn_fields (s : State) :
    (State.drawn s).free = (s.free + 1) ∧ (State.drawn s).pending = s.pending ∧ (State.drawn s).resp = s.resp ∧
    (State.drawn s).regs = s.regs ∧ (State.drawn s).mem = s.mem ∧ (State.drawn s).sent = s.sent ∧
    (State.drawn s).time = s.time ∧ (State.drawn s).power = s.power ∧ (State.drawn s).pair = s.pair ∧
    (State.drawn s).anvil = s.anvil ∧ (State.drawn s).recorder = s.recorder ∧ (State.drawn s).ledger = s.ledger ∧
    (State.drawn s).cores = s.cores ∧ (State.drawn s).tic = s.tic ∧ (State.drawn s).triads = s.triads ∧
    (State.drawn s).dma = s.dma ∧ (State.drawn s).crossings = s.crossings ∧
    (State.drawn s).islandsOff = s.islandsOff ∧ (State.drawn s).holdover = s.holdover ∧
    (State.drawn s).dramReady = s.dramReady ∧ (State.drawn s).bellows = s.bellows ∧
    (State.drawn s).backup = s.backup ∧ (State.drawn s).start = s.start ∧ (State.drawn s).grid = s.grid ∧
    (State.drawn s).change = s.change ∧ (State.drawn s).force = s.force ∧ (State.drawn s).slices = s.slices ∧
    (State.drawn s).groups = s.groups ∧ (State.drawn s).trims = s.trims ∧ (State.drawn s).critical = s.critical ∧
    (State.drawn s).ports = s.ports ∧ (State.drawn s).stations = s.stations ∧ (State.drawn s).net = s.net ∧
    (State.drawn s).trust = s.trust ∧ (State.drawn s).memErrors = s.memErrors ∧ (State.drawn s).stalls = s.stalls :=
  by and_intros <;> rfl

@[simp] theorem State.setCtx_fields (x : Nat) (c : Ctx) (s : State) :
    (State.setCtx x c s).cores = (sset (fun _ => Ctx.idle) s.cores x c) ∧ (State.setCtx x c s).pending = s.pending ∧
    (State.setCtx x c s).free = s.free ∧ (State.setCtx x c s).resp = s.resp ∧ (State.setCtx x c s).regs = s.regs ∧
    (State.setCtx x c s).mem = s.mem ∧ (State.setCtx x c s).sent = s.sent ∧ (State.setCtx x c s).time = s.time ∧
    (State.setCtx x c s).power = s.power ∧ (State.setCtx x c s).pair = s.pair ∧
    (State.setCtx x c s).anvil = s.anvil ∧ (State.setCtx x c s).recorder = s.recorder ∧
    (State.setCtx x c s).ledger = s.ledger ∧ (State.setCtx x c s).tic = s.tic ∧
    (State.setCtx x c s).triads = s.triads ∧ (State.setCtx x c s).dma = s.dma ∧
    (State.setCtx x c s).crossings = s.crossings ∧ (State.setCtx x c s).islandsOff = s.islandsOff ∧
    (State.setCtx x c s).holdover = s.holdover ∧ (State.setCtx x c s).dramReady = s.dramReady ∧
    (State.setCtx x c s).bellows = s.bellows ∧ (State.setCtx x c s).backup = s.backup ∧
    (State.setCtx x c s).start = s.start ∧ (State.setCtx x c s).grid = s.grid ∧
    (State.setCtx x c s).change = s.change ∧ (State.setCtx x c s).force = s.force ∧
    (State.setCtx x c s).slices = s.slices ∧ (State.setCtx x c s).groups = s.groups ∧
    (State.setCtx x c s).trims = s.trims ∧ (State.setCtx x c s).critical = s.critical ∧
    (State.setCtx x c s).ports = s.ports ∧ (State.setCtx x c s).stations = s.stations ∧
    (State.setCtx x c s).net = s.net ∧ (State.setCtx x c s).trust = s.trust ∧
    (State.setCtx x c s).memErrors = s.memErrors ∧ (State.setCtx x c s).stalls = s.stalls :=
  by and_intros <;> rfl

@[simp] theorem State.setTriad_fields (t : Nat) (v : TriadSt) (s : State) :
    (State.setTriad t v s).triads = (sset (fun _ => {}) s.triads t v) ∧ (State.setTriad t v s).pending = s.pending ∧
    (State.setTriad t v s).free = s.free ∧ (State.setTriad t v s).resp = s.resp ∧
    (State.setTriad t v s).regs = s.regs ∧ (State.setTriad t v s).mem = s.mem ∧
    (State.setTriad t v s).sent = s.sent ∧ (State.setTriad t v s).time = s.time ∧
    (State.setTriad t v s).power = s.power ∧ (State.setTriad t v s).pair = s.pair ∧
    (State.setTriad t v s).anvil = s.anvil ∧ (State.setTriad t v s).recorder = s.recorder ∧
    (State.setTriad t v s).ledger = s.ledger ∧ (State.setTriad t v s).cores = s.cores ∧
    (State.setTriad t v s).tic = s.tic ∧ (State.setTriad t v s).dma = s.dma ∧
    (State.setTriad t v s).crossings = s.crossings ∧ (State.setTriad t v s).islandsOff = s.islandsOff ∧
    (State.setTriad t v s).holdover = s.holdover ∧ (State.setTriad t v s).dramReady = s.dramReady ∧
    (State.setTriad t v s).bellows = s.bellows ∧ (State.setTriad t v s).backup = s.backup ∧
    (State.setTriad t v s).start = s.start ∧ (State.setTriad t v s).grid = s.grid ∧
    (State.setTriad t v s).change = s.change ∧ (State.setTriad t v s).force = s.force ∧
    (State.setTriad t v s).slices = s.slices ∧ (State.setTriad t v s).groups = s.groups ∧
    (State.setTriad t v s).trims = s.trims ∧ (State.setTriad t v s).critical = s.critical ∧
    (State.setTriad t v s).ports = s.ports ∧ (State.setTriad t v s).stations = s.stations ∧
    (State.setTriad t v s).net = s.net ∧ (State.setTriad t v s).trust = s.trust ∧
    (State.setTriad t v s).memErrors = s.memErrors ∧ (State.setTriad t v s).stalls = s.stalls :=
  by and_intros <;> rfl

@[simp] theorem State.setChan_fields (c : Nat) (v : Chan) (s : State) :
    (State.setChan c v s).dma = (sset (fun _ => {}) s.dma c v) ∧ (State.setChan c v s).pending = s.pending ∧
    (State.setChan c v s).free = s.free ∧ (State.setChan c v s).resp = s.resp ∧ (State.setChan c v s).regs = s.regs ∧
    (State.setChan c v s).mem = s.mem ∧ (State.setChan c v s).sent = s.sent ∧ (State.setChan c v s).time = s.time ∧
    (State.setChan c v s).power = s.power ∧ (State.setChan c v s).pair = s.pair ∧
    (State.setChan c v s).anvil = s.anvil ∧ (State.setChan c v s).recorder = s.recorder ∧
    (State.setChan c v s).ledger = s.ledger ∧ (State.setChan c v s).cores = s.cores ∧
    (State.setChan c v s).tic = s.tic ∧ (State.setChan c v s).triads = s.triads ∧
    (State.setChan c v s).crossings = s.crossings ∧ (State.setChan c v s).islandsOff = s.islandsOff ∧
    (State.setChan c v s).holdover = s.holdover ∧ (State.setChan c v s).dramReady = s.dramReady ∧
    (State.setChan c v s).bellows = s.bellows ∧ (State.setChan c v s).backup = s.backup ∧
    (State.setChan c v s).start = s.start ∧ (State.setChan c v s).grid = s.grid ∧
    (State.setChan c v s).change = s.change ∧ (State.setChan c v s).force = s.force ∧
    (State.setChan c v s).slices = s.slices ∧ (State.setChan c v s).groups = s.groups ∧
    (State.setChan c v s).trims = s.trims ∧ (State.setChan c v s).critical = s.critical ∧
    (State.setChan c v s).ports = s.ports ∧ (State.setChan c v s).stations = s.stations ∧
    (State.setChan c v s).net = s.net ∧ (State.setChan c v s).trust = s.trust ∧
    (State.setChan c v s).memErrors = s.memErrors ∧ (State.setChan c v s).stalls = s.stalls :=
  by and_intros <;> rfl

@[simp] theorem State.setPair_fields (p : Pair) (s : State) :
    (State.setPair p s).pair = (p) ∧ (State.setPair p s).pending = s.pending ∧ (State.setPair p s).free = s.free ∧
    (State.setPair p s).resp = s.resp ∧ (State.setPair p s).regs = s.regs ∧ (State.setPair p s).mem = s.mem ∧
    (State.setPair p s).sent = s.sent ∧ (State.setPair p s).time = s.time ∧ (State.setPair p s).power = s.power ∧
    (State.setPair p s).anvil = s.anvil ∧ (State.setPair p s).recorder = s.recorder ∧
    (State.setPair p s).ledger = s.ledger ∧ (State.setPair p s).cores = s.cores ∧ (State.setPair p s).tic = s.tic ∧
    (State.setPair p s).triads = s.triads ∧ (State.setPair p s).dma = s.dma ∧
    (State.setPair p s).crossings = s.crossings ∧ (State.setPair p s).islandsOff = s.islandsOff ∧
    (State.setPair p s).holdover = s.holdover ∧ (State.setPair p s).dramReady = s.dramReady ∧
    (State.setPair p s).bellows = s.bellows ∧ (State.setPair p s).backup = s.backup ∧
    (State.setPair p s).start = s.start ∧ (State.setPair p s).grid = s.grid ∧ (State.setPair p s).change = s.change ∧
    (State.setPair p s).force = s.force ∧ (State.setPair p s).slices = s.slices ∧
    (State.setPair p s).groups = s.groups ∧ (State.setPair p s).trims = s.trims ∧
    (State.setPair p s).critical = s.critical ∧ (State.setPair p s).ports = s.ports ∧
    (State.setPair p s).stations = s.stations ∧ (State.setPair p s).net = s.net ∧
    (State.setPair p s).trust = s.trust ∧ (State.setPair p s).memErrors = s.memErrors ∧
    (State.setPair p s).stalls = s.stalls :=
  by and_intros <;> rfl

@[simp] theorem State.setAnvil_fields (p : Anvil) (s : State) :
    (State.setAnvil p s).anvil = (p) ∧ (State.setAnvil p s).pending = s.pending ∧
    (State.setAnvil p s).free = s.free ∧ (State.setAnvil p s).resp = s.resp ∧ (State.setAnvil p s).regs = s.regs ∧
    (State.setAnvil p s).mem = s.mem ∧ (State.setAnvil p s).sent = s.sent ∧ (State.setAnvil p s).time = s.time ∧
    (State.setAnvil p s).power = s.power ∧ (State.setAnvil p s).pair = s.pair ∧
    (State.setAnvil p s).recorder = s.recorder ∧ (State.setAnvil p s).ledger = s.ledger ∧
    (State.setAnvil p s).cores = s.cores ∧ (State.setAnvil p s).tic = s.tic ∧
    (State.setAnvil p s).triads = s.triads ∧ (State.setAnvil p s).dma = s.dma ∧
    (State.setAnvil p s).crossings = s.crossings ∧ (State.setAnvil p s).islandsOff = s.islandsOff ∧
    (State.setAnvil p s).holdover = s.holdover ∧ (State.setAnvil p s).dramReady = s.dramReady ∧
    (State.setAnvil p s).bellows = s.bellows ∧ (State.setAnvil p s).backup = s.backup ∧
    (State.setAnvil p s).start = s.start ∧ (State.setAnvil p s).grid = s.grid ∧
    (State.setAnvil p s).change = s.change ∧ (State.setAnvil p s).force = s.force ∧
    (State.setAnvil p s).slices = s.slices ∧ (State.setAnvil p s).groups = s.groups ∧
    (State.setAnvil p s).trims = s.trims ∧ (State.setAnvil p s).critical = s.critical ∧
    (State.setAnvil p s).ports = s.ports ∧ (State.setAnvil p s).stations = s.stations ∧
    (State.setAnvil p s).net = s.net ∧ (State.setAnvil p s).trust = s.trust ∧
    (State.setAnvil p s).memErrors = s.memErrors ∧ (State.setAnvil p s).stalls = s.stalls :=
  by and_intros <;> rfl

@[simp] theorem State.setPower_fields (p : Power) (s : State) :
    (State.setPower p s).power = (p) ∧ (State.setPower p s).pending = s.pending ∧
    (State.setPower p s).free = s.free ∧ (State.setPower p s).resp = s.resp ∧ (State.setPower p s).regs = s.regs ∧
    (State.setPower p s).mem = s.mem ∧ (State.setPower p s).sent = s.sent ∧ (State.setPower p s).time = s.time ∧
    (State.setPower p s).pair = s.pair ∧ (State.setPower p s).anvil = s.anvil ∧
    (State.setPower p s).recorder = s.recorder ∧ (State.setPower p s).ledger = s.ledger ∧
    (State.setPower p s).cores = s.cores ∧ (State.setPower p s).tic = s.tic ∧
    (State.setPower p s).triads = s.triads ∧ (State.setPower p s).dma = s.dma ∧
    (State.setPower p s).crossings = s.crossings ∧ (State.setPower p s).islandsOff = s.islandsOff ∧
    (State.setPower p s).holdover = s.holdover ∧ (State.setPower p s).dramReady = s.dramReady ∧
    (State.setPower p s).bellows = s.bellows ∧ (State.setPower p s).backup = s.backup ∧
    (State.setPower p s).start = s.start ∧ (State.setPower p s).grid = s.grid ∧
    (State.setPower p s).change = s.change ∧ (State.setPower p s).force = s.force ∧
    (State.setPower p s).slices = s.slices ∧ (State.setPower p s).groups = s.groups ∧
    (State.setPower p s).trims = s.trims ∧ (State.setPower p s).critical = s.critical ∧
    (State.setPower p s).ports = s.ports ∧ (State.setPower p s).stations = s.stations ∧
    (State.setPower p s).net = s.net ∧ (State.setPower p s).trust = s.trust ∧
    (State.setPower p s).memErrors = s.memErrors ∧ (State.setPower p s).stalls = s.stalls :=
  by and_intros <;> rfl

@[simp] theorem State.setTime_fields (p : TimeBase) (s : State) :
    (State.setTime p s).time = (p) ∧ (State.setTime p s).pending = s.pending ∧ (State.setTime p s).free = s.free ∧
    (State.setTime p s).resp = s.resp ∧ (State.setTime p s).regs = s.regs ∧ (State.setTime p s).mem = s.mem ∧
    (State.setTime p s).sent = s.sent ∧ (State.setTime p s).power = s.power ∧ (State.setTime p s).pair = s.pair ∧
    (State.setTime p s).anvil = s.anvil ∧ (State.setTime p s).recorder = s.recorder ∧
    (State.setTime p s).ledger = s.ledger ∧ (State.setTime p s).cores = s.cores ∧ (State.setTime p s).tic = s.tic ∧
    (State.setTime p s).triads = s.triads ∧ (State.setTime p s).dma = s.dma ∧
    (State.setTime p s).crossings = s.crossings ∧ (State.setTime p s).islandsOff = s.islandsOff ∧
    (State.setTime p s).holdover = s.holdover ∧ (State.setTime p s).dramReady = s.dramReady ∧
    (State.setTime p s).bellows = s.bellows ∧ (State.setTime p s).backup = s.backup ∧
    (State.setTime p s).start = s.start ∧ (State.setTime p s).grid = s.grid ∧ (State.setTime p s).change = s.change ∧
    (State.setTime p s).force = s.force ∧ (State.setTime p s).slices = s.slices ∧
    (State.setTime p s).groups = s.groups ∧ (State.setTime p s).trims = s.trims ∧
    (State.setTime p s).critical = s.critical ∧ (State.setTime p s).ports = s.ports ∧
    (State.setTime p s).stations = s.stations ∧ (State.setTime p s).net = s.net ∧
    (State.setTime p s).trust = s.trust ∧ (State.setTime p s).memErrors = s.memErrors ∧
    (State.setTime p s).stalls = s.stalls :=
  by and_intros <;> rfl

@[simp] theorem State.setRecorder_fields (p : Recorder) (s : State) :
    (State.setRecorder p s).recorder = (p) ∧ (State.setRecorder p s).pending = s.pending ∧
    (State.setRecorder p s).free = s.free ∧ (State.setRecorder p s).resp = s.resp ∧
    (State.setRecorder p s).regs = s.regs ∧ (State.setRecorder p s).mem = s.mem ∧
    (State.setRecorder p s).sent = s.sent ∧ (State.setRecorder p s).time = s.time ∧
    (State.setRecorder p s).power = s.power ∧ (State.setRecorder p s).pair = s.pair ∧
    (State.setRecorder p s).anvil = s.anvil ∧ (State.setRecorder p s).ledger = s.ledger ∧
    (State.setRecorder p s).cores = s.cores ∧ (State.setRecorder p s).tic = s.tic ∧
    (State.setRecorder p s).triads = s.triads ∧ (State.setRecorder p s).dma = s.dma ∧
    (State.setRecorder p s).crossings = s.crossings ∧ (State.setRecorder p s).islandsOff = s.islandsOff ∧
    (State.setRecorder p s).holdover = s.holdover ∧ (State.setRecorder p s).dramReady = s.dramReady ∧
    (State.setRecorder p s).bellows = s.bellows ∧ (State.setRecorder p s).backup = s.backup ∧
    (State.setRecorder p s).start = s.start ∧ (State.setRecorder p s).grid = s.grid ∧
    (State.setRecorder p s).change = s.change ∧ (State.setRecorder p s).force = s.force ∧
    (State.setRecorder p s).slices = s.slices ∧ (State.setRecorder p s).groups = s.groups ∧
    (State.setRecorder p s).trims = s.trims ∧ (State.setRecorder p s).critical = s.critical ∧
    (State.setRecorder p s).ports = s.ports ∧ (State.setRecorder p s).stations = s.stations ∧
    (State.setRecorder p s).net = s.net ∧ (State.setRecorder p s).trust = s.trust ∧
    (State.setRecorder p s).memErrors = s.memErrors ∧ (State.setRecorder p s).stalls = s.stalls :=
  by and_intros <;> rfl

@[simp] theorem State.setLedger_fields (p : Ledger) (s : State) :
    (State.setLedger p s).ledger = (p) ∧ (State.setLedger p s).pending = s.pending ∧
    (State.setLedger p s).free = s.free ∧ (State.setLedger p s).resp = s.resp ∧ (State.setLedger p s).regs = s.regs ∧
    (State.setLedger p s).mem = s.mem ∧ (State.setLedger p s).sent = s.sent ∧ (State.setLedger p s).time = s.time ∧
    (State.setLedger p s).power = s.power ∧ (State.setLedger p s).pair = s.pair ∧
    (State.setLedger p s).anvil = s.anvil ∧ (State.setLedger p s).recorder = s.recorder ∧
    (State.setLedger p s).cores = s.cores ∧ (State.setLedger p s).tic = s.tic ∧
    (State.setLedger p s).triads = s.triads ∧ (State.setLedger p s).dma = s.dma ∧
    (State.setLedger p s).crossings = s.crossings ∧ (State.setLedger p s).islandsOff = s.islandsOff ∧
    (State.setLedger p s).holdover = s.holdover ∧ (State.setLedger p s).dramReady = s.dramReady ∧
    (State.setLedger p s).bellows = s.bellows ∧ (State.setLedger p s).backup = s.backup ∧
    (State.setLedger p s).start = s.start ∧ (State.setLedger p s).grid = s.grid ∧
    (State.setLedger p s).change = s.change ∧ (State.setLedger p s).force = s.force ∧
    (State.setLedger p s).slices = s.slices ∧ (State.setLedger p s).groups = s.groups ∧
    (State.setLedger p s).trims = s.trims ∧ (State.setLedger p s).critical = s.critical ∧
    (State.setLedger p s).ports = s.ports ∧ (State.setLedger p s).stations = s.stations ∧
    (State.setLedger p s).net = s.net ∧ (State.setLedger p s).trust = s.trust ∧
    (State.setLedger p s).memErrors = s.memErrors ∧ (State.setLedger p s).stalls = s.stalls :=
  by and_intros <;> rfl

@[simp] theorem State.pokeByte_fields (a : Nat) (v : W8) (s : State) :
    (State.pokeByte a v s).mem = (sset memDefault s.mem a v) ∧ (State.pokeByte a v s).pending = s.pending ∧
    (State.pokeByte a v s).free = s.free ∧ (State.pokeByte a v s).resp = s.resp ∧
    (State.pokeByte a v s).regs = s.regs ∧ (State.pokeByte a v s).sent = s.sent ∧
    (State.pokeByte a v s).time = s.time ∧ (State.pokeByte a v s).power = s.power ∧
    (State.pokeByte a v s).pair = s.pair ∧ (State.pokeByte a v s).anvil = s.anvil ∧
    (State.pokeByte a v s).recorder = s.recorder ∧ (State.pokeByte a v s).ledger = s.ledger ∧
    (State.pokeByte a v s).cores = s.cores ∧ (State.pokeByte a v s).tic = s.tic ∧
    (State.pokeByte a v s).triads = s.triads ∧ (State.pokeByte a v s).dma = s.dma ∧
    (State.pokeByte a v s).crossings = s.crossings ∧ (State.pokeByte a v s).islandsOff = s.islandsOff ∧
    (State.pokeByte a v s).holdover = s.holdover ∧ (State.pokeByte a v s).dramReady = s.dramReady ∧
    (State.pokeByte a v s).bellows = s.bellows ∧ (State.pokeByte a v s).backup = s.backup ∧
    (State.pokeByte a v s).start = s.start ∧ (State.pokeByte a v s).grid = s.grid ∧
    (State.pokeByte a v s).change = s.change ∧ (State.pokeByte a v s).force = s.force ∧
    (State.pokeByte a v s).slices = s.slices ∧ (State.pokeByte a v s).groups = s.groups ∧
    (State.pokeByte a v s).trims = s.trims ∧ (State.pokeByte a v s).critical = s.critical ∧
    (State.pokeByte a v s).ports = s.ports ∧ (State.pokeByte a v s).stations = s.stations ∧
    (State.pokeByte a v s).net = s.net ∧ (State.pokeByte a v s).trust = s.trust ∧
    (State.pokeByte a v s).memErrors = s.memErrors ∧ (State.pokeByte a v s).stalls = s.stalls :=
  by and_intros <;> rfl

@[simp] theorem State.pend_fields (n : Nat) (s : State) :
    (State.pend n s).tic = (sput s.tic n s.now) ∧ (State.pend n s).pending = s.pending ∧
    (State.pend n s).free = s.free ∧ (State.pend n s).resp = s.resp ∧ (State.pend n s).regs = s.regs ∧
    (State.pend n s).mem = s.mem ∧ (State.pend n s).sent = s.sent ∧ (State.pend n s).time = s.time ∧
    (State.pend n s).power = s.power ∧ (State.pend n s).pair = s.pair ∧ (State.pend n s).anvil = s.anvil ∧
    (State.pend n s).recorder = s.recorder ∧ (State.pend n s).ledger = s.ledger ∧ (State.pend n s).cores = s.cores ∧
    (State.pend n s).triads = s.triads ∧ (State.pend n s).dma = s.dma ∧ (State.pend n s).crossings = s.crossings ∧
    (State.pend n s).islandsOff = s.islandsOff ∧ (State.pend n s).holdover = s.holdover ∧
    (State.pend n s).dramReady = s.dramReady ∧ (State.pend n s).bellows = s.bellows ∧
    (State.pend n s).backup = s.backup ∧ (State.pend n s).start = s.start ∧ (State.pend n s).grid = s.grid ∧
    (State.pend n s).change = s.change ∧ (State.pend n s).force = s.force ∧ (State.pend n s).slices = s.slices ∧
    (State.pend n s).groups = s.groups ∧ (State.pend n s).trims = s.trims ∧ (State.pend n s).critical = s.critical ∧
    (State.pend n s).ports = s.ports ∧ (State.pend n s).stations = s.stations ∧ (State.pend n s).net = s.net ∧
    (State.pend n s).trust = s.trust ∧ (State.pend n s).memErrors = s.memErrors ∧ (State.pend n s).stalls = s.stalls :=
  by and_intros <;> rfl

@[simp] theorem State.setTrust_fields (v : Trust) (s : State) :
    (State.setTrust v s).trust = (v) ∧ (State.setTrust v s).pending = s.pending ∧
    (State.setTrust v s).free = s.free ∧ (State.setTrust v s).resp = s.resp ∧ (State.setTrust v s).regs = s.regs ∧
    (State.setTrust v s).mem = s.mem ∧ (State.setTrust v s).sent = s.sent ∧ (State.setTrust v s).time = s.time ∧
    (State.setTrust v s).power = s.power ∧ (State.setTrust v s).pair = s.pair ∧
    (State.setTrust v s).anvil = s.anvil ∧ (State.setTrust v s).recorder = s.recorder ∧
    (State.setTrust v s).ledger = s.ledger ∧ (State.setTrust v s).cores = s.cores ∧
    (State.setTrust v s).tic = s.tic ∧ (State.setTrust v s).triads = s.triads ∧ (State.setTrust v s).dma = s.dma ∧
    (State.setTrust v s).crossings = s.crossings ∧ (State.setTrust v s).islandsOff = s.islandsOff ∧
    (State.setTrust v s).holdover = s.holdover ∧ (State.setTrust v s).dramReady = s.dramReady ∧
    (State.setTrust v s).bellows = s.bellows ∧ (State.setTrust v s).backup = s.backup ∧
    (State.setTrust v s).start = s.start ∧ (State.setTrust v s).grid = s.grid ∧
    (State.setTrust v s).change = s.change ∧ (State.setTrust v s).force = s.force ∧
    (State.setTrust v s).slices = s.slices ∧ (State.setTrust v s).groups = s.groups ∧
    (State.setTrust v s).trims = s.trims ∧ (State.setTrust v s).critical = s.critical ∧
    (State.setTrust v s).ports = s.ports ∧ (State.setTrust v s).stations = s.stations ∧
    (State.setTrust v s).net = s.net ∧ (State.setTrust v s).memErrors = s.memErrors ∧
    (State.setTrust v s).stalls = s.stalls :=
  by and_intros <;> rfl

@[simp] theorem State.setStart_fields (v : Start) (s : State) :
    (State.setStart v s).start = (v) ∧ (State.setStart v s).pending = s.pending ∧
    (State.setStart v s).free = s.free ∧ (State.setStart v s).resp = s.resp ∧ (State.setStart v s).regs = s.regs ∧
    (State.setStart v s).mem = s.mem ∧ (State.setStart v s).sent = s.sent ∧ (State.setStart v s).time = s.time ∧
    (State.setStart v s).power = s.power ∧ (State.setStart v s).pair = s.pair ∧
    (State.setStart v s).anvil = s.anvil ∧ (State.setStart v s).recorder = s.recorder ∧
    (State.setStart v s).ledger = s.ledger ∧ (State.setStart v s).cores = s.cores ∧
    (State.setStart v s).tic = s.tic ∧ (State.setStart v s).triads = s.triads ∧ (State.setStart v s).dma = s.dma ∧
    (State.setStart v s).crossings = s.crossings ∧ (State.setStart v s).islandsOff = s.islandsOff ∧
    (State.setStart v s).holdover = s.holdover ∧ (State.setStart v s).dramReady = s.dramReady ∧
    (State.setStart v s).bellows = s.bellows ∧ (State.setStart v s).backup = s.backup ∧
    (State.setStart v s).grid = s.grid ∧ (State.setStart v s).change = s.change ∧
    (State.setStart v s).force = s.force ∧ (State.setStart v s).slices = s.slices ∧
    (State.setStart v s).groups = s.groups ∧ (State.setStart v s).trims = s.trims ∧
    (State.setStart v s).critical = s.critical ∧ (State.setStart v s).ports = s.ports ∧
    (State.setStart v s).stations = s.stations ∧ (State.setStart v s).net = s.net ∧
    (State.setStart v s).trust = s.trust ∧ (State.setStart v s).memErrors = s.memErrors ∧
    (State.setStart v s).stalls = s.stalls :=
  by and_intros <;> rfl

@[simp] theorem State.setPort_fields (k : Nat) (v : Port) (s : State) :
    (State.setPort k v s).ports = (sset (fun _ => {}) s.ports k v) ∧ (State.setPort k v s).pending = s.pending ∧
    (State.setPort k v s).free = s.free ∧ (State.setPort k v s).resp = s.resp ∧ (State.setPort k v s).regs = s.regs ∧
    (State.setPort k v s).mem = s.mem ∧ (State.setPort k v s).sent = s.sent ∧ (State.setPort k v s).time = s.time ∧
    (State.setPort k v s).power = s.power ∧ (State.setPort k v s).pair = s.pair ∧
    (State.setPort k v s).anvil = s.anvil ∧ (State.setPort k v s).recorder = s.recorder ∧
    (State.setPort k v s).ledger = s.ledger ∧ (State.setPort k v s).cores = s.cores ∧
    (State.setPort k v s).tic = s.tic ∧ (State.setPort k v s).triads = s.triads ∧ (State.setPort k v s).dma = s.dma ∧
    (State.setPort k v s).crossings = s.crossings ∧ (State.setPort k v s).islandsOff = s.islandsOff ∧
    (State.setPort k v s).holdover = s.holdover ∧ (State.setPort k v s).dramReady = s.dramReady ∧
    (State.setPort k v s).bellows = s.bellows ∧ (State.setPort k v s).backup = s.backup ∧
    (State.setPort k v s).start = s.start ∧ (State.setPort k v s).grid = s.grid ∧
    (State.setPort k v s).change = s.change ∧ (State.setPort k v s).force = s.force ∧
    (State.setPort k v s).slices = s.slices ∧ (State.setPort k v s).groups = s.groups ∧
    (State.setPort k v s).trims = s.trims ∧ (State.setPort k v s).critical = s.critical ∧
    (State.setPort k v s).stations = s.stations ∧ (State.setPort k v s).net = s.net ∧
    (State.setPort k v s).trust = s.trust ∧ (State.setPort k v s).memErrors = s.memErrors ∧
    (State.setPort k v s).stalls = s.stalls :=
  by and_intros <;> rfl

@[simp] theorem State.setGroup_fields (g : Nat) (v : Group) (s : State) :
    (State.setGroup g v s).groups = (sset (fun _ => {}) s.groups g v) ∧ (State.setGroup g v s).pending = s.pending ∧
    (State.setGroup g v s).free = s.free ∧ (State.setGroup g v s).resp = s.resp ∧
    (State.setGroup g v s).regs = s.regs ∧ (State.setGroup g v s).mem = s.mem ∧
    (State.setGroup g v s).sent = s.sent ∧ (State.setGroup g v s).time = s.time ∧
    (State.setGroup g v s).power = s.power ∧ (State.setGroup g v s).pair = s.pair ∧
    (State.setGroup g v s).anvil = s.anvil ∧ (State.setGroup g v s).recorder = s.recorder ∧
    (State.setGroup g v s).ledger = s.ledger ∧ (State.setGroup g v s).cores = s.cores ∧
    (State.setGroup g v s).tic = s.tic ∧ (State.setGroup g v s).triads = s.triads ∧
    (State.setGroup g v s).dma = s.dma ∧ (State.setGroup g v s).crossings = s.crossings ∧
    (State.setGroup g v s).islandsOff = s.islandsOff ∧ (State.setGroup g v s).holdover = s.holdover ∧
    (State.setGroup g v s).dramReady = s.dramReady ∧ (State.setGroup g v s).bellows = s.bellows ∧
    (State.setGroup g v s).backup = s.backup ∧ (State.setGroup g v s).start = s.start ∧
    (State.setGroup g v s).grid = s.grid ∧ (State.setGroup g v s).change = s.change ∧
    (State.setGroup g v s).force = s.force ∧ (State.setGroup g v s).slices = s.slices ∧
    (State.setGroup g v s).trims = s.trims ∧ (State.setGroup g v s).critical = s.critical ∧
    (State.setGroup g v s).ports = s.ports ∧ (State.setGroup g v s).stations = s.stations ∧
    (State.setGroup g v s).net = s.net ∧ (State.setGroup g v s).trust = s.trust ∧
    (State.setGroup g v s).memErrors = s.memErrors ∧ (State.setGroup g v s).stalls = s.stalls :=
  by and_intros <;> rfl

@[simp] theorem State.setBackup_fields (b : Backup) (s : State) :
    (State.setBackup b s).backup = (b) ∧ (State.setBackup b s).pending = s.pending ∧
    (State.setBackup b s).free = s.free ∧ (State.setBackup b s).resp = s.resp ∧ (State.setBackup b s).regs = s.regs ∧
    (State.setBackup b s).mem = s.mem ∧ (State.setBackup b s).sent = s.sent ∧ (State.setBackup b s).time = s.time ∧
    (State.setBackup b s).power = s.power ∧ (State.setBackup b s).pair = s.pair ∧
    (State.setBackup b s).anvil = s.anvil ∧ (State.setBackup b s).recorder = s.recorder ∧
    (State.setBackup b s).ledger = s.ledger ∧ (State.setBackup b s).cores = s.cores ∧
    (State.setBackup b s).tic = s.tic ∧ (State.setBackup b s).triads = s.triads ∧ (State.setBackup b s).dma = s.dma ∧
    (State.setBackup b s).crossings = s.crossings ∧ (State.setBackup b s).islandsOff = s.islandsOff ∧
    (State.setBackup b s).holdover = s.holdover ∧ (State.setBackup b s).dramReady = s.dramReady ∧
    (State.setBackup b s).bellows = s.bellows ∧ (State.setBackup b s).start = s.start ∧
    (State.setBackup b s).grid = s.grid ∧ (State.setBackup b s).change = s.change ∧
    (State.setBackup b s).force = s.force ∧ (State.setBackup b s).slices = s.slices ∧
    (State.setBackup b s).groups = s.groups ∧ (State.setBackup b s).trims = s.trims ∧
    (State.setBackup b s).critical = s.critical ∧ (State.setBackup b s).ports = s.ports ∧
    (State.setBackup b s).stations = s.stations ∧ (State.setBackup b s).net = s.net ∧
    (State.setBackup b s).trust = s.trust ∧ (State.setBackup b s).memErrors = s.memErrors ∧
    (State.setBackup b s).stalls = s.stalls :=
  by and_intros <;> rfl

@[simp] theorem State.dropMem_fields (a n : Nat) (s : State) :
    (State.dropMem a n s).mem = (skeep (fun x => !(a ≤ x && x < a + n)) s.mem) ∧
    (State.dropMem a n s).pending = s.pending ∧ (State.dropMem a n s).free = s.free ∧
    (State.dropMem a n s).resp = s.resp ∧ (State.dropMem a n s).regs = s.regs ∧ (State.dropMem a n s).sent = s.sent ∧
    (State.dropMem a n s).time = s.time ∧ (State.dropMem a n s).power = s.power ∧
    (State.dropMem a n s).pair = s.pair ∧ (State.dropMem a n s).anvil = s.anvil ∧
    (State.dropMem a n s).recorder = s.recorder ∧ (State.dropMem a n s).ledger = s.ledger ∧
    (State.dropMem a n s).cores = s.cores ∧ (State.dropMem a n s).tic = s.tic ∧
    (State.dropMem a n s).triads = s.triads ∧ (State.dropMem a n s).dma = s.dma ∧
    (State.dropMem a n s).crossings = s.crossings ∧ (State.dropMem a n s).islandsOff = s.islandsOff ∧
    (State.dropMem a n s).holdover = s.holdover ∧ (State.dropMem a n s).dramReady = s.dramReady ∧
    (State.dropMem a n s).bellows = s.bellows ∧ (State.dropMem a n s).backup = s.backup ∧
    (State.dropMem a n s).start = s.start ∧ (State.dropMem a n s).grid = s.grid ∧
    (State.dropMem a n s).change = s.change ∧ (State.dropMem a n s).force = s.force ∧
    (State.dropMem a n s).slices = s.slices ∧ (State.dropMem a n s).groups = s.groups ∧
    (State.dropMem a n s).trims = s.trims ∧ (State.dropMem a n s).critical = s.critical ∧
    (State.dropMem a n s).ports = s.ports ∧ (State.dropMem a n s).stations = s.stations ∧
    (State.dropMem a n s).net = s.net ∧ (State.dropMem a n s).trust = s.trust ∧
    (State.dropMem a n s).memErrors = s.memErrors ∧ (State.dropMem a n s).stalls = s.stalls :=
  by and_intros <;> rfl

@[simp] theorem State.clearPending_fields (x : Nat) (s : State) :
    (State.clearPending x s).tic = (s.tic.filter fun e => s.srcTarget e.1 != x) ∧
    (State.clearPending x s).pending = s.pending ∧ (State.clearPending x s).free = s.free ∧
    (State.clearPending x s).resp = s.resp ∧ (State.clearPending x s).regs = s.regs ∧
    (State.clearPending x s).mem = s.mem ∧ (State.clearPending x s).sent = s.sent ∧
    (State.clearPending x s).time = s.time ∧ (State.clearPending x s).power = s.power ∧
    (State.clearPending x s).pair = s.pair ∧ (State.clearPending x s).anvil = s.anvil ∧
    (State.clearPending x s).recorder = s.recorder ∧ (State.clearPending x s).ledger = s.ledger ∧
    (State.clearPending x s).cores = s.cores ∧ (State.clearPending x s).triads = s.triads ∧
    (State.clearPending x s).dma = s.dma ∧ (State.clearPending x s).crossings = s.crossings ∧
    (State.clearPending x s).islandsOff = s.islandsOff ∧ (State.clearPending x s).holdover = s.holdover ∧
    (State.clearPending x s).dramReady = s.dramReady ∧ (State.clearPending x s).bellows = s.bellows ∧
    (State.clearPending x s).backup = s.backup ∧ (State.clearPending x s).start = s.start ∧
    (State.clearPending x s).grid = s.grid ∧ (State.clearPending x s).change = s.change ∧
    (State.clearPending x s).force = s.force ∧ (State.clearPending x s).slices = s.slices ∧
    (State.clearPending x s).groups = s.groups ∧ (State.clearPending x s).trims = s.trims ∧
    (State.clearPending x s).critical = s.critical ∧ (State.clearPending x s).ports = s.ports ∧
    (State.clearPending x s).stations = s.stations ∧ (State.clearPending x s).net = s.net ∧
    (State.clearPending x s).trust = s.trust ∧ (State.clearPending x s).memErrors = s.memErrors ∧
    (State.clearPending x s).stalls = s.stalls :=
  by and_intros <;> rfl

@[simp] theorem State.dropCrossings_fields (i : Nat) (s : State) :
    (State.dropCrossings i s).crossings = (skeep (fun k => k / 64 != i && k % 64 != i) s.crossings) ∧
    (State.dropCrossings i s).pending = s.pending ∧ (State.dropCrossings i s).free = s.free ∧
    (State.dropCrossings i s).resp = s.resp ∧ (State.dropCrossings i s).regs = s.regs ∧
    (State.dropCrossings i s).mem = s.mem ∧ (State.dropCrossings i s).sent = s.sent ∧
    (State.dropCrossings i s).time = s.time ∧ (State.dropCrossings i s).power = s.power ∧
    (State.dropCrossings i s).pair = s.pair ∧ (State.dropCrossings i s).anvil = s.anvil ∧
    (State.dropCrossings i s).recorder = s.recorder ∧ (State.dropCrossings i s).ledger = s.ledger ∧
    (State.dropCrossings i s).cores = s.cores ∧ (State.dropCrossings i s).tic = s.tic ∧
    (State.dropCrossings i s).triads = s.triads ∧ (State.dropCrossings i s).dma = s.dma ∧
    (State.dropCrossings i s).islandsOff = s.islandsOff ∧ (State.dropCrossings i s).holdover = s.holdover ∧
    (State.dropCrossings i s).dramReady = s.dramReady ∧ (State.dropCrossings i s).bellows = s.bellows ∧
    (State.dropCrossings i s).backup = s.backup ∧ (State.dropCrossings i s).start = s.start ∧
    (State.dropCrossings i s).grid = s.grid ∧ (State.dropCrossings i s).change = s.change ∧
    (State.dropCrossings i s).force = s.force ∧ (State.dropCrossings i s).slices = s.slices ∧
    (State.dropCrossings i s).groups = s.groups ∧ (State.dropCrossings i s).trims = s.trims ∧
    (State.dropCrossings i s).critical = s.critical ∧ (State.dropCrossings i s).ports = s.ports ∧
    (State.dropCrossings i s).stations = s.stations ∧ (State.dropCrossings i s).net = s.net ∧
    (State.dropCrossings i s).trust = s.trust ∧ (State.dropCrossings i s).memErrors = s.memErrors ∧
    (State.dropCrossings i s).stalls = s.stalls :=
  by and_intros <;> rfl

@[simp] theorem State.setBellows_fields (b : Bellows) (s : State) :
    (State.setBellows b s).bellows = (b) ∧ (State.setBellows b s).pending = s.pending ∧
    (State.setBellows b s).free = s.free ∧ (State.setBellows b s).resp = s.resp ∧
    (State.setBellows b s).regs = s.regs ∧ (State.setBellows b s).mem = s.mem ∧
    (State.setBellows b s).sent = s.sent ∧ (State.setBellows b s).time = s.time ∧
    (State.setBellows b s).power = s.power ∧ (State.setBellows b s).pair = s.pair ∧
    (State.setBellows b s).anvil = s.anvil ∧ (State.setBellows b s).recorder = s.recorder ∧
    (State.setBellows b s).ledger = s.ledger ∧ (State.setBellows b s).cores = s.cores ∧
    (State.setBellows b s).tic = s.tic ∧ (State.setBellows b s).triads = s.triads ∧
    (State.setBellows b s).dma = s.dma ∧ (State.setBellows b s).crossings = s.crossings ∧
    (State.setBellows b s).islandsOff = s.islandsOff ∧ (State.setBellows b s).holdover = s.holdover ∧
    (State.setBellows b s).dramReady = s.dramReady ∧ (State.setBellows b s).backup = s.backup ∧
    (State.setBellows b s).start = s.start ∧ (State.setBellows b s).grid = s.grid ∧
    (State.setBellows b s).change = s.change ∧ (State.setBellows b s).force = s.force ∧
    (State.setBellows b s).slices = s.slices ∧ (State.setBellows b s).groups = s.groups ∧
    (State.setBellows b s).trims = s.trims ∧ (State.setBellows b s).critical = s.critical ∧
    (State.setBellows b s).ports = s.ports ∧ (State.setBellows b s).stations = s.stations ∧
    (State.setBellows b s).net = s.net ∧ (State.setBellows b s).trust = s.trust ∧
    (State.setBellows b s).memErrors = s.memErrors ∧ (State.setBellows b s).stalls = s.stalls :=
  by and_intros <;> rfl

@[simp] theorem State.setSlice_fields (g i : Nat) (v : Slice) (s : State) :
    (State.setSlice g i v s).slices = (sset (fun _ => {}) s.slices (17 * g + i) v) ∧
    (State.setSlice g i v s).pending = s.pending ∧ (State.setSlice g i v s).free = s.free ∧
    (State.setSlice g i v s).resp = s.resp ∧ (State.setSlice g i v s).regs = s.regs ∧
    (State.setSlice g i v s).mem = s.mem ∧ (State.setSlice g i v s).sent = s.sent ∧
    (State.setSlice g i v s).time = s.time ∧ (State.setSlice g i v s).power = s.power ∧
    (State.setSlice g i v s).pair = s.pair ∧ (State.setSlice g i v s).anvil = s.anvil ∧
    (State.setSlice g i v s).recorder = s.recorder ∧ (State.setSlice g i v s).ledger = s.ledger ∧
    (State.setSlice g i v s).cores = s.cores ∧ (State.setSlice g i v s).tic = s.tic ∧
    (State.setSlice g i v s).triads = s.triads ∧ (State.setSlice g i v s).dma = s.dma ∧
    (State.setSlice g i v s).crossings = s.crossings ∧ (State.setSlice g i v s).islandsOff = s.islandsOff ∧
    (State.setSlice g i v s).holdover = s.holdover ∧ (State.setSlice g i v s).dramReady = s.dramReady ∧
    (State.setSlice g i v s).bellows = s.bellows ∧ (State.setSlice g i v s).backup = s.backup ∧
    (State.setSlice g i v s).start = s.start ∧ (State.setSlice g i v s).grid = s.grid ∧
    (State.setSlice g i v s).change = s.change ∧ (State.setSlice g i v s).force = s.force ∧
    (State.setSlice g i v s).groups = s.groups ∧ (State.setSlice g i v s).trims = s.trims ∧
    (State.setSlice g i v s).critical = s.critical ∧ (State.setSlice g i v s).ports = s.ports ∧
    (State.setSlice g i v s).stations = s.stations ∧ (State.setSlice g i v s).net = s.net ∧
    (State.setSlice g i v s).trust = s.trust ∧ (State.setSlice g i v s).memErrors = s.memErrors ∧
    (State.setSlice g i v s).stalls = s.stalls :=
  by and_intros <;> rfl

@[simp] theorem State.setStation_fields (n : Nat) (v : Station) (s : State) :
    (State.setStation n v s).stations = (sset (fun _ => {}) s.stations n v) ∧
    (State.setStation n v s).pending = s.pending ∧ (State.setStation n v s).free = s.free ∧
    (State.setStation n v s).resp = s.resp ∧ (State.setStation n v s).regs = s.regs ∧
    (State.setStation n v s).mem = s.mem ∧ (State.setStation n v s).sent = s.sent ∧
    (State.setStation n v s).time = s.time ∧ (State.setStation n v s).power = s.power ∧
    (State.setStation n v s).pair = s.pair ∧ (State.setStation n v s).anvil = s.anvil ∧
    (State.setStation n v s).recorder = s.recorder ∧ (State.setStation n v s).ledger = s.ledger ∧
    (State.setStation n v s).cores = s.cores ∧ (State.setStation n v s).tic = s.tic ∧
    (State.setStation n v s).triads = s.triads ∧ (State.setStation n v s).dma = s.dma ∧
    (State.setStation n v s).crossings = s.crossings ∧ (State.setStation n v s).islandsOff = s.islandsOff ∧
    (State.setStation n v s).holdover = s.holdover ∧ (State.setStation n v s).dramReady = s.dramReady ∧
    (State.setStation n v s).bellows = s.bellows ∧ (State.setStation n v s).backup = s.backup ∧
    (State.setStation n v s).start = s.start ∧ (State.setStation n v s).grid = s.grid ∧
    (State.setStation n v s).change = s.change ∧ (State.setStation n v s).force = s.force ∧
    (State.setStation n v s).slices = s.slices ∧ (State.setStation n v s).groups = s.groups ∧
    (State.setStation n v s).trims = s.trims ∧ (State.setStation n v s).critical = s.critical ∧
    (State.setStation n v s).ports = s.ports ∧ (State.setStation n v s).net = s.net ∧
    (State.setStation n v s).trust = s.trust ∧ (State.setStation n v s).memErrors = s.memErrors ∧
    (State.setStation n v s).stalls = s.stalls :=
  by and_intros <;> rfl

@[simp] theorem State.setNet_fields (v : Net) (s : State) :
    (State.setNet v s).net = (v) ∧ (State.setNet v s).pending = s.pending ∧ (State.setNet v s).free = s.free ∧
    (State.setNet v s).resp = s.resp ∧ (State.setNet v s).regs = s.regs ∧ (State.setNet v s).mem = s.mem ∧
    (State.setNet v s).sent = s.sent ∧ (State.setNet v s).time = s.time ∧ (State.setNet v s).power = s.power ∧
    (State.setNet v s).pair = s.pair ∧ (State.setNet v s).anvil = s.anvil ∧
    (State.setNet v s).recorder = s.recorder ∧ (State.setNet v s).ledger = s.ledger ∧
    (State.setNet v s).cores = s.cores ∧ (State.setNet v s).tic = s.tic ∧ (State.setNet v s).triads = s.triads ∧
    (State.setNet v s).dma = s.dma ∧ (State.setNet v s).crossings = s.crossings ∧
    (State.setNet v s).islandsOff = s.islandsOff ∧ (State.setNet v s).holdover = s.holdover ∧
    (State.setNet v s).dramReady = s.dramReady ∧ (State.setNet v s).bellows = s.bellows ∧
    (State.setNet v s).backup = s.backup ∧ (State.setNet v s).start = s.start ∧ (State.setNet v s).grid = s.grid ∧
    (State.setNet v s).change = s.change ∧ (State.setNet v s).force = s.force ∧
    (State.setNet v s).slices = s.slices ∧ (State.setNet v s).groups = s.groups ∧
    (State.setNet v s).trims = s.trims ∧ (State.setNet v s).critical = s.critical ∧
    (State.setNet v s).ports = s.ports ∧ (State.setNet v s).stations = s.stations ∧
    (State.setNet v s).trust = s.trust ∧ (State.setNet v s).memErrors = s.memErrors ∧
    (State.setNet v s).stalls = s.stalls :=
  by and_intros <;> rfl

@[simp] theorem State.setGrid_fields (v : Grid) (s : State) :
    (State.setGrid v s).grid = (v) ∧ (State.setGrid v s).pending = s.pending ∧ (State.setGrid v s).free = s.free ∧
    (State.setGrid v s).resp = s.resp ∧ (State.setGrid v s).regs = s.regs ∧ (State.setGrid v s).mem = s.mem ∧
    (State.setGrid v s).sent = s.sent ∧ (State.setGrid v s).time = s.time ∧ (State.setGrid v s).power = s.power ∧
    (State.setGrid v s).pair = s.pair ∧ (State.setGrid v s).anvil = s.anvil ∧
    (State.setGrid v s).recorder = s.recorder ∧ (State.setGrid v s).ledger = s.ledger ∧
    (State.setGrid v s).cores = s.cores ∧ (State.setGrid v s).tic = s.tic ∧ (State.setGrid v s).triads = s.triads ∧
    (State.setGrid v s).dma = s.dma ∧ (State.setGrid v s).crossings = s.crossings ∧
    (State.setGrid v s).islandsOff = s.islandsOff ∧ (State.setGrid v s).holdover = s.holdover ∧
    (State.setGrid v s).dramReady = s.dramReady ∧ (State.setGrid v s).bellows = s.bellows ∧
    (State.setGrid v s).backup = s.backup ∧ (State.setGrid v s).start = s.start ∧
    (State.setGrid v s).change = s.change ∧ (State.setGrid v s).force = s.force ∧
    (State.setGrid v s).slices = s.slices ∧ (State.setGrid v s).groups = s.groups ∧
    (State.setGrid v s).trims = s.trims ∧ (State.setGrid v s).critical = s.critical ∧
    (State.setGrid v s).ports = s.ports ∧ (State.setGrid v s).stations = s.stations ∧
    (State.setGrid v s).net = s.net ∧ (State.setGrid v s).trust = s.trust ∧
    (State.setGrid v s).memErrors = s.memErrors ∧ (State.setGrid v s).stalls = s.stalls :=
  by and_intros <;> rfl

@[simp] theorem State.setChange_fields (v : Change) (s : State) :
    (State.setChange v s).change = (v) ∧ (State.setChange v s).pending = s.pending ∧
    (State.setChange v s).free = s.free ∧ (State.setChange v s).resp = s.resp ∧ (State.setChange v s).regs = s.regs ∧
    (State.setChange v s).mem = s.mem ∧ (State.setChange v s).sent = s.sent ∧ (State.setChange v s).time = s.time ∧
    (State.setChange v s).power = s.power ∧ (State.setChange v s).pair = s.pair ∧
    (State.setChange v s).anvil = s.anvil ∧ (State.setChange v s).recorder = s.recorder ∧
    (State.setChange v s).ledger = s.ledger ∧ (State.setChange v s).cores = s.cores ∧
    (State.setChange v s).tic = s.tic ∧ (State.setChange v s).triads = s.triads ∧ (State.setChange v s).dma = s.dma ∧
    (State.setChange v s).crossings = s.crossings ∧ (State.setChange v s).islandsOff = s.islandsOff ∧
    (State.setChange v s).holdover = s.holdover ∧ (State.setChange v s).dramReady = s.dramReady ∧
    (State.setChange v s).bellows = s.bellows ∧ (State.setChange v s).backup = s.backup ∧
    (State.setChange v s).start = s.start ∧ (State.setChange v s).grid = s.grid ∧
    (State.setChange v s).force = s.force ∧ (State.setChange v s).slices = s.slices ∧
    (State.setChange v s).groups = s.groups ∧ (State.setChange v s).trims = s.trims ∧
    (State.setChange v s).critical = s.critical ∧ (State.setChange v s).ports = s.ports ∧
    (State.setChange v s).stations = s.stations ∧ (State.setChange v s).net = s.net ∧
    (State.setChange v s).trust = s.trust ∧ (State.setChange v s).memErrors = s.memErrors ∧
    (State.setChange v s).stalls = s.stalls :=
  by and_intros <;> rfl


end Sys2Proof.Machine
end

