-- ==== Sys2Proof/Laws/Shared.lean ====
section
/-!
SUPPORT. The operations that registers, memory, sources and records share: which parts of the state each leaves alone.
-/
namespace Sys2Proof.Machine

/-- What every step of a fold leaves alone, the fold leaves alone. -/
theorem foldl_keeps {α β : Type} (p : State → β) (g : State → α → State) (h : ∀ s a, p (g s a) = p s) (l : List α) (s : State) :
    p (l.foldl g s) = p s := by
  induction l generalizing s with
  | nil => rfl
  | cons a l ih => exact (ih _).trans (h _ _)

@[simp] theorem State.pokeBytes_frame (a : Nat) (l : List W8) (s : State) :
    (State.pokeBytes a l s).pending = s.pending ∧
    (State.pokeBytes a l s).free = s.free ∧
    (State.pokeBytes a l s).resp = s.resp ∧
    (State.pokeBytes a l s).regs = s.regs ∧
    (State.pokeBytes a l s).sent = s.sent ∧
    (State.pokeBytes a l s).time = s.time ∧
    (State.pokeBytes a l s).power = s.power ∧
    (State.pokeBytes a l s).pair = s.pair ∧
    (State.pokeBytes a l s).anvil = s.anvil ∧
    (State.pokeBytes a l s).recorder = s.recorder ∧
    (State.pokeBytes a l s).ledger = s.ledger ∧
    (State.pokeBytes a l s).cores = s.cores ∧
    (State.pokeBytes a l s).tic = s.tic ∧
    (State.pokeBytes a l s).triads = s.triads ∧
    (State.pokeBytes a l s).dma = s.dma ∧
    (State.pokeBytes a l s).crossings = s.crossings ∧
    (State.pokeBytes a l s).islandsOff = s.islandsOff ∧
    (State.pokeBytes a l s).holdover = s.holdover ∧
    (State.pokeBytes a l s).dramReady = s.dramReady ∧
    (State.pokeBytes a l s).bellows = s.bellows ∧
    (State.pokeBytes a l s).backup = s.backup ∧
    (State.pokeBytes a l s).start = s.start ∧
    (State.pokeBytes a l s).grid = s.grid ∧
    (State.pokeBytes a l s).change = s.change ∧
    (State.pokeBytes a l s).force = s.force ∧
    (State.pokeBytes a l s).slices = s.slices ∧
    (State.pokeBytes a l s).groups = s.groups ∧
    (State.pokeBytes a l s).trims = s.trims ∧
    (State.pokeBytes a l s).critical = s.critical ∧
    (State.pokeBytes a l s).ports = s.ports ∧
    (State.pokeBytes a l s).stations = s.stations ∧
    (State.pokeBytes a l s).net = s.net ∧
    (State.pokeBytes a l s).trust = s.trust ∧
    (State.pokeBytes a l s).memErrors = s.memErrors ∧
    (State.pokeBytes a l s).stalls = s.stalls := by
  induction l generalizing a s with
  | nil => simp [State.pokeBytes]
  | cons b l ih => simp [State.pokeBytes, ih]

@[simp] theorem State.wrF_frame (a lo n v : Nat) (s : State) :
    (State.wrF a lo n v s).pending = s.pending ∧ (State.wrF a lo n v s).free = s.free ∧
    (State.wrF a lo n v s).resp = s.resp ∧ (State.wrF a lo n v s).mem = s.mem ∧
    (State.wrF a lo n v s).sent = s.sent ∧ (State.wrF a lo n v s).time = s.time ∧
    (State.wrF a lo n v s).power = s.power ∧ (State.wrF a lo n v s).pair = s.pair ∧
    (State.wrF a lo n v s).anvil = s.anvil ∧ (State.wrF a lo n v s).recorder = s.recorder ∧
    (State.wrF a lo n v s).ledger = s.ledger ∧ (State.wrF a lo n v s).cores = s.cores ∧
    (State.wrF a lo n v s).tic = s.tic ∧ (State.wrF a lo n v s).triads = s.triads ∧
    (State.wrF a lo n v s).dma = s.dma ∧ (State.wrF a lo n v s).crossings = s.crossings ∧
    (State.wrF a lo n v s).islandsOff = s.islandsOff ∧ (State.wrF a lo n v s).holdover = s.holdover ∧
    (State.wrF a lo n v s).dramReady = s.dramReady ∧ (State.wrF a lo n v s).bellows = s.bellows ∧
    (State.wrF a lo n v s).backup = s.backup ∧ (State.wrF a lo n v s).start = s.start ∧
    (State.wrF a lo n v s).grid = s.grid ∧ (State.wrF a lo n v s).change = s.change ∧
    (State.wrF a lo n v s).force = s.force ∧ (State.wrF a lo n v s).slices = s.slices ∧
    (State.wrF a lo n v s).groups = s.groups ∧ (State.wrF a lo n v s).trims = s.trims ∧
    (State.wrF a lo n v s).critical = s.critical ∧ (State.wrF a lo n v s).ports = s.ports ∧
    (State.wrF a lo n v s).stations = s.stations ∧ (State.wrF a lo n v s).net = s.net ∧
    (State.wrF a lo n v s).trust = s.trust ∧ (State.wrF a lo n v s).memErrors = s.memErrors ∧
    (State.wrF a lo n v s).stalls = s.stalls :=
  by
  unfold State.wrF
  (try dsimp only)
  (repeat' split) <;> simp

@[simp] theorem State.wrB_frame (a i : Nat) (b : Bool) (s : State) :
    (State.wrB a i b s).pending = s.pending ∧ (State.wrB a i b s).free = s.free ∧ (State.wrB a i b s).resp = s.resp ∧
    (State.wrB a i b s).mem = s.mem ∧ (State.wrB a i b s).sent = s.sent ∧ (State.wrB a i b s).time = s.time ∧
    (State.wrB a i b s).power = s.power ∧ (State.wrB a i b s).pair = s.pair ∧ (State.wrB a i b s).anvil = s.anvil ∧
    (State.wrB a i b s).recorder = s.recorder ∧ (State.wrB a i b s).ledger = s.ledger ∧
    (State.wrB a i b s).cores = s.cores ∧ (State.wrB a i b s).tic = s.tic ∧ (State.wrB a i b s).triads = s.triads ∧
    (State.wrB a i b s).dma = s.dma ∧ (State.wrB a i b s).crossings = s.crossings ∧
    (State.wrB a i b s).islandsOff = s.islandsOff ∧ (State.wrB a i b s).holdover = s.holdover ∧
    (State.wrB a i b s).dramReady = s.dramReady ∧ (State.wrB a i b s).bellows = s.bellows ∧
    (State.wrB a i b s).backup = s.backup ∧ (State.wrB a i b s).start = s.start ∧ (State.wrB a i b s).grid = s.grid ∧
    (State.wrB a i b s).change = s.change ∧ (State.wrB a i b s).force = s.force ∧
    (State.wrB a i b s).slices = s.slices ∧ (State.wrB a i b s).groups = s.groups ∧
    (State.wrB a i b s).trims = s.trims ∧ (State.wrB a i b s).critical = s.critical ∧
    (State.wrB a i b s).ports = s.ports ∧ (State.wrB a i b s).stations = s.stations ∧
    (State.wrB a i b s).net = s.net ∧ (State.wrB a i b s).trust = s.trust ∧
    (State.wrB a i b s).memErrors = s.memErrors ∧ (State.wrB a i b s).stalls = s.stalls :=
  by
  unfold State.wrB
  (try dsimp only)
  (repeat' split) <;> simp

@[simp] theorem State.orR_frame (a : Nat) (m : W32) (s : State) :
    (State.orR a m s).pending = s.pending ∧ (State.orR a m s).free = s.free ∧ (State.orR a m s).resp = s.resp ∧
    (State.orR a m s).mem = s.mem ∧ (State.orR a m s).sent = s.sent ∧ (State.orR a m s).time = s.time ∧
    (State.orR a m s).power = s.power ∧ (State.orR a m s).pair = s.pair ∧ (State.orR a m s).anvil = s.anvil ∧
    (State.orR a m s).recorder = s.recorder ∧ (State.orR a m s).ledger = s.ledger ∧
    (State.orR a m s).cores = s.cores ∧ (State.orR a m s).tic = s.tic ∧ (State.orR a m s).triads = s.triads ∧
    (State.orR a m s).dma = s.dma ∧ (State.orR a m s).crossings = s.crossings ∧
    (State.orR a m s).islandsOff = s.islandsOff ∧ (State.orR a m s).holdover = s.holdover ∧
    (State.orR a m s).dramReady = s.dramReady ∧ (State.orR a m s).bellows = s.bellows ∧
    (State.orR a m s).backup = s.backup ∧ (State.orR a m s).start = s.start ∧ (State.orR a m s).grid = s.grid ∧
    (State.orR a m s).change = s.change ∧ (State.orR a m s).force = s.force ∧ (State.orR a m s).slices = s.slices ∧
    (State.orR a m s).groups = s.groups ∧ (State.orR a m s).trims = s.trims ∧
    (State.orR a m s).critical = s.critical ∧ (State.orR a m s).ports = s.ports ∧
    (State.orR a m s).stations = s.stations ∧ (State.orR a m s).net = s.net ∧ (State.orR a m s).trust = s.trust ∧
    (State.orR a m s).memErrors = s.memErrors ∧ (State.orR a m s).stalls = s.stalls :=
  by
  unfold State.orR
  (try dsimp only)
  (repeat' split) <;> simp

@[simp] theorem State.incF_frame (a lo n : Nat) (s : State) :
    (State.incF a lo n s).pending = s.pending ∧ (State.incF a lo n s).free = s.free ∧
    (State.incF a lo n s).resp = s.resp ∧ (State.incF a lo n s).mem = s.mem ∧ (State.incF a lo n s).sent = s.sent ∧
    (State.incF a lo n s).time = s.time ∧ (State.incF a lo n s).power = s.power ∧
    (State.incF a lo n s).pair = s.pair ∧ (State.incF a lo n s).anvil = s.anvil ∧
    (State.incF a lo n s).recorder = s.recorder ∧ (State.incF a lo n s).ledger = s.ledger ∧
    (State.incF a lo n s).cores = s.cores ∧ (State.incF a lo n s).tic = s.tic ∧
    (State.incF a lo n s).triads = s.triads ∧ (State.incF a lo n s).dma = s.dma ∧
    (State.incF a lo n s).crossings = s.crossings ∧ (State.incF a lo n s).islandsOff = s.islandsOff ∧
    (State.incF a lo n s).holdover = s.holdover ∧ (State.incF a lo n s).dramReady = s.dramReady ∧
    (State.incF a lo n s).bellows = s.bellows ∧ (State.incF a lo n s).backup = s.backup ∧
    (State.incF a lo n s).start = s.start ∧ (State.incF a lo n s).grid = s.grid ∧
    (State.incF a lo n s).change = s.change ∧ (State.incF a lo n s).force = s.force ∧
    (State.incF a lo n s).slices = s.slices ∧ (State.incF a lo n s).groups = s.groups ∧
    (State.incF a lo n s).trims = s.trims ∧ (State.incF a lo n s).critical = s.critical ∧
    (State.incF a lo n s).ports = s.ports ∧ (State.incF a lo n s).stations = s.stations ∧
    (State.incF a lo n s).net = s.net ∧ (State.incF a lo n s).trust = s.trust ∧
    (State.incF a lo n s).memErrors = s.memErrors ∧ (State.incF a lo n s).stalls = s.stalls :=
  by
  unfold State.incF
  (try dsimp only)
  (repeat' split) <;> simp

@[simp] theorem State.wr64_frame (lo hi : Nat) (v : W64) (s : State) :
    (State.wr64 lo hi v s).pending = s.pending ∧ (State.wr64 lo hi v s).free = s.free ∧
    (State.wr64 lo hi v s).resp = s.resp ∧ (State.wr64 lo hi v s).mem = s.mem ∧
    (State.wr64 lo hi v s).sent = s.sent ∧ (State.wr64 lo hi v s).time = s.time ∧
    (State.wr64 lo hi v s).power = s.power ∧ (State.wr64 lo hi v s).pair = s.pair ∧
    (State.wr64 lo hi v s).anvil = s.anvil ∧ (State.wr64 lo hi v s).recorder = s.recorder ∧
    (State.wr64 lo hi v s).ledger = s.ledger ∧ (State.wr64 lo hi v s).cores = s.cores ∧
    (State.wr64 lo hi v s).tic = s.tic ∧ (State.wr64 lo hi v s).triads = s.triads ∧
    (State.wr64 lo hi v s).dma = s.dma ∧ (State.wr64 lo hi v s).crossings = s.crossings ∧
    (State.wr64 lo hi v s).islandsOff = s.islandsOff ∧ (State.wr64 lo hi v s).holdover = s.holdover ∧
    (State.wr64 lo hi v s).dramReady = s.dramReady ∧ (State.wr64 lo hi v s).bellows = s.bellows ∧
    (State.wr64 lo hi v s).backup = s.backup ∧ (State.wr64 lo hi v s).start = s.start ∧
    (State.wr64 lo hi v s).grid = s.grid ∧ (State.wr64 lo hi v s).change = s.change ∧
    (State.wr64 lo hi v s).force = s.force ∧ (State.wr64 lo hi v s).slices = s.slices ∧
    (State.wr64 lo hi v s).groups = s.groups ∧ (State.wr64 lo hi v s).trims = s.trims ∧
    (State.wr64 lo hi v s).critical = s.critical ∧ (State.wr64 lo hi v s).ports = s.ports ∧
    (State.wr64 lo hi v s).stations = s.stations ∧ (State.wr64 lo hi v s).net = s.net ∧
    (State.wr64 lo hi v s).trust = s.trust ∧ (State.wr64 lo hi v s).memErrors = s.memErrors ∧
    (State.wr64 lo hi v s).stalls = s.stalls :=
  by
  unfold State.wr64
  (try dsimp only)
  (repeat' split) <;> simp

@[simp] theorem State.emit_frame (m : Sent) (s : State) :
    (State.emit m s).pending = s.pending ∧ (State.emit m s).free = s.free ∧ (State.emit m s).resp = s.resp ∧
    (State.emit m s).regs = s.regs ∧ (State.emit m s).mem = s.mem ∧ (State.emit m s).time = s.time ∧
    (State.emit m s).power = s.power ∧ (State.emit m s).pair = s.pair ∧ (State.emit m s).anvil = s.anvil ∧
    (State.emit m s).recorder = s.recorder ∧ (State.emit m s).ledger = s.ledger ∧ (State.emit m s).cores = s.cores ∧
    (State.emit m s).tic = s.tic ∧ (State.emit m s).triads = s.triads ∧ (State.emit m s).dma = s.dma ∧
    (State.emit m s).crossings = s.crossings ∧ (State.emit m s).islandsOff = s.islandsOff ∧
    (State.emit m s).holdover = s.holdover ∧ (State.emit m s).dramReady = s.dramReady ∧
    (State.emit m s).bellows = s.bellows ∧ (State.emit m s).backup = s.backup ∧ (State.emit m s).start = s.start ∧
    (State.emit m s).grid = s.grid ∧ (State.emit m s).change = s.change ∧ (State.emit m s).force = s.force ∧
    (State.emit m s).slices = s.slices ∧ (State.emit m s).groups = s.groups ∧ (State.emit m s).trims = s.trims ∧
    (State.emit m s).critical = s.critical ∧ (State.emit m s).ports = s.ports ∧
    (State.emit m s).stations = s.stations ∧ (State.emit m s).net = s.net ∧ (State.emit m s).trust = s.trust ∧
    (State.emit m s).memErrors = s.memErrors ∧ (State.emit m s).stalls = s.stalls :=
  by
  unfold State.emit
  (try dsimp only)
  (repeat' split) <;> simp

@[simp] theorem State.poke_frame (a n v : Nat) (s : State) :
    (State.poke a n v s).pending = s.pending ∧ (State.poke a n v s).free = s.free ∧
    (State.poke a n v s).resp = s.resp ∧ (State.poke a n v s).regs = s.regs ∧ (State.poke a n v s).sent = s.sent ∧
    (State.poke a n v s).time = s.time ∧ (State.poke a n v s).power = s.power ∧ (State.poke a n v s).pair = s.pair ∧
    (State.poke a n v s).anvil = s.anvil ∧ (State.poke a n v s).recorder = s.recorder ∧
    (State.poke a n v s).ledger = s.ledger ∧ (State.poke a n v s).cores = s.cores ∧
    (State.poke a n v s).tic = s.tic ∧ (State.poke a n v s).triads = s.triads ∧ (State.poke a n v s).dma = s.dma ∧
    (State.poke a n v s).crossings = s.crossings ∧ (State.poke a n v s).islandsOff = s.islandsOff ∧
    (State.poke a n v s).holdover = s.holdover ∧ (State.poke a n v s).dramReady = s.dramReady ∧
    (State.poke a n v s).bellows = s.bellows ∧ (State.poke a n v s).backup = s.backup ∧
    (State.poke a n v s).start = s.start ∧ (State.poke a n v s).grid = s.grid ∧
    (State.poke a n v s).change = s.change ∧ (State.poke a n v s).force = s.force ∧
    (State.poke a n v s).slices = s.slices ∧ (State.poke a n v s).groups = s.groups ∧
    (State.poke a n v s).trims = s.trims ∧ (State.poke a n v s).critical = s.critical ∧
    (State.poke a n v s).ports = s.ports ∧ (State.poke a n v s).stations = s.stations ∧
    (State.poke a n v s).net = s.net ∧ (State.poke a n v s).trust = s.trust ∧
    (State.poke a n v s).memErrors = s.memErrors ∧ (State.poke a n v s).stalls = s.stalls :=
  State.pokeBytes_frame _ _ _

@[simp] theorem State.markLine_frame (line : Nat) (s : State) :
    (State.markLine line s).pending = s.pending ∧ (State.markLine line s).free = s.free ∧
    (State.markLine line s).resp = s.resp ∧ (State.markLine line s).regs = s.regs ∧
    (State.markLine line s).mem = s.mem ∧ (State.markLine line s).sent = s.sent ∧
    (State.markLine line s).time = s.time ∧ (State.markLine line s).power = s.power ∧
    (State.markLine line s).pair = s.pair ∧ (State.markLine line s).recorder = s.recorder ∧
    (State.markLine line s).ledger = s.ledger ∧ (State.markLine line s).cores = s.cores ∧
    (State.markLine line s).tic = s.tic ∧ (State.markLine line s).triads = s.triads ∧
    (State.markLine line s).dma = s.dma ∧ (State.markLine line s).crossings = s.crossings ∧
    (State.markLine line s).islandsOff = s.islandsOff ∧ (State.markLine line s).holdover = s.holdover ∧
    (State.markLine line s).dramReady = s.dramReady ∧ (State.markLine line s).bellows = s.bellows ∧
    (State.markLine line s).backup = s.backup ∧ (State.markLine line s).start = s.start ∧
    (State.markLine line s).grid = s.grid ∧ (State.markLine line s).change = s.change ∧
    (State.markLine line s).force = s.force ∧ (State.markLine line s).slices = s.slices ∧
    (State.markLine line s).groups = s.groups ∧ (State.markLine line s).trims = s.trims ∧
    (State.markLine line s).critical = s.critical ∧ (State.markLine line s).ports = s.ports ∧
    (State.markLine line s).stations = s.stations ∧ (State.markLine line s).net = s.net ∧
    (State.markLine line s).trust = s.trust ∧ (State.markLine line s).memErrors = s.memErrors ∧
    (State.markLine line s).stalls = s.stalls :=
  by
  unfold State.markLine
  (try dsimp only)
  (repeat' split) <;> simp

@[simp] theorem State.markDirty_frame (a n : Nat) (s : State) :
    (State.markDirty a n s).pending = s.pending ∧ (State.markDirty a n s).free = s.free ∧
    (State.markDirty a n s).resp = s.resp ∧ (State.markDirty a n s).regs = s.regs ∧
    (State.markDirty a n s).mem = s.mem ∧ (State.markDirty a n s).sent = s.sent ∧
    (State.markDirty a n s).time = s.time ∧ (State.markDirty a n s).power = s.power ∧
    (State.markDirty a n s).pair = s.pair ∧ (State.markDirty a n s).recorder = s.recorder ∧
    (State.markDirty a n s).ledger = s.ledger ∧ (State.markDirty a n s).cores = s.cores ∧
    (State.markDirty a n s).tic = s.tic ∧ (State.markDirty a n s).triads = s.triads ∧
    (State.markDirty a n s).dma = s.dma ∧ (State.markDirty a n s).crossings = s.crossings ∧
    (State.markDirty a n s).islandsOff = s.islandsOff ∧ (State.markDirty a n s).holdover = s.holdover ∧
    (State.markDirty a n s).dramReady = s.dramReady ∧ (State.markDirty a n s).bellows = s.bellows ∧
    (State.markDirty a n s).backup = s.backup ∧ (State.markDirty a n s).start = s.start ∧
    (State.markDirty a n s).grid = s.grid ∧ (State.markDirty a n s).change = s.change ∧
    (State.markDirty a n s).force = s.force ∧ (State.markDirty a n s).slices = s.slices ∧
    (State.markDirty a n s).groups = s.groups ∧ (State.markDirty a n s).trims = s.trims ∧
    (State.markDirty a n s).critical = s.critical ∧ (State.markDirty a n s).ports = s.ports ∧
    (State.markDirty a n s).stations = s.stations ∧ (State.markDirty a n s).net = s.net ∧
    (State.markDirty a n s).trust = s.trust ∧ (State.markDirty a n s).memErrors = s.memErrors ∧
    (State.markDirty a n s).stalls = s.stalls :=
  by
  unfold State.markDirty
  split
  · exact ⟨(foldl_keeps State.pending _ (fun s a => by simp) _ _),
      (foldl_keeps State.free _ (fun s a => by simp) _ _),
      (foldl_keeps State.resp _ (fun s a => by simp) _ _),
      (foldl_keeps State.regs _ (fun s a => by simp) _ _),
      (foldl_keeps State.mem _ (fun s a => by simp) _ _),
      (foldl_keeps State.sent _ (fun s a => by simp) _ _),
      (foldl_keeps State.time _ (fun s a => by simp) _ _),
      (foldl_keeps State.power _ (fun s a => by simp) _ _),
      (foldl_keeps State.pair _ (fun s a => by simp) _ _),
      (foldl_keeps State.recorder _ (fun s a => by simp) _ _),
      (foldl_keeps State.ledger _ (fun s a => by simp) _ _),
      (foldl_keeps State.cores _ (fun s a => by simp) _ _),
      (foldl_keeps State.tic _ (fun s a => by simp) _ _),
      (foldl_keeps State.triads _ (fun s a => by simp) _ _),
      (foldl_keeps State.dma _ (fun s a => by simp) _ _),
      (foldl_keeps State.crossings _ (fun s a => by simp) _ _),
      (foldl_keeps State.islandsOff _ (fun s a => by simp) _ _),
      (foldl_keeps State.holdover _ (fun s a => by simp) _ _),
      (foldl_keeps State.dramReady _ (fun s a => by simp) _ _),
      (foldl_keeps State.bellows _ (fun s a => by simp) _ _),
      (foldl_keeps State.backup _ (fun s a => by simp) _ _),
      (foldl_keeps State.start _ (fun s a => by simp) _ _),
      (foldl_keeps State.grid _ (fun s a => by simp) _ _),
      (foldl_keeps State.change _ (fun s a => by simp) _ _),
      (foldl_keeps State.force _ (fun s a => by simp) _ _),
      (foldl_keeps State.slices _ (fun s a => by simp) _ _),
      (foldl_keeps State.groups _ (fun s a => by simp) _ _),
      (foldl_keeps State.trims _ (fun s a => by simp) _ _),
      (foldl_keeps State.critical _ (fun s a => by simp) _ _),
      (foldl_keeps State.ports _ (fun s a => by simp) _ _),
      (foldl_keeps State.stations _ (fun s a => by simp) _ _),
      (foldl_keeps State.net _ (fun s a => by simp) _ _),
      (foldl_keeps State.trust _ (fun s a => by simp) _ _),
      (foldl_keeps State.memErrors _ (fun s a => by simp) _ _),
      (foldl_keeps State.stalls _ (fun s a => by simp) _ _)⟩
  · simp

@[simp] theorem State.store_frame (a : Nat) (bs : List W8) (s : State) :
    (State.store a bs s).pending = s.pending ∧ (State.store a bs s).free = s.free ∧
    (State.store a bs s).resp = s.resp ∧ (State.store a bs s).regs = s.regs ∧ (State.store a bs s).sent = s.sent ∧
    (State.store a bs s).time = s.time ∧ (State.store a bs s).power = s.power ∧ (State.store a bs s).pair = s.pair ∧
    (State.store a bs s).recorder = s.recorder ∧ (State.store a bs s).ledger = s.ledger ∧
    (State.store a bs s).cores = s.cores ∧ (State.store a bs s).tic = s.tic ∧
    (State.store a bs s).triads = s.triads ∧ (State.store a bs s).dma = s.dma ∧
    (State.store a bs s).crossings = s.crossings ∧ (State.store a bs s).islandsOff = s.islandsOff ∧
    (State.store a bs s).holdover = s.holdover ∧ (State.store a bs s).dramReady = s.dramReady ∧
    (State.store a bs s).bellows = s.bellows ∧ (State.store a bs s).backup = s.backup ∧
    (State.store a bs s).start = s.start ∧ (State.store a bs s).grid = s.grid ∧
    (State.store a bs s).change = s.change ∧ (State.store a bs s).force = s.force ∧
    (State.store a bs s).slices = s.slices ∧ (State.store a bs s).groups = s.groups ∧
    (State.store a bs s).trims = s.trims ∧ (State.store a bs s).critical = s.critical ∧
    (State.store a bs s).ports = s.ports ∧ (State.store a bs s).stations = s.stations ∧
    (State.store a bs s).net = s.net ∧ (State.store a bs s).trust = s.trust ∧
    (State.store a bs s).memErrors = s.memErrors ∧ (State.store a bs s).stalls = s.stalls :=
  by
  unfold State.store
  (try dsimp only)
  (repeat' split) <;> simp

@[simp] theorem State.send_frame (f : LinkFrame) (s : State) :
    (State.send f s).pending = s.pending ∧ (State.send f s).free = s.free ∧ (State.send f s).resp = s.resp ∧
    (State.send f s).regs = s.regs ∧ (State.send f s).mem = s.mem ∧ (State.send f s).time = s.time ∧
    (State.send f s).power = s.power ∧ (State.send f s).pair = s.pair ∧ (State.send f s).recorder = s.recorder ∧
    (State.send f s).ledger = s.ledger ∧ (State.send f s).cores = s.cores ∧ (State.send f s).tic = s.tic ∧
    (State.send f s).triads = s.triads ∧ (State.send f s).dma = s.dma ∧ (State.send f s).crossings = s.crossings ∧
    (State.send f s).islandsOff = s.islandsOff ∧ (State.send f s).holdover = s.holdover ∧
    (State.send f s).dramReady = s.dramReady ∧ (State.send f s).bellows = s.bellows ∧
    (State.send f s).backup = s.backup ∧ (State.send f s).start = s.start ∧ (State.send f s).grid = s.grid ∧
    (State.send f s).change = s.change ∧ (State.send f s).force = s.force ∧ (State.send f s).slices = s.slices ∧
    (State.send f s).groups = s.groups ∧ (State.send f s).trims = s.trims ∧ (State.send f s).critical = s.critical ∧
    (State.send f s).ports = s.ports ∧ (State.send f s).stations = s.stations ∧ (State.send f s).net = s.net ∧
    (State.send f s).trust = s.trust ∧ (State.send f s).memErrors = s.memErrors ∧ (State.send f s).stalls = s.stalls :=
  by
  unfold State.send
  (try dsimp only)
  (repeat' split) <;> simp

@[simp] theorem State.again_frame (e : Flight) (s : State) :
    (State.again e s).pending = s.pending ∧ (State.again e s).free = s.free ∧ (State.again e s).resp = s.resp ∧
    (State.again e s).regs = s.regs ∧ (State.again e s).mem = s.mem ∧ (State.again e s).time = s.time ∧
    (State.again e s).power = s.power ∧ (State.again e s).pair = s.pair ∧ (State.again e s).recorder = s.recorder ∧
    (State.again e s).ledger = s.ledger ∧ (State.again e s).cores = s.cores ∧ (State.again e s).tic = s.tic ∧
    (State.again e s).triads = s.triads ∧ (State.again e s).dma = s.dma ∧ (State.again e s).crossings = s.crossings ∧
    (State.again e s).islandsOff = s.islandsOff ∧ (State.again e s).holdover = s.holdover ∧
    (State.again e s).dramReady = s.dramReady ∧ (State.again e s).bellows = s.bellows ∧
    (State.again e s).backup = s.backup ∧ (State.again e s).start = s.start ∧ (State.again e s).grid = s.grid ∧
    (State.again e s).change = s.change ∧ (State.again e s).force = s.force ∧ (State.again e s).slices = s.slices ∧
    (State.again e s).groups = s.groups ∧ (State.again e s).trims = s.trims ∧
    (State.again e s).critical = s.critical ∧ (State.again e s).ports = s.ports ∧
    (State.again e s).stations = s.stations ∧ (State.again e s).net = s.net ∧ (State.again e s).trust = s.trust ∧
    (State.again e s).memErrors = s.memErrors ∧ (State.again e s).stalls = s.stalls :=
  by
  unfold State.again
  (try dsimp only)
  (repeat' split) <;> simp

@[simp] theorem State.heard_frame (s : State) :
    (State.heard s).pending = s.pending ∧ (State.heard s).free = s.free ∧ (State.heard s).resp = s.resp ∧
    (State.heard s).regs = s.regs ∧ (State.heard s).mem = s.mem ∧ (State.heard s).time = s.time ∧
    (State.heard s).power = s.power ∧ (State.heard s).pair = s.pair ∧ (State.heard s).recorder = s.recorder ∧
    (State.heard s).ledger = s.ledger ∧ (State.heard s).cores = s.cores ∧ (State.heard s).tic = s.tic ∧
    (State.heard s).triads = s.triads ∧ (State.heard s).dma = s.dma ∧ (State.heard s).crossings = s.crossings ∧
    (State.heard s).islandsOff = s.islandsOff ∧ (State.heard s).holdover = s.holdover ∧
    (State.heard s).dramReady = s.dramReady ∧ (State.heard s).bellows = s.bellows ∧
    (State.heard s).backup = s.backup ∧ (State.heard s).start = s.start ∧ (State.heard s).grid = s.grid ∧
    (State.heard s).change = s.change ∧ (State.heard s).force = s.force ∧ (State.heard s).slices = s.slices ∧
    (State.heard s).groups = s.groups ∧ (State.heard s).trims = s.trims ∧ (State.heard s).critical = s.critical ∧
    (State.heard s).ports = s.ports ∧ (State.heard s).stations = s.stations ∧ (State.heard s).net = s.net ∧
    (State.heard s).trust = s.trust ∧ (State.heard s).memErrors = s.memErrors ∧ (State.heard s).stalls = s.stalls :=
  by
  unfold State.heard
  (try dsimp only)
  (repeat' split) <;> simp

@[simp] theorem State.markMissed_frame (n : Nat) (s : State) :
    (State.markMissed n s).pending = s.pending ∧ (State.markMissed n s).free = s.free ∧
    (State.markMissed n s).resp = s.resp ∧ (State.markMissed n s).mem = s.mem ∧
    (State.markMissed n s).sent = s.sent ∧ (State.markMissed n s).time = s.time ∧
    (State.markMissed n s).power = s.power ∧ (State.markMissed n s).pair = s.pair ∧
    (State.markMissed n s).anvil = s.anvil ∧ (State.markMissed n s).recorder = s.recorder ∧
    (State.markMissed n s).ledger = s.ledger ∧ (State.markMissed n s).cores = s.cores ∧
    (State.markMissed n s).tic = s.tic ∧ (State.markMissed n s).triads = s.triads ∧
    (State.markMissed n s).dma = s.dma ∧ (State.markMissed n s).crossings = s.crossings ∧
    (State.markMissed n s).islandsOff = s.islandsOff ∧ (State.markMissed n s).holdover = s.holdover ∧
    (State.markMissed n s).dramReady = s.dramReady ∧ (State.markMissed n s).bellows = s.bellows ∧
    (State.markMissed n s).backup = s.backup ∧ (State.markMissed n s).start = s.start ∧
    (State.markMissed n s).grid = s.grid ∧ (State.markMissed n s).change = s.change ∧
    (State.markMissed n s).force = s.force ∧ (State.markMissed n s).slices = s.slices ∧
    (State.markMissed n s).groups = s.groups ∧ (State.markMissed n s).trims = s.trims ∧
    (State.markMissed n s).critical = s.critical ∧ (State.markMissed n s).ports = s.ports ∧
    (State.markMissed n s).stations = s.stations ∧ (State.markMissed n s).net = s.net ∧
    (State.markMissed n s).trust = s.trust ∧ (State.markMissed n s).memErrors = s.memErrors ∧
    (State.markMissed n s).stalls = s.stalls :=
  by
  unfold State.markMissed
  (try dsimp only)
  (repeat' split) <;> simp

@[simp] theorem State.fire5_frame (s : State) :
    (State.fire5 s).pending = s.pending ∧ (State.fire5 s).free = s.free ∧ (State.fire5 s).resp = s.resp ∧
    (State.fire5 s).mem = s.mem ∧ (State.fire5 s).sent = s.sent ∧ (State.fire5 s).time = s.time ∧
    (State.fire5 s).power = s.power ∧ (State.fire5 s).pair = s.pair ∧ (State.fire5 s).anvil = s.anvil ∧
    (State.fire5 s).recorder = s.recorder ∧ (State.fire5 s).ledger = s.ledger ∧ (State.fire5 s).cores = s.cores ∧
    (State.fire5 s).triads = s.triads ∧ (State.fire5 s).dma = s.dma ∧ (State.fire5 s).crossings = s.crossings ∧
    (State.fire5 s).islandsOff = s.islandsOff ∧ (State.fire5 s).holdover = s.holdover ∧
    (State.fire5 s).dramReady = s.dramReady ∧ (State.fire5 s).bellows = s.bellows ∧
    (State.fire5 s).backup = s.backup ∧ (State.fire5 s).start = s.start ∧ (State.fire5 s).grid = s.grid ∧
    (State.fire5 s).change = s.change ∧ (State.fire5 s).force = s.force ∧ (State.fire5 s).slices = s.slices ∧
    (State.fire5 s).groups = s.groups ∧ (State.fire5 s).trims = s.trims ∧ (State.fire5 s).critical = s.critical ∧
    (State.fire5 s).ports = s.ports ∧ (State.fire5 s).stations = s.stations ∧ (State.fire5 s).net = s.net ∧
    (State.fire5 s).trust = s.trust ∧ (State.fire5 s).memErrors = s.memErrors ∧ (State.fire5 s).stalls = s.stalls :=
  by
  unfold State.fire5
  (try dsimp only)
  (repeat' split) <;> simp

@[simp] theorem State.fire_frame (n : Nat) (s : State) :
    (State.fire n s).pending = s.pending ∧ (State.fire n s).free = s.free ∧ (State.fire n s).resp = s.resp ∧
    (State.fire n s).mem = s.mem ∧ (State.fire n s).sent = s.sent ∧ (State.fire n s).time = s.time ∧
    (State.fire n s).power = s.power ∧ (State.fire n s).pair = s.pair ∧ (State.fire n s).anvil = s.anvil ∧
    (State.fire n s).recorder = s.recorder ∧ (State.fire n s).ledger = s.ledger ∧ (State.fire n s).cores = s.cores ∧
    (State.fire n s).triads = s.triads ∧ (State.fire n s).dma = s.dma ∧ (State.fire n s).crossings = s.crossings ∧
    (State.fire n s).islandsOff = s.islandsOff ∧ (State.fire n s).holdover = s.holdover ∧
    (State.fire n s).dramReady = s.dramReady ∧ (State.fire n s).bellows = s.bellows ∧
    (State.fire n s).backup = s.backup ∧ (State.fire n s).start = s.start ∧ (State.fire n s).grid = s.grid ∧
    (State.fire n s).change = s.change ∧ (State.fire n s).force = s.force ∧ (State.fire n s).slices = s.slices ∧
    (State.fire n s).groups = s.groups ∧ (State.fire n s).trims = s.trims ∧ (State.fire n s).critical = s.critical ∧
    (State.fire n s).ports = s.ports ∧ (State.fire n s).stations = s.stations ∧ (State.fire n s).net = s.net ∧
    (State.fire n s).trust = s.trust ∧ (State.fire n s).memErrors = s.memErrors ∧ (State.fire n s).stalls = s.stalls :=
  by
  unfold State.fire
  (try dsimp only)
  (repeat' split) <;> simp

@[simp] theorem State.wrL_frame (a : Nat) (v : W32) (s : State) :
    (State.wrL a v s).pending = s.pending ∧ (State.wrL a v s).free = s.free ∧ (State.wrL a v s).resp = s.resp ∧
    (State.wrL a v s).mem = s.mem ∧ (State.wrL a v s).sent = s.sent ∧ (State.wrL a v s).time = s.time ∧
    (State.wrL a v s).power = s.power ∧ (State.wrL a v s).pair = s.pair ∧ (State.wrL a v s).anvil = s.anvil ∧
    (State.wrL a v s).recorder = s.recorder ∧ (State.wrL a v s).ledger = s.ledger ∧
    (State.wrL a v s).cores = s.cores ∧ (State.wrL a v s).triads = s.triads ∧ (State.wrL a v s).dma = s.dma ∧
    (State.wrL a v s).crossings = s.crossings ∧ (State.wrL a v s).islandsOff = s.islandsOff ∧
    (State.wrL a v s).holdover = s.holdover ∧ (State.wrL a v s).dramReady = s.dramReady ∧
    (State.wrL a v s).bellows = s.bellows ∧ (State.wrL a v s).backup = s.backup ∧ (State.wrL a v s).start = s.start ∧
    (State.wrL a v s).grid = s.grid ∧ (State.wrL a v s).change = s.change ∧ (State.wrL a v s).force = s.force ∧
    (State.wrL a v s).slices = s.slices ∧ (State.wrL a v s).groups = s.groups ∧ (State.wrL a v s).trims = s.trims ∧
    (State.wrL a v s).critical = s.critical ∧ (State.wrL a v s).ports = s.ports ∧
    (State.wrL a v s).stations = s.stations ∧ (State.wrL a v s).net = s.net ∧ (State.wrL a v s).trust = s.trust ∧
    (State.wrL a v s).memErrors = s.memErrors ∧ (State.wrL a v s).stalls = s.stalls :=
  ⟨(foldl_keeps State.pending _ (fun s a => by split <;> simp) _ _).trans rfl,
    (foldl_keeps State.free _ (fun s a => by split <;> simp) _ _).trans rfl,
    (foldl_keeps State.resp _ (fun s a => by split <;> simp) _ _).trans rfl,
    (foldl_keeps State.mem _ (fun s a => by split <;> simp) _ _).trans rfl,
    (foldl_keeps State.sent _ (fun s a => by split <;> simp) _ _).trans rfl,
    (foldl_keeps State.time _ (fun s a => by split <;> simp) _ _).trans rfl,
    (foldl_keeps State.power _ (fun s a => by split <;> simp) _ _).trans rfl,
    (foldl_keeps State.pair _ (fun s a => by split <;> simp) _ _).trans rfl,
    (foldl_keeps State.anvil _ (fun s a => by split <;> simp) _ _).trans rfl,
    (foldl_keeps State.recorder _ (fun s a => by split <;> simp) _ _).trans rfl,
    (foldl_keeps State.ledger _ (fun s a => by split <;> simp) _ _).trans rfl,
    (foldl_keeps State.cores _ (fun s a => by split <;> simp) _ _).trans rfl,
    (foldl_keeps State.triads _ (fun s a => by split <;> simp) _ _).trans rfl,
    (foldl_keeps State.dma _ (fun s a => by split <;> simp) _ _).trans rfl,
    (foldl_keeps State.crossings _ (fun s a => by split <;> simp) _ _).trans rfl,
    (foldl_keeps State.islandsOff _ (fun s a => by split <;> simp) _ _).trans rfl,
    (foldl_keeps State.holdover _ (fun s a => by split <;> simp) _ _).trans rfl,
    (foldl_keeps State.dramReady _ (fun s a => by split <;> simp) _ _).trans rfl,
    (foldl_keeps State.bellows _ (fun s a => by split <;> simp) _ _).trans rfl,
    (foldl_keeps State.backup _ (fun s a => by split <;> simp) _ _).trans rfl,
    (foldl_keeps State.start _ (fun s a => by split <;> simp) _ _).trans rfl,
    (foldl_keeps State.grid _ (fun s a => by split <;> simp) _ _).trans rfl,
    (foldl_keeps State.change _ (fun s a => by split <;> simp) _ _).trans rfl,
    (foldl_keeps State.force _ (fun s a => by split <;> simp) _ _).trans rfl,
    (foldl_keeps State.slices _ (fun s a => by split <;> simp) _ _).trans rfl,
    (foldl_keeps State.groups _ (fun s a => by split <;> simp) _ _).trans rfl,
    (foldl_keeps State.trims _ (fun s a => by split <;> simp) _ _).trans rfl,
    (foldl_keeps State.critical _ (fun s a => by split <;> simp) _ _).trans rfl,
    (foldl_keeps State.ports _ (fun s a => by split <;> simp) _ _).trans rfl,
    (foldl_keeps State.stations _ (fun s a => by split <;> simp) _ _).trans rfl,
    (foldl_keeps State.net _ (fun s a => by split <;> simp) _ _).trans rfl,
    (foldl_keeps State.trust _ (fun s a => by split <;> simp) _ _).trans rfl,
    (foldl_keeps State.memErrors _ (fun s a => by split <;> simp) _ _).trans rfl,
    (foldl_keeps State.stalls _ (fun s a => by split <;> simp) _ _).trans rfl⟩

@[simp] theorem State.setEvt_frame (a i : Nat) (s : State) :
    (State.setEvt a i s).pending = s.pending ∧ (State.setEvt a i s).free = s.free ∧
    (State.setEvt a i s).resp = s.resp ∧ (State.setEvt a i s).mem = s.mem ∧ (State.setEvt a i s).sent = s.sent ∧
    (State.setEvt a i s).time = s.time ∧ (State.setEvt a i s).power = s.power ∧ (State.setEvt a i s).pair = s.pair ∧
    (State.setEvt a i s).anvil = s.anvil ∧ (State.setEvt a i s).recorder = s.recorder ∧
    (State.setEvt a i s).ledger = s.ledger ∧ (State.setEvt a i s).cores = s.cores ∧
    (State.setEvt a i s).triads = s.triads ∧ (State.setEvt a i s).dma = s.dma ∧
    (State.setEvt a i s).crossings = s.crossings ∧ (State.setEvt a i s).islandsOff = s.islandsOff ∧
    (State.setEvt a i s).holdover = s.holdover ∧ (State.setEvt a i s).dramReady = s.dramReady ∧
    (State.setEvt a i s).bellows = s.bellows ∧ (State.setEvt a i s).backup = s.backup ∧
    (State.setEvt a i s).start = s.start ∧ (State.setEvt a i s).grid = s.grid ∧
    (State.setEvt a i s).change = s.change ∧ (State.setEvt a i s).force = s.force ∧
    (State.setEvt a i s).slices = s.slices ∧ (State.setEvt a i s).groups = s.groups ∧
    (State.setEvt a i s).trims = s.trims ∧ (State.setEvt a i s).critical = s.critical ∧
    (State.setEvt a i s).ports = s.ports ∧ (State.setEvt a i s).stations = s.stations ∧
    (State.setEvt a i s).net = s.net ∧ (State.setEvt a i s).trust = s.trust ∧
    (State.setEvt a i s).memErrors = s.memErrors ∧ (State.setEvt a i s).stalls = s.stalls :=
  by
  unfold State.setEvt
  (try dsimp only)
  (repeat' split) <;> simp

@[simp] theorem State.setEvts_frame (a : Nat) (m : W32) (s : State) :
    (State.setEvts a m s).pending = s.pending ∧ (State.setEvts a m s).free = s.free ∧
    (State.setEvts a m s).resp = s.resp ∧ (State.setEvts a m s).mem = s.mem ∧ (State.setEvts a m s).sent = s.sent ∧
    (State.setEvts a m s).time = s.time ∧ (State.setEvts a m s).power = s.power ∧
    (State.setEvts a m s).pair = s.pair ∧ (State.setEvts a m s).anvil = s.anvil ∧
    (State.setEvts a m s).recorder = s.recorder ∧ (State.setEvts a m s).ledger = s.ledger ∧
    (State.setEvts a m s).cores = s.cores ∧ (State.setEvts a m s).triads = s.triads ∧
    (State.setEvts a m s).dma = s.dma ∧ (State.setEvts a m s).crossings = s.crossings ∧
    (State.setEvts a m s).islandsOff = s.islandsOff ∧ (State.setEvts a m s).holdover = s.holdover ∧
    (State.setEvts a m s).dramReady = s.dramReady ∧ (State.setEvts a m s).bellows = s.bellows ∧
    (State.setEvts a m s).backup = s.backup ∧ (State.setEvts a m s).start = s.start ∧
    (State.setEvts a m s).grid = s.grid ∧ (State.setEvts a m s).change = s.change ∧
    (State.setEvts a m s).force = s.force ∧ (State.setEvts a m s).slices = s.slices ∧
    (State.setEvts a m s).groups = s.groups ∧ (State.setEvts a m s).trims = s.trims ∧
    (State.setEvts a m s).critical = s.critical ∧ (State.setEvts a m s).ports = s.ports ∧
    (State.setEvts a m s).stations = s.stations ∧ (State.setEvts a m s).net = s.net ∧
    (State.setEvts a m s).trust = s.trust ∧ (State.setEvts a m s).memErrors = s.memErrors ∧
    (State.setEvts a m s).stalls = s.stalls :=
  by
  unfold State.setEvts
  (try dsimp only)
  (repeat' split) <;> simp

@[simp] theorem State.record_frame (code : Nat) (data : List W8) (s : State) :
    (State.record code data s).pending = s.pending ∧ (State.record code data s).free = s.free ∧
    (State.record code data s).resp = s.resp ∧ (State.record code data s).mem = s.mem ∧
    (State.record code data s).sent = s.sent ∧ (State.record code data s).time = s.time ∧
    (State.record code data s).power = s.power ∧ (State.record code data s).pair = s.pair ∧
    (State.record code data s).anvil = s.anvil ∧ (State.record code data s).ledger = s.ledger ∧
    (State.record code data s).cores = s.cores ∧ (State.record code data s).triads = s.triads ∧
    (State.record code data s).dma = s.dma ∧ (State.record code data s).crossings = s.crossings ∧
    (State.record code data s).islandsOff = s.islandsOff ∧ (State.record code data s).holdover = s.holdover ∧
    (State.record code data s).dramReady = s.dramReady ∧ (State.record code data s).bellows = s.bellows ∧
    (State.record code data s).backup = s.backup ∧ (State.record code data s).start = s.start ∧
    (State.record code data s).grid = s.grid ∧ (State.record code data s).change = s.change ∧
    (State.record code data s).force = s.force ∧ (State.record code data s).slices = s.slices ∧
    (State.record code data s).groups = s.groups ∧ (State.record code data s).trims = s.trims ∧
    (State.record code data s).critical = s.critical ∧ (State.record code data s).ports = s.ports ∧
    (State.record code data s).stations = s.stations ∧ (State.record code data s).net = s.net ∧
    (State.record code data s).trust = s.trust ∧ (State.record code data s).memErrors = s.memErrors ∧
    (State.record code data s).stalls = s.stalls :=
  by
  unfold State.record
  (try dsimp only)
  (repeat' split) <;> simp

@[simp] theorem State.extendNow_frame (i : Nat) (d : List W8) (s : State) :
    (State.extendNow i d s).pending = s.pending ∧ (State.extendNow i d s).free = s.free ∧
    (State.extendNow i d s).resp = s.resp ∧ (State.extendNow i d s).regs = s.regs ∧
    (State.extendNow i d s).mem = s.mem ∧ (State.extendNow i d s).sent = s.sent ∧
    (State.extendNow i d s).time = s.time ∧ (State.extendNow i d s).power = s.power ∧
    (State.extendNow i d s).pair = s.pair ∧ (State.extendNow i d s).anvil = s.anvil ∧
    (State.extendNow i d s).recorder = s.recorder ∧ (State.extendNow i d s).ledger = s.ledger ∧
    (State.extendNow i d s).cores = s.cores ∧ (State.extendNow i d s).tic = s.tic ∧
    (State.extendNow i d s).triads = s.triads ∧ (State.extendNow i d s).dma = s.dma ∧
    (State.extendNow i d s).crossings = s.crossings ∧ (State.extendNow i d s).islandsOff = s.islandsOff ∧
    (State.extendNow i d s).holdover = s.holdover ∧ (State.extendNow i d s).dramReady = s.dramReady ∧
    (State.extendNow i d s).bellows = s.bellows ∧ (State.extendNow i d s).backup = s.backup ∧
    (State.extendNow i d s).start = s.start ∧ (State.extendNow i d s).grid = s.grid ∧
    (State.extendNow i d s).change = s.change ∧ (State.extendNow i d s).force = s.force ∧
    (State.extendNow i d s).slices = s.slices ∧ (State.extendNow i d s).groups = s.groups ∧
    (State.extendNow i d s).trims = s.trims ∧ (State.extendNow i d s).critical = s.critical ∧
    (State.extendNow i d s).ports = s.ports ∧ (State.extendNow i d s).stations = s.stations ∧
    (State.extendNow i d s).net = s.net ∧ (State.extendNow i d s).memErrors = s.memErrors ∧
    (State.extendNow i d s).stalls = s.stalls :=
  by
  unfold State.extendNow
  (try dsimp only)
  (repeat' split) <;> simp

@[simp] theorem State.extend_frame (i : Nat) (d : List W8) (s : State) :
    (State.extend i d s).pending = s.pending ∧ (State.extend i d s).free = s.free ∧
    (State.extend i d s).resp = s.resp ∧ (State.extend i d s).regs = s.regs ∧ (State.extend i d s).mem = s.mem ∧
    (State.extend i d s).sent = s.sent ∧ (State.extend i d s).time = s.time ∧ (State.extend i d s).power = s.power ∧
    (State.extend i d s).pair = s.pair ∧ (State.extend i d s).anvil = s.anvil ∧
    (State.extend i d s).recorder = s.recorder ∧ (State.extend i d s).ledger = s.ledger ∧
    (State.extend i d s).cores = s.cores ∧ (State.extend i d s).tic = s.tic ∧
    (State.extend i d s).triads = s.triads ∧ (State.extend i d s).dma = s.dma ∧
    (State.extend i d s).crossings = s.crossings ∧ (State.extend i d s).islandsOff = s.islandsOff ∧
    (State.extend i d s).holdover = s.holdover ∧ (State.extend i d s).dramReady = s.dramReady ∧
    (State.extend i d s).bellows = s.bellows ∧ (State.extend i d s).backup = s.backup ∧
    (State.extend i d s).start = s.start ∧ (State.extend i d s).grid = s.grid ∧
    (State.extend i d s).change = s.change ∧ (State.extend i d s).force = s.force ∧
    (State.extend i d s).slices = s.slices ∧ (State.extend i d s).groups = s.groups ∧
    (State.extend i d s).trims = s.trims ∧ (State.extend i d s).critical = s.critical ∧
    (State.extend i d s).ports = s.ports ∧ (State.extend i d s).stations = s.stations ∧
    (State.extend i d s).net = s.net ∧ (State.extend i d s).memErrors = s.memErrors ∧
    (State.extend i d s).stalls = s.stalls :=
  by
  unfold State.extend
  (try dsimp only)
  (repeat' split) <;> simp

@[simp] theorem State.trialStays_frame (s : State) :
    (State.trialStays s).pending = s.pending ∧ (State.trialStays s).free = s.free ∧
    (State.trialStays s).resp = s.resp ∧ (State.trialStays s).mem = s.mem ∧ (State.trialStays s).sent = s.sent ∧
    (State.trialStays s).time = s.time ∧ (State.trialStays s).power = s.power ∧ (State.trialStays s).pair = s.pair ∧
    (State.trialStays s).anvil = s.anvil ∧ (State.trialStays s).recorder = s.recorder ∧
    (State.trialStays s).ledger = s.ledger ∧ (State.trialStays s).cores = s.cores ∧
    (State.trialStays s).triads = s.triads ∧ (State.trialStays s).dma = s.dma ∧
    (State.trialStays s).crossings = s.crossings ∧ (State.trialStays s).islandsOff = s.islandsOff ∧
    (State.trialStays s).holdover = s.holdover ∧ (State.trialStays s).dramReady = s.dramReady ∧
    (State.trialStays s).bellows = s.bellows ∧ (State.trialStays s).backup = s.backup ∧
    (State.trialStays s).start = s.start ∧ (State.trialStays s).grid = s.grid ∧
    (State.trialStays s).change = s.change ∧ (State.trialStays s).force = s.force ∧
    (State.trialStays s).slices = s.slices ∧ (State.trialStays s).groups = s.groups ∧
    (State.trialStays s).trims = s.trims ∧ (State.trialStays s).critical = s.critical ∧
    (State.trialStays s).ports = s.ports ∧ (State.trialStays s).stations = s.stations ∧
    (State.trialStays s).net = s.net ∧ (State.trialStays s).trust = s.trust ∧
    (State.trialStays s).memErrors = s.memErrors ∧ (State.trialStays s).stalls = s.stalls :=
  by
  unfold State.trialStays
  (try dsimp only)
  (repeat' split) <;> simp

@[simp] theorem State.trialYieldOff_frame (s : State) :
    (State.trialYieldOff s).pending = s.pending ∧ (State.trialYieldOff s).free = s.free ∧
    (State.trialYieldOff s).resp = s.resp ∧ (State.trialYieldOff s).mem = s.mem ∧
    (State.trialYieldOff s).sent = s.sent ∧ (State.trialYieldOff s).time = s.time ∧
    (State.trialYieldOff s).power = s.power ∧ (State.trialYieldOff s).pair = s.pair ∧
    (State.trialYieldOff s).anvil = s.anvil ∧ (State.trialYieldOff s).recorder = s.recorder ∧
    (State.trialYieldOff s).ledger = s.ledger ∧ (State.trialYieldOff s).cores = s.cores ∧
    (State.trialYieldOff s).triads = s.triads ∧ (State.trialYieldOff s).dma = s.dma ∧
    (State.trialYieldOff s).crossings = s.crossings ∧ (State.trialYieldOff s).islandsOff = s.islandsOff ∧
    (State.trialYieldOff s).holdover = s.holdover ∧ (State.trialYieldOff s).dramReady = s.dramReady ∧
    (State.trialYieldOff s).bellows = s.bellows ∧ (State.trialYieldOff s).backup = s.backup ∧
    (State.trialYieldOff s).start = s.start ∧ (State.trialYieldOff s).grid = s.grid ∧
    (State.trialYieldOff s).change = s.change ∧ (State.trialYieldOff s).force = s.force ∧
    (State.trialYieldOff s).slices = s.slices ∧ (State.trialYieldOff s).groups = s.groups ∧
    (State.trialYieldOff s).trims = s.trims ∧ (State.trialYieldOff s).critical = s.critical ∧
    (State.trialYieldOff s).ports = s.ports ∧ (State.trialYieldOff s).stations = s.stations ∧
    (State.trialYieldOff s).net = s.net ∧ (State.trialYieldOff s).memErrors = s.memErrors ∧
    (State.trialYieldOff s).stalls = s.stalls :=
  by
  unfold State.trialYieldOff
  (try dsimp only)
  (repeat' split) <;> simp

@[simp] theorem State.stbEvt_frame (k b : Nat) (s : State) :
    (State.stbEvt k b s).pending = s.pending ∧ (State.stbEvt k b s).free = s.free ∧
    (State.stbEvt k b s).resp = s.resp ∧ (State.stbEvt k b s).mem = s.mem ∧ (State.stbEvt k b s).sent = s.sent ∧
    (State.stbEvt k b s).time = s.time ∧ (State.stbEvt k b s).power = s.power ∧ (State.stbEvt k b s).pair = s.pair ∧
    (State.stbEvt k b s).anvil = s.anvil ∧ (State.stbEvt k b s).recorder = s.recorder ∧
    (State.stbEvt k b s).ledger = s.ledger ∧ (State.stbEvt k b s).cores = s.cores ∧
    (State.stbEvt k b s).triads = s.triads ∧ (State.stbEvt k b s).dma = s.dma ∧
    (State.stbEvt k b s).crossings = s.crossings ∧ (State.stbEvt k b s).islandsOff = s.islandsOff ∧
    (State.stbEvt k b s).holdover = s.holdover ∧ (State.stbEvt k b s).dramReady = s.dramReady ∧
    (State.stbEvt k b s).bellows = s.bellows ∧ (State.stbEvt k b s).backup = s.backup ∧
    (State.stbEvt k b s).start = s.start ∧ (State.stbEvt k b s).grid = s.grid ∧
    (State.stbEvt k b s).change = s.change ∧ (State.stbEvt k b s).force = s.force ∧
    (State.stbEvt k b s).slices = s.slices ∧ (State.stbEvt k b s).groups = s.groups ∧
    (State.stbEvt k b s).trims = s.trims ∧ (State.stbEvt k b s).critical = s.critical ∧
    (State.stbEvt k b s).ports = s.ports ∧ (State.stbEvt k b s).stations = s.stations ∧
    (State.stbEvt k b s).net = s.net ∧ (State.stbEvt k b s).trust = s.trust ∧
    (State.stbEvt k b s).memErrors = s.memErrors ∧ (State.stbEvt k b s).stalls = s.stalls :=
  by
  unfold State.stbEvt
  (try dsimp only)
  (repeat' split) <;> simp

@[simp] theorem State.portNext_frame (k : Nat) (s : State) :
    (State.portNext k s).pending = s.pending ∧ (State.portNext k s).free = s.free ∧
    (State.portNext k s).resp = s.resp ∧ (State.portNext k s).regs = s.regs ∧ (State.portNext k s).mem = s.mem ∧
    (State.portNext k s).sent = s.sent ∧ (State.portNext k s).time = s.time ∧ (State.portNext k s).power = s.power ∧
    (State.portNext k s).pair = s.pair ∧ (State.portNext k s).anvil = s.anvil ∧
    (State.portNext k s).recorder = s.recorder ∧ (State.portNext k s).ledger = s.ledger ∧
    (State.portNext k s).cores = s.cores ∧ (State.portNext k s).tic = s.tic ∧
    (State.portNext k s).triads = s.triads ∧ (State.portNext k s).dma = s.dma ∧
    (State.portNext k s).crossings = s.crossings ∧ (State.portNext k s).islandsOff = s.islandsOff ∧
    (State.portNext k s).holdover = s.holdover ∧ (State.portNext k s).dramReady = s.dramReady ∧
    (State.portNext k s).bellows = s.bellows ∧ (State.portNext k s).backup = s.backup ∧
    (State.portNext k s).start = s.start ∧ (State.portNext k s).grid = s.grid ∧
    (State.portNext k s).change = s.change ∧ (State.portNext k s).force = s.force ∧
    (State.portNext k s).slices = s.slices ∧ (State.portNext k s).groups = s.groups ∧
    (State.portNext k s).trims = s.trims ∧ (State.portNext k s).critical = s.critical ∧
    (State.portNext k s).stations = s.stations ∧ (State.portNext k s).net = s.net ∧
    (State.portNext k s).trust = s.trust ∧ (State.portNext k s).memErrors = s.memErrors ∧
    (State.portNext k s).stalls = s.stalls :=
  by
  unfold State.portNext
  (try dsimp only)
  (repeat' split) <;> simp

@[simp] theorem State.portQueue_frame (k : Nat) (f : TxFrame) (s : State) :
    (State.portQueue k f s).pending = s.pending ∧ (State.portQueue k f s).free = s.free ∧
    (State.portQueue k f s).resp = s.resp ∧ (State.portQueue k f s).regs = s.regs ∧
    (State.portQueue k f s).mem = s.mem ∧ (State.portQueue k f s).sent = s.sent ∧
    (State.portQueue k f s).time = s.time ∧ (State.portQueue k f s).power = s.power ∧
    (State.portQueue k f s).pair = s.pair ∧ (State.portQueue k f s).anvil = s.anvil ∧
    (State.portQueue k f s).recorder = s.recorder ∧ (State.portQueue k f s).ledger = s.ledger ∧
    (State.portQueue k f s).cores = s.cores ∧ (State.portQueue k f s).tic = s.tic ∧
    (State.portQueue k f s).triads = s.triads ∧ (State.portQueue k f s).dma = s.dma ∧
    (State.portQueue k f s).crossings = s.crossings ∧ (State.portQueue k f s).islandsOff = s.islandsOff ∧
    (State.portQueue k f s).holdover = s.holdover ∧ (State.portQueue k f s).dramReady = s.dramReady ∧
    (State.portQueue k f s).bellows = s.bellows ∧ (State.portQueue k f s).backup = s.backup ∧
    (State.portQueue k f s).start = s.start ∧ (State.portQueue k f s).grid = s.grid ∧
    (State.portQueue k f s).change = s.change ∧ (State.portQueue k f s).force = s.force ∧
    (State.portQueue k f s).slices = s.slices ∧ (State.portQueue k f s).groups = s.groups ∧
    (State.portQueue k f s).trims = s.trims ∧ (State.portQueue k f s).critical = s.critical ∧
    (State.portQueue k f s).stations = s.stations ∧ (State.portQueue k f s).net = s.net ∧
    (State.portQueue k f s).trust = s.trust ∧ (State.portQueue k f s).memErrors = s.memErrors ∧
    (State.portQueue k f s).stalls = s.stalls :=
  by
  unfold State.portQueue
  (try dsimp only)
  (repeat' split) <;> simp

@[simp] theorem State.acEnd_frame (k code : Nat) (s : State) :
    (State.acEnd k code s).pending = s.pending ∧ (State.acEnd k code s).free = s.free ∧
    (State.acEnd k code s).resp = s.resp ∧ (State.acEnd k code s).mem = s.mem ∧
    (State.acEnd k code s).sent = s.sent ∧ (State.acEnd k code s).time = s.time ∧
    (State.acEnd k code s).power = s.power ∧ (State.acEnd k code s).pair = s.pair ∧
    (State.acEnd k code s).anvil = s.anvil ∧ (State.acEnd k code s).recorder = s.recorder ∧
    (State.acEnd k code s).ledger = s.ledger ∧ (State.acEnd k code s).cores = s.cores ∧
    (State.acEnd k code s).tic = s.tic ∧ (State.acEnd k code s).triads = s.triads ∧
    (State.acEnd k code s).dma = s.dma ∧ (State.acEnd k code s).crossings = s.crossings ∧
    (State.acEnd k code s).islandsOff = s.islandsOff ∧ (State.acEnd k code s).holdover = s.holdover ∧
    (State.acEnd k code s).dramReady = s.dramReady ∧ (State.acEnd k code s).bellows = s.bellows ∧
    (State.acEnd k code s).backup = s.backup ∧ (State.acEnd k code s).start = s.start ∧
    (State.acEnd k code s).grid = s.grid ∧ (State.acEnd k code s).change = s.change ∧
    (State.acEnd k code s).force = s.force ∧ (State.acEnd k code s).slices = s.slices ∧
    (State.acEnd k code s).groups = s.groups ∧ (State.acEnd k code s).trims = s.trims ∧
    (State.acEnd k code s).critical = s.critical ∧ (State.acEnd k code s).stations = s.stations ∧
    (State.acEnd k code s).net = s.net ∧ (State.acEnd k code s).trust = s.trust ∧
    (State.acEnd k code s).memErrors = s.memErrors ∧ (State.acEnd k code s).stalls = s.stalls :=
  by
  unfold State.acEnd
  (try dsimp only)
  (repeat' split) <;> simp

@[simp] theorem State.acVoid_frame (k : Nat) (s : State) :
    (State.acVoid k s).pending = s.pending ∧ (State.acVoid k s).free = s.free ∧ (State.acVoid k s).resp = s.resp ∧
    (State.acVoid k s).regs = s.regs ∧ (State.acVoid k s).mem = s.mem ∧ (State.acVoid k s).sent = s.sent ∧
    (State.acVoid k s).time = s.time ∧ (State.acVoid k s).power = s.power ∧ (State.acVoid k s).pair = s.pair ∧
    (State.acVoid k s).anvil = s.anvil ∧ (State.acVoid k s).recorder = s.recorder ∧
    (State.acVoid k s).ledger = s.ledger ∧ (State.acVoid k s).cores = s.cores ∧ (State.acVoid k s).tic = s.tic ∧
    (State.acVoid k s).triads = s.triads ∧ (State.acVoid k s).dma = s.dma ∧
    (State.acVoid k s).crossings = s.crossings ∧ (State.acVoid k s).islandsOff = s.islandsOff ∧
    (State.acVoid k s).holdover = s.holdover ∧ (State.acVoid k s).dramReady = s.dramReady ∧
    (State.acVoid k s).bellows = s.bellows ∧ (State.acVoid k s).backup = s.backup ∧
    (State.acVoid k s).start = s.start ∧ (State.acVoid k s).grid = s.grid ∧ (State.acVoid k s).change = s.change ∧
    (State.acVoid k s).force = s.force ∧ (State.acVoid k s).slices = s.slices ∧
    (State.acVoid k s).groups = s.groups ∧ (State.acVoid k s).trims = s.trims ∧
    (State.acVoid k s).critical = s.critical ∧ (State.acVoid k s).stations = s.stations ∧
    (State.acVoid k s).net = s.net ∧ (State.acVoid k s).trust = s.trust ∧
    (State.acVoid k s).memErrors = s.memErrors ∧ (State.acVoid k s).stalls = s.stalls :=
  by
  unfold State.acVoid
  (try dsimp only)
  (repeat' split) <;> simp

@[simp] theorem State.portEmptied_frame (k : Nat) (s : State) :
    (State.portEmptied k s).pending = s.pending ∧ (State.portEmptied k s).free = s.free ∧
    (State.portEmptied k s).resp = s.resp ∧ (State.portEmptied k s).regs = s.regs ∧
    (State.portEmptied k s).mem = s.mem ∧ (State.portEmptied k s).time = s.time ∧
    (State.portEmptied k s).power = s.power ∧ (State.portEmptied k s).pair = s.pair ∧
    (State.portEmptied k s).recorder = s.recorder ∧ (State.portEmptied k s).ledger = s.ledger ∧
    (State.portEmptied k s).cores = s.cores ∧ (State.portEmptied k s).tic = s.tic ∧
    (State.portEmptied k s).triads = s.triads ∧ (State.portEmptied k s).dma = s.dma ∧
    (State.portEmptied k s).crossings = s.crossings ∧ (State.portEmptied k s).islandsOff = s.islandsOff ∧
    (State.portEmptied k s).holdover = s.holdover ∧ (State.portEmptied k s).dramReady = s.dramReady ∧
    (State.portEmptied k s).bellows = s.bellows ∧ (State.portEmptied k s).backup = s.backup ∧
    (State.portEmptied k s).start = s.start ∧ (State.portEmptied k s).grid = s.grid ∧
    (State.portEmptied k s).change = s.change ∧ (State.portEmptied k s).force = s.force ∧
    (State.portEmptied k s).slices = s.slices ∧ (State.portEmptied k s).groups = s.groups ∧
    (State.portEmptied k s).trims = s.trims ∧ (State.portEmptied k s).critical = s.critical ∧
    (State.portEmptied k s).stations = s.stations ∧ (State.portEmptied k s).net = s.net ∧
    (State.portEmptied k s).trust = s.trust ∧ (State.portEmptied k s).memErrors = s.memErrors ∧
    (State.portEmptied k s).stalls = s.stalls :=
  by
  unfold State.portEmptied
  (try dsimp only)
  (repeat' split) <;> simp

@[simp] theorem State.portDrop_frame (k : Nat) (s : State) :
    (State.portDrop k s).pending = s.pending ∧ (State.portDrop k s).free = s.free ∧
    (State.portDrop k s).resp = s.resp ∧ (State.portDrop k s).mem = s.mem ∧ (State.portDrop k s).time = s.time ∧
    (State.portDrop k s).power = s.power ∧ (State.portDrop k s).pair = s.pair ∧
    (State.portDrop k s).recorder = s.recorder ∧ (State.portDrop k s).ledger = s.ledger ∧
    (State.portDrop k s).cores = s.cores ∧ (State.portDrop k s).tic = s.tic ∧
    (State.portDrop k s).triads = s.triads ∧ (State.portDrop k s).dma = s.dma ∧
    (State.portDrop k s).crossings = s.crossings ∧ (State.portDrop k s).islandsOff = s.islandsOff ∧
    (State.portDrop k s).holdover = s.holdover ∧ (State.portDrop k s).dramReady = s.dramReady ∧
    (State.portDrop k s).bellows = s.bellows ∧ (State.portDrop k s).backup = s.backup ∧
    (State.portDrop k s).start = s.start ∧ (State.portDrop k s).grid = s.grid ∧
    (State.portDrop k s).change = s.change ∧ (State.portDrop k s).force = s.force ∧
    (State.portDrop k s).slices = s.slices ∧ (State.portDrop k s).groups = s.groups ∧
    (State.portDrop k s).trims = s.trims ∧ (State.portDrop k s).critical = s.critical ∧
    (State.portDrop k s).stations = s.stations ∧ (State.portDrop k s).net = s.net ∧
    (State.portDrop k s).trust = s.trust ∧ (State.portDrop k s).memErrors = s.memErrors ∧
    (State.portDrop k s).stalls = s.stalls :=
  by
  unfold State.portDrop
  (try dsimp only)
  (repeat' split) <;> simp

@[simp] theorem State.portStopped_frame (k : Nat) (s : State) :
    (State.portStopped k s).pending = s.pending ∧ (State.portStopped k s).free = s.free ∧
    (State.portStopped k s).resp = s.resp ∧ (State.portStopped k s).mem = s.mem ∧
    (State.portStopped k s).time = s.time ∧ (State.portStopped k s).power = s.power ∧
    (State.portStopped k s).pair = s.pair ∧ (State.portStopped k s).recorder = s.recorder ∧
    (State.portStopped k s).ledger = s.ledger ∧ (State.portStopped k s).cores = s.cores ∧
    (State.portStopped k s).tic = s.tic ∧ (State.portStopped k s).triads = s.triads ∧
    (State.portStopped k s).dma = s.dma ∧ (State.portStopped k s).crossings = s.crossings ∧
    (State.portStopped k s).islandsOff = s.islandsOff ∧ (State.portStopped k s).holdover = s.holdover ∧
    (State.portStopped k s).dramReady = s.dramReady ∧ (State.portStopped k s).bellows = s.bellows ∧
    (State.portStopped k s).backup = s.backup ∧ (State.portStopped k s).start = s.start ∧
    (State.portStopped k s).grid = s.grid ∧ (State.portStopped k s).change = s.change ∧
    (State.portStopped k s).force = s.force ∧ (State.portStopped k s).slices = s.slices ∧
    (State.portStopped k s).groups = s.groups ∧ (State.portStopped k s).trims = s.trims ∧
    (State.portStopped k s).critical = s.critical ∧ (State.portStopped k s).stations = s.stations ∧
    (State.portStopped k s).net = s.net ∧ (State.portStopped k s).trust = s.trust ∧
    (State.portStopped k s).memErrors = s.memErrors ∧ (State.portStopped k s).stalls = s.stalls :=
  by
  unfold State.portStopped
  (try dsimp only)
  (repeat' split) <;> simp

@[simp] theorem State.portSettle_frame (k : Nat) (s : State) :
    (State.portSettle k s).pending = s.pending ∧ (State.portSettle k s).free = s.free ∧
    (State.portSettle k s).resp = s.resp ∧ (State.portSettle k s).mem = s.mem ∧
    (State.portSettle k s).time = s.time ∧ (State.portSettle k s).power = s.power ∧
    (State.portSettle k s).pair = s.pair ∧ (State.portSettle k s).recorder = s.recorder ∧
    (State.portSettle k s).ledger = s.ledger ∧ (State.portSettle k s).cores = s.cores ∧
    (State.portSettle k s).tic = s.tic ∧ (State.portSettle k s).triads = s.triads ∧
    (State.portSettle k s).dma = s.dma ∧ (State.portSettle k s).crossings = s.crossings ∧
    (State.portSettle k s).islandsOff = s.islandsOff ∧ (State.portSettle k s).holdover = s.holdover ∧
    (State.portSettle k s).dramReady = s.dramReady ∧ (State.portSettle k s).bellows = s.bellows ∧
    (State.portSettle k s).backup = s.backup ∧ (State.portSettle k s).start = s.start ∧
    (State.portSettle k s).grid = s.grid ∧ (State.portSettle k s).change = s.change ∧
    (State.portSettle k s).force = s.force ∧ (State.portSettle k s).slices = s.slices ∧
    (State.portSettle k s).groups = s.groups ∧ (State.portSettle k s).trims = s.trims ∧
    (State.portSettle k s).critical = s.critical ∧ (State.portSettle k s).stations = s.stations ∧
    (State.portSettle k s).net = s.net ∧ (State.portSettle k s).trust = s.trust ∧
    (State.portSettle k s).memErrors = s.memErrors ∧ (State.portSettle k s).stalls = s.stalls :=
  by
  unfold State.portSettle
  (try dsimp only)
  (repeat' split) <;> simp

@[simp] theorem State.portPassive_frame (agreed : Bool) (k : Nat) (s : State) :
    (State.portPassive agreed k s).pending = s.pending ∧ (State.portPassive agreed k s).free = s.free ∧
    (State.portPassive agreed k s).resp = s.resp ∧ (State.portPassive agreed k s).mem = s.mem ∧
    (State.portPassive agreed k s).time = s.time ∧ (State.portPassive agreed k s).power = s.power ∧
    (State.portPassive agreed k s).pair = s.pair ∧ (State.portPassive agreed k s).recorder = s.recorder ∧
    (State.portPassive agreed k s).ledger = s.ledger ∧ (State.portPassive agreed k s).cores = s.cores ∧
    (State.portPassive agreed k s).tic = s.tic ∧ (State.portPassive agreed k s).triads = s.triads ∧
    (State.portPassive agreed k s).dma = s.dma ∧ (State.portPassive agreed k s).crossings = s.crossings ∧
    (State.portPassive agreed k s).islandsOff = s.islandsOff ∧ (State.portPassive agreed k s).holdover = s.holdover ∧
    (State.portPassive agreed k s).dramReady = s.dramReady ∧ (State.portPassive agreed k s).bellows = s.bellows ∧
    (State.portPassive agreed k s).backup = s.backup ∧ (State.portPassive agreed k s).start = s.start ∧
    (State.portPassive agreed k s).grid = s.grid ∧ (State.portPassive agreed k s).change = s.change ∧
    (State.portPassive agreed k s).force = s.force ∧ (State.portPassive agreed k s).slices = s.slices ∧
    (State.portPassive agreed k s).groups = s.groups ∧ (State.portPassive agreed k s).trims = s.trims ∧
    (State.portPassive agreed k s).critical = s.critical ∧ (State.portPassive agreed k s).stations = s.stations ∧
    (State.portPassive agreed k s).net = s.net ∧ (State.portPassive agreed k s).trust = s.trust ∧
    (State.portPassive agreed k s).memErrors = s.memErrors ∧ (State.portPassive agreed k s).stalls = s.stalls :=
  by
  unfold State.portPassive
  (try dsimp only)
  (repeat' split) <;> simp

@[simp] theorem State.portsPassive_frame (agreed : Bool) (s : State) :
    (State.portsPassive agreed s).pending = s.pending ∧ (State.portsPassive agreed s).free = s.free ∧
    (State.portsPassive agreed s).resp = s.resp ∧ (State.portsPassive agreed s).mem = s.mem ∧
    (State.portsPassive agreed s).time = s.time ∧ (State.portsPassive agreed s).power = s.power ∧
    (State.portsPassive agreed s).pair = s.pair ∧ (State.portsPassive agreed s).recorder = s.recorder ∧
    (State.portsPassive agreed s).ledger = s.ledger ∧ (State.portsPassive agreed s).cores = s.cores ∧
    (State.portsPassive agreed s).tic = s.tic ∧ (State.portsPassive agreed s).triads = s.triads ∧
    (State.portsPassive agreed s).dma = s.dma ∧ (State.portsPassive agreed s).crossings = s.crossings ∧
    (State.portsPassive agreed s).islandsOff = s.islandsOff ∧ (State.portsPassive agreed s).holdover = s.holdover ∧
    (State.portsPassive agreed s).dramReady = s.dramReady ∧ (State.portsPassive agreed s).bellows = s.bellows ∧
    (State.portsPassive agreed s).backup = s.backup ∧ (State.portsPassive agreed s).start = s.start ∧
    (State.portsPassive agreed s).grid = s.grid ∧ (State.portsPassive agreed s).change = s.change ∧
    (State.portsPassive agreed s).force = s.force ∧ (State.portsPassive agreed s).slices = s.slices ∧
    (State.portsPassive agreed s).groups = s.groups ∧ (State.portsPassive agreed s).trims = s.trims ∧
    (State.portsPassive agreed s).critical = s.critical ∧ (State.portsPassive agreed s).stations = s.stations ∧
    (State.portsPassive agreed s).net = s.net ∧ (State.portsPassive agreed s).trust = s.trust ∧
    (State.portsPassive agreed s).memErrors = s.memErrors ∧ (State.portsPassive agreed s).stalls = s.stalls :=
  ⟨(foldl_keeps State.pending _ (fun s a => by simp) _ _),
    (foldl_keeps State.free _ (fun s a => by simp) _ _),
    (foldl_keeps State.resp _ (fun s a => by simp) _ _),
    (foldl_keeps State.mem _ (fun s a => by simp) _ _),
    (foldl_keeps State.time _ (fun s a => by simp) _ _),
    (foldl_keeps State.power _ (fun s a => by simp) _ _),
    (foldl_keeps State.pair _ (fun s a => by simp) _ _),
    (foldl_keeps State.recorder _ (fun s a => by simp) _ _),
    (foldl_keeps State.ledger _ (fun s a => by simp) _ _),
    (foldl_keeps State.cores _ (fun s a => by simp) _ _),
    (foldl_keeps State.tic _ (fun s a => by simp) _ _),
    (foldl_keeps State.triads _ (fun s a => by simp) _ _),
    (foldl_keeps State.dma _ (fun s a => by simp) _ _),
    (foldl_keeps State.crossings _ (fun s a => by simp) _ _),
    (foldl_keeps State.islandsOff _ (fun s a => by simp) _ _),
    (foldl_keeps State.holdover _ (fun s a => by simp) _ _),
    (foldl_keeps State.dramReady _ (fun s a => by simp) _ _),
    (foldl_keeps State.bellows _ (fun s a => by simp) _ _),
    (foldl_keeps State.backup _ (fun s a => by simp) _ _),
    (foldl_keeps State.start _ (fun s a => by simp) _ _),
    (foldl_keeps State.grid _ (fun s a => by simp) _ _),
    (foldl_keeps State.change _ (fun s a => by simp) _ _),
    (foldl_keeps State.force _ (fun s a => by simp) _ _),
    (foldl_keeps State.slices _ (fun s a => by simp) _ _),
    (foldl_keeps State.groups _ (fun s a => by simp) _ _),
    (foldl_keeps State.trims _ (fun s a => by simp) _ _),
    (foldl_keeps State.critical _ (fun s a => by simp) _ _),
    (foldl_keeps State.stations _ (fun s a => by simp) _ _),
    (foldl_keeps State.net _ (fun s a => by simp) _ _),
    (foldl_keeps State.trust _ (fun s a => by simp) _ _),
    (foldl_keeps State.memErrors _ (fun s a => by simp) _ _),
    (foldl_keeps State.stalls _ (fun s a => by simp) _ _)⟩

@[simp] theorem State.rec02_frame (ev : Nat) (s : State) :
    (State.rec02 ev s).pending = s.pending ∧ (State.rec02 ev s).free = s.free ∧ (State.rec02 ev s).resp = s.resp ∧
    (State.rec02 ev s).mem = s.mem ∧ (State.rec02 ev s).sent = s.sent ∧ (State.rec02 ev s).time = s.time ∧
    (State.rec02 ev s).power = s.power ∧ (State.rec02 ev s).pair = s.pair ∧ (State.rec02 ev s).anvil = s.anvil ∧
    (State.rec02 ev s).ledger = s.ledger ∧ (State.rec02 ev s).cores = s.cores ∧
    (State.rec02 ev s).triads = s.triads ∧ (State.rec02 ev s).dma = s.dma ∧
    (State.rec02 ev s).crossings = s.crossings ∧ (State.rec02 ev s).islandsOff = s.islandsOff ∧
    (State.rec02 ev s).holdover = s.holdover ∧ (State.rec02 ev s).dramReady = s.dramReady ∧
    (State.rec02 ev s).bellows = s.bellows ∧ (State.rec02 ev s).backup = s.backup ∧
    (State.rec02 ev s).start = s.start ∧ (State.rec02 ev s).grid = s.grid ∧ (State.rec02 ev s).change = s.change ∧
    (State.rec02 ev s).force = s.force ∧ (State.rec02 ev s).slices = s.slices ∧
    (State.rec02 ev s).groups = s.groups ∧ (State.rec02 ev s).trims = s.trims ∧
    (State.rec02 ev s).critical = s.critical ∧ (State.rec02 ev s).ports = s.ports ∧
    (State.rec02 ev s).stations = s.stations ∧ (State.rec02 ev s).net = s.net ∧ (State.rec02 ev s).trust = s.trust ∧
    (State.rec02 ev s).memErrors = s.memErrors ∧ (State.rec02 ev s).stalls = s.stalls :=
  by
  unfold State.rec02
  (try dsimp only)
  (repeat' split) <;> simp

@[simp] theorem State.rec03_frame (t ev : Nat) (extra : List W8) (s : State) :
    (State.rec03 t ev extra s).pending = s.pending ∧ (State.rec03 t ev extra s).free = s.free ∧
    (State.rec03 t ev extra s).resp = s.resp ∧ (State.rec03 t ev extra s).mem = s.mem ∧
    (State.rec03 t ev extra s).sent = s.sent ∧ (State.rec03 t ev extra s).time = s.time ∧
    (State.rec03 t ev extra s).power = s.power ∧ (State.rec03 t ev extra s).pair = s.pair ∧
    (State.rec03 t ev extra s).anvil = s.anvil ∧ (State.rec03 t ev extra s).ledger = s.ledger ∧
    (State.rec03 t ev extra s).cores = s.cores ∧ (State.rec03 t ev extra s).triads = s.triads ∧
    (State.rec03 t ev extra s).dma = s.dma ∧ (State.rec03 t ev extra s).crossings = s.crossings ∧
    (State.rec03 t ev extra s).islandsOff = s.islandsOff ∧ (State.rec03 t ev extra s).holdover = s.holdover ∧
    (State.rec03 t ev extra s).dramReady = s.dramReady ∧ (State.rec03 t ev extra s).bellows = s.bellows ∧
    (State.rec03 t ev extra s).backup = s.backup ∧ (State.rec03 t ev extra s).start = s.start ∧
    (State.rec03 t ev extra s).grid = s.grid ∧ (State.rec03 t ev extra s).change = s.change ∧
    (State.rec03 t ev extra s).force = s.force ∧ (State.rec03 t ev extra s).slices = s.slices ∧
    (State.rec03 t ev extra s).groups = s.groups ∧ (State.rec03 t ev extra s).trims = s.trims ∧
    (State.rec03 t ev extra s).critical = s.critical ∧ (State.rec03 t ev extra s).ports = s.ports ∧
    (State.rec03 t ev extra s).stations = s.stations ∧ (State.rec03 t ev extra s).net = s.net ∧
    (State.rec03 t ev extra s).trust = s.trust ∧ (State.rec03 t ev extra s).memErrors = s.memErrors ∧
    (State.rec03 t ev extra s).stalls = s.stalls :=
  by
  unfold State.rec03
  (try dsimp only)
  (repeat' split) <;> simp

@[simp] theorem State.rec04_frame (ev : Nat) (s : State) :
    (State.rec04 ev s).pending = s.pending ∧ (State.rec04 ev s).free = s.free ∧ (State.rec04 ev s).resp = s.resp ∧
    (State.rec04 ev s).mem = s.mem ∧ (State.rec04 ev s).sent = s.sent ∧ (State.rec04 ev s).time = s.time ∧
    (State.rec04 ev s).power = s.power ∧ (State.rec04 ev s).pair = s.pair ∧ (State.rec04 ev s).anvil = s.anvil ∧
    (State.rec04 ev s).ledger = s.ledger ∧ (State.rec04 ev s).cores = s.cores ∧
    (State.rec04 ev s).triads = s.triads ∧ (State.rec04 ev s).dma = s.dma ∧
    (State.rec04 ev s).crossings = s.crossings ∧ (State.rec04 ev s).islandsOff = s.islandsOff ∧
    (State.rec04 ev s).holdover = s.holdover ∧ (State.rec04 ev s).dramReady = s.dramReady ∧
    (State.rec04 ev s).bellows = s.bellows ∧ (State.rec04 ev s).backup = s.backup ∧
    (State.rec04 ev s).start = s.start ∧ (State.rec04 ev s).grid = s.grid ∧ (State.rec04 ev s).change = s.change ∧
    (State.rec04 ev s).force = s.force ∧ (State.rec04 ev s).slices = s.slices ∧
    (State.rec04 ev s).groups = s.groups ∧ (State.rec04 ev s).trims = s.trims ∧
    (State.rec04 ev s).critical = s.critical ∧ (State.rec04 ev s).ports = s.ports ∧
    (State.rec04 ev s).stations = s.stations ∧ (State.rec04 ev s).net = s.net ∧ (State.rec04 ev s).trust = s.trust ∧
    (State.rec04 ev s).memErrors = s.memErrors ∧ (State.rec04 ev s).stalls = s.stalls :=
  by
  unfold State.rec04
  (try dsimp only)
  (repeat' split) <;> simp

@[simp] theorem State.rec05_frame (ev : Nat) (extra : List W8) (s : State) :
    (State.rec05 ev extra s).pending = s.pending ∧ (State.rec05 ev extra s).free = s.free ∧
    (State.rec05 ev extra s).resp = s.resp ∧ (State.rec05 ev extra s).mem = s.mem ∧
    (State.rec05 ev extra s).sent = s.sent ∧ (State.rec05 ev extra s).time = s.time ∧
    (State.rec05 ev extra s).power = s.power ∧ (State.rec05 ev extra s).pair = s.pair ∧
    (State.rec05 ev extra s).anvil = s.anvil ∧ (State.rec05 ev extra s).ledger = s.ledger ∧
    (State.rec05 ev extra s).cores = s.cores ∧ (State.rec05 ev extra s).triads = s.triads ∧
    (State.rec05 ev extra s).dma = s.dma ∧ (State.rec05 ev extra s).crossings = s.crossings ∧
    (State.rec05 ev extra s).islandsOff = s.islandsOff ∧ (State.rec05 ev extra s).holdover = s.holdover ∧
    (State.rec05 ev extra s).dramReady = s.dramReady ∧ (State.rec05 ev extra s).bellows = s.bellows ∧
    (State.rec05 ev extra s).backup = s.backup ∧ (State.rec05 ev extra s).start = s.start ∧
    (State.rec05 ev extra s).grid = s.grid ∧ (State.rec05 ev extra s).change = s.change ∧
    (State.rec05 ev extra s).force = s.force ∧ (State.rec05 ev extra s).slices = s.slices ∧
    (State.rec05 ev extra s).groups = s.groups ∧ (State.rec05 ev extra s).trims = s.trims ∧
    (State.rec05 ev extra s).critical = s.critical ∧ (State.rec05 ev extra s).ports = s.ports ∧
    (State.rec05 ev extra s).stations = s.stations ∧ (State.rec05 ev extra s).net = s.net ∧
    (State.rec05 ev extra s).trust = s.trust ∧ (State.rec05 ev extra s).memErrors = s.memErrors ∧
    (State.rec05 ev extra s).stalls = s.stalls :=
  by
  unfold State.rec05
  (try dsimp only)
  (repeat' split) <;> simp

@[simp] theorem State.rec06_frame (g i ev : Nat) (s : State) :
    (State.rec06 g i ev s).pending = s.pending ∧ (State.rec06 g i ev s).free = s.free ∧
    (State.rec06 g i ev s).resp = s.resp ∧ (State.rec06 g i ev s).mem = s.mem ∧
    (State.rec06 g i ev s).sent = s.sent ∧ (State.rec06 g i ev s).time = s.time ∧
    (State.rec06 g i ev s).power = s.power ∧ (State.rec06 g i ev s).pair = s.pair ∧
    (State.rec06 g i ev s).anvil = s.anvil ∧ (State.rec06 g i ev s).ledger = s.ledger ∧
    (State.rec06 g i ev s).cores = s.cores ∧ (State.rec06 g i ev s).triads = s.triads ∧
    (State.rec06 g i ev s).dma = s.dma ∧ (State.rec06 g i ev s).crossings = s.crossings ∧
    (State.rec06 g i ev s).islandsOff = s.islandsOff ∧ (State.rec06 g i ev s).holdover = s.holdover ∧
    (State.rec06 g i ev s).dramReady = s.dramReady ∧ (State.rec06 g i ev s).bellows = s.bellows ∧
    (State.rec06 g i ev s).backup = s.backup ∧ (State.rec06 g i ev s).start = s.start ∧
    (State.rec06 g i ev s).grid = s.grid ∧ (State.rec06 g i ev s).change = s.change ∧
    (State.rec06 g i ev s).force = s.force ∧ (State.rec06 g i ev s).slices = s.slices ∧
    (State.rec06 g i ev s).groups = s.groups ∧ (State.rec06 g i ev s).trims = s.trims ∧
    (State.rec06 g i ev s).critical = s.critical ∧ (State.rec06 g i ev s).ports = s.ports ∧
    (State.rec06 g i ev s).stations = s.stations ∧ (State.rec06 g i ev s).net = s.net ∧
    (State.rec06 g i ev s).trust = s.trust ∧ (State.rec06 g i ev s).memErrors = s.memErrors ∧
    (State.rec06 g i ev s).stalls = s.stalls :=
  by
  unfold State.rec06
  (try dsimp only)
  (repeat' split) <;> simp

@[simp] theorem State.rec07_frame (a port stn ev : Nat) (s : State) :
    (State.rec07 a port stn ev s).pending = s.pending ∧ (State.rec07 a port stn ev s).free = s.free ∧
    (State.rec07 a port stn ev s).resp = s.resp ∧ (State.rec07 a port stn ev s).mem = s.mem ∧
    (State.rec07 a port stn ev s).sent = s.sent ∧ (State.rec07 a port stn ev s).time = s.time ∧
    (State.rec07 a port stn ev s).power = s.power ∧ (State.rec07 a port stn ev s).pair = s.pair ∧
    (State.rec07 a port stn ev s).anvil = s.anvil ∧ (State.rec07 a port stn ev s).ledger = s.ledger ∧
    (State.rec07 a port stn ev s).cores = s.cores ∧ (State.rec07 a port stn ev s).triads = s.triads ∧
    (State.rec07 a port stn ev s).dma = s.dma ∧ (State.rec07 a port stn ev s).crossings = s.crossings ∧
    (State.rec07 a port stn ev s).islandsOff = s.islandsOff ∧ (State.rec07 a port stn ev s).holdover = s.holdover ∧
    (State.rec07 a port stn ev s).dramReady = s.dramReady ∧ (State.rec07 a port stn ev s).bellows = s.bellows ∧
    (State.rec07 a port stn ev s).backup = s.backup ∧ (State.rec07 a port stn ev s).start = s.start ∧
    (State.rec07 a port stn ev s).grid = s.grid ∧ (State.rec07 a port stn ev s).change = s.change ∧
    (State.rec07 a port stn ev s).force = s.force ∧ (State.rec07 a port stn ev s).slices = s.slices ∧
    (State.rec07 a port stn ev s).groups = s.groups ∧ (State.rec07 a port stn ev s).trims = s.trims ∧
    (State.rec07 a port stn ev s).critical = s.critical ∧ (State.rec07 a port stn ev s).ports = s.ports ∧
    (State.rec07 a port stn ev s).stations = s.stations ∧ (State.rec07 a port stn ev s).net = s.net ∧
    (State.rec07 a port stn ev s).trust = s.trust ∧ (State.rec07 a port stn ev s).memErrors = s.memErrors ∧
    (State.rec07 a port stn ev s).stalls = s.stalls :=
  by
  unfold State.rec07
  (try dsimp only)
  (repeat' split) <;> simp

@[simp] theorem State.rec08_frame (ev : Nat) (data : List W8) (s : State) :
    (State.rec08 ev data s).pending = s.pending ∧ (State.rec08 ev data s).free = s.free ∧
    (State.rec08 ev data s).resp = s.resp ∧ (State.rec08 ev data s).mem = s.mem ∧
    (State.rec08 ev data s).sent = s.sent ∧ (State.rec08 ev data s).time = s.time ∧
    (State.rec08 ev data s).power = s.power ∧ (State.rec08 ev data s).pair = s.pair ∧
    (State.rec08 ev data s).anvil = s.anvil ∧ (State.rec08 ev data s).ledger = s.ledger ∧
    (State.rec08 ev data s).cores = s.cores ∧ (State.rec08 ev data s).triads = s.triads ∧
    (State.rec08 ev data s).dma = s.dma ∧ (State.rec08 ev data s).crossings = s.crossings ∧
    (State.rec08 ev data s).islandsOff = s.islandsOff ∧ (State.rec08 ev data s).holdover = s.holdover ∧
    (State.rec08 ev data s).dramReady = s.dramReady ∧ (State.rec08 ev data s).bellows = s.bellows ∧
    (State.rec08 ev data s).backup = s.backup ∧ (State.rec08 ev data s).start = s.start ∧
    (State.rec08 ev data s).grid = s.grid ∧ (State.rec08 ev data s).change = s.change ∧
    (State.rec08 ev data s).force = s.force ∧ (State.rec08 ev data s).slices = s.slices ∧
    (State.rec08 ev data s).groups = s.groups ∧ (State.rec08 ev data s).trims = s.trims ∧
    (State.rec08 ev data s).critical = s.critical ∧ (State.rec08 ev data s).ports = s.ports ∧
    (State.rec08 ev data s).stations = s.stations ∧ (State.rec08 ev data s).net = s.net ∧
    (State.rec08 ev data s).trust = s.trust ∧ (State.rec08 ev data s).memErrors = s.memErrors ∧
    (State.rec08 ev data s).stalls = s.stalls :=
  by
  unfold State.rec08
  (try dsimp only)
  (repeat' split) <;> simp

@[simp] theorem State.rec09_frame (ev : Nat) (extra : List W8) (s : State) :
    (State.rec09 ev extra s).pending = s.pending ∧ (State.rec09 ev extra s).free = s.free ∧
    (State.rec09 ev extra s).resp = s.resp ∧ (State.rec09 ev extra s).mem = s.mem ∧
    (State.rec09 ev extra s).sent = s.sent ∧ (State.rec09 ev extra s).time = s.time ∧
    (State.rec09 ev extra s).power = s.power ∧ (State.rec09 ev extra s).pair = s.pair ∧
    (State.rec09 ev extra s).anvil = s.anvil ∧ (State.rec09 ev extra s).ledger = s.ledger ∧
    (State.rec09 ev extra s).cores = s.cores ∧ (State.rec09 ev extra s).triads = s.triads ∧
    (State.rec09 ev extra s).dma = s.dma ∧ (State.rec09 ev extra s).crossings = s.crossings ∧
    (State.rec09 ev extra s).islandsOff = s.islandsOff ∧ (State.rec09 ev extra s).holdover = s.holdover ∧
    (State.rec09 ev extra s).dramReady = s.dramReady ∧ (State.rec09 ev extra s).bellows = s.bellows ∧
    (State.rec09 ev extra s).backup = s.backup ∧ (State.rec09 ev extra s).start = s.start ∧
    (State.rec09 ev extra s).grid = s.grid ∧ (State.rec09 ev extra s).change = s.change ∧
    (State.rec09 ev extra s).force = s.force ∧ (State.rec09 ev extra s).slices = s.slices ∧
    (State.rec09 ev extra s).groups = s.groups ∧ (State.rec09 ev extra s).trims = s.trims ∧
    (State.rec09 ev extra s).critical = s.critical ∧ (State.rec09 ev extra s).ports = s.ports ∧
    (State.rec09 ev extra s).stations = s.stations ∧ (State.rec09 ev extra s).net = s.net ∧
    (State.rec09 ev extra s).trust = s.trust ∧ (State.rec09 ev extra s).memErrors = s.memErrors ∧
    (State.rec09 ev extra s).stalls = s.stalls :=
  by
  unfold State.rec09
  (try dsimp only)
  (repeat' split) <;> simp

@[simp] theorem State.rec0A_frame (ev pool : Nat) (s : State) :
    (State.rec0A ev pool s).pending = s.pending ∧ (State.rec0A ev pool s).free = s.free ∧
    (State.rec0A ev pool s).resp = s.resp ∧ (State.rec0A ev pool s).mem = s.mem ∧
    (State.rec0A ev pool s).sent = s.sent ∧ (State.rec0A ev pool s).time = s.time ∧
    (State.rec0A ev pool s).power = s.power ∧ (State.rec0A ev pool s).pair = s.pair ∧
    (State.rec0A ev pool s).anvil = s.anvil ∧ (State.rec0A ev pool s).ledger = s.ledger ∧
    (State.rec0A ev pool s).cores = s.cores ∧ (State.rec0A ev pool s).triads = s.triads ∧
    (State.rec0A ev pool s).dma = s.dma ∧ (State.rec0A ev pool s).crossings = s.crossings ∧
    (State.rec0A ev pool s).islandsOff = s.islandsOff ∧ (State.rec0A ev pool s).holdover = s.holdover ∧
    (State.rec0A ev pool s).dramReady = s.dramReady ∧ (State.rec0A ev pool s).bellows = s.bellows ∧
    (State.rec0A ev pool s).backup = s.backup ∧ (State.rec0A ev pool s).start = s.start ∧
    (State.rec0A ev pool s).grid = s.grid ∧ (State.rec0A ev pool s).change = s.change ∧
    (State.rec0A ev pool s).force = s.force ∧ (State.rec0A ev pool s).slices = s.slices ∧
    (State.rec0A ev pool s).groups = s.groups ∧ (State.rec0A ev pool s).trims = s.trims ∧
    (State.rec0A ev pool s).critical = s.critical ∧ (State.rec0A ev pool s).ports = s.ports ∧
    (State.rec0A ev pool s).stations = s.stations ∧ (State.rec0A ev pool s).net = s.net ∧
    (State.rec0A ev pool s).trust = s.trust ∧ (State.rec0A ev pool s).memErrors = s.memErrors ∧
    (State.rec0A ev pool s).stalls = s.stalls :=
  by
  unfold State.rec0A
  (try dsimp only)
  (repeat' split) <;> simp

@[simp] theorem State.ptFail_frame (test elem pool : Nat) (s : State) :
    (State.ptFail test elem pool s).pending = s.pending ∧ (State.ptFail test elem pool s).free = s.free ∧
    (State.ptFail test elem pool s).resp = s.resp ∧ (State.ptFail test elem pool s).mem = s.mem ∧
    (State.ptFail test elem pool s).sent = s.sent ∧ (State.ptFail test elem pool s).time = s.time ∧
    (State.ptFail test elem pool s).power = s.power ∧ (State.ptFail test elem pool s).pair = s.pair ∧
    (State.ptFail test elem pool s).anvil = s.anvil ∧ (State.ptFail test elem pool s).ledger = s.ledger ∧
    (State.ptFail test elem pool s).cores = s.cores ∧ (State.ptFail test elem pool s).triads = s.triads ∧
    (State.ptFail test elem pool s).dma = s.dma ∧ (State.ptFail test elem pool s).crossings = s.crossings ∧
    (State.ptFail test elem pool s).islandsOff = s.islandsOff ∧
    (State.ptFail test elem pool s).holdover = s.holdover ∧ (State.ptFail test elem pool s).dramReady = s.dramReady ∧
    (State.ptFail test elem pool s).bellows = s.bellows ∧ (State.ptFail test elem pool s).backup = s.backup ∧
    (State.ptFail test elem pool s).start = s.start ∧ (State.ptFail test elem pool s).grid = s.grid ∧
    (State.ptFail test elem pool s).change = s.change ∧ (State.ptFail test elem pool s).force = s.force ∧
    (State.ptFail test elem pool s).slices = s.slices ∧ (State.ptFail test elem pool s).groups = s.groups ∧
    (State.ptFail test elem pool s).trims = s.trims ∧ (State.ptFail test elem pool s).critical = s.critical ∧
    (State.ptFail test elem pool s).ports = s.ports ∧ (State.ptFail test elem pool s).stations = s.stations ∧
    (State.ptFail test elem pool s).net = s.net ∧ (State.ptFail test elem pool s).trust = s.trust ∧
    (State.ptFail test elem pool s).memErrors = s.memErrors ∧ (State.ptFail test elem pool s).stalls = s.stalls :=
  by
  unfold State.ptFail
  (try dsimp only)
  (repeat' split) <;> simp

@[simp] theorem State.recMasked_frame (cls : Nat) (data : List W8) (s : State) :
    (State.recMasked cls data s).pending = s.pending ∧ (State.recMasked cls data s).resp = s.resp ∧
    (State.recMasked cls data s).mem = s.mem ∧ (State.recMasked cls data s).sent = s.sent ∧
    (State.recMasked cls data s).time = s.time ∧ (State.recMasked cls data s).power = s.power ∧
    (State.recMasked cls data s).pair = s.pair ∧ (State.recMasked cls data s).anvil = s.anvil ∧
    (State.recMasked cls data s).ledger = s.ledger ∧ (State.recMasked cls data s).cores = s.cores ∧
    (State.recMasked cls data s).triads = s.triads ∧ (State.recMasked cls data s).dma = s.dma ∧
    (State.recMasked cls data s).crossings = s.crossings ∧ (State.recMasked cls data s).islandsOff = s.islandsOff ∧
    (State.recMasked cls data s).holdover = s.holdover ∧ (State.recMasked cls data s).dramReady = s.dramReady ∧
    (State.recMasked cls data s).bellows = s.bellows ∧ (State.recMasked cls data s).backup = s.backup ∧
    (State.recMasked cls data s).start = s.start ∧ (State.recMasked cls data s).grid = s.grid ∧
    (State.recMasked cls data s).change = s.change ∧ (State.recMasked cls data s).force = s.force ∧
    (State.recMasked cls data s).slices = s.slices ∧ (State.recMasked cls data s).groups = s.groups ∧
    (State.recMasked cls data s).trims = s.trims ∧ (State.recMasked cls data s).critical = s.critical ∧
    (State.recMasked cls data s).ports = s.ports ∧ (State.recMasked cls data s).stations = s.stations ∧
    (State.recMasked cls data s).net = s.net ∧ (State.recMasked cls data s).trust = s.trust ∧
    (State.recMasked cls data s).memErrors = s.memErrors ∧ (State.recMasked cls data s).stalls = s.stalls :=
  by
  unfold State.recMasked
  (try dsimp only)
  (repeat' split) <;> simp

@[simp] theorem State.rec0B_frame (ev : Nat) (s : State) :
    (State.rec0B ev s).pending = s.pending ∧ (State.rec0B ev s).free = s.free ∧ (State.rec0B ev s).resp = s.resp ∧
    (State.rec0B ev s).mem = s.mem ∧ (State.rec0B ev s).sent = s.sent ∧ (State.rec0B ev s).time = s.time ∧
    (State.rec0B ev s).power = s.power ∧ (State.rec0B ev s).pair = s.pair ∧ (State.rec0B ev s).anvil = s.anvil ∧
    (State.rec0B ev s).ledger = s.ledger ∧ (State.rec0B ev s).cores = s.cores ∧
    (State.rec0B ev s).triads = s.triads ∧ (State.rec0B ev s).dma = s.dma ∧
    (State.rec0B ev s).crossings = s.crossings ∧ (State.rec0B ev s).islandsOff = s.islandsOff ∧
    (State.rec0B ev s).holdover = s.holdover ∧ (State.rec0B ev s).dramReady = s.dramReady ∧
    (State.rec0B ev s).bellows = s.bellows ∧ (State.rec0B ev s).backup = s.backup ∧
    (State.rec0B ev s).start = s.start ∧ (State.rec0B ev s).grid = s.grid ∧ (State.rec0B ev s).change = s.change ∧
    (State.rec0B ev s).force = s.force ∧ (State.rec0B ev s).slices = s.slices ∧
    (State.rec0B ev s).groups = s.groups ∧ (State.rec0B ev s).trims = s.trims ∧
    (State.rec0B ev s).critical = s.critical ∧ (State.rec0B ev s).ports = s.ports ∧
    (State.rec0B ev s).stations = s.stations ∧ (State.rec0B ev s).net = s.net ∧ (State.rec0B ev s).trust = s.trust ∧
    (State.rec0B ev s).memErrors = s.memErrors ∧ (State.rec0B ev s).stalls = s.stalls :=
  by
  unfold State.rec0B
  (try dsimp only)
  (repeat' split) <;> simp

@[simp] theorem State.rec0C_frame (ev line : Nat) (tick : W64) (s : State) :
    (State.rec0C ev line tick s).pending = s.pending ∧ (State.rec0C ev line tick s).free = s.free ∧
    (State.rec0C ev line tick s).resp = s.resp ∧ (State.rec0C ev line tick s).mem = s.mem ∧
    (State.rec0C ev line tick s).sent = s.sent ∧ (State.rec0C ev line tick s).time = s.time ∧
    (State.rec0C ev line tick s).power = s.power ∧ (State.rec0C ev line tick s).pair = s.pair ∧
    (State.rec0C ev line tick s).anvil = s.anvil ∧ (State.rec0C ev line tick s).ledger = s.ledger ∧
    (State.rec0C ev line tick s).cores = s.cores ∧ (State.rec0C ev line tick s).triads = s.triads ∧
    (State.rec0C ev line tick s).dma = s.dma ∧ (State.rec0C ev line tick s).crossings = s.crossings ∧
    (State.rec0C ev line tick s).islandsOff = s.islandsOff ∧ (State.rec0C ev line tick s).holdover = s.holdover ∧
    (State.rec0C ev line tick s).dramReady = s.dramReady ∧ (State.rec0C ev line tick s).bellows = s.bellows ∧
    (State.rec0C ev line tick s).backup = s.backup ∧ (State.rec0C ev line tick s).start = s.start ∧
    (State.rec0C ev line tick s).grid = s.grid ∧ (State.rec0C ev line tick s).change = s.change ∧
    (State.rec0C ev line tick s).force = s.force ∧ (State.rec0C ev line tick s).slices = s.slices ∧
    (State.rec0C ev line tick s).groups = s.groups ∧ (State.rec0C ev line tick s).trims = s.trims ∧
    (State.rec0C ev line tick s).critical = s.critical ∧ (State.rec0C ev line tick s).ports = s.ports ∧
    (State.rec0C ev line tick s).stations = s.stations ∧ (State.rec0C ev line tick s).net = s.net ∧
    (State.rec0C ev line tick s).trust = s.trust ∧ (State.rec0C ev line tick s).memErrors = s.memErrors ∧
    (State.rec0C ev line tick s).stalls = s.stalls :=
  by
  unfold State.rec0C
  (try dsimp only)
  (repeat' split) <;> simp

@[simp] theorem State.chgEnter_frame (st code : Nat) (s : State) :
    (State.chgEnter st code s).pending = s.pending ∧ (State.chgEnter st code s).free = s.free ∧
    (State.chgEnter st code s).resp = s.resp ∧ (State.chgEnter st code s).mem = s.mem ∧
    (State.chgEnter st code s).time = s.time ∧ (State.chgEnter st code s).power = s.power ∧
    (State.chgEnter st code s).pair = s.pair ∧ (State.chgEnter st code s).ledger = s.ledger ∧
    (State.chgEnter st code s).cores = s.cores ∧ (State.chgEnter st code s).triads = s.triads ∧
    (State.chgEnter st code s).dma = s.dma ∧ (State.chgEnter st code s).crossings = s.crossings ∧
    (State.chgEnter st code s).islandsOff = s.islandsOff ∧ (State.chgEnter st code s).holdover = s.holdover ∧
    (State.chgEnter st code s).dramReady = s.dramReady ∧ (State.chgEnter st code s).bellows = s.bellows ∧
    (State.chgEnter st code s).backup = s.backup ∧ (State.chgEnter st code s).start = s.start ∧
    (State.chgEnter st code s).grid = s.grid ∧ (State.chgEnter st code s).change = s.change ∧
    (State.chgEnter st code s).force = s.force ∧ (State.chgEnter st code s).slices = s.slices ∧
    (State.chgEnter st code s).groups = s.groups ∧ (State.chgEnter st code s).trims = s.trims ∧
    (State.chgEnter st code s).critical = s.critical ∧ (State.chgEnter st code s).ports = s.ports ∧
    (State.chgEnter st code s).stations = s.stations ∧ (State.chgEnter st code s).net = s.net ∧
    (State.chgEnter st code s).trust = s.trust ∧ (State.chgEnter st code s).memErrors = s.memErrors ∧
    (State.chgEnter st code s).stalls = s.stalls :=
  by
  unfold State.chgEnter
  (try dsimp only)
  (repeat' split) <;> simp

@[simp] theorem State.chgAbandon_frame (code : Nat) (s : State) :
    (State.chgAbandon code s).pending = s.pending ∧ (State.chgAbandon code s).free = s.free ∧
    (State.chgAbandon code s).resp = s.resp ∧ (State.chgAbandon code s).mem = s.mem ∧
    (State.chgAbandon code s).time = s.time ∧ (State.chgAbandon code s).power = s.power ∧
    (State.chgAbandon code s).pair = s.pair ∧ (State.chgAbandon code s).ledger = s.ledger ∧
    (State.chgAbandon code s).cores = s.cores ∧ (State.chgAbandon code s).triads = s.triads ∧
    (State.chgAbandon code s).dma = s.dma ∧ (State.chgAbandon code s).crossings = s.crossings ∧
    (State.chgAbandon code s).islandsOff = s.islandsOff ∧ (State.chgAbandon code s).holdover = s.holdover ∧
    (State.chgAbandon code s).dramReady = s.dramReady ∧ (State.chgAbandon code s).bellows = s.bellows ∧
    (State.chgAbandon code s).backup = s.backup ∧ (State.chgAbandon code s).start = s.start ∧
    (State.chgAbandon code s).grid = s.grid ∧ (State.chgAbandon code s).force = s.force ∧
    (State.chgAbandon code s).slices = s.slices ∧ (State.chgAbandon code s).groups = s.groups ∧
    (State.chgAbandon code s).trims = s.trims ∧ (State.chgAbandon code s).critical = s.critical ∧
    (State.chgAbandon code s).ports = s.ports ∧ (State.chgAbandon code s).stations = s.stations ∧
    (State.chgAbandon code s).net = s.net ∧ (State.chgAbandon code s).trust = s.trust ∧
    (State.chgAbandon code s).memErrors = s.memErrors ∧ (State.chgAbandon code s).stalls = s.stalls :=
  by
  unfold State.chgAbandon
  (try dsimp only)
  (repeat' split) <;> simp

@[simp] theorem State.chgTriadReset_frame (t : Nat) (s : State) :
    (State.chgTriadReset t s).pending = s.pending ∧ (State.chgTriadReset t s).free = s.free ∧
    (State.chgTriadReset t s).resp = s.resp ∧ (State.chgTriadReset t s).mem = s.mem ∧
    (State.chgTriadReset t s).time = s.time ∧ (State.chgTriadReset t s).power = s.power ∧
    (State.chgTriadReset t s).pair = s.pair ∧ (State.chgTriadReset t s).ledger = s.ledger ∧
    (State.chgTriadReset t s).cores = s.cores ∧ (State.chgTriadReset t s).triads = s.triads ∧
    (State.chgTriadReset t s).dma = s.dma ∧ (State.chgTriadReset t s).crossings = s.crossings ∧
    (State.chgTriadReset t s).islandsOff = s.islandsOff ∧ (State.chgTriadReset t s).holdover = s.holdover ∧
    (State.chgTriadReset t s).dramReady = s.dramReady ∧ (State.chgTriadReset t s).bellows = s.bellows ∧
    (State.chgTriadReset t s).backup = s.backup ∧ (State.chgTriadReset t s).start = s.start ∧
    (State.chgTriadReset t s).grid = s.grid ∧ (State.chgTriadReset t s).force = s.force ∧
    (State.chgTriadReset t s).slices = s.slices ∧ (State.chgTriadReset t s).groups = s.groups ∧
    (State.chgTriadReset t s).trims = s.trims ∧ (State.chgTriadReset t s).critical = s.critical ∧
    (State.chgTriadReset t s).ports = s.ports ∧ (State.chgTriadReset t s).stations = s.stations ∧
    (State.chgTriadReset t s).net = s.net ∧ (State.chgTriadReset t s).trust = s.trust ∧
    (State.chgTriadReset t s).memErrors = s.memErrors ∧ (State.chgTriadReset t s).stalls = s.stalls :=
  by
  unfold State.chgTriadReset
  (try dsimp only)
  (repeat' split) <;> simp

@[simp] theorem State.atTime_frame (t : W64) (s : State) :
    (State.atTime t s).pending = s.pending ∧ (State.atTime t s).free = s.free ∧ (State.atTime t s).resp = s.resp ∧
    (State.atTime t s).mem = s.mem ∧ (State.atTime t s).sent = s.sent ∧ (State.atTime t s).power = s.power ∧
    (State.atTime t s).pair = s.pair ∧ (State.atTime t s).anvil = s.anvil ∧ (State.atTime t s).ledger = s.ledger ∧
    (State.atTime t s).cores = s.cores ∧ (State.atTime t s).triads = s.triads ∧ (State.atTime t s).dma = s.dma ∧
    (State.atTime t s).crossings = s.crossings ∧ (State.atTime t s).islandsOff = s.islandsOff ∧
    (State.atTime t s).holdover = s.holdover ∧ (State.atTime t s).dramReady = s.dramReady ∧
    (State.atTime t s).bellows = s.bellows ∧ (State.atTime t s).backup = s.backup ∧
    (State.atTime t s).start = s.start ∧ (State.atTime t s).grid = s.grid ∧ (State.atTime t s).change = s.change ∧
    (State.atTime t s).force = s.force ∧ (State.atTime t s).slices = s.slices ∧
    (State.atTime t s).groups = s.groups ∧ (State.atTime t s).trims = s.trims ∧
    (State.atTime t s).critical = s.critical ∧ (State.atTime t s).ports = s.ports ∧
    (State.atTime t s).stations = s.stations ∧ (State.atTime t s).net = s.net ∧ (State.atTime t s).trust = s.trust ∧
    (State.atTime t s).memErrors = s.memErrors ∧ (State.atTime t s).stalls = s.stalls :=
  by
  unfold State.atTime
  (try dsimp only)
  (repeat' split) <;> simp

@[simp] theorem State.forecastPool_frame (s : State) (p : Nat) :
    (State.forecastPool s p).pending = s.pending ∧ (State.forecastPool s p).free = s.free ∧
    (State.forecastPool s p).resp = s.resp ∧ (State.forecastPool s p).mem = s.mem ∧
    (State.forecastPool s p).sent = s.sent ∧ (State.forecastPool s p).time = s.time ∧
    (State.forecastPool s p).power = s.power ∧ (State.forecastPool s p).anvil = s.anvil ∧
    (State.forecastPool s p).recorder = s.recorder ∧ (State.forecastPool s p).ledger = s.ledger ∧
    (State.forecastPool s p).cores = s.cores ∧ (State.forecastPool s p).triads = s.triads ∧
    (State.forecastPool s p).dma = s.dma ∧ (State.forecastPool s p).crossings = s.crossings ∧
    (State.forecastPool s p).islandsOff = s.islandsOff ∧ (State.forecastPool s p).holdover = s.holdover ∧
    (State.forecastPool s p).dramReady = s.dramReady ∧ (State.forecastPool s p).bellows = s.bellows ∧
    (State.forecastPool s p).backup = s.backup ∧ (State.forecastPool s p).start = s.start ∧
    (State.forecastPool s p).grid = s.grid ∧ (State.forecastPool s p).change = s.change ∧
    (State.forecastPool s p).force = s.force ∧ (State.forecastPool s p).slices = s.slices ∧
    (State.forecastPool s p).groups = s.groups ∧ (State.forecastPool s p).trims = s.trims ∧
    (State.forecastPool s p).critical = s.critical ∧ (State.forecastPool s p).ports = s.ports ∧
    (State.forecastPool s p).stations = s.stations ∧ (State.forecastPool s p).net = s.net ∧
    (State.forecastPool s p).trust = s.trust ∧ (State.forecastPool s p).memErrors = s.memErrors ∧
    (State.forecastPool s p).stalls = s.stalls :=
  by
  unfold State.forecastPool
  (try dsimp only)
  (repeat' split) <;> simp

@[simp] theorem State.ledgerEntry_frame (pool sub action cause : Nat) (old new : W32) (recSeq take : Nat) (s : State) :
    (State.ledgerEntry pool sub action cause old new recSeq take s).pending = s.pending ∧
    (State.ledgerEntry pool sub action cause old new recSeq take s).free = s.free ∧
    (State.ledgerEntry pool sub action cause old new recSeq take s).resp = s.resp ∧
    (State.ledgerEntry pool sub action cause old new recSeq take s).mem = s.mem ∧
    (State.ledgerEntry pool sub action cause old new recSeq take s).sent = s.sent ∧
    (State.ledgerEntry pool sub action cause old new recSeq take s).time = s.time ∧
    (State.ledgerEntry pool sub action cause old new recSeq take s).power = s.power ∧
    (State.ledgerEntry pool sub action cause old new recSeq take s).anvil = s.anvil ∧
    (State.ledgerEntry pool sub action cause old new recSeq take s).recorder = s.recorder ∧
    (State.ledgerEntry pool sub action cause old new recSeq take s).cores = s.cores ∧
    (State.ledgerEntry pool sub action cause old new recSeq take s).triads = s.triads ∧
    (State.ledgerEntry pool sub action cause old new recSeq take s).dma = s.dma ∧
    (State.ledgerEntry pool sub action cause old new recSeq take s).crossings = s.crossings ∧
    (State.ledgerEntry pool sub action cause old new recSeq take s).islandsOff = s.islandsOff ∧
    (State.ledgerEntry pool sub action cause old new recSeq take s).holdover = s.holdover ∧
    (State.ledgerEntry pool sub action cause old new recSeq take s).dramReady = s.dramReady ∧
    (State.ledgerEntry pool sub action cause old new recSeq take s).bellows = s.bellows ∧
    (State.ledgerEntry pool sub action cause old new recSeq take s).backup = s.backup ∧
    (State.ledgerEntry pool sub action cause old new recSeq take s).start = s.start ∧
    (State.ledgerEntry pool sub action cause old new recSeq take s).grid = s.grid ∧
    (State.ledgerEntry pool sub action cause old new recSeq take s).change = s.change ∧
    (State.ledgerEntry pool sub action cause old new recSeq take s).force = s.force ∧
    (State.ledgerEntry pool sub action cause old new recSeq take s).slices = s.slices ∧
    (State.ledgerEntry pool sub action cause old new recSeq take s).groups = s.groups ∧
    (State.ledgerEntry pool sub action cause old new recSeq take s).trims = s.trims ∧
    (State.ledgerEntry pool sub action cause old new recSeq take s).critical = s.critical ∧
    (State.ledgerEntry pool sub action cause old new recSeq take s).ports = s.ports ∧
    (State.ledgerEntry pool sub action cause old new recSeq take s).stations = s.stations ∧
    (State.ledgerEntry pool sub action cause old new recSeq take s).net = s.net ∧
    (State.ledgerEntry pool sub action cause old new recSeq take s).trust = s.trust ∧
    (State.ledgerEntry pool sub action cause old new recSeq take s).memErrors = s.memErrors ∧
    (State.ledgerEntry pool sub action cause old new recSeq take s).stalls = s.stalls :=
  by
  unfold State.ledgerEntry
  (try dsimp only)
  (repeat' split) <;> simp

@[simp] theorem State.setRole_frame (r : Role) (s : State) :
    (State.setRole r s).pending = s.pending ∧ (State.setRole r s).free = s.free ∧ (State.setRole r s).resp = s.resp ∧
    (State.setRole r s).mem = s.mem ∧ (State.setRole r s).sent = s.sent ∧ (State.setRole r s).time = s.time ∧
    (State.setRole r s).power = s.power ∧ (State.setRole r s).anvil = s.anvil ∧
    (State.setRole r s).ledger = s.ledger ∧ (State.setRole r s).cores = s.cores ∧
    (State.setRole r s).triads = s.triads ∧ (State.setRole r s).dma = s.dma ∧
    (State.setRole r s).crossings = s.crossings ∧ (State.setRole r s).islandsOff = s.islandsOff ∧
    (State.setRole r s).holdover = s.holdover ∧ (State.setRole r s).dramReady = s.dramReady ∧
    (State.setRole r s).bellows = s.bellows ∧ (State.setRole r s).backup = s.backup ∧
    (State.setRole r s).start = s.start ∧ (State.setRole r s).grid = s.grid ∧ (State.setRole r s).change = s.change ∧
    (State.setRole r s).force = s.force ∧ (State.setRole r s).slices = s.slices ∧
    (State.setRole r s).groups = s.groups ∧ (State.setRole r s).trims = s.trims ∧
    (State.setRole r s).critical = s.critical ∧ (State.setRole r s).ports = s.ports ∧
    (State.setRole r s).stations = s.stations ∧ (State.setRole r s).net = s.net ∧
    (State.setRole r s).trust = s.trust ∧ (State.setRole r s).memErrors = s.memErrors ∧
    (State.setRole r s).stalls = s.stalls :=
  by
  unfold State.setRole
  (try dsimp only)
  (repeat' split) <;> simp

@[simp] theorem State.hartLost_frame (g : Nat) (s : State) :
    (State.hartLost g s).pending = s.pending ∧ (State.hartLost g s).free = s.free ∧
    (State.hartLost g s).resp = s.resp ∧ (State.hartLost g s).mem = s.mem ∧ (State.hartLost g s).sent = s.sent ∧
    (State.hartLost g s).time = s.time ∧ (State.hartLost g s).power = s.power ∧ (State.hartLost g s).pair = s.pair ∧
    (State.hartLost g s).anvil = s.anvil ∧ (State.hartLost g s).recorder = s.recorder ∧
    (State.hartLost g s).ledger = s.ledger ∧ (State.hartLost g s).cores = s.cores ∧
    (State.hartLost g s).tic = s.tic ∧ (State.hartLost g s).triads = s.triads ∧ (State.hartLost g s).dma = s.dma ∧
    (State.hartLost g s).crossings = s.crossings ∧ (State.hartLost g s).islandsOff = s.islandsOff ∧
    (State.hartLost g s).holdover = s.holdover ∧ (State.hartLost g s).dramReady = s.dramReady ∧
    (State.hartLost g s).bellows = s.bellows ∧ (State.hartLost g s).backup = s.backup ∧
    (State.hartLost g s).start = s.start ∧ (State.hartLost g s).grid = s.grid ∧
    (State.hartLost g s).change = s.change ∧ (State.hartLost g s).force = s.force ∧
    (State.hartLost g s).slices = s.slices ∧ (State.hartLost g s).trims = s.trims ∧
    (State.hartLost g s).critical = s.critical ∧ (State.hartLost g s).ports = s.ports ∧
    (State.hartLost g s).stations = s.stations ∧ (State.hartLost g s).net = s.net ∧
    (State.hartLost g s).trust = s.trust ∧ (State.hartLost g s).memErrors = s.memErrors ∧
    (State.hartLost g s).stalls = s.stalls :=
  ⟨(foldl_keeps State.pending _ (fun s a => by simp) _ _),
    (foldl_keeps State.free _ (fun s a => by simp) _ _),
    (foldl_keeps State.resp _ (fun s a => by simp) _ _),
    (foldl_keeps State.mem _ (fun s a => by simp) _ _),
    (foldl_keeps State.sent _ (fun s a => by simp) _ _),
    (foldl_keeps State.time _ (fun s a => by simp) _ _),
    (foldl_keeps State.power _ (fun s a => by simp) _ _),
    (foldl_keeps State.pair _ (fun s a => by simp) _ _),
    (foldl_keeps State.anvil _ (fun s a => by simp) _ _),
    (foldl_keeps State.recorder _ (fun s a => by simp) _ _),
    (foldl_keeps State.ledger _ (fun s a => by simp) _ _),
    (foldl_keeps State.cores _ (fun s a => by simp) _ _),
    (foldl_keeps State.tic _ (fun s a => by simp) _ _),
    (foldl_keeps State.triads _ (fun s a => by simp) _ _),
    (foldl_keeps State.dma _ (fun s a => by simp) _ _),
    (foldl_keeps State.crossings _ (fun s a => by simp) _ _),
    (foldl_keeps State.islandsOff _ (fun s a => by simp) _ _),
    (foldl_keeps State.holdover _ (fun s a => by simp) _ _),
    (foldl_keeps State.dramReady _ (fun s a => by simp) _ _),
    (foldl_keeps State.bellows _ (fun s a => by simp) _ _),
    (foldl_keeps State.backup _ (fun s a => by simp) _ _),
    (foldl_keeps State.start _ (fun s a => by simp) _ _),
    (foldl_keeps State.grid _ (fun s a => by simp) _ _),
    (foldl_keeps State.change _ (fun s a => by simp) _ _),
    (foldl_keeps State.force _ (fun s a => by simp) _ _),
    (foldl_keeps State.slices _ (fun s a => by simp) _ _),
    (foldl_keeps State.trims _ (fun s a => by simp) _ _),
    (foldl_keeps State.critical _ (fun s a => by simp) _ _),
    (foldl_keeps State.ports _ (fun s a => by simp) _ _),
    (foldl_keeps State.stations _ (fun s a => by simp) _ _),
    (foldl_keeps State.net _ (fun s a => by simp) _ _),
    (foldl_keeps State.trust _ (fun s a => by simp) _ _),
    (foldl_keeps State.memErrors _ (fun s a => by simp) _ _),
    (foldl_keeps State.stalls _ (fun s a => by simp) _ _)⟩

@[simp] theorem State.hartDrop_frame (s : State) :
    (State.hartDrop s).pending = s.pending ∧ (State.hartDrop s).free = s.free ∧ (State.hartDrop s).resp = s.resp ∧
    (State.hartDrop s).mem = s.mem ∧ (State.hartDrop s).sent = s.sent ∧ (State.hartDrop s).time = s.time ∧
    (State.hartDrop s).power = s.power ∧ (State.hartDrop s).pair = s.pair ∧ (State.hartDrop s).anvil = s.anvil ∧
    (State.hartDrop s).recorder = s.recorder ∧ (State.hartDrop s).ledger = s.ledger ∧
    (State.hartDrop s).cores = s.cores ∧ (State.hartDrop s).tic = s.tic ∧ (State.hartDrop s).triads = s.triads ∧
    (State.hartDrop s).dma = s.dma ∧ (State.hartDrop s).crossings = s.crossings ∧
    (State.hartDrop s).islandsOff = s.islandsOff ∧ (State.hartDrop s).holdover = s.holdover ∧
    (State.hartDrop s).dramReady = s.dramReady ∧ (State.hartDrop s).bellows = s.bellows ∧
    (State.hartDrop s).backup = s.backup ∧ (State.hartDrop s).start = s.start ∧ (State.hartDrop s).grid = s.grid ∧
    (State.hartDrop s).change = s.change ∧ (State.hartDrop s).force = s.force ∧
    (State.hartDrop s).slices = s.slices ∧ (State.hartDrop s).trims = s.trims ∧
    (State.hartDrop s).critical = s.critical ∧ (State.hartDrop s).ports = s.ports ∧
    (State.hartDrop s).stations = s.stations ∧ (State.hartDrop s).net = s.net ∧ (State.hartDrop s).trust = s.trust ∧
    (State.hartDrop s).memErrors = s.memErrors ∧ (State.hartDrop s).stalls = s.stalls :=
  ⟨(foldl_keeps State.pending _ (fun s a => by simp) _ _),
    (foldl_keeps State.free _ (fun s a => by simp) _ _),
    (foldl_keeps State.resp _ (fun s a => by simp) _ _),
    (foldl_keeps State.mem _ (fun s a => by simp) _ _),
    (foldl_keeps State.sent _ (fun s a => by simp) _ _),
    (foldl_keeps State.time _ (fun s a => by simp) _ _),
    (foldl_keeps State.power _ (fun s a => by simp) _ _),
    (foldl_keeps State.pair _ (fun s a => by simp) _ _),
    (foldl_keeps State.anvil _ (fun s a => by simp) _ _),
    (foldl_keeps State.recorder _ (fun s a => by simp) _ _),
    (foldl_keeps State.ledger _ (fun s a => by simp) _ _),
    (foldl_keeps State.cores _ (fun s a => by simp) _ _),
    (foldl_keeps State.tic _ (fun s a => by simp) _ _),
    (foldl_keeps State.triads _ (fun s a => by simp) _ _),
    (foldl_keeps State.dma _ (fun s a => by simp) _ _),
    (foldl_keeps State.crossings _ (fun s a => by simp) _ _),
    (foldl_keeps State.islandsOff _ (fun s a => by simp) _ _),
    (foldl_keeps State.holdover _ (fun s a => by simp) _ _),
    (foldl_keeps State.dramReady _ (fun s a => by simp) _ _),
    (foldl_keeps State.bellows _ (fun s a => by simp) _ _),
    (foldl_keeps State.backup _ (fun s a => by simp) _ _),
    (foldl_keeps State.start _ (fun s a => by simp) _ _),
    (foldl_keeps State.grid _ (fun s a => by simp) _ _),
    (foldl_keeps State.change _ (fun s a => by simp) _ _),
    (foldl_keeps State.force _ (fun s a => by simp) _ _),
    (foldl_keeps State.slices _ (fun s a => by simp) _ _),
    (foldl_keeps State.trims _ (fun s a => by simp) _ _),
    (foldl_keeps State.critical _ (fun s a => by simp) _ _),
    (foldl_keeps State.ports _ (fun s a => by simp) _ _),
    (foldl_keeps State.stations _ (fun s a => by simp) _ _),
    (foldl_keeps State.net _ (fun s a => by simp) _ _),
    (foldl_keeps State.trust _ (fun s a => by simp) _ _),
    (foldl_keeps State.memErrors _ (fun s a => by simp) _ _),
    (foldl_keeps State.stalls _ (fun s a => by simp) _ _)⟩

@[simp] theorem State.release_frame (s : State) :
    (State.release s).pending = s.pending ∧ (State.release s).free = s.free ∧ (State.release s).resp = s.resp ∧
    (State.release s).mem = s.mem ∧ (State.release s).time = s.time ∧ (State.release s).power = s.power ∧
    (State.release s).recorder = s.recorder ∧ (State.release s).ledger = s.ledger ∧
    (State.release s).cores = s.cores ∧ (State.release s).tic = s.tic ∧ (State.release s).triads = s.triads ∧
    (State.release s).dma = s.dma ∧ (State.release s).crossings = s.crossings ∧
    (State.release s).islandsOff = s.islandsOff ∧ (State.release s).holdover = s.holdover ∧
    (State.release s).dramReady = s.dramReady ∧ (State.release s).bellows = s.bellows ∧
    (State.release s).backup = s.backup ∧ (State.release s).grid = s.grid ∧ (State.release s).change = s.change ∧
    (State.release s).force = s.force ∧ (State.release s).slices = s.slices ∧ (State.release s).trims = s.trims ∧
    (State.release s).critical = s.critical ∧ (State.release s).stations = s.stations ∧
    (State.release s).net = s.net ∧ (State.release s).trust = s.trust ∧ (State.release s).memErrors = s.memErrors ∧
    (State.release s).stalls = s.stalls :=
  by
  unfold State.release
  and_intros <;> simp

@[simp] theorem State.sourceClaim_frame (s : State) :
    (State.sourceClaim s).pending = s.pending ∧ (State.sourceClaim s).free = s.free ∧
    (State.sourceClaim s).resp = s.resp ∧ (State.sourceClaim s).regs = s.regs ∧ (State.sourceClaim s).mem = s.mem ∧
    (State.sourceClaim s).sent = s.sent ∧ (State.sourceClaim s).time = s.time ∧
    (State.sourceClaim s).power = s.power ∧ (State.sourceClaim s).anvil = s.anvil ∧
    (State.sourceClaim s).recorder = s.recorder ∧ (State.sourceClaim s).ledger = s.ledger ∧
    (State.sourceClaim s).cores = s.cores ∧ (State.sourceClaim s).tic = s.tic ∧
    (State.sourceClaim s).triads = s.triads ∧ (State.sourceClaim s).dma = s.dma ∧
    (State.sourceClaim s).crossings = s.crossings ∧ (State.sourceClaim s).islandsOff = s.islandsOff ∧
    (State.sourceClaim s).holdover = s.holdover ∧ (State.sourceClaim s).dramReady = s.dramReady ∧
    (State.sourceClaim s).bellows = s.bellows ∧ (State.sourceClaim s).backup = s.backup ∧
    (State.sourceClaim s).start = s.start ∧ (State.sourceClaim s).grid = s.grid ∧
    (State.sourceClaim s).change = s.change ∧ (State.sourceClaim s).force = s.force ∧
    (State.sourceClaim s).slices = s.slices ∧ (State.sourceClaim s).groups = s.groups ∧
    (State.sourceClaim s).trims = s.trims ∧ (State.sourceClaim s).critical = s.critical ∧
    (State.sourceClaim s).ports = s.ports ∧ (State.sourceClaim s).stations = s.stations ∧
    (State.sourceClaim s).net = s.net ∧ (State.sourceClaim s).trust = s.trust ∧
    (State.sourceClaim s).memErrors = s.memErrors ∧ (State.sourceClaim s).stalls = s.stalls :=
  by
  unfold State.sourceClaim
  (try dsimp only)
  (repeat' split) <;> simp

@[simp] theorem State.leaveCode_frame (n : Nat) (s : State) :
    (State.leaveCode n s).pending = s.pending ∧ (State.leaveCode n s).free = s.free ∧
    (State.leaveCode n s).resp = s.resp ∧ (State.leaveCode n s).mem = s.mem ∧ (State.leaveCode n s).sent = s.sent ∧
    (State.leaveCode n s).time = s.time ∧ (State.leaveCode n s).power = s.power ∧
    (State.leaveCode n s).pair = s.pair ∧ (State.leaveCode n s).anvil = s.anvil ∧
    (State.leaveCode n s).recorder = s.recorder ∧ (State.leaveCode n s).ledger = s.ledger ∧
    (State.leaveCode n s).cores = s.cores ∧ (State.leaveCode n s).tic = s.tic ∧
    (State.leaveCode n s).triads = s.triads ∧ (State.leaveCode n s).dma = s.dma ∧
    (State.leaveCode n s).crossings = s.crossings ∧ (State.leaveCode n s).islandsOff = s.islandsOff ∧
    (State.leaveCode n s).holdover = s.holdover ∧ (State.leaveCode n s).dramReady = s.dramReady ∧
    (State.leaveCode n s).bellows = s.bellows ∧ (State.leaveCode n s).backup = s.backup ∧
    (State.leaveCode n s).start = s.start ∧ (State.leaveCode n s).grid = s.grid ∧
    (State.leaveCode n s).change = s.change ∧ (State.leaveCode n s).force = s.force ∧
    (State.leaveCode n s).slices = s.slices ∧ (State.leaveCode n s).groups = s.groups ∧
    (State.leaveCode n s).trims = s.trims ∧ (State.leaveCode n s).critical = s.critical ∧
    (State.leaveCode n s).ports = s.ports ∧ (State.leaveCode n s).stations = s.stations ∧
    (State.leaveCode n s).net = s.net ∧ (State.leaveCode n s).trust = s.trust ∧
    (State.leaveCode n s).memErrors = s.memErrors ∧ (State.leaveCode n s).stalls = s.stalls :=
  by
  unfold State.leaveCode
  (try dsimp only)
  (repeat' split) <;> simp

@[simp] theorem State.resign_frame (code : Nat) (s : State) :
    (State.resign code s).pending = s.pending ∧ (State.resign code s).free = s.free ∧
    (State.resign code s).resp = s.resp ∧ (State.resign code s).mem = s.mem ∧ (State.resign code s).time = s.time ∧
    (State.resign code s).power = s.power ∧ (State.resign code s).ledger = s.ledger ∧
    (State.resign code s).cores = s.cores ∧ (State.resign code s).triads = s.triads ∧
    (State.resign code s).dma = s.dma ∧ (State.resign code s).crossings = s.crossings ∧
    (State.resign code s).islandsOff = s.islandsOff ∧ (State.resign code s).holdover = s.holdover ∧
    (State.resign code s).dramReady = s.dramReady ∧ (State.resign code s).bellows = s.bellows ∧
    (State.resign code s).backup = s.backup ∧ (State.resign code s).grid = s.grid ∧
    (State.resign code s).change = s.change ∧ (State.resign code s).force = s.force ∧
    (State.resign code s).slices = s.slices ∧ (State.resign code s).trims = s.trims ∧
    (State.resign code s).critical = s.critical ∧ (State.resign code s).stations = s.stations ∧
    (State.resign code s).net = s.net ∧ (State.resign code s).trust = s.trust ∧
    (State.resign code s).memErrors = s.memErrors ∧ (State.resign code s).stalls = s.stalls :=
  by
  unfold State.resign
  (try dsimp only)
  (repeat' split) <;> simp

@[simp] theorem State.outOfService_frame (s : State) :
    (State.outOfService s).pending = s.pending ∧ (State.outOfService s).free = s.free ∧
    (State.outOfService s).resp = s.resp ∧ (State.outOfService s).mem = s.mem ∧
    (State.outOfService s).time = s.time ∧ (State.outOfService s).power = s.power ∧
    (State.outOfService s).ledger = s.ledger ∧ (State.outOfService s).cores = s.cores ∧
    (State.outOfService s).triads = s.triads ∧ (State.outOfService s).dma = s.dma ∧
    (State.outOfService s).crossings = s.crossings ∧ (State.outOfService s).islandsOff = s.islandsOff ∧
    (State.outOfService s).holdover = s.holdover ∧ (State.outOfService s).dramReady = s.dramReady ∧
    (State.outOfService s).bellows = s.bellows ∧ (State.outOfService s).backup = s.backup ∧
    (State.outOfService s).grid = s.grid ∧ (State.outOfService s).change = s.change ∧
    (State.outOfService s).force = s.force ∧ (State.outOfService s).slices = s.slices ∧
    (State.outOfService s).trims = s.trims ∧ (State.outOfService s).critical = s.critical ∧
    (State.outOfService s).stations = s.stations ∧ (State.outOfService s).net = s.net ∧
    (State.outOfService s).trust = s.trust ∧ (State.outOfService s).memErrors = s.memErrors ∧
    (State.outOfService s).stalls = s.stalls :=
  by
  unfold State.outOfService
  (try dsimp only)
  (repeat' split) <;> simp

@[simp] theorem State.affectsControl_frame (s : State) :
    (State.affectsControl s).pending = s.pending ∧ (State.affectsControl s).free = s.free ∧
    (State.affectsControl s).resp = s.resp ∧ (State.affectsControl s).mem = s.mem ∧
    (State.affectsControl s).time = s.time ∧ (State.affectsControl s).power = s.power ∧
    (State.affectsControl s).ledger = s.ledger ∧ (State.affectsControl s).cores = s.cores ∧
    (State.affectsControl s).triads = s.triads ∧ (State.affectsControl s).dma = s.dma ∧
    (State.affectsControl s).crossings = s.crossings ∧ (State.affectsControl s).islandsOff = s.islandsOff ∧
    (State.affectsControl s).holdover = s.holdover ∧ (State.affectsControl s).dramReady = s.dramReady ∧
    (State.affectsControl s).bellows = s.bellows ∧ (State.affectsControl s).backup = s.backup ∧
    (State.affectsControl s).grid = s.grid ∧ (State.affectsControl s).change = s.change ∧
    (State.affectsControl s).force = s.force ∧ (State.affectsControl s).slices = s.slices ∧
    (State.affectsControl s).trims = s.trims ∧ (State.affectsControl s).critical = s.critical ∧
    (State.affectsControl s).stations = s.stations ∧ (State.affectsControl s).net = s.net ∧
    (State.affectsControl s).trust = s.trust ∧ (State.affectsControl s).memErrors = s.memErrors ∧
    (State.affectsControl s).stalls = s.stalls :=
  by
  unfold State.affectsControl
  (try dsimp only)
  (repeat' split) <;> simp

@[simp] theorem State.raisePairAlarm_frame (s : State) :
    (State.raisePairAlarm s).pending = s.pending ∧ (State.raisePairAlarm s).free = s.free ∧
    (State.raisePairAlarm s).resp = s.resp ∧ (State.raisePairAlarm s).mem = s.mem ∧
    (State.raisePairAlarm s).sent = s.sent ∧ (State.raisePairAlarm s).time = s.time ∧
    (State.raisePairAlarm s).power = s.power ∧ (State.raisePairAlarm s).anvil = s.anvil ∧
    (State.raisePairAlarm s).ledger = s.ledger ∧ (State.raisePairAlarm s).cores = s.cores ∧
    (State.raisePairAlarm s).triads = s.triads ∧ (State.raisePairAlarm s).dma = s.dma ∧
    (State.raisePairAlarm s).crossings = s.crossings ∧ (State.raisePairAlarm s).islandsOff = s.islandsOff ∧
    (State.raisePairAlarm s).holdover = s.holdover ∧ (State.raisePairAlarm s).dramReady = s.dramReady ∧
    (State.raisePairAlarm s).bellows = s.bellows ∧ (State.raisePairAlarm s).backup = s.backup ∧
    (State.raisePairAlarm s).start = s.start ∧ (State.raisePairAlarm s).grid = s.grid ∧
    (State.raisePairAlarm s).change = s.change ∧ (State.raisePairAlarm s).force = s.force ∧
    (State.raisePairAlarm s).slices = s.slices ∧ (State.raisePairAlarm s).groups = s.groups ∧
    (State.raisePairAlarm s).trims = s.trims ∧ (State.raisePairAlarm s).critical = s.critical ∧
    (State.raisePairAlarm s).ports = s.ports ∧ (State.raisePairAlarm s).stations = s.stations ∧
    (State.raisePairAlarm s).net = s.net ∧ (State.raisePairAlarm s).trust = s.trust ∧
    (State.raisePairAlarm s).memErrors = s.memErrors ∧ (State.raisePairAlarm s).stalls = s.stalls :=
  by
  unfold State.raisePairAlarm
  (try dsimp only)
  (repeat' split) <;> simp


end Sys2Proof.Machine
end

