-- ==== Sys2Proof/Laws/Reads.lean ====
section
/-!
SUPPORT. Reads after writes: registers, contexts and tables, bytes of memory, and the fields of a word.
-/
namespace Sys2Proof.Machine

/-! ### Registers -/

@[simp] theorem State.rd_wr_same (a : Nat) (v : W32) (s : State) : (s.wr a v).rd a = v := sget_sset_same ..

theorem State.rd_wr_other {a b : Nat} (v : W32) (s : State) (h : b ≠ a) : (s.wr a v).rd b = s.rd b := sget_sset_other _ _ _ h

/-- A register read after a register write. -/
theorem State.rd_wr (a b : Nat) (v : W32) (s : State) : (s.wr a v).rd b = if b = a then v else s.rd b := sget_sset ..

/-- What is read depends on the stored registers alone. -/
theorem State.rd_of_regs {s t : State} (h : t.regs = s.regs) (a : Nat) : t.rd a = s.rd a := by simp [State.rd, h]

theorem State.rdF_of_regs {s t : State} (h : t.regs = s.regs) (a lo n : Nat) : t.rdF a lo n = s.rdF a lo n := by
  simp [State.rdF, State.rd_of_regs h]

theorem State.rdB_of_regs {s t : State} (h : t.regs = s.regs) (a i : Nat) : t.rdB a i = s.rdB a i := by
  simp [State.rdB, State.rd_of_regs h]

/-! ### Contexts and tables -/

@[simp] theorem State.ctx_setCtx_same (x : Nat) (c : Ctx) (s : State) : (s.setCtx x c).ctx x = c := sget_sset_same ..

theorem State.ctx_setCtx_other {x y : Nat} (c : Ctx) (s : State) (h : y ≠ x) : (s.setCtx x c).ctx y = s.ctx y :=
  sget_sset_other _ _ _ h

theorem State.ctx_of_cores {s t : State} (h : t.cores = s.cores) (x : Nat) : t.ctx x = s.ctx x := by simp [State.ctx, h]

@[simp] theorem State.triad_setTriad_same (x : Nat) (c : TriadSt) (s : State) : (s.setTriad x c).triad x = c :=
  sget_sset_same ..

theorem State.triad_setTriad_other {x y : Nat} (c : TriadSt) (s : State) (h : y ≠ x) :
    (s.setTriad x c).triad y = s.triad y := sget_sset_other _ _ _ h

@[simp] theorem State.chan_setChan_same (x : Nat) (c : Chan) (s : State) : (s.setChan x c).chan x = c := sget_sset_same ..

theorem State.chan_setChan_other {x y : Nat} (c : Chan) (s : State) (h : y ≠ x) : (s.setChan x c).chan y = s.chan y :=
  sget_sset_other _ _ _ h

@[simp] theorem State.slice_setSlice_same (g i : Nat) (c : Slice) (s : State) : (s.setSlice g i c).slice g i = c :=
  sget_sset_same ..

@[simp] theorem State.group_setGroup_same (g : Nat) (c : Group) (s : State) : (s.setGroup g c).group g = c := sget_sset_same ..

theorem State.group_setGroup_other {g h : Nat} (c : Group) (s : State) (hn : h ≠ g) : (s.setGroup g c).group h = s.group h :=
  sget_sset_other _ _ _ hn

@[simp] theorem State.port_setPort_same (k : Nat) (c : Port) (s : State) : (s.setPort k c).port k = c := sget_sset_same ..

theorem State.port_setPort_other {k j : Nat} (c : Port) (s : State) (h : j ≠ k) : (s.setPort k c).port j = s.port j :=
  sget_sset_other _ _ _ h

/-! ### Bytes of memory -/

@[simp] theorem State.byte_pokeByte_same (a : Nat) (v : W8) (s : State) : (s.pokeByte a v).byte a = v := sget_sset_same ..

theorem State.byte_pokeByte_other {a b : Nat} (v : W8) (s : State) (h : b ≠ a) : (s.pokeByte a v).byte b = s.byte b :=
  sget_sset_other _ _ _ h

theorem State.byte_of_mem {s t : State} (h : t.mem = s.mem) (a : Nat) : t.byte a = s.byte a := by simp [State.byte, h]

/-- Bytes outside those put are as they were. -/
theorem State.byte_pokeBytes_other {a b : Nat} (l : List W8) (s : State) (h : b < a ∨ a + l.length ≤ b) :
    (s.pokeBytes a l).byte b = s.byte b := by
  induction l generalizing a s with
  | nil => rfl
  | cons v l ih =>
    simp only [List.length_cons] at h
    rw [State.pokeBytes, ih _ (by omega), State.byte_pokeByte_other _ _ (by omega)]

/-- A byte put is read back. -/
theorem State.byte_pokeBytes {a : Nat} (l : List W8) (s : State) (i : Nat) (h : i < l.length) :
    (s.pokeBytes a l).byte (a + i) = l[i] := by
  induction l generalizing a s i with
  | nil => exact absurd h (Nat.not_lt_zero _)
  | cons v l ih =>
    rw [State.pokeBytes]
    cases i with
    | zero => rw [State.byte_pokeBytes_other _ _ (by omega)]; simp
    | succ i =>
      have h' : i < l.length := by simpa using h
      have := ih (a := a + 1) (s.pokeByte a v) i h'
      rw [show a + (i + 1) = a + 1 + i by omega, this]
      rfl

/-! ### Fields of a word -/

theorem getF_lt {w : Nat} (x : BitVec w) (lo n : Nat) : getF x lo n < 2 ^ n := Nat.mod_lt _ (Nat.two_pow_pos n)

/-- A field replaced reads as the low bits of what was put there. -/
theorem getF_setF {w : Nat} (x : BitVec w) (lo n v : Nat) (h : lo + n ≤ w) : getF (setF x lo n v) lo n = v % 2 ^ n := by
  have hp : 2 ^ lo * 2 ^ n ≤ 2 ^ w := by rw [← Nat.pow_add]; exact Nat.pow_le_pow_right (by omega) h
  have h0 : 0 < 2 ^ lo := Nat.two_pow_pos lo
  have h1 : 0 < 2 ^ n := Nat.two_pow_pos n
  have hd : 2 ^ w = 2 ^ (lo + n) * 2 ^ (w - (lo + n)) := by rw [← Nat.pow_add]; congr 1; omega
  unfold getF setF
  rw [BitVec.toNat_ofNat]
  generalize hb : x.toNat / 2 ^ (lo + n) = b
  generalize ha : x.toNat % 2 ^ lo = a
  have ha' : a < 2 ^ lo := by rw [← ha]; exact Nat.mod_lt _ h0
  have hv : v % 2 ^ n < 2 ^ n := Nat.mod_lt _ h1
  have hx : b < 2 ^ (w - (lo + n)) := by
    rw [← hb]
    apply Nat.div_lt_of_lt_mul
    rw [← hd]
    exact x.isLt
  have hlt : a + v % 2 ^ n * 2 ^ lo + b * 2 ^ (lo + n) < 2 ^ w := by
    have e1 : (b + 1) * 2 ^ (lo + n) ≤ 2 ^ w := by rw [hd, Nat.mul_comm]; exact Nat.mul_le_mul_left _ hx
    have e2 : (v % 2 ^ n + 1) * 2 ^ lo ≤ 2 ^ n * 2 ^ lo := Nat.mul_le_mul_right _ hv
    have e3 : 2 ^ (lo + n) = 2 ^ n * 2 ^ lo := by rw [Nat.pow_add, Nat.mul_comm]
    rw [Nat.add_mul] at e1 e2
    omega
  rw [Nat.mod_eq_of_lt hlt]
  have e3 : 2 ^ (lo + n) = 2 ^ n * 2 ^ lo := by rw [Nat.pow_add, Nat.mul_comm]
  have : a + v % 2 ^ n * 2 ^ lo + b * 2 ^ (lo + n) = a + (v % 2 ^ n + b * 2 ^ n) * 2 ^ lo := by
    rw [e3, Nat.add_mul, Nat.mul_assoc, Nat.add_assoc]
  rw [this, Nat.add_mul_div_right _ _ h0, Nat.div_eq_of_lt ha', Nat.zero_add, Nat.add_mul_mod_self_right, Nat.mod_mod]

theorem bit_ofPow (w i j : Nat) : (BitVec.ofNat w (2 ^ i)).getLsbD j = (decide (j < w) && decide (i = j)) := by
  rw [BitVec.getLsbD_ofNat, Nat.testBit_two_pow]

@[simp] theorem bit_setB {w : Nat} (x : BitVec w) (i : Nat) (h : i < w) : bit (setB x i) i = true := by
  rw [bit, setB, BitVec.getLsbD_or, bit_ofPow]; simp [h]

@[simp] theorem bit_clrB {w : Nat} (x : BitVec w) (i : Nat) : bit (clrB x i) i = false := by
  rw [bit, clrB, BitVec.getLsbD_and, BitVec.getLsbD_not, bit_ofPow]
  by_cases h : i < w <;> simp [h]

theorem bit_setB_other {w : Nat} (x : BitVec w) {i j : Nat} (h : j ≠ i) : bit (setB x i) j = bit x j := by
  rw [bit, setB, BitVec.getLsbD_or, bit_ofPow]; simp [bit, Ne.symm h]

theorem bit_clrB_other {w : Nat} (x : BitVec w) {i j : Nat} (h : j ≠ i) : bit (clrB x i) j = bit x j := by
  rw [bit, clrB, BitVec.getLsbD_and, BitVec.getLsbD_not, bit_ofPow]
  by_cases hj : j < w
  · simp [bit, hj, Ne.symm h]
  · simp [bit, hj, BitVec.getLsbD_of_ge x j (by omega)]

theorem bit_putB {w : Nat} (x : BitVec w) (i : Nat) (b : Bool) (h : i < w) : bit (putB x i b) i = b := by
  cases b <;> simp [putB, h]

end Sys2Proof.Machine
end

