-- ==== Sys2Proof/Laws/Insn.lean ====
section
/-!
SUPPORT. What one instruction of a ready target does, said once for every instruction.
-/
namespace Sys2Proof.Machine

/-- An instruction that raises an exception takes it, the fetch's cycles added to its cost. -/
theorem Ready.raises {x k : Nat} {fm : Meet} {long : Bool} {s s1 s2 : State} {w : W32} {body : State → Ending} {t : Trap}
    (h : Ready x fm long s s1 k) (hb : body s1 = .raised t s2) :
    s.insn x fm w long body = s2.takeTrap x { t with cost := t.cost + k } w := by
  simp [State.insn, h.runs, h.fetched, hb]

/-- An instruction that completes is counted and voted on when that is due; unless it ends its activation, nothing else happens. -/
theorem Ready.completes {x k n : Nat} {fm : Meet} {long : Bool} {s s1 s2 : State} {w : W32} {body : State → Ending} {c : Ctx}
    (h : Ready x fm long s s1 k) (hb : body s1 = .done (s2.setCtx x c) n) (hc : c.pc ≠ 0x00FFFFFC#32) :
    s.insn x fm w long body = s2.after x (n + k) c := by
  simp [State.insn, h.runs, h.fetched, hb, State.retired, State.after, hc]

/-! ### What a fetch changes -/

/-- Two states that differ in the free values taken and in what the instruction cache of one target holds. -/
def State.fetchedAs (x : Nat) (s t : State) : Prop :=
  t = { s with cores := t.cores, free := t.free } ∧ t.ctx x = { s.ctx x with icache := (t.ctx x).icache } ∧
    ∀ y, y ≠ x → t.ctx y = s.ctx y

theorem State.fetchedAs.refl (x : Nat) (s : State) : s.fetchedAs x s := ⟨rfl, rfl, fun _ _ => rfl⟩

theorem State.fetchedAs.trans {x : Nat} {s t u : State} (h : s.fetchedAs x t) (g : t.fetchedAs x u) : s.fetchedAs x u := by
  refine ⟨?_, ?_, fun y hy => (g.2.2 y hy).trans (h.2.2 y hy)⟩
  · rw [g.1, h.1]
  · rw [g.2.1, h.2.1]

theorem State.fetchedAs.drawn {x : Nat} {s t : State} (h : s.fetchedAs x t) : s.fetchedAs x t.drawn :=
  h.trans ⟨rfl, rfl, fun _ _ => rfl⟩

theorem State.fetchedAs.icache {x : Nat} {s t : State} (h : s.fetchedAs x t) (l : List Nat) :
    s.fetchedAs x (t.setCtx x { t.ctx x with icache := l }) :=
  h.trans ⟨rfl, by simp, fun y hy => State.ctx_setCtx_other _ _ hy⟩

theorem State.isweep_fetchedAs (x : Nat) (s : State) : s.fetchedAs x (s.isweep x) := by
  unfold State.isweep
  generalize (s.ctx x).icache = l
  suffices key : ∀ t : State, s.fetchedAs x t → s.fetchedAs x (l.foldl (fun s l =>
      if s.inPartition x false (64 * l) || !bit s.draw 0 then s.drawn
      else s.drawn.setCtx x { s.ctx x with icache := (s.ctx x).icache.erase l }) t) from key s (.refl x s)
  induction l with
  | nil => exact fun t h => h
  | cons e l ih =>
    intro t h
    refine ih _ ?_
    dsimp only
    split
    · exact h.drawn
    · exact h.drawn.icache (t.drawn.ctx x |>.icache.erase e)

theorem State.fetchTouch_fetchedAs {x a : Nat} {s t : State} (h : s.fetchedAs x t) : s.fetchedAs x (t.fetchTouch x a).2 := by
  unfold State.fetchTouch State.icacheFill
  (repeat' split) <;> first
    | exact h
    | exact h.drawn
    | exact h.drawn.icache _

theorem State.fetchExtra_fetchedAs (x a : Nat) (long : Bool) (s : State) : s.fetchedAs x (s.fetchExtra x a long).2 := by
  unfold State.fetchExtra
  cases long
  · exact State.fetchTouch_fetchedAs (State.isweep_fetchedAs x s)
  · exact State.fetchTouch_fetchedAs (State.fetchTouch_fetchedAs (State.isweep_fetchedAs x s))

/-- The context of a target is as it was, or the target executes no more. -/
def State.sameOrCeased (x : Nat) (s t : State) : Prop := t.ctx x = s.ctx x ∨ t.ceased x = true

theorem State.sameOrCeased.refl (x : Nat) (s : State) : s.sameOrCeased x s := .inl rfl

theorem State.sameOrCeased.trans {x : Nat} {s t u : State} (h : s.sameOrCeased x t) (g : t.sameOrCeased x u) :
    s.sameOrCeased x u := by
  obtain g | g := g
  · obtain h | h := h
    · exact .inl (g.trans h)
    · exact .inr (by simpa [State.ceased, g] using h)
  · exact .inr g

theorem State.sameOrCeased.of_cores {x : Nat} {s t u : State} (h : s.sameOrCeased x t) (hc : u.cores = t.cores) :
    s.sameOrCeased x u := h.trans (.inl (State.ctx_of_cores hc x))

theorem State.sameOrCeased.eq {x : Nat} {s t : State} (h : s.sameOrCeased x t) (g : t.ceased x ≠ true) : t.ctx x = s.ctx x :=
  h.resolve_right g

theorem State.abandonAll_same (x y : Nat) (s : State) : s.sameOrCeased x (s.abandonAll y) := by
  by_cases h : x = y
  · subst h
    refine .inr ?_
    have e : (s.abandonAll x).ctx x = Ctx.idle := by
      unfold State.abandonAll
      rw [State.ctx_of_cores (State.refire_cores ..), State.ctx_setCtx_same]
    rw [State.ceased, e]
    rfl
  · refine .inl ?_
    unfold State.abandonAll
    rw [State.ctx_of_cores (State.refire_cores ..), State.ctx_setCtx_other _ _ h]

theorem State.fillLane_same (x t lane old kind cause : Nat) (s : State) :
    s.sameOrCeased x (s.fillLane t lane old kind cause) := by
  unfold State.fillLane
  split
  · exact (State.sameOrCeased.refl x s).of_cores (by simp)
  · split
    · exact (State.sameOrCeased.refl x s).of_cores (by simp)
    · split
      · rename_i i _
        refine State.sameOrCeased.of_cores (t := (s.enterSpare old (s.slotCore i) cause).abandonAll (16 + s.slotCore i)) ?_ (by simp)
        exact ((State.sameOrCeased.refl x s).of_cores (by simp)).trans (State.abandonAll_same ..)
      · exact (State.sameOrCeased.refl x s).of_cores (by simp)

theorem State.haltTriad_same (x t : Nat) (s : State) : s.sameOrCeased x (s.haltTriad t) := by
  unfold State.haltTriad
  dsimp only
  refine State.sameOrCeased.of_cores (State.sameOrCeased.of_cores (t := State.setCtx t { State.ctx _ t with halted := true } _) ?_
    (State.fire_cores ..)) (State.affectsControl_cores ..)
  by_cases h : x = t
  · subst h
    exact .inr (by simp [State.ceased])
  · refine .inl ?_
    rw [State.ctx_setCtx_other _ _ h]
    exact State.ctx_of_cores (by simp) x

theorem State.noMajority_same (x t kind icnt : Nat) (a : W32) (s : State) : s.sameOrCeased x (s.noMajority t kind icnt a) := by
  unfold State.noMajority
  split
  · exact ((State.sameOrCeased.refl x s).of_cores (by simp)).trans (State.haltTriad_same ..)
  · exact .refl x s

theorem State.voterFault_same (x t copy icnt : Nat) (a : W32) (s : State) : s.sameOrCeased x (s.voterFault t copy icnt a) := by
  unfold State.voterFault
  dsimp only
  split
  · exact .refl x s
  · split
    · exact (State.sameOrCeased.refl x s).of_cores (by simp)
    · exact ((State.sameOrCeased.refl x s).of_cores (by simp)).trans (State.haltTriad_same ..)

theorem State.mismatch_same (x t lane kind icnt : Nat) (a : W32) (s : State) : s.sameOrCeased x (s.mismatch t lane kind icnt a) := by
  unfold State.mismatch
  split
  · dsimp only
    split
    · unfold State.retire
      exact ((State.sameOrCeased.refl x s).of_cores (by simp)).trans (State.fillLane_same ..)
    · exact (State.sameOrCeased.refl x s).of_cores (by simp)
  · exact State.noMajority_same ..

/-- What a vote on copies leaves of a target: its context, unless it stops. -/
theorem State.meeting_same (cmp : Bool) (x y a : Nat) (m : Meet) (s : State) : s.sameOrCeased x (s.meeting cmp y a m) := by
  unfold State.meeting
  dsimp only
  have h0 : s.sameOrCeased x (if y < 4 ∧ m.upset ≠ 0 then s.setTriad y { s.triad y with upset := (s.triad y).upset ||| m.upset }
      else s) := by
    split
    · exact (State.sameOrCeased.refl x s).of_cores (by simp)
    · exact .refl x s
  revert h0
  generalize (if y < 4 ∧ m.upset ≠ 0 then s.setTriad y { s.triad y with upset := (s.triad y).upset ||| m.upset } else s) = s0
  intro h0
  split
  · have key (s1 : State) (h1 : s.sameOrCeased x s1) : s.sameOrCeased x (match m.vote with
        | .agree => s1
        | .odd lane kind =>
          if s1.laneOk y lane then s1.mismatch y lane kind (s.ctx y).icnt.toNat (BitVec.ofNat 32 a) else s1
        | .split kind => s1.noMajority y kind (s.ctx y).icnt.toNat (BitVec.ofNat 32 a)) := by
      split
      · exact h1
      · split
        · exact h1.trans (State.mismatch_same ..)
        · exact h1
      · exact h1.trans (State.noMajority_same ..)
    cases m.voter with
    | none => exact key _ h0
    | some k => exact key _ (h0.trans (State.voterFault_same ..))
  · exact h0

/-- What a read finds leaves of a target: its context, unless it stops. -/
theorem State.finds_same (x y a : Nat) (f : Finding) (s : State) : s.sameOrCeased x (s.finds y a f).2 := by
  unfold State.finds
  split
  · exact .refl x s
  · split
    · exact .refl x s
    · unfold State.readFinds
      split
      · exact .refl x s
      · split
        · exact .refl x s
        · exact (State.sameOrCeased.refl x s).of_cores (by simp)
        · exact (State.sameOrCeased.refl x s).of_cores (by simp)
        · dsimp only
          split
          · exact ((State.sameOrCeased.refl x s).of_cores (by simp)).trans (State.mismatch_same ..)
          · exact .refl x s

theorem State.guarded_done {x a n kind k : Nat} {s s1 : State} {go : Ending} (h : s.guarded x a n kind go = .done s1 k) :
    go = .done s1 k := by
  unfold State.guarded at h
  dsimp only at h
  split at h
  · exact h
  · cases h

theorem State.fetchWord_done {x a k : Nat} {s s1 : State} {go : Ending} (h : s.fetchWord x a go = .done s1 k) :
    go = .done s1 k := by
  have h := State.guarded_done h
  split at h
  · exact h
  · cases h

theorem State.meets_done {cmp : Bool} {x a k : Nat} {m : Meet} {s s1 : State} {go : State → Ending}
    (h : s.meets cmp x a m go = .done s1 k) : (s.meeting cmp x a m).ctx x = s.ctx x ∧ go (s.meeting cmp x a m) = .done s1 k := by
  unfold State.meets at h
  dsimp only at h
  split at h
  · cases h
  · exact ⟨(State.meeting_same ..).eq ‹_›, h⟩

theorem State.fetchFound_done {x cost k : Nat} {b : Option Nat} {m : Meet} {s s1 : State}
    (h : s.fetchFound x b m cost = .done s1 k) : s1.ctx x = s.ctx x ∧ s1.mem = s.mem := by
  unfold State.fetchFound at h
  split at h
  · cases h
    exact ⟨rfl, rfl⟩
  · rename_i a
    dsimp only at h
    split at h
    · cases h
    · split at h
      · rename_i hc _
        cases h
        exact ⟨((State.finds_same ..).eq hc).trans (State.ctx_of_cores (State.lateBy_cores ..) x), by simp⟩
      · cases h

/-- A fetch that succeeds leaves of its target's context all but what the instruction cache holds, and leaves memory. -/
theorem fetch_done {x k : Nat} {fm : Meet} {long : Bool} {s s1 : State} (h : s.fetch x long fm = .done s1 k) :
    s1.ctx x = { s.ctx x with icache := (s1.ctx x).icache } ∧ s1.mem = s.mem := by
  unfold State.fetch at h
  obtain ⟨hc, h⟩ := State.meets_done h
  dsimp only at h
  have hm : (s.meeting (s.fetchCompared x (s.fetchOut x (s.ctx x).pc.toNat long)) x
      ((s.fetchOut x (s.ctx x).pc.toNat long).getD (s.ctx x).pc.toNat) fm).mem = s.mem := State.meeting_mem ..
  revert h
  generalize s.meeting (s.fetchCompared x (s.fetchOut x (s.ctx x).pc.toNat long)) x
    ((s.fetchOut x (s.ctx x).pc.toNat long).getD (s.ctx x).pc.toNat) fm = s0 at hc hm
  intro h
  have key : ((s0.fetchExtra x (s.ctx x).pc.toNat long).2.fetchFound x (s.fetchOut x (s.ctx x).pc.toNat long) fm
      (s0.fetchExtra x (s.ctx x).pc.toNat long).1) = .done s1 k := by
    have h := State.fetchWord_done h
    (repeat' split at h) <;> first | exact State.fetchWord_done h | exact h | cases h
  obtain ⟨e, g⟩ := State.fetchFound_done key
  have hx := State.fetchExtra_fetchedAs x (s.ctx x).pc.toNat long s0
  refine ⟨?_, g.trans ((State.fetchExtra_mem ..).trans hm)⟩
  rw [e, hx.2.1, hc]

theorem fetch_pc {x k : Nat} {fm : Meet} {long : Bool} {s s1 : State} (h : s.fetch x long fm = .done s1 k) :
    (s1.ctx x).pc = (s.ctx x).pc := by
  rw [(fetch_done h).1]

/-- A fetch writes no general register. -/
theorem fetch_rg {x k : Nat} {fm : Meet} {long : Bool} {s s1 : State} (h : s.fetch x long fm = .done s1 k) (r : GReg) :
    (s1.ctx x).rg r = (s.ctx x).rg r := by
  rw [(fetch_done h).1]
  rfl

/-! ### What the setters of a context leave to PC -/

@[simp] theorem Ctx.wg_pc (r : GReg) (v : W64) (c : Ctx) : (c.wg r v).pc = c.pc := by unfold Ctx.wg; split <;> rfl
@[simp] theorem Ctx.wf_pc (r : FReg) (v : W64) (c : Ctx) : (c.wf r v).pc = c.pc := rfl
@[simp] theorem Ctx.wfd_pc (d : Bool) (r : FReg) (v : Nat) (c : Ctx) : (c.wfd d r v).pc = c.pc := rfl
@[simp] theorem Ctx.wst_pc (v : W32) (c : Ctx) : (c.wst v).pc = c.pc := rfl
@[simp] theorem Ctx.next_pc (long : Bool) (c : Ctx) : (c.next long).pc = c.pc + if long then 8 else 4 := rfl
@[simp] theorem Ctx.fput_pc (d : Bool) (fd : FReg) (o : FRes) (c : Ctx) : (c.fput d fd o).pc = c.pc := rfl
@[simp] theorem Ctx.put_pc (d : Bool) (rd : GReg) (v : Nat) (c : Ctx) : (c.put d rd v).pc = c.pc := Ctx.wg_pc ..

/-! ### The vote -/

/-- A vote finds nothing where no lane has diverged. -/
theorem State.sigVote_clean {x kind : Nat} {s : State} (h : 4 ≤ x ∨ (s.triad x).upset = 0) : s.sigVote x kind = s := by
  unfold State.sigVote
  split
  · rfl
  · rw [h.resolve_left ‹_›]; rfl

theorem State.stateVote_clean {x : Nat} {s : State} (h : 4 ≤ x ∨ (s.triad x).upset = 0) : s.stateVote x = s := by
  unfold State.stateVote
  split
  · exact State.sigVote_clean h
  · rfl

/-- Where no lane of its triad has diverged, an instruction that completes changes its target's context alone. -/
theorem State.after_clean {x n : Nat} {c : Ctx} {s : State} (h : 4 ≤ x ∨ (s.triad x).upset = 0) :
    s.after x n c = (s.setCtx x c).setCtx x
      { c with cyc := c.cyc + BitVec.ofNat 64 n, icnt := c.icnt + 1, steps := c.steps - 1 } := State.stateVote_clean h

/-- Where no lane has diverged an exception is taken at once (R162). -/
theorem State.takeTrap_clean {x : Nat} {t : Trap} {w : W32} {s : State} (h : 4 ≤ x ∨ (s.triad x).upset = 0)
    (hr : (s.ctx x).halted = false) : s.takeTrap x t w = s.trapTaken x t w := by
  unfold State.takeTrap State.voted
  simp [State.sigVote_clean h, hr]

/-- An instruction on registers alone. -/
theorem Ready.registers {x k cost : Nat} {fm : Meet} {long : Bool} {s s1 : State} {w : W32} {f : Ctx → Ctx}
    (h : Ready x fm long s s1 k) (hf : ∀ c, (f c).pc = c.pc) :
    s.regInsn x fm w long cost f = s1.after x (cost + k) ((f (s1.ctx x)).next long) :=
  h.completes rfl (by rw [Ctx.next_pc, hf, fetch_pc h.fetched]; exact h.inside)

end Sys2Proof.Machine
end

