-- ==== Sys2Proof/Tests/Slice0.lean ====
section
/-!
SUPPORT. Tests of single commands against worked values of the manual, an ill-formed command for each check of WellFormed, and for
every statement of Certificates/Slice0/Obligations.lean states and operands that meet its hypotheses, clause by clause.
-/
set_option Elab.async false
namespace Sys2Proof.Tests
open Sys2Proof Sys2Proof.Machine

/-! ### Well-formedness: a command that each check refuses, and one that it lets pass -/

theorem test_wf_register_write : (Instr.registerWrite 0x10000002 0).wf = false ∧ (Instr.registerWrite 0x10000004 0).wf = true := by
  decide +kernel

theorem test_wf_tuyere_memory : (Instr.tuyereMemoryAccess 1 none).wf = false ∧ (Instr.tuyereMemoryAccess 4 none).wf = true := by
  decide +kernel

theorem test_wf_scrub_word : (Instr.scrubWord 4 .clean).wf = false ∧ (Instr.scrubWord 8 .clean).wf = true := by decide +kernel

theorem test_wf_hart_done :
    (Instr.hartDone 0 0 1 [0] 0 0).wf = false ∧ (Instr.hartDone 0 0 0 (List.replicate 256 0) 0 0).wf = false ∧
      (Instr.hartDone 0 0 0 [0] 0 0).wf = true := by decide +kernel

theorem test_wf_can_frame :
    (Instr.canFrameReceived 0 0 0 (List.replicate 65 0) 0).wf = false ∧
      (Instr.canFrameReceived 0 0 0 (List.replicate 64 0) 0).wf = true := by decide +kernel

theorem test_wf_acyclic_response :
    (Instr.acyclicResponse 0 (List.replicate 65 0)).wf = false ∧ (Instr.acyclicResponse 0 [0]).wf = true := by decide +kernel

theorem test_wf_rinfa_frame :
    (Instr.rinfaFrameReceived 0 true (List.replicate 1507 0) 0).wf = false ∧
      (Instr.rinfaFrameReceived 0 true (List.replicate 1506 0) 0).wf = true := by decide +kernel

theorem test_wf_config_message :
    (Instr.configMessageReceived (.reg 0x10000001 0)).wf = false ∧ (Instr.configMessageReceived (.mem 0xFFFFFFFF [0, 0])).wf = false ∧
      (Instr.configMessageReceived (.reg 0x10000000 0)).wf = true := by decide +kernel

theorem test_wf_relay_chunk :
    (Instr.relayChunkReceived none 5 (.fragment 0 0 0 (List.replicate 1025 0))).wf = false ∧
      (Instr.relayChunkReceived none 5 (.fragment 0 0 0 (List.replicate 1024 0))).wf = true := by
  decide +kernel

theorem test_wf_line_record :
    (Instr.lineRecordReceived 0 0 [0]).wf = false ∧ (Instr.lineRecordReceived 0 0 (List.replicate 64 0)).wf = true := by decide +kernel

theorem test_wf_retain_copy :
    (Instr.retainCopy (List.replicate 16385 0) 0 0).wf = false ∧ (Instr.retainCopy [0] 0 0).wf = true := by decide +kernel

theorem test_wf_shadow_record :
    (Instr.shadowRecordReceived 0 [(3, 0), (3, 1)]).wf = false ∧ (Instr.shadowRecordReceived 0 [(3, 0), (4, 1)]).wf = true := by
  decide +kernel

theorem test_wf_copy_data :
    (Instr.copyDataReceived [.line 0 [1]] 1).wf = false ∧ (Instr.copyDataReceived [.mem 0xFFFFFFFF [1, 2]] 1).wf = false ∧
      (Instr.copyDataReceived [.reg 2 0] 1).wf = false ∧ (Instr.copyDataReceived [.change 7 { need := [(4, 0)] }] 1).wf = false ∧
      (Instr.copyDataReceived [.reg 4 0, .change 7 { resp := [(255, 0)] }] 1).wf = true := by
  decide +kernel

theorem test_wf_application_image :
    (Instr.claimProbeEnd false false [(0xFFFFFFFF, [1, 2])] [] 0 0).wf = false ∧
      (Instr.claimProbeEnd false false [] [3, 3] 0 0).wf = false ∧
      (Instr.claimProbeEnd false false [(0xFFFFFFFE, [1, 2])] [] 0 0).wf = true := by
  decide +kernel

/-! ### States for the witnesses -/

/-- T0 after the vote on its access to an address. -/
def met (s : State) (a : Nat) (m : Meet) : State := s.meeting (s.compared 0 a) 0 a m

/-- The vote finds no majority, or lane 2 alone to differ. -/
def noMajority : Meet := { vote := .split 1 }

def oneOdd : Meet := { vote := .odd 2 0 }

/-- Reset with some registers as written. -/
def regsAt (l : List (Nat × W32)) : State := l.foldl (fun s e => s.wr e.1 e.2) State.reset

/-- T0 about to execute in its own instruction bank, with its context changed by f. -/
def at0 (s : State) (f : Ctx → Ctx) : State := s.setCtx 0 (f { s.ctx 0 with pc := 0x01000000 })

def core (f : Ctx → Ctx) : State := at0 State.reset f

/-- General register n as v. -/
def gr (n : Nat) (v : W64) (c : Ctx) : Ctx := { c with g := sput c.g n v }

/-- Guards 0 and 24 enabled with one region that gives all of memory to every access. -/
def openGuards (s : State) : State :=
  [0, 24].foldl (fun s m => ((s.wr (Reg.GRD_RBAR m 0) 0).wr (Reg.GRD_RATR m 0) 0xF7#32).wr (Reg.GRD_CTRL m) 1#32) s

/-- A target that is ready and whose fetch takes no free value. -/
def readyAt (x : Nat) (long : Bool) (s : State) : Bool :=
  s.canRun x && decide ((s.ctx x).pc + (if long then 8 else 4) ≠ 0x00FFFFFC#32) &&
    match s.fetch x long {} with
    | .done s1 k => decide (s1 = s) && k == 0
    | _ => false

theorem ready_of_check {x : Nat} {long : Bool} {s : State} (h : readyAt x long s = true) : Ready x {} long s s 0 := by
  simp only [readyAt, Bool.and_eq_true, decide_eq_true_eq] at h
  obtain ⟨⟨h1, h2⟩, h3⟩ := h
  split at h3
  · rename_i s1 k e
    simp at h3
    exact ⟨h1, by rw [e, h3.1, h3.2], h2⟩
  · cases h3

/-! ### Witnesses: the processors -/

theorem witness_AluOperations : Ready 0 {} false (core id) (core id) 0 := ready_of_check (by decide +kernel)

theorem witness_Divisions :
    Ready 0 {} false (core fun c => gr 1 0x8000000000000000 (gr 2 0xFFFFFFFFFFFFFFFF c))
      (core fun c => gr 1 0x8000000000000000 (gr 2 0xFFFFFFFFFFFFFFFF c)) 0 ∧
    low 64 (0xFFFFFFFFFFFFFFFF : W64) ≠ 0 ∧ low 32 (0x100000000 : W64) = 0 ∧ low 64 (0 : W64) = 0 :=
  ⟨ready_of_check (by decide +kernel), by decide +kernel⟩

theorem witness_Conditions : Ready 0 {} false (core id) (core id) 0 ∧ (14 : Cond).val ≠ 15 ∧ (0 : Cond).val ≠ 15 :=
  ⟨ready_of_check (by decide +kernel), by decide⟩

theorem witness_ImmediateOperations :
    Ready 0 {} false (core id) (core id) 0 ∧ Ready 0 {} true (core id) (core id) 0 ∧ (true = true ∨ (63 : BitVec 6).toNat < 32) ∧
      (false = true ∨ (31 : BitVec 6).toNat < 32) :=
  ⟨ready_of_check (by decide +kernel), ready_of_check (by decide +kernel), by decide⟩

/-- A doubleword of the own tightly coupled data, the same misaligned, a place that the default map refuses, a byte of a register
block, and memory of an island without power. -/
theorem witness_LoadsAndStores :
    (let s := core (gr 1 0x01800000)
     accessTarget (.ld 0 {} 2 1 3 false 0 {}) = some 0 ∧ accessTarget (.st 0 {} 2 1 3 0 {}) = some 0 ∧ meetOf (.ld 0 {} 2 1 3 false 0 {}) = {} ∧
     Ready 0 {} false s s 0 ∧ (loadForm (s.ctx 0) (.ld 0 {} 2 1 3 false 0 {})).isSome = true ∧ (storeForm (s.ctx 0) (.st 0 {} 2 1 3 0 {})).isSome = true ∧
       (s.coreLoad 0 0x01800000 8 false).data ≠ none ∧ s.memSpan (some 0) 0x01800000 8 = some 0x05000000 ∧ s.agrees 0 ∧
       s.storable false 0x05000000 = true ∧ s.copies 0x05000000 = [0x05000000] ∧ (s.ctx 0).halted = false ∧
       (s.coreStore 0 0x01800000 (List.replicate 8 0) false).data ≠ none ∧
       stillRuns (s.ctx 0) ((s.coreStore 0 0x01800000 (List.replicate 8 0) false).s.ctx 0) = true) ∧
    (let s := core (gr 1 0x01800004)
     Ready 0 {} false s s 0 ∧ 0x01800004 % 8 ≠ 0) ∧
    (let s := core (gr 1 0x03000000)
     Ready 0 {} false s s 0 ∧ s.guardCheck (s.targetMaster 0) true 0x03000000 8 1 ≠ none ∧ s.guardCheck (s.targetMaster 0) true 0x03000000 8 2 ≠ none) ∧
    (let s := core (gr 1 0x10000000)
     Ready 0 {} false s s 0 ∧ s.guardCheck (s.targetMaster 0) true 0x10000000 1 1 = none ∧ (s.coreLoad 0 0x10000000 1 false).data = none ∧
       s.guardCheck (s.targetMaster 0) true 0x10000000 1 2 = none ∧ (s.coreStore 0 0x10000000 [0] false).data = none) ∧
    (let s := openGuards (core (gr 1 0x03000000))
     Ready 0 {} false s s 0 ∧ s.guardCheck (s.targetMaster 0) true 0x03000000 8 2 = none ∧ inWindows 0x03000000 = false ∧
       s.memSpan (some 0) 0x03000000 8 = none) := by
  refine ⟨⟨?_, ?_, ?_, ready_of_check ?_, ?_⟩, ⟨ready_of_check ?_, ?_⟩, ⟨ready_of_check ?_, ?_⟩,
    ⟨ready_of_check ?_, ?_⟩, ⟨ready_of_check ?_, ?_⟩⟩ <;>
    decide +kernel

/-- An access of T0 without a majority, which halts the triad, and one where lane 2 alone differs; a load that finds an uncorrectable
error, one that takes the address from the divergent copies of a duplex triad, and one whose response is late. -/
theorem witness_LoadsThatMeetErrors :
    (let s := core (gr 1 0x20000000)
     Ready 0 {} false s s 0 ∧ (met s 0x20000000 noMajority).ceased 0 = true ∧ (met s 0x20000000 oneOdd).ceased 0 = false ∧
       (met s 0x20000000 oneOdd).laneOk 0 2 = false ∧
       (s.finds 0 0x20000000 .uncorrectable).1 = false ∧ (s.finds 0 0x20000000 .uncorrectable).2.ceased 0 = false) ∧
    (let s := core fun c => gr 1 0x01800000 c
     let d := s.wrF (Reg.TRI_STATE 0) 0 3 2
     Ready 0 {} false d d 0 ∧ (d.finds 0 0x01800000 (.laneCopy 1)).2.ceased 0 = true) ∧
    (let s := (core (gr 1 0x40000000)).setLedger { State.reset.ledger with copying := [(4, 0)] }
     (s.lateBy 0 0x40000000 9).1 = 9) := by
  refine ⟨⟨ready_of_check ?_, ?_⟩, ⟨ready_of_check ?_, ?_⟩, ?_⟩ <;> decide +kernel

theorem witness_BranchesAndCalls :
    Ready 0 {} false (core (gr 1 0x01000004)) (core (gr 1 0x01000004)) 0 ∧ Ready 0 {} false (core (gr 1 0x01000002)) (core (gr 1 0x01000002)) 0 ∧
      ((0x01000004 + (0 : W16).signExtend 64 : W64).setWidth 32).getLsbD 1 = false ∧
      ((0x01000002 + (0 : W16).signExtend 64 : W64).setWidth 32).getLsbD 1 = true ∧ wordLegal 0#32 = true ∧ wordLegal 0xFFFFFFFF#32 = false :=
  ⟨ready_of_check (by decide +kernel), ready_of_check (by decide +kernel), by decide +kernel⟩

/-- Mode 7 takes the mode of `ST`. -/
theorem witness_RoundedFloats :
    let s := core fun c => { c with st := 0x00800100 }
    Ready 0 {} false s s 0 ∧ (7 : Fin 8).val ≠ 5 ∧ (7 : Fin 8).val ≠ 6 ∧ getF (s.ctx 0).st 21 3 = 4 ∧ (4 : Nat) < 5 :=
  ⟨ready_of_check (by decide +kernel), by decide +kernel⟩

/-- Each pair of operands that the comparison and the minimum tell apart: numbers in each order, and not-a-numbers. -/
theorem witness_UnroundedFloats :
    Ready 0 {} false (core id) (core id) 0 ∧ Ready 0 {} true (core id) (core id) 0 ∧
      (binary32.read 0x7FC00000).isNan = true ∧ (binary32.read 0x7F800001).isSnan = true ∧ (binary32.read 0x3F800000).isNan = false ∧
      (binary32.read 0x3F800000).order (binary32.read 0x40000000) = .lt ∧ (binary32.read 0x40000000).order (binary32.read 0x3F800000) = .gt ∧
      (binary32.read 0).order (binary32.read 0x80000000) = .eq :=
  ⟨ready_of_check (by decide +kernel), ready_of_check (by decide +kernel), by decide +kernel⟩

/-- S mode, and U mode under an open guard; the writes of `ST` with RM 4 and 5. -/
theorem witness_CoreRegisters :
    (let s := core (gr 1 0x800000)
     Ready 0 {} false s s 0 ∧ (s.ctx 0).priv = true ∧ getF ((s.ctx 0).rg 1 |>.setWidth 32) 21 3 = 4) ∧
    (let s := openGuards (core fun c => gr 1 0xA00000 { c with st := 0 })
     Ready 0 {} false s s 0 ∧ (s.ctx 0).priv = false ∧ getF ((s.ctx 0).rg 1 |>.setWidth 32) 21 3 = 5) := by
  refine ⟨⟨ready_of_check ?_, ?_⟩, ⟨ready_of_check ?_, ?_⟩⟩ <;> decide +kernel

/-- No live record and one that is live at the home tier 15, in S and in U mode; and the cases of WAIT: a control source enabled
on T0, one pending that wakes it, and Ember selected by a module that is Active. -/
theorem witness_ExceptionsReturnsAndWaits :
    (let s := core id
     Ready 0 {} false s s 0 ∧ bit (s.frameWord 0 15 0x1B8) 0 = false ∧ (s.ctx 0).priv = true ∧ s.hasControl 0 = false ∧ s.agrees 0 ∧
       (s.ctx 0).halted = false ∧
       s.rdF (Reg.BEL_SLEEP (s.islandOf 0)) 0 2 = 0 ∧ (s.setCtx 0 ((s.ctx 0).next false)).ticWakes 0 = false) ∧
    (let s := ((core id).putFrame 0 15 0x1B8 1).putFrame 0 15 0x1A4 0x100
     Ready 0 {} false s s 0 ∧ bit (s.frameWord 0 15 0x1B8) 0 = true ∧ (s.ctx 0).priv = true ∧ s.agrees 0 ∧ (s.ctx 0).halted = false ∧
       s.frameWord 0 15 0x1A0 &&& 0xFFFFFFFC#32 ≠ 0x00FFFFFC#32 ∧ s.mayRun 0 (bit (stPut (s.ctx 0).st (s.frameWord 0 15 0x1A4)) 8) 15 = true) ∧
    (let s := openGuards ((core fun c => { c with st := 0 }).putFrame 0 15 0x1B8 1)
     Ready 0 {} false s s 0 ∧ bit (s.frameWord 0 15 0x1B8) 0 = true ∧ (s.ctx 0).priv = false) ∧
    (let s := (core id).wr (Reg.TIC_SRC_CFG 200) 0x80010000
     Ready 0 {} false s s 0 ∧ s.hasControl 0 = true ∧ s.agrees 0) ∧
    (let s := ((core fun c => { c with tier := 1, home := 1 }).wr (Reg.TIC_SRC_CFG 200) 0x800F0000).pend 200
     Ready 0 {} false s s 0 ∧ s.hasControl 0 = false ∧ (s.setCtx 0 ((s.ctx 0).next false)).ticWakes 0 = true ∧ s.agrees 0) ∧
    (let s := ((core id).wr (Reg.BEL_SLEEP 0) 2).setPair { State.reset.pair with role := .active }
     Ready 0 {} false s s 0 ∧ s.rdF (Reg.BEL_SLEEP (s.islandOf 0)) 0 2 = 2 ∧ s.pair.role ≠ .unassigned ∧ s.pair.role ≠ .outOfService ∧
       s.agrees 0) := by
  refine ⟨⟨ready_of_check ?_, ?_⟩, ⟨ready_of_check ?_, ?_⟩, ⟨ready_of_check ?_, ?_⟩,
    ⟨ready_of_check ?_, ?_⟩, ⟨ready_of_check ?_, ?_⟩, ⟨ready_of_check ?_, ?_⟩⟩ <;>
    decide +kernel

/-- A lane of T0 that has diverged, at an RFE with a live record: the vote masks it in triple mode and halts the triad in duplex. -/
theorem witness_ReturnsThatMismatch :
    let s := ((core id).putFrame 0 15 0x1B8 1).setTriad 0 { State.reset.triad 0 with upset := 1 }
    let d := s.wrF (Reg.TRI_STATE 0) 0 3 2
    (Ready 0 {} false s s 0 ∧ bit (s.frameWord 0 15 0x1B8) 0 = true ∧ (s.ctx 0).priv = true ∧ ((s.sigVote 0 5).ctx 0).halted = false) ∧
    (Ready 0 {} false d d 0 ∧ bit (d.frameWord 0 15 0x1B8) 0 = true ∧ (d.ctx 0).priv = true ∧ ((d.sigVote 0 5).ctx 0).halted = true) := by
  refine ⟨⟨ready_of_check ?_, ?_⟩, ready_of_check ?_, ?_⟩ <;> decide +kernel

/-- A dirty line of DRAM in T0's data cache, whose write back passes the vote or halts the triad; and U mode. -/
theorem witness_CacheOperations :
    (let s := core fun c => gr 1 0x80000000 { c with dcache := [(0x2000000, { dirty := true, data := List.replicate 64 1 })] }
     Ready 0 {} false s s 0 ∧ (s.ctx 0).priv = true ∧ s.lineDirty 0 0x2000000 = true ∧ s.lineDirty 0 0x2000001 = false ∧
       s.firstDirty 0 = 0x2000000 ∧ (s.lineOf 0 0x2000000).isSome = true ∧ s.agrees 0 ∧ (met s 0x80000000 {}).ceased 0 = false ∧
       (met s 0x80000000 {}).agrees 0 ∧ (met s 0x80000000 noMajority).ceased 0 = true) ∧
    (let s := openGuards (core fun c => { c with st := 0 })
     Ready 0 {} false s s 0 ∧ (s.ctx 0).priv = false) := by
  refine ⟨⟨ready_of_check ?_, ?_⟩, ⟨ready_of_check ?_, ?_⟩⟩ <;> decide +kernel

/-- Source 200 pending at tier 15 on T0, which runs at tier 1 with nothing saved; software triggers that are taken, missed and
disabled; and a level source whose condition holds. -/
theorem witness_ActivationsAndSources :
    (let s := (((core fun c => { c with tier := 1, home := 1 }).setPair { State.reset.pair with role := .active }).wr (Reg.TIC_SRC_CFG 200)
        0x840F0000).pend 200
     s.awake 0 = true ∧ (s.ctx 0).running = true ∧ s.mayRun 0 (s.ctx 0).priv 1 = true ∧ s.nextSource 0 = some 200 ∧
       (s.ctx 0).tier.toNat < s.srcTier 200 ∧ s.nextSaved 0 = none ∧ s.agrees 0) ∧
    (let s := State.reset.wr (Reg.TIC_SRC_CFG 192) 0x80100000
     s.srcEn 192 = true ∧ s.wouldMiss 192 = false ∧ (s.pend 192).wouldMiss 192 = true ∧ s.srcEn 255 = false) ∧
    (let s := ((State.reset.wr Reg.TIME_EVT 1).wr Reg.TIME_EVT_EN 1).wr (Reg.TIC_SRC_CFG 31) 0x80000000
     s.levelCond 31 = true ∧ s.wouldMiss 31 = false ∧ s.rd (Reg.TIC_SRC_CFG 31) = 0x80000000#32 &&& 0x85FF0000#32 ∧ s.levelCond 30 = false) ∧
    (let s := (core fun c => { c with running := false, saved := 4 }).putFrame 0 2 0x184 0x100
     s.nextSaved 0 = some 2 ∧ s.nextSource 0 = none) := by
  decide +kernel

/-- Words put from an address on. -/
def words (a : Nat) (l : List Nat) (s : State) : State := s.pokeBytes a (l.flatMap fun w => toBytes 4 w)

/-- FBCALL on an instance at 0x20000000 of type 1: a table entry and a header that pass, and one failing each check; a full return
stack and one entry in it; an instance address that is misaligned. -/
theorem witness_FunctionBlocks :
    let s (t h : List Nat) (st : List (W32 × W32)) :=
      words 0x20000000 h (words (((core id).memKey (some 0) 0x011F0010).getD 0) t (core fun c => gr 1 0x20000000 (c.putStack st)))
    let good := s [0x01000100, 5, 64, 1] [5, 64, 0, 2 ^ 32 - 1 - (5 ^^^ 64 ^^^ 0x20000000)] []
    let typ (s : State) := (s.memLoad (some 0) 0x011F0010 16).getD []
    let hdr (s : State) := (s.coreLoad 0 0x20000000 16 true).data.getD []
    let seen := ((good.coreRead 0 0x20000000 16 true {}).s.finds 0 0x011F0010 .clean)
    (Ready 0 {} false good good 0 ∧ good.guardCheck (good.targetMaster 0) true 0x20000000 16 1 = none ∧
      (met good 0x20000000 {}).ceased 0 = false ∧ (met good 0x20000000 noMajority).ceased 0 = true ∧
      (good.coreRead 0 0x20000000 16 true {}).data.isSome = true ∧ seen.1 = true ∧ seen.2.ceased 0 = false ∧
      wordAt (typ good) 12 4 = 1 ∧ wordAt (hdr good) 0 4 = wordAt (typ good) 4 4 ∧ wordAt (hdr good) 4 4 = wordAt (typ good) 8 4 ∧
      wordAt (hdr good) 12 4 = 2 ^ 32 - 1 - (wordAt (hdr good) 0 4 ^^^ wordAt (hdr good) 4 4 ^^^ 0x20000000) ∧
      (good.ctx 0).stack = []) ∧
    wordAt (typ (s [] [] [])) 12 4 = 0 ∧ wordAt (hdr (s [0, 6, 64, 1] [5, 64, 0, 0] [])) 0 4 = 5 ∧
    wordAt (hdr (s [0, 5, 64, 1] [5, 64, 0, 0] [])) 12 4 = 0 ∧
    ((s [] [] (List.replicate 16 (0, 0))).ctx 0).stack.length = 16 ∧ ((s [] [] (List.replicate 15 (0, 0))).ctx 0).stack.length = 15 ∧
    Ready 0 {} false (core (gr 1 4)) (core (gr 1 4)) 0 := by
  refine ⟨⟨ready_of_check ?_, ?_⟩, ?_, ?_, ?_, ?_, ?_, ready_of_check ?_⟩ <;> decide +kernel

/-- A TON cell, a CTU cell and an EDGE cell of an instance at 0x20000000, the same without their tags, and a misaligned IB; and the
instants of a timer that rise. -/
theorem witness_CellInstructions :
    let s := words 0x20000030 [0x544D0000] (words 0x20000014 [0x43540000] (words 0x20000010 [0x45470000] (core fun c =>
      gr 1 1 { c with ib := 0x20000000 })))
    let p := core fun c => { c with ib := 0x20000002 }
    (Ready 0 {} false s s 0 ∧
      (∀ n ∈ [32, 16, 4], s.guardCheck (s.targetMaster 0) true (0x20000000 + (if n = 4 then 16 else n)) n 3 = none) ∧
      (s.coreLoad 0 0x20000020 32 true).data.map (fun d => wordAt d 16 4) = some 0x544D0000 ∧
      (s.coreLoad 0 0x20000010 16 true).data.map (fun d => wordAt d 4 4) = some 0x43540000 ∧
      (s.coreLoad 0 0x20000010 4 true).data.map (fun d => wordAt d 0 4) = some 0x45470000 ∧
      ((s.coreLoad 0 0x20000020 32 true).s.coreStore 0 0x20000020 (List.replicate 32 0) true).data ≠ none ∧
      ∀ n ∈ [32, 16, 4], let a := 0x20000000 + (if n = 4 then 16 else n)
        (met s a {}).ceased 0 = false ∧ (met s a noMajority).ceased 0 = true ∧
        (s.coreRead 0 a n true {}).data.isSome = true ∧ (s.coreRead 0 a n true {}).s.ceased 0 = false) ∧
    wordAt ((((core id).coreLoad 0 0x20000020 32 true).data).getD []) 16 4 = 0 ∧
    (Ready 0 {} false (core id) (core id) 0 ∧ (1 : BitVec 9) ≠ 0 ∧ (4 : BitVec 14).toNat = 4 ∧ (3 : BitVec 14).toNat < 4) ∧
    (Ready 0 {} false p p 0 ∧ ((p.ctx 0).ib.toNat + 1 * 32) % 2 ^ 32 % 32 ≠ 0) ∧
    ((10 : W64) :: [((15 : W64), true)].map Prod.fst ++ [(20 : W64)]).Pairwise (fun a b => elapsed a 10 ≤ elapsed b 10) := by
  refine ⟨⟨ready_of_check ?_, ?_⟩, ?_, ⟨ready_of_check ?_, ?_⟩, ⟨ready_of_check ?_, ?_⟩, ?_⟩ <;>
    decide +kernel

theorem witness_BlockMoves :
    let s := core fun c => gr 1 0x20000040 (gr 2 0x20000080 (gr 3 64 c))
    (Ready 0 {} false s s 0 ∧ (s.ctx 0).rg 3 ≠ 0 ∧ 0x20000040 % 64 = 0 ∧ 64 % 64 = 0 ∧
      s.guardCheck (s.targetMaster 0) true 0x20000040 64 2 = none ∧ s.guardCheck (s.targetMaster 0) true 0x20000080 64 1 = none ∧
      (s.coreLoad 0 0x20000080 64 true).data ≠ none ∧
      ((s.coreLoad 0 0x20000080 64 true).s.coreStore 0 0x20000040 (List.replicate 64 0) true).data ≠ none ∧
      (s.coreStore 0 0x20000040 ((List.replicate 8 (toBytes 8 ((s.ctx 0).rg 2).toNat)).flatten) true).data ≠ none ∧
      ∀ a ∈ [0x20000040, 0x20000080], (met s a {}).ceased 0 = false ∧ (met s a noMajority).ceased 0 = true) ∧
    (let p := core fun c => gr 1 0x20000044 (gr 2 0x20000084 (gr 3 12 c))
     Ready 0 {} false p p 0 ∧ (p.ctx 0).rg 3 ≠ 0 ∧ 0x20000044 % 8 ≠ 0 ∧ 0x20000084 % 8 ≠ 0) ∧
    Ready 0 {} false (core id) (core id) 0 ∧ ((core id).ctx 0).rg 3 = 0 := by
  refine ⟨⟨ready_of_check ?_, ?_⟩, ⟨ready_of_check ?_, ?_⟩, ready_of_check ?_, ?_⟩ <;>
    decide +kernel

/-- A migration list at 0x20001000 from 0x20002000 to 0x20003000 with the operations given; T0's registers: list, operation and
progress. -/
def migrating (ops : List (List Nat)) (rb rd : W64) (st : W32) : State :=
  openGuards (words 0x20001000 ([0x20002000, 0x20003000, 7, 1 + ops.length * 2 ^ 24] ++ ops.flatten)
    (words 0x20002000 [7, 64, 0, 2 ^ 32 - 1 - (7 ^^^ 64 ^^^ 0x20002000)] (core fun c =>
      gr 1 rd (gr 2 0x20001000 (gr 3 rb { c with st := st })))))

theorem migrating_entry :
    let s := migrating [[4, 16, 16, 0]] 0 0 0x100
    (s.coreLoad 0 0x20001000 16 true).data = s.memLoad (some 0) 0x20001000 16 ∧
      s.guardOn 24 = true ∧ s.guardCheck 24 false 0x20001000 16 1 = none ∧
      (s.memLoad (some 0) 0x20001000 16).map migEntry = some { old := 0x20002000, new := 0x20003000, ty := 7, ops := 1, size := 64 } := by
  decide +kernel

/-- The end entry; the header of an entry whose operations are done; ZERO in the middle of its count; COPY as the first unit. -/
theorem witness_Migration :
    (let s := openGuards (core (gr 2 0x20001000))
     Ready 0 {} false s s 0 ∧ (s.memLoad (some 0) 0x20001000 16).map (fun d => (migEntry d).ends) = some true ∧
       s.guardOn 24 = true ∧ s.guardCheck 24 false 0x20001000 16 1 = none ∧ (met s 0x20001000 {}).ceased 0 = false ∧
       (met s 0x20001000 noMajority).ceased 0 = true ∧ (s.coreRead 0 0x20001000 16 true {}).s.ceased 0 = false) ∧
    (let s := migrating [] 0 0 0x100
     Ready 0 {} false s s 0 ∧ (s.memLoad (some 0) 0x20001000 16).map (fun d => ((migEntry d).ok, (migEntry d).ops)) = some (true, 0) ∧
       s.guardCheck 24 false 0x20003000 16 2 = none ∧ (s.coreStore 0 0x20003000 (List.replicate 16 0) true).data ≠ none) ∧
    (let s := migrating [[0x10000008, 16, 0, 0]] 0 4 0x100
     let o := migOp (((s.memLoad (some 0) 0x20001010 16).getD []))
     Ready 0 {} false s s 0 ∧ s.guardCheck 24 false 0x20001010 16 1 = none ∧ o.reads = false ∧ o.ok = true ∧ o.inside 64 none = true ∧
       4 < o.count ∧ s.guardCheck 24 false 0x20003014 4 2 = none ∧ (s.coreStore 0 0x20003014 (List.replicate 4 0) true).data ≠ none) ∧
    (let s := migrating [[4, 16, 16, 0]] 0 0 0x100
     let o := migOp (((s.memLoad (some 0) 0x20001010 16).getD []))
     let b := (s.coreLoad 0 0x20002000 16 true).data.getD []
     Ready 0 {} false s s 0 ∧ s.guardCheck 24 false 0x20002000 16 1 = none ∧ o.reads = true ∧ o.ok = true ∧ o.inside 64 (some (wordAt b 4 4)) = true ∧
       0 < o.count ∧ wordAt b 12 4 = 2 ^ 32 - 1 - (wordAt b 0 4 ^^^ wordAt b 4 4 ^^^ 0x20002000) ∧
       s.guardCheck 24 false 0x20002010 4 1 = none ∧ s.guardCheck 24 false 0x20003010 4 2 = none ∧
       (s.spanLoad 0 0x20002010 4 {}).data ≠ none ∧ (s.spanLoad 0 0x20002010 4 {}).s.ceased 0 = false) ∧
    (let s := migrating [[4, 16, 16, 0]] 0 0 0
     Ready 0 {} false s s 0 ∧ (s.ctx 0).priv = false) ∧
    ((255 : Nat) < 2 ^ 8 ∧ (65535 : Nat) < 2 ^ 16 ∧ (0x7F7FFFFF : Nat) < 2 ^ 32 ∧ (binary32.read 0x7F7FFFFF).isNan = false) := by
  refine ⟨⟨ready_of_check ?_, ?_⟩, ⟨ready_of_check ?_, ?_⟩, ⟨ready_of_check ?_, ?_⟩,
    ⟨ready_of_check ?_, ?_⟩, ⟨ready_of_check ?_, ?_⟩, ?_⟩ <;> decide +kernel

/-- An atomic operation whose copies halt the triad, one whose read finds an uncorrectable error, and one whose read finds the
copies of a duplex triad divergent. -/
theorem witness_AtomicsThatMeetErrors :
    let s := core (gr 1 0x20000000)
    let d := s.wrF (Reg.TRI_STATE 0) 0 3 2
    Ready 0 {} false s s 0 ∧ (met s 0x20000000 { vote := .split 3 }).ceased 0 = true ∧
      (s.coreRead 0 0x20000000 8 false { read := .uncorrectable }).s.ceased 0 = false ∧
      (s.coreRead 0 0x20000000 8 false { read := .uncorrectable }).data = none ∧
      (d.finds 0 0x20000000 (.laneCopy 1)).2.ceased 0 = false ∧ (d.finds 0 0x01800000 (.laneCopy 1)).2.ceased 0 = true := by
  refine ⟨ready_of_check ?_, ?_⟩ <;> decide +kernel

/-- The first and the last doubleword of the working store, a place outside it, one that the guard refuses, a misaligned address;
and a comparand that agrees and one that does not. -/
theorem witness_AtomicOperations :
    (∀ a ∈ [0x20000000, 0x21FFFFF8],
      let s := core (gr 1 (BitVec.ofNat 64 a))
      s.guardCheck 0 true a 8 2 = none ∧ inWS a = true ∧ (met s a {}).ceased 0 = false ∧
        (s.coreRead 0 a 8 false {}).data = some (List.replicate 8 0) ∧ (s.coreRead 0 a 8 false {}).s.ceased 0 = false ∧
        (s.coreStore 0 a (List.replicate 8 0) false).data ≠ none) ∧
    Ready 0 {} false (core (gr 1 0x20000000)) (core (gr 1 0x20000000)) 0 ∧
    (flagAt true (fun _ a b => a == b) 0 (((core id).ctx 0).rg 2) = true ∧
      flagAt true (fun _ a b => a == b) 0 (((core (gr 2 1)).ctx 0).rg 2) = false) ∧
    (Ready 0 {} false (core (gr 1 0x01800000)) (core (gr 1 0x01800000)) 0 ∧
      (core id).guardCheck ((core id).targetMaster 0) true 0x01800000 8 2 = none ∧ inWS 0x01800000 = false ∧
      (core id).guardCheck ((core id).targetMaster 0) true 0x03000000 8 2 ≠ none) ∧
    Ready 0 {} false (core (gr 1 0x20000004)) (core (gr 1 0x20000004)) 0 ∧ 0x20000004 % 8 ≠ 0 := by
  refine ⟨?_, ready_of_check ?_, ?_, ⟨ready_of_check ?_, ?_⟩, ready_of_check ?_, ?_⟩ <;>
    decide +kernel
/-! ### Witnesses: time, power, references, memory errors, slices -/

theorem witness_TimeBaseAndAlarms :
    let r := State.reset
    let pending : State := { r with time := { wrapPending := true, epoch := 0xFFFFFFFE } }
    let waits (v : W64) (s : State) : State := { s with time := { s.time with step := some v } }
    let fit (limit : W32) : State := regsAt [(Reg.TIME_STEP_LO, 0xFFFFFFF6), (Reg.TIME_STEP_HI, 0xFFFFFFFF), (Reg.TIME_STEP_LIMIT, limit)]
    let fits (s : State) : Bool := decide ((s.rd64 Reg.TIME_STEP_LO Reg.TIME_STEP_HI).toInt.natAbs ≤ (s.rd Reg.TIME_STEP_LIMIT).toNat)
    let running := regsAt [(Reg.SCN_GRID, 0x80000000)]
    let alarm (per ctl : W32) := regsAt [(Reg.TIME_ALM_LO 0, 5), (Reg.TIME_ALM_PER 0, per), (Reg.TIME_ALM_CTRL 0, ctl)]
    (pending.time.wrapPending = true ∧ pending.inc ≠ 0 ∧ r.time.wrapPending = false ∧ r.inc ≠ 0 ∧ r.time.epoch ≠ BitVec.allOnes 32) ∧
    (∀ v ∈ [0x07FDF3B6, 0x08020C4A], (0x07FDF3B6 ≤ v ∧ v ≤ 0x08020C4A)) ∧ (∀ v ∈ [0x07FDF3B5, 0x08020C4B], ¬(0x07FDF3B6 ≤ v ∧ v ≤ 0x08020C4A)) ∧
    (r.run = false ∧ running.run = true ∧ r.time.step = none ∧ fits (fit 10) = true ∧ fits (fit 9) = false ∧ (waits 0 r).time.step ≠ none) ∧
    (let s := waits 5 (alarm 0 0x80000000)
     s.time.step = some 5 ∧ s.time.wrapPending = false ∧ s.inPhase s.now.toNat = false ∧ s.rdB (Reg.TIME_ALM_CTRL 0) 31 = true ∧
       s.now.toNat < s.alarmAt 0 ∧ s.alarmAt 0 ≤ (s.now + 5).toNat) ∧
    (let s : State := waits 0xFFFFFFFFFFFFFFFF { running with time := { ns := 100 } }
     s.time.step = some 0xFFFFFFFFFFFFFFFF ∧ s.run = true ∧ (s.now + 0xFFFFFFFFFFFFFFFF).toNat < s.now.toNat ∧ s.time.wrapPending = false ∧ s.inPhase s.now.toNat = false) ∧
    (let s : State := { regsAt [(Reg.SCN_GRID, 0x80002710)] with time := { ns := 3999 } }
     s.inPhase s.now.toNat = true ∧ s.inPhase 4000 = false) ∧
    ((0xC0000000#32).getLsbD 31 = true ∧ (0xC0000000#32).getLsbD 30 = true ∧ (alarm 999 0).rd (Reg.TIME_ALM_PER 0) = 999 ∧
      (alarm 1000 0).rd (Reg.TIME_ALM_PER 0) = 1000) ∧
    (∀ ctl ∈ [0x80000000, 0xC0000000], (let s : State := { alarm 1000 (BitVec.ofNat 32 ctl) with time := { ns := 5 } }
     s.rdB (Reg.TIME_ALM_CTRL 0) 31 = true ∧ s.alarmAt 0 ≤ s.now.toNat ∧ s.rd (Reg.TIME_ALM_PER 0) ≠ 0 ∧ s.now.toNat + 1000 < 2 ^ 64)) ∧
    (let s := alarm 1000 0x80000000
     ¬(s.rdB (Reg.TIME_ALM_CTRL 0) 31 = true ∧ s.alarmAt 0 ≤ s.now.toNat)) := by
  decide +kernel

theorem witness_PowerAndFeeds :
    let r := State.reset
    let down : State := { regsAt [(Reg.BKD_LOSS_SEC_LO, 7), (Reg.BKD_LOSS_SEC_HI, 0x80030001)] with
      power := { mainValid := false }
      backup := { sub := 3, sec := 0x100000007 } }
    let clear := { down with regs := (down.wr Reg.BKD_STAT 0).regs }
    (r.power.mainValid = true ∧ down.power.mainValid = false) ∧
    (down.backup.stopped = false ∧ down.backup.pwrcyc ≠ BitVec.allOnes 32 ∧ clear.rdB Reg.BKD_STAT 29 = false ∧
      clear.rdB Reg.BKD_LOSS_SEC_HI 31 = true ∧
      clear.rdF Reg.BKD_LOSS_SEC_HI 0 16 * 2 ^ 32 + (clear.rd Reg.BKD_LOSS_SEC_LO).toNat = clear.backup.sec.toNat ∧
      clear.rdF Reg.BKD_LOSS_SEC_HI 16 15 = clear.backup.sub.toNat ∧
      clear.backup.sec.toNat + 2 * (0x7FFF7FFFFF00 : BitVec 48).toNat + 255 < 2 ^ 48 ∧ clear.backup.trim = 0) ∧
    (r.pair.role ≠ .active ∧ { r with pair := { role := .active } }.pair.role = .active) ∧
    (r.recorder.closed = false ∧ r.recorder.queue.length < 256) ∧
    (let s := regsAt [(Reg.FCH_STATUS 31 15, 7)]
     s.fmode 31 15 = 7 ∧ s.stat 31 15 21 = false) ∧
    (r.start.stage = .hearth ∧ (3 : BitVec 2) ≠ 1 ∧ (3 : BitVec 2) ≠ 2) ∧
    ((1919 : W16).toInt < 1920 ∧ 1920 ≤ (1920 : W16).toInt ∧ ¬6000 < (6000 : W16).toNat ∧ 6000 < (6001 : W16).toNat ∧
      2400 < (2401 : W16).toNat ∧ 8 * (3 : Fin 4).val ≤ 31 ∧ 31 < 8 * (3 : Fin 4).val + 8) ∧
    (let s := regsAt [(Reg.FCH_STATUS 31 15, 4), (Reg.FCH_STATUS 31 14, 0x200004)]
     s.fmode 31 15 = 4 ∧ s.stat 31 15 21 = false ∧ s.fmode 31 14 ≠ 0 ∧
       ∀ j, 15 < j → j < 16 → ¬(s.fmode 31 j = 4 ∧ s.stat 31 j 21 = false)) := by
  refine ⟨?_, ?_, ?_, ?_, ?_, ?_, ?_, ?_, ?_, ?_, fun j h1 h2 => absurd h2 (by omega)⟩ <;> decide +kernel

/-- Books that balance and books that do not, whatever the depth of the FIFO. -/
theorem witness_ReferencesAndIslands :
    let r := State.reset
    let refs (v : W32) := regsAt [(Reg.CLK_REFSTAT, v), (Reg.CLK_AUTO, 1)]
    (∀ a b : Fin 48, (r.books a b).r ≤ 2 ∧ (r.books a b).c + 0 + (r.books a b).r = (r.books a b).depth) ∧
    ((1000 : W16).toInt.natAbs ≤ 1000 ∧ 1000 < (0xFC17 : W16).toInt.natAbs ∧ (0xFC18 : W16).toInt.natAbs ≤ 1000 ∧ r.power.mainValid = true) ∧
    ((refs 3).rdB Reg.CLK_REFSTAT 0 = true ∧ (refs 3).rdB Reg.CLK_AUTO 0 = true ∧ (refs 3).rdB Reg.CLK_REFSTAT 1 = true) ∧
    ((refs 1).rdB Reg.CLK_REFSTAT 0 = true ∧ (refs 1).rdB Reg.CLK_REFSTAT 1 = false) ∧
    ((refs 0).bothLost = true ∧ { refs 0 with holdover := true }.holdover = true ∧ (refs 0).rdB Reg.CLK_REFSTAT 0 = false) ∧
    (refs 1).bothLost = false ∧
    (r.islandOff 0 = false ∧ r.islandOff 47 = false ∧ { r with islandsOff := 1 }.islandOff 0 = true) ∧
    ((3 : Fin 48).val < 4 ∧ ¬((4 : Fin 48).val < 4 ∨ (4 : Fin 48).val = 8 ∨ (4 : Fin 48).val = 9 ∨ (4 : Fin 48).val = 10)) := by
  refine ⟨fun a b => ?_, ?_⟩
  · have h : (State.reset.books a b) = Crossing.fresh (Config.fifoDepth a b) := by
      simp [State.books, State.islandOff, State.reset, sget, bit]
    rw [h]; simp [Crossing.fresh]
  · decide +kernel

/-- Books with a credit to launch on, an item to remove and a return under way, and books with none of them; a crossing in the
field whose books an odd occupancy does not balance; books with three returns under way. -/
theorem witness_CrossingsAndIslands :
    let x : Crossing := ⟨2, 1, 1, 4⟩
    let y : Crossing := ⟨0, 0, 2, 2⟩
    (0 < x.c ∧ 0 < x.o ∧ x.r < 2 ∧ 0 < x.r ∧ x.c + x.o + x.r = x.depth ∧ y.c = 0 ∧ y.o = 0 ∧ 2 ≤ y.r ∧ y.c + y.o + y.r = y.depth) ∧
    (let s (v : Crossing) : State := { State.reset with crossings := [(16 * 64 + 17, some v)] }
     (s x).islandOff 16 = false ∧ (s x).islandOff 17 = false ∧ (s x).books 16 17 = x ∧
       (([CrossMove.remove].foldl Crossing.move ((s x).books 16 17)).returned).r = 1 ∧ ¬(x.c + 2 + x.r = x.depth) ∧
       ¬((s ⟨0, 1, 3, 4⟩).books 16 17).r ≤ 2) := by
  decide +kernel

theorem witness_MemoryErrorsAndResets :
    let r := State.reset
    let on := regsAt [(Reg.SYS_SCRUB, 0x1111)]
    (∀ e ∈ [(0x04000000, 0, 0), (0x053FFFFF, 0, 0), (0x20000000, 8, 4), (0x40000000, 16, 8), (0x43BFFFFF, 16, 8), (0x80000000, 24, 12)],
      memKind e.1 = some (e.2.1, e.2.2) ∧ on.rdF Reg.SYS_SCRUB e.2.2 4 ≠ 0) ∧
    (r.triMode (viewTriad 0x05000000) ≤ 2 ∧ r.laneOk (viewTriad 0x053FFFFF) 2 = true ∧
      ∀ m ∈ [1, 2], (regsAt [(Reg.TRI_STATE 0, BitVec.ofNat 32 m)]).triMode (viewTriad 0x050FFFFF) = m) ∧
    (r.poolUsed 2 0 < 16 ∧ r.ledger.log.length < 65536 ∧
      (16 ≤ { r with ledger := { used := [(2 * 65536, 16)] } }.poolUsed 2 0)) ∧
    (let s (l : List MemError) : State := { r with memErrors := l }
     let sick (x : MemError) := x.device == 5
     let mine (x : MemError) := x.device == 11 && x.bank == 63
     3 ≤ ((s (List.replicate 3 ⟨5, 15, 16383, 0⟩)).memRecent (rowError 15 16383)).length ∧
       ((s (List.replicate 2 ⟨5, 15, 16383, 0⟩)).memRecent (rowError 15 16383)).length < 3 ∧
       16 ≤ (((s ((List.range 16).map fun k => ⟨5, 0, k, 0⟩)).memRecent sick).map fun x => (x.bank, x.row)).eraseDups.length ∧
       (((s ((List.range 15).map fun k => ⟨5, 0, k, 0⟩)).memRecent sick).map fun x => (x.bank, x.row)).eraseDups.length < 16 ∧
       8 ≤ ((s (List.replicate 8 ⟨11, 63, 0, 0⟩)).memRecent mine).length ∧ ((s (List.replicate 7 ⟨11, 63, 0, 0⟩)).memRecent mine).length < 8) ∧
    ((0xA5000001#32).toNat / 2 ^ 24 = 0xA5 ∧ (0xA5000001#32).getLsbD 0 = true ∧ (0xA400001E#32).toNat / 2 ^ 24 ≠ 0xA5 ∧
      (0xA5000010#32).toNat / 2 ^ 24 = 0xA5 ∧ (0xA5000010#32).getLsbD 0 = false ∧ (0xA5000010#32).getLsbD (1 + 3) = true) ∧
    (∀ x < 4, ∀ j < 3, r.laneValid x j = true) ∧
    (r.rdB Reg.SYS_LOCK 0 = false ∧ (regsAt [(Reg.SYS_LOCK, 1)]).rdB Reg.SYS_LOCK 0 = true) := by
  decide +kernel

/-- Reset with slice 17 × group + channel as given. -/
def sliceAt (k : Nat) (v : Slice) (s : State) : State := { s with slices := [(k, v)] }

theorem witness_SliceRegisters :
    let r := State.reset
    (isSliceConfig 0 = true ∧ isSliceConfig 0x184 = true ∧ ¬((16 : Fin 17).val = 16 ∧ r.rdB (Reg.FCH_SPARE 0) 15 = true) ∧
      (5 : Nat) % 16 ≠ r.rdF (Reg.FCH_CFG 0 0) 0 4) ∧
    ((∀ a ∈ [Reg.FCH_CFG 0 0, Reg.FCH_EVT_INFO 0, Reg.FCH_RETRY 0 0, Reg.FCH_CTRL 0 0, Reg.FCH_HM_CTRL 0 3], r.blockOff a = false) ∧
      r.shows 0 16 = 16 ∧ (regsAt [(Reg.FCH_SPARE 0, 0x8005)]).shows 0 16 = 5) ∧
    (let s := sliceAt 0 { conv := true } (regsAt [(Reg.FCH_CFG 0 0, 0x80000008)])
     s.rdB (Reg.FCH_CFG 0 0) 31 = true ∧ (s.slice 0 0).conv = true ∧ s.rdF (Reg.FCH_CFG 0 0) 0 4 = 8) ∧
    (r.rdB (Reg.FCH_CFG 0 0) 31 = false ∧ (r.slice 0 0).ready = false ∧ (r.slice 0 0).failed = false ∧ r.unserved 0 0 = false ∧
      ((sliceAt 0 { failed := true } r).slice 0 0).failed = true) ∧
    (8 < (regsAt [(Reg.FCH_CFG 0 0, 9)]).rdF (Reg.FCH_CFG 0 0) 0 4) ∧
    ((r.group 0).queue = [] ∧ (regsAt [(Reg.NET_SOE_CTRL, 0x80000000), (Reg.NET_SOE_GRP, 1)]).collects 0 = true) ∧
    (let s := r.setGroup 0 { queue := [⟨5, 16, true, false, true⟩] }
     s.collects 0 = false ∧ (s.group 0).queue = ⟨5, 16, true, false, true⟩ :: []) := by
  decide +kernel

theorem witness_DigitalInputs :
    let at2 (v : Slice) := sliceAt 0 { v with ready := true } (regsAt [(Reg.FCH_STATUS 0 0, 2), (Reg.FCH_DI_CFG 0 0, 0x30001)])
    let ended (s : State) (stamp : Nat) : Bool := decide ((s.slice 0 0).start.toNat + s.debounce 0 0 ≤ stamp)
    (let s := (at2 {}).atTime (0 + 375)
     0 % 125 = 0 ∧ 1 % 125 ≠ 0 ∧ s.stat 0 0 28 = false ∧ s.replacing 0 0 = false ∧
       (s.setGroup 0 { work := some (0, .replacing) }).replacing 0 0 = true ∧ s.filterRuns 0 0 = true ∧ s.filterStops 0 0 = false ∧ (s.slice 0 0).waiting = false ∧
       (s.slice 0 0).level = false ∧ bit (s.inEffect 0 0 4) 16 = true ∧ bit (s.inEffect 0 0 4) 17 = true ∧ (s.group 0).queue.length < 64) ∧
    (let s := at2 { waiting := true, new := true, raw := true }
     (s.slice 0 0).waiting = true ∧ ended s 999 = false ∧ ended s 1000 = true ∧ s.filterRuns 0 0 = true ∧ s.filterStops 0 0 = false) ∧
    ((1999 : W64).toNat < ((at2 { filterFrom := 2000 }).slice 0 0).filterFrom.toNat ∧
      ¬(2000 : W64).toNat < ((at2 { filterFrom := 2000 }).slice 0 0).filterFrom.toNat ∧ (at2 { filterFrom := 2000 }).filterRuns 0 0 = true) ∧
    (State.reset.filterRuns 0 0 = false ∧ State.reset.stat 0 0 28 = false ∧ (regsAt [(Reg.FCH_STATUS 0 0, 0x10000000)]).stat 0 0 28 = true) ∧
    (let m (now : W64) : State :=
      let s := sliceAt 0 { ready := true, band := 5 } (regsAt [(Reg.FCH_STATUS 0 0, 3)])
      ({ s with pair := { role := .active, drive := .driving } }).setTime { ns := now.setWidth 32 }
     (∀ t ∈ [9999999, 10000000], (m (BitVec.ofNat 64 t)).filterRuns 0 0 = true ∧ (m (BitVec.ofNat 64 t)).fmode 0 0 = 3 ∧
        (m (BitVec.ofNat 64 t)).now.toNat = t) ∧
       ((m 10000000).slice 0 0).bandAt.toNat + 10000000 ≤ (m 10000000).now.toNat ∧
       ((m 10000000).slice 0 0).quiet.toNat ≤ (m 10000000).now.toNat ∧
       ¬((m 9999999).slice 0 0).bandAt.toNat + 10000000 ≤ (m 9999999).now.toNat) := by
  decide +kernel

theorem witness_DigitalOutputs :
    let out (st cfg : W32) (v : Slice) := sliceAt 0 { v with ready := true } (regsAt [(Reg.FCH_STATUS 0 0, st), (Reg.FCH_DO_CFG 0 0, cfg)])
    (let s := out 0x804 0x105 { closed := true, limitAt := some 0 }
     (s.slice 0 0).limitAt = some 0 ∧ min 100 (max 1 (getF (s.inEffect 0 0 8) 0 8)) * 1000000 = 5000000 ∧
       (∀ t ∈ [4999999, 5000000], ((s.atTime (BitVec.ofNat 64 t)).now.toNat = t ∧ (s.atTime (BitVec.ofNat 64 t)).fmode 0 0 = 4 ∧
         (s.atTime (BitVec.ofNat 64 t)).stat 0 0 11 = true ∧ ((s.atTime (BitVec.ofNat 64 t)).slice 0 0).limitAt = some 0)) ∧
     s.fmode 0 0 = 4 ∧ s.stat 0 0 11 = true ∧ (s.slice 0 0).closed = true ∧ getF (s.inEffect 0 0 8) 8 8 = 1 ∧
       s.rdF (Reg.FCH_RETRY 0 0) 0 8 ≠ 1 ∧ (s.wr (Reg.FCH_RETRY 0 0) 1).rdF (Reg.FCH_RETRY 0 0) 0 8 = 1 ∧
       getF ((out 0x804 0 {}).inEffect 0 0 8) 8 8 = 0 ∧ s.atTime 0 = s) ∧
    (let s : State := { (out 0x404 0x10100 { offAt := some 0, cmd := 1 }).wr Reg.SCN_GRID 0x00000001 with time := { ns := 10000000 } }
     (s.slice 0 0).offAt = some 0 ∧ s.stat 0 0 10 = true ∧ s.isTick 10000000 = true ∧ 0 + s.retryInt 0 0 ≤ 10000000 ∧
       (s.slice 0 0).cmd.getLsbD 0 = true ∧ (s.slice 0 0).ready = true ∧ s.stat 0 0 9 = false ∧ s.stat 0 0 18 = false ∧
       s.stat 0 0 21 = false ∧ s.stat 0 0 23 = false ∧ s.pair.drive ≠ .standby) ∧
    (let s := out 4 0 { closed := true }
     (∀ b ∈ [11, 17, 18], detects (s.fmode 0 0) b = true ∧ s.detectable 0 0 b = true ∧ s.stat 0 0 b = false) ∧ s.fmode 0 0 = 4 ∧
       (s.slice 0 0).limitAt = none) ∧
    (let s := out 7 0 { applied := 8000000 }
     s.fmode 0 0 = 7 ∧ ∀ b ∈ [18, 20], detects (s.fmode 0 0) b = true ∧ s.detectable 0 0 b = true ∧ s.stat 0 0 b = false) ∧
    (let s := out 0x200004 0 {}
     s.stat 0 0 21 = true ∧ s.rdB (Reg.FCH_GRP_STAT 0) 31 = false ∧ s.rdB (Reg.FCH_GRP_STAT 0) 27 = false) ∧
    (let s := out 0x60004 0 {}
     s.stat 0 0 17 = true ∧ s.stat 0 0 18 = true ∧ clears (s.fmode 0 0) 17 = true ∧ (17 : Nat) ≠ 19) ∧
    (let s := out 0x80004 0 { closed := true }
     s.stat 0 0 19 = true ∧ s.fmode 0 0 = 4 ∧ (s.slice 0 0).heldAt = 0) ∧
    (let s := out 4 0 {}
     s.fmode 0 0 = 4 ∧ (s.slice 0 0).cmd.getLsbD 0 = false ∧ (s.slice 0 0).ready = true ∧ bit (s.inEffect 0 0 0) 8 = false) ∧
    (let s := out 7 0 {}
     s.fmode 0 0 = 7 ∧ (s.slice 0 0).cmd = 0 ∧ bit (s.inEffect 0 0 0) 8 = false) := by
  decide +kernel

/-! ### Witnesses: substitution, conversions, analogue slices, guards, DMA -/

theorem witness_SubstitutionAndStimuli :
    let r := State.reset
    let at5 (spare cfg : W32) (work : Option (Nat × SpareWork)) : State :=
      (regsAt [(Reg.FCH_SPARE 0, spare), (Reg.FCH_CFG 0 5, cfg), (Reg.FCH_STATUS 0 5, 2)]).setGroup 0 { work := work }
    let whole (s : State) : Bool := !(s.slice 0 5).failed && !bit (s.rd (Reg.FCH_SPARE 0)) (16 + 5) && !s.served 0 5
    (whole (at5 0x1000 0x40000000 none) = true ∧ (bit ((at5 0x1000 0x40000000 none).inEffect 0 5 0) 30 &&
      bit ((at5 0x1000 0x40000000 none).rd (Reg.FCH_SPARE 0)) 12) = true ∧ bit ((at5 0x2000 0x40000000 none).rd (Reg.FCH_SPARE 0)) 13 = true) ∧
    (let s : State := { at5 0 0x40000000 none with critical := [5] }
     whole s = true ∧ (bit (s.inEffect 0 5 0) 30 && (bit (s.rd (Reg.FCH_SPARE 0)) 12 || bit (s.rd (Reg.FCH_SPARE 0)) 13)) = false ∧ 16 * 0 + 5 ∈ s.critical) ∧
    (∀ w ∈ [SpareWork.replacing, SpareWork.tracking], ((at5 0 0 (some (5, w))).group 0).work = some (5, w) ∧
      (at5 0 0 (some (5, w))).yielding = false ∧ w ≠ .overlap) ∧
    (((at5 0 0 (some (5, .overlap))).group 0).work = some (5, .overlap)) ∧
    ({ r with pair := { yield := .preparing } }.yielding = true) ∧
    (let s := at5 0x1000 0 none
     bit (s.rd (Reg.FCH_SPARE 0)) 12 = true ∧ bit (s.rd (Reg.FCH_SPARE 0)) (16 + 5) = false ∧ s.fmode 0 5 ≠ 0) ∧
    (bit ((at5 0 0 none).rd (Reg.FCH_SPARE 0)) 12 = false ∧ bit ((at5 0x8000 0 none).rd (Reg.FCH_SPARE 0)) 15 = true) ∧
    (let s := regsAt [(Reg.FCH_SPARE 0, 0x1000), (Reg.EVR_PT_EN, 0x10)]
     bit (s.rd (Reg.FCH_SPARE 0)) 12 = true ∧ bit ((s.wr (Reg.FCH_SPARE 0) 0x2000).rd (Reg.FCH_SPARE 0)) 13 = true ∧
       s.rdB Reg.EVR_PT_EN 4 = true ∧ (r.wr Reg.EVR_PT_EN 0).rdB Reg.EVR_PT_EN 4 = false) ∧
    (let an (m : W32) (v : Slice) := sliceAt 5 v (regsAt [(Reg.FCH_STATUS 0 5, m), (Reg.FCH_CFG 0 5, 0)])
     (∀ m ∈ [1, 3, 5, 7, 8], ((an (BitVec.ofNat 32 m) { ready := true }).fmode 0 5 = m ∧ ((an 0 { ready := true }).slice 0 5).ready = true)) ∧
       (an 4 {}).fmode 0 5 = 4 ∧ ((an 4 {}).slice 0 5).ready = false ∧ (an 0x10000002 {}).stat 0 5 28 = true ∧
       ((an 0x10000002 {}).slice 0 5).stimFail = none ∧ (an 2 {}).stat 0 5 28 = false ∧
       ((an 0x10000002 {}).slice 0 5).stim = false ∧ ((an 5 {}).slice 0 5).inj = none ∧
       ((an 5 { inj := some (true, 0) }).slice 0 5).inj = some (true, 0) ∧
       (let s : State := { an 0x10000006 { stim := true, stimFail := some 0 } with backup := { opsec := 86399 } }
        (s.slice 0 5).stim = true ∧ s.stat 0 5 28 = true ∧ s.fmode 0 5 = 6 ∧ ((5010000 : W32).toInt - 5000000).natAbs ≤ 10000 ∧
          ¬((5010001 : W32).toInt - 5000000).natAbs ≤ 10000 ∧ (s.slice 0 5).stimFail = some 0 ∧ s.opsec < 0 + 86400 ∧
          s.stat 0 5 23 = false ∧ s.rdB (Reg.FCH_SPARE 0) (16 + 5) = false ∧ s.served 0 5 = false ∧ bit (s.inEffect 0 5 0) 30 = false)) := by
  decide +kernel

theorem witness_ConversionsAndSequences :
    let an (m seq : W32) (v : Slice) := sliceAt 0 { v with ready := true } (regsAt [(Reg.FCH_STATUS 0 0, m), (Reg.FCH_SEQ_CFG 0 0, seq),
      (Reg.SCN_GRID, 0x80000000)])
    (∀ k ∈ [0, 1, 4, 5], (an 4 0 { reg := k }).fmode 0 0 ≤ 4 ∧ ((an 4 0 { reg := k }).slice 0 0).reg = k ∧ k < 6 ∧
      ((an 4 0 {}).slice 0 0).ready = true ∧ ((an 4 0 {}).slice 0 0).conv = false ∧
      (((-699050 : Int) * 24).natAbs < 2 ^ 24 ∧ (((an 4 0 { zero := 0xFFF55556 }).slice 0 0).zero.toInt = -699050) ∧
        (0x3FFFFFFF : W32).toInt.natAbs < 2 ^ 30)) ∧
    (5 ≤ (an 5 3 { reg := 2 }).fmode 0 0 ∧ ((an 5 3 {}).slice 0 0).inj = none ∧ (an 5 3 {}).regLen 0 0 = 3) ∧
    (let s := an 6 0x113 { inj := some (true, 0), held := some 1 }
     (s.slice 0 0).inj = some (true, 0) ∧ s.fmode 0 0 = 6 ∧ s.injLen 0 0 ≤ 0 + 1 ∧ 0 + 1 < (an 6 0x123 {}).injLen 0 0) ∧
    (let s := an 5 0x513 { inj := some (false, 0) }
     5 ≤ s.fmode 0 0 ∧ (s.slice 0 0).ready = true ∧ 0 < s.injLen 0 0 ∧ bit (s.inEffect 0 0 0x104) 8 = true ∧ s.gridHeld = false ∧
       ({ s with grid := { held := true } } : State).gridHeld = true ∧
       s.run = true ∧ (s.slice 0 0).inj = some (false, 0) ∧ bit (s.inEffect 0 0 0x104) 10 = true) ∧
    (let s := an 5 0x513 { trig := true }
     (s.slice 0 0).inj = none ∧ (s.slice 0 0).trig = true ∧ (s.slice 0 0).held = none) ∧
    (let s := an 4 0 {}
     s.fmode 0 0 < 5 ∧ bit (s.inEffect 0 0 0x104) 8 = false ∧ bit (s.inEffect 0 0 0x104) 10 = false ∧ (s.slice 0 0).trig = false) ∧
    (let s : State := { an 5 0 { inj := some (true, 0) } with time := { rephase := 0x80000000 } }
     bit s.time.rephase 31 = true ∧ bit s.time.rephase 0 = false ∧ (s.slice 0 0).inj = some (true, 0)) := by
  decide +kernel

theorem witness_CurrentOutputsAndHart :
    let ao (m cfg : W32) (l : List (Nat × W32)) := sliceAt 0 { ready := true } (regsAt ([(Reg.FCH_STATUS 0 0, m), (Reg.FCH_AN_CFG 0 0, cfg)] ++ l))
    (let s := ao 7 0x10100 []
     s.fmode 0 0 = 7 ∧ (s.wr (Reg.FCH_SPARE 0) 0x8000).rdB (Reg.FCH_SPARE 0) 15 = true ∧ s.rdB (Reg.FCH_SPARE 0) 15 = false ∧
       (s.slice 0 0).ready = true ∧ s.stat 0 0 17 = false ∧ bit (s.inEffect 0 0 0x100) 8 = true) ∧
    (let s := ao 7 0x10200 [(Reg.FCH_VALUE 0 0, 2401)]
     s.deviates 0 0 = true ∧ bit (s.inEffect 0 0 0x100) 9 = true ∧ (ao 7 0x10200 [(Reg.FCH_VALUE 0 0, 2400)]).deviates 0 0 = false) ∧
    (∀ e ∈ [(4000000, 20000000, true), (3880000, 19880000, true), (4000000, 19920398, false), (4000000, 19920399, true), (4000000, 4000000, false),
        (3879999, 19879999, false)],
      decide (0 < e.2.1 - e.1 ∧ 995 * (e.2.1 - e.1) ≤ (16000000000 : Int) ∧ 16000000000 ≤ 1005 * (e.2.1 - e.1) ∧
        (e.1 - 4000000).natAbs ≤ 120000) = e.2.2) ∧
    (let s := ao 8 0 []
     s.fmode 0 0 = 8 ∧ s.stat 0 0 28 = false ∧ getF (s.inEffect 0 0 0x184) 0 2 = 0 ∧ s.replacing 0 0 = false ∧ (s.slice 0 0).ready = true) ∧
    (let s := ao 8 0 [(Reg.FCH_CNT_CFG 0 0, 0xFF00)]
     getF (s.inEffect 0 0 0x184) 8 8 + 1 = 256 ∧ 255 < getF (s.inEffect 0 0 0x184) 8 8 + 1) ∧
    (let h (role : Role) (m hart q0 : W32) (busy : W32) : State :=
      { ao m 0 [(Reg.FCH_HART_CFG 0 0, hart), (Reg.FCH_HM_REQ 0 3, q0), (Reg.FCH_HM_STAT 0 3, busy)] with pair := { role := role } }
     (h .active 5 1 0xFD00FF 0).hartRefusal 0 3 = 0 ∧ (h .active 5 1 0xFE0100 0).hartRefusal 0 3 = 7 ∧
       (h .standby 5 1 0 0).hartRefusal 0 3 = 5 ∧ (h .active 6 1 0 0).hartRefusal 0 3 = 3 ∧
       ((h .active 7 1 0 0).setGroup 0 { modems := [(1, 0)] }).hartRefusal 0 3 = 4 ∧
       (h .active 5 1 0 0).rdB (Reg.FCH_HM_STAT 0 3) 31 = false ∧ (h .active 5 1 0 0x80000000).rdB (Reg.FCH_HM_STAT 0 3) 31 = true) := by
  decide +kernel

/-- Region 0 over 1 KiB, and region 15 over its first 256 bytes with nothing permitted. -/
def twoRegions : State :=
  regsAt [(Reg.GRD_RBAR 5 0, 0x20000000), (Reg.GRD_RATR 5 0, 0x00000AF7), (Reg.GRD_RBAR 5 15, 0x20000000), (Reg.GRD_RATR 5 15, 0x00000880),
    (Reg.GRD_CTRL 5, 1)]

theorem witness_Guards :
    let s := twoRegions
    let covers (r x : Nat) := bit (s.rd (Reg.GRD_RATR 5 r)) 7 = true ∧ regionCovers (s.rd (Reg.GRD_RBAR 5 r)) (s.rd (Reg.GRD_RATR 5 r)) x = true
    let off (v : W32) := regsAt [(Reg.GRD_CTRL 5, v)]
    (s.guardOn 5 = true ∧ covers 15 0x200000FF ∧ covers 0 0x20000100 ∧ (∀ q < 16, 0 < q → ¬covers q 0x20000100) ∧
      ∀ r < 16, ¬covers r 0x1FFFFFFF) ∧
    ((off 0x200).guardOn 5 = false ∧ s.rdB (Reg.GRD_CTRL 5) 16 = false ∧ (off 0x10001).rdB (Reg.GRD_CTRL 5) 16 = true) ∧
    ((s.guardCheck 5 false 0x200000FF 2 1).map (fun f => (f.addr, f.straddle)) = some (0x200000FF, true) ∧
      ((s.wr (Reg.GRD_CTRL 5) 0x10001).guardCheck 5 false 0x200000FF 2 1).isSome = true) ∧
    (s.blockOff (Reg.GRD_CTRL 5) = false ∧ s.blockOff (Reg.GRD_RATR 5 15) = false ∧ guardMaster 5 = true ∧ guardMaster 47 = true ∧ s.stalls = [] ∧ (off 0x80000001).stalls = [] ∧ s.rdB (Reg.GRD_CTRL 5) 31 = false ∧ s.rdB (Reg.GRD_CTRL 5) 0 = true ∧
      (off 0x80000001).rdB (Reg.GRD_CTRL 5) 31 = true ∧ (off 0x200).rdB (Reg.GRD_CTRL 5) 0 = false ∧ (off 0x100).guardState 5 = 1 ∧
      (off 0x200).guardState 5 = 2 ∧ s.guardState 5 ≠ 1) := by
  refine ⟨⟨?_, ?_, ?_, fun q h1 h2 => ?_, ?_⟩, ?_, ?_, ?_⟩
  case refine_4 => revert h2; revert q; decide +kernel
  all_goals decide +kernel

/-- Channel 0 in a state, at a descriptor in the working store, under an open guard. -/
def dmaAt (st : W32) (ch : Chan) (d : List Nat) (l : List (Nat × W32)) : State :=
  words 0x20001000 d { regsAt ([(Reg.GRD_RATR 32 0, 0xF7), (Reg.GRD_CTRL 32, 1), (Reg.DMA_CH_STAT 0, st),
    (Reg.DMA_CH_DESC 0, 0x20001000)] ++ l) with dma := [(0, ch)] }

/-- The states of a channel; descriptors with OWN, without it and invalid; and bursts that end in the middle, at the guard and at
memory without a device. -/
theorem witness_DmaChannels :
    (∀ k ∈ [0, 1, 2, 3, 4], (dmaAt (BitVec.ofNat 32 k) {} [] []).chanState 0 = k) ∧
    (let s := dmaAt 1 {} [0x80000040, 0x20002000, 0x20003000, 0, 0, 0, 0, 0] []
     s.blockOff (Reg.DMA_CH_CTRL 0) = false ∧ s.blockOff (Reg.DMA_CH_DESC 0) = false ∧ (s.chan 0).loaded = false ∧ s.descAccess 0 1 = none ∧
       s.memKey none 0x20001000 = some 0x20001000 ∧ memKind 0x20001000 ≠ none ∧ s.memLoad none 0x20001000 32 ≠ none ∧
       (s.memLoad none 0x20001000 32).map (fun d => ((BitVec.ofNat 32 (wordAt d 0 4) : W32).getLsbD 31,
         descOk (BitVec.ofNat 32 (wordAt d 0 4)) (BitVec.ofNat 32 (wordAt d 4 4)) (BitVec.ofNat 32 (wordAt d 8 4)) 0 0)) = some (true, true)) ∧
    (descOk 0x80000000 0x20002000 0x20003000 1 0 = false ∧ (0x00000040#32).getLsbD 31 = false) ∧
    (let s := dmaAt 1 { loaded := true, ctrl := 0x80000040 } [] [(Reg.DMA_CH_SRC 0, 0x20002000), (Reg.DMA_CH_DST 0, 0x20003010),
        (Reg.DMA_CH_REMAIN 0, 64)]
     (s.chan 0).loaded = true ∧ (s.chan 0).bad = false ∧ min 64 (64 - 0x20003010 % 64) = 48 ∧ 48 < 64 ∧
       s.burstStop (s.chanGuard 0) 0x20002000 0x20003010 48 false = none ∧
       (match s.burstMove 0 0x20002000 0x20003010 48 false with | .ok _ => true | .error _ => false) = true ∧
       s.memKey none 0x20002000 = some 0x20002000 ∧ memKind 0x20002000 ≠ none ∧
       (s.dmaRelease 0 (2 ^ 30 + 9 * 2 ^ 24 + s.dmaMoved 0)).2 = true) ∧
    (let s := (dmaAt 1 { loaded := true } [] [(Reg.DMA_CH_SRC 0, 0x20002000), (Reg.DMA_CH_DST 0, 0x20003010), (Reg.DMA_CH_REMAIN 0, 64)]).wr
        (Reg.GRD_RATR 32 0) 0x77
     (s.burstStop (s.chanGuard 0) 0x20002000 0x20003010 48 false).map (fun e => e.1) = some 0) ∧
    (let s := dmaAt 1 { loaded := true } [] []
     s.burstStop (s.chanGuard 0) 0x20002000 0x30000000 64 false = none ∧
       (match s.burstMove 0 0x20002000 0x30000000 64 false with | .ok _ => false | .error _ => true) = true) := by
  decide +kernel

theorem witness_LaneRepair :
    let r := State.reset
    let mode (m : W32) := r.wr (Reg.TRI_STATE 0) m
    let with' (p : Nat) (c : Option Nat) : State := r.setTriad 0 { repair := some ⟨2, c, p, 6, 0⟩ }
    (r.triMode 0 = 0 ∧ (mismatchWindow r.opsec (r.history (r.laneCore 0 2)) ++ [r.opsec]).length < 3 ∧
      (let s : State := { r with ledger := { history := [(r.laneCore 0 2, [0, 0])] } }
       3 ≤ (mismatchWindow s.opsec (s.history (s.laneCore 0 2)) ++ [s.opsec]).length)) ∧
    ((mode 1).triMode 0 = 1 ∧ (mode 2).triMode 0 = 2 ∧ 2 < (mode 3).triMode 0 ∧ (∀ y < 4, (mode 1).triMode y ≠ 3) ∧
      ∀ p ∈ [1, 2, 3], ((with' p (some (r.slotCore 3))).wr (Reg.TRI_STATE 0) 1).triMode 0 = 1 ∧
        (((with' p (some (r.slotCore 3))).wr (Reg.TRI_STATE 0) 1).triad 0).repair = some ⟨2, some (r.slotCore 3), p, 6, 0⟩) ∧
    (((with' 1 (some (r.slotCore 3))).triad 0).holdoff = false ∧
      ((r.setTriad 0 { repair := some ⟨2, none, 2, 6, 0⟩, holdoff := true }).triad 0).holdoff = true ∧
      ((with' 1 (some (r.slotCore 3))).triad 0).repair = some ⟨2, some (r.slotCore 3), 1, 6, 0⟩ ∧ ∀ i < 3, r.slotCore i ≠ r.slotCore 3) ∧
    (((with' 2 none).triad 0).repair = some ⟨2, none, 2, 6, 0⟩ ∧ ((with' 3 none).triad 0).repair = some ⟨2, none, 3, 6, 0⟩) ∧
    (let s := (with' 0 (some (r.slotCore 3))).wr (Reg.TRI_POOL 0) 0x2F1E1D1C
     s.slotState 3 = 2 ∧ s.slotCore 3 = r.slotCore 3 ∧ (s.triad 0).repair = some ⟨2, some (s.slotCore 3), 0, 6, 0⟩ ∧ s.slotState 0 ≠ 2) ∧
    (let s := r.wr (Reg.TRI_POOL 0) 0x2F1E1D1C
     s.slotState 3 = 2 ∧ s.pledged (s.slotCore 3) = false ∧ (∀ i < 3, s.slotState i = 2 → s.pledged (s.slotCore i) = true)) ∧
    ((r.triad 0).deferred = [] ∧ ((r.setTriad 0 { deferred := [(0, 2)], holdoff := true }).triad 0).deferred = (0, 2) :: []) := by
  decide +kernel

theorem witness_TriadsAndSpareCores :
    let r := State.reset
    let mode (m : W32) := r.wr (Reg.TRI_STATE 1) m
    let slot (v : W32) := regsAt [(Reg.TRI_POOL 0, v)]
    (Memory.wf r.mem = true ∧ (∀ k < 3, r.laneValid 1 k = true) ∧ (∀ y ∈ r.triTargets 0, (r.ctx y).dcache.length + 16 ≤ 512) ∧ r.triMode 1 = 0 ∧ r.repairing 1 = false ∧ r.hasControl 1 = false ∧ r.rdB (Reg.TRI_STATE 1) 30 = false) ∧
    ((mode 0x40000000).rdB (Reg.TRI_STATE 1) 30 = true ∧ (mode 0x40000000).triMode 1 = 0 ∧ ((mode 0x40000000).ctx 1).tiers = 0) ∧
    ((mode 3).triMode 1 = 3 ∧ (mode 3).repairing 1 = false ∧ ∀ k < 3, ((mode 3).ctx (16 + (mode 3).laneCore 1 k)).tiers = 0) ∧
    ((mode 4).triMode 1 = 4 ∧ (r.setTriad 1 { repair := some ⟨0, none, 2, 6, 0⟩ }).repairing 1 = true) ∧
    ((r.triad 1).holdoff = false ∧ ((r.setTriad 1 { holdoff := true }).triad 1).holdoff = true) ∧
    (r.blockOff (Reg.TRI_CTRL 1) = false ∧ r.blockOff (Reg.TRI_DCP 0) = false ∧ r.blockOff Reg.TIC_SWTRIG = false ∧
      r.blockOff (Reg.TIC_SRC_CFG 5) = false ∧ (slot 0x1C).pledged 12 = false ∧
      ((slot 0x1C).setTriad 0 { repair := some ⟨2, some 12, 1, 6, 0⟩ }).pledged 12 = true ∧ (slot 0x1C).slotState 0 = 1 ∧ (slot 0x2C).slotState 0 = 2 ∧ (slot 0x4C).slotState 0 = 4 ∧ (slot 0x3C).slotState 0 = 3 ∧
      (slot 0x4C).slotCore 0 = 12 ∧ ((slot 0x4C).ctx 28).tiers = 0) ∧
    (let s := (slot 0x4C).setCtx 28 { stopping := true, saved := 4 }
     (s.ctx 28).tiers ≠ 0 ∧ (s.ctx 28).stopping = true ∧ (((slot 0x4C).setCtx 28 { stopping := true }).ctx 28).stopping = true) ∧
    (let old : W32 := 0x80000031
     let s := regsAt [(Reg.TRI_DCP 0, old)]
     s.rd (Reg.TRI_DCP 0) = old ∧ old.getLsbD 0 = true ∧ old &&& 0xFFFFF0F0#32 ≠ (0x80000020#32 &&& 0xFFFFF0F1#32) &&& 0xFFFFF0F0#32 ∧
       partOk true 0x80000041 = false ∧ partOk true 0x80000031 = true ∧ s.rdB (Reg.TRI_DCP 0) 0 = true ∧ r.rdB (Reg.TRI_DCP 0) 0 = false ∧
       0x2000000 ≤ getF old 12 20 * 64) := by
  decide +kernel

/-! ### Witnesses: the grid, forces, the change between cycles -/

/-- Bytes that are all 0 make the number 0. -/
theorem peek_zero (s : State) (a n : Nat) (h : ∀ x, a ≤ x → x < a + n → s.byte x = 0) : s.peek a n = 0 := by
  have go : ∀ n a, (∀ x, a ≤ x → x < a + n → s.byte x = 0) → ofBytes (s.bytes a n) = 0 := by
    intro n
    induction n with
    | zero => intros; rfl
    | succ n ih =>
      intro a h
      simp [State.bytes, ofBytes, h a (by omega) (by omega), ih (a + 1) fun x h1 h2 => h x (by omega) (by omega)]
  exact go n a h

/-- A scan entry of zeros where no byte of a list has been written. -/
theorem scanWord_zero (s : State) (e : Nat) (b : Bool) (i k : Nat)
    (h : ∀ x, listBase e b + 8 * i + 4 * k ≤ x → x < listBase e b + 8 * i + 4 * k + 4 → s.byte x = 0) : s.scanWord e b i k = 0 := by
  simp [State.scanWord, peek_zero s _ _ h]

theorem regsAt_mem (l : List (Nat × W32)) : (regsAt l).mem = [] := by
  have : ∀ (l : List (Nat × W32)) (s : State), (l.foldl (fun s e => s.wr e.1 e.2) s).mem = s.mem := by
    intro l
    induction l with
    | nil => intro; rfl
    | cons e l ih => intro s; rw [List.foldl_cons, ih]; rfl
  exact this l _

/-- A running grid of 100 µs with guard 16 open, one valid output entry of engine 0 for channel 5, an image at 0x20030000, and bytes
elsewhere as given. -/
def gridAt (a : Nat) (l : List Nat) (r : List (Nat × W32)) : State :=
  words a l (words 0x12008000 [0xC0000005, 8]
    (regsAt ([(Reg.SCN_GRID, 0x80000064), (Reg.SCN_WIN, 0x00050005), (Reg.SCN_ENG 0, 0x10000), (Reg.SCN_IMG_BASE 0, 0x20030000), (Reg.GRD_RATR 16 0, 0xF7),
      (Reg.GRD_CTRL 16, 1), (Reg.GRD_CTRL 17, 0x200), (Reg.SCN_LINE 0, 0x80000001)] ++ r)))

/-- An entry of a scan list from 1 on is zeros in gridAt. -/
theorem gridAt_scan (a : Nat) (l : List Nat) (r : List (Nat × W32)) (i k : Nat) (h1 : 0 < i) (h2 : i < 1024) (hk : k < 2)
    (ha : 0x12010000 ≤ a) : (gridAt a l r).scanWord 0 false i k = 0 := by
  apply scanWord_zero
  intro x hx hy
  have hb : listBase 0 false = 0x12008000 := rfl
  simp only [gridAt, words]
  rw [State.byte_pokeBytes_other _ _ (by omega), State.byte_pokeBytes_other _ _ (by simp [toBytes]; omega)]
  simp [State.byte, regsAt_mem, sget, memDefault]

theorem witness_GridAndDirectCommands :
    let s : State := { gridAt 0x20030008 [1] [] with pair := { role := .active } }
    let due (s : State) (t : Nat) : Bool := s.run && s.isTick t && decide (s.grid.last.toNat < t)
    (due s 100000 = true ∧ s.pair.role = .active ∧ s.force = none ∧ s.guardOn 16 = true ∧ s.guardOn 17 = false ∧
      s.scanValid 0 0 = true ∧ (s.scanWord 0 false 0 0).getLsbD 30 = true ∧ s.outputLines 100000 (getF (s.scanWord 0 false 0 0) 26 4) = true ∧
      s.listBank 0 = false ∧ (∀ j < 12, s.holdsSource (16 + j) = false) ∧ (s.scanWord 0 false 0 0).getLsbD 23 = false) ∧
    (∀ i < 1024, 0 < i → ((gridAt 0x20030008 [1] []).scanWord 0 false i 0).getLsbD 31 = false) ∧
    (∀ w1 ∈ [0, 8], s.guardCheck 16 false (s.imgBase false + w1) 4 1 = none) ∧
    (State.reset.pair.role ≠ .active ∧ due s 99999 = false ∧ due State.reset 100000 = false) ∧
    (let u := sliceAt 4 { direct := some 1 } (s.wr (Reg.FCH_STATUS 0 4) 4)
     u.pair.role = .active ∧ (u.slice 0 4).direct = some 1 ∧ u.fmode 0 4 = 4 ∧ ((u.atTime 100000).latchFilters 100000).fmode 0 4 = 4) ∧
    (let u : State := { s.wr (Reg.TIC_SRC_CFG 16) 0x80000000 with grid := { last := 100000 } }
     u.grid.last = 100000 ∧ u.lineTicks 0 100000 = true ∧ u.srcEn 16 = true ∧ u.wouldMiss 16 = false ∧ s.grid.last ≠ 100000 ∧
       (let w := u.atTime (100000 + BitVec.ofNat 64 u.winNs)
        w.change.holdTill.toNat ≤ w.now.toNat ∧ ¬{ w with change := { holdTill := 200000 } }.change.holdTill.toNat ≤ w.now.toNat)) ∧
    (let u := s.wr Reg.ANV_CFG 100
     due u 100000 = true ∧ u.isBoundary 100000 = true ∧ s.isBoundary 150000 = false) ∧
    ((regsAt [(Reg.FCH_SPARE 0, 0x8000)]).rdB (Reg.FCH_SPARE 0) 15 = true ∧ State.reset.run = false ∧ s.outputListed 5 = true ∧
      { s with pair := { claim := true } }.outputListed 21 = false ∧ (s.wr (Reg.FCH_STATUS 0 5) 7).fmode 0 5 = 7) := by
  refine ⟨?_, fun i h1 h2 => ?_, ?_, ?_, ?_, ?_, ?_, ?_⟩
  all_goals try decide +kernel
  rw [gridAt_scan _ _ _ _ _ h2 h1 (by omega) (by omega)]; rfl

/-- A force table at 0x20010000 and a directory at 0x20020000 of one variable 7 with the given third word, with a force command. -/
def forcing (op : Nat) (w cnt loc : Nat) (since : W64) : State :=
  { words 0x20020000 [7, 1, w] (gridAt 0x20010040 [7, loc, 1] [(Reg.SCN_FORCE_BASE, 0x20010000), (Reg.SCN_FORCE_CNT, BitVec.ofNat 32 cnt),
      (Reg.SCN_DIR_BASE, 0x20020000), (Reg.SCN_DIR_N, 1)]) with
    pair := { role := .active }
    force := some { op := op, node := 1, id := 7, value := 9, since := since } }

/-- A table whose 512 entries all hold. -/
def fullTable : Nat → Nat → List Host.Cell
  | _, 0 => []
  | a, n + 1 => (a, 0x80#8) :: fullTable (a + 32) n

theorem fullTable_hit : ∀ n a i, i < n → sget memDefault (fullTable a n) (a + 32 * i) = 0x80#8 := by
  intro n
  induction n with
  | zero => intro _ _ h; omega
  | succ n ih =>
    intro a i h
    cases i with
    | zero => simp [fullTable, sget]
    | succ i =>
      rw [fullTable, sget, if_neg (by omega), show a + 32 * (i + 1) = a + 32 + 32 * i by omega]
      exact ih _ _ (by omega)

theorem fullTable_forced (i : Nat) (h : i < 512) :
    { forcing 0 0x80000000 0 0 0 with mem := fullTable 0x20010047 512 }.forceV i = true := by
  have hb : ∀ s : State, s.forceBase = 0x20010000 → s.byte (0x20010047 + 32 * i) = 0x80#8 → s.forceV i = true := by
    intro s h1 h2
    have e : s.forceAddr i + 4 + 1 + 1 + 1 = 0x20010047 + 32 * i := by simp only [State.forceAddr, h1]; omega
    have h3 : s.peek (s.forceAddr i + 4) 4 = (s.byte (s.forceAddr i + 4)).toNat + 256 * ((s.byte (s.forceAddr i + 4 + 1)).toNat +
        256 * ((s.byte (s.forceAddr i + 4 + 1 + 1)).toNat + 256 * 128)) := by
      simp only [State.peek, State.bytes, ofBytes, e, h2]; rfl
    have b0 := (s.byte (s.forceAddr i + 4)).isLt
    have b1 := (s.byte (s.forceAddr i + 4 + 1)).isLt
    have b2 := (s.byte (s.forceAddr i + 4 + 1 + 1)).isLt
    have h4 : s.forceLoc i = BitVec.ofNat 32 (s.peek (s.forceAddr i + 4) 4) := rfl
    have h5 : 2 ^ 31 ≤ (s.forceLoc i).toNat := by
      rw [h4, BitVec.toNat_ofNat, Nat.mod_eq_of_lt (by omega)]; omega
    have h6 := (s.forceLoc i).isLt
    show (s.forceLoc i).getLsbD 31 = true
    rw [BitVec.getLsbD, Nat.testBit_eq_decide_div_mod_eq, show (s.forceLoc i).toNat / 2 ^ 31 = 1 by omega]
    rfl
  exact hb _ (by decide +kernel) (fullTable_hit _ _ _ h)

theorem witness_Forces :
    let s := forcing 0 0x80000000 0 0 0
    let t : State := { State.reset with pair := { role := .active } }
    let tick : W64 := 100000
    let at' (s : State) := s.atTime (tick - BitVec.ofNat 64 s.woutNs)
    let entry (u : State) := u.dirFind (u.rd Reg.SCN_DIR_BASE).toNat (u.rd Reg.SCN_DIR_N).toNat 7
    (s.force ≠ none ∧ t.force = none ∧ t.pair.role = .active ∧ t.pair.yield ≠ .hold ∧ State.reset.pair.role ≠ .active ∧ t.run = false ∧
      getF (0xA5030000#32) 24 8 = 0xA5 ∧ getF (0xA5030000#32) 16 2 = 3 ∧ getF (0xA4030000#32) 24 8 ≠ 0xA5) ∧
    ((∀ k ∈ [0, 1, 2], (forcing k 0 0 0 0).run = true ∧ (forcing k 0 0 0 0).isTick 100000 = true ∧ (forcing k 0 0 0 0).grid.last.toNat < 100000) ∧
      ({ s with force := none } : State).force = none) ∧
    (let u := at' s
     u.force.isSome = true ∧ u.guardOn 16 = true ∧ ¬u.now.toNat < 0 + 1000 ∧ u.forceTable = true ∧ entry u = some (1, 0x80000000) ∧
       u.forceable 0x80000000 = true ∧ u.chgState ≠ 3 ∧ u.chgState ≠ 4 ∧ u.forceOf 7 = none ∧ u.forceV 0 = false ∧
       u.forceBarred [u.forceBase] = none ∧ u.forceBarred [u.forceAddr 0] = none ∧ u.rdF Reg.SCN_FORCE_CNT 0 10 < 512 ∧
       (u.wr (Reg.GRD_RATR 16 0) 0).forceBarred [u.forceBase] ≠ none) ∧
    (let u := (((words 0x20010100 [7, 0x80000000, 1] (forcing 0 0x80000000 1 0 0)).wr (Reg.GRD_RBAR 16 15) 0x20010100).wr (Reg.GRD_RATR 16 15) 0x880).atTime 99000
     u.forceBarred [u.forceBase] = none ∧ u.forceOf 7 = some 6 ∧ u.forceable 0x80000000 = true ∧ u.forceBarred [u.forceAddr 6] ≠ none) ∧
    (let u := at' (forcing 0 0x80000000 0 0 99001)
     u.now.toNat < 99001 + 1000) ∧
    (let u := at' (forcing 1 0 0 0 0)
     u.forceable 0 = true ∧ getF (0 : W32) 30 2 < 2 ∧ u.forceable 0xC0000000 = false ∧ entry u ≠ none ∧ u.forceOf 7 = none) ∧
    (let u := at' (forcing 1 0 1 0x80000000 0)
     u.forceOf 7 = some 0 ∧ u.forceBarred [u.forceAddr 0] = none ∧ u.forceV 0 = true) ∧
    (entry (at' { s with mem := [] }) = none ∧ (at' (s.wr Reg.SCN_FORCE_BASE 0)).forceTable = false) ∧
    (let u := at' (s.wr Reg.SCN_CHG_STAT 3)
     u.chgState = 3 ∧ u.changeBreaks 7 1 = true ∧ entry u = some (1, 0x80000000) ∧ u.forceable 0x80000000 = true) ∧
    (∀ i < 512, { forcing 0 0x80000000 0 0 0 with mem := fullTable 0x20010047 512 }.forceV i = true) ∧
    (∀ i < 512, { forcing 2 0 0 0 0 with mem := [] }.forceV i = false) ∧
    (let u : State := { forcing 2 0 0 0 0 with mem := [] }
     u.forceBarred (((List.range 512).filter u.forceV).map u.forceAddr) = none) ∧
    (let u := (forcing 2 0x80000000 1 0x80000000 0).wr (Reg.GRD_RATR 16 0) 0
     u.forceV 0 = true ∧ u.forceBarred (((List.range 512).filter u.forceV).map u.forceAddr) ≠ none) := by
  refine ⟨?_, ?_, ?_, ?_, ?_, ?_, ?_, ?_, ?_, fullTable_forced, fun i _ => ?_, ?_, ?_⟩
  all_goals try decide +kernel
  have : ∀ s : State, s.mem = [] → s.forceV i = false := by
    intro s h
    have : s.forceLoc i = 0 := by
      simp only [State.forceLoc, peek_zero s _ 4 fun x _ _ => by simp [State.byte, h, sget, memDefault]]
      rfl
    simp [State.forceV, this, bit]
  exact this _ rfl

/-- A change descriptor at 0x20000000 with one task: source 16 at tier 5 on T0 every 100 ticks of 100 µs, whose code in the inactive
bank of T0 is a return. -/
def changeAt (run : W32) (st : W32) (triads list : Nat) : State :=
  words 0x04200000 [0x681F0000] (words 0x20000100 [0x05000010, 0x01000000, 0, 100, 1000]
    (words 0x20000000 [7, triads, 0x20000100, 1, 0, 0, list] (regsAt [(Reg.SCN_GRID, run ||| 100#32), (Reg.SCN_WIN, 0x00190019),
      (Reg.ANV_CFG, 500), (Reg.SCN_CHG_DESC, 0x20000000), (Reg.SCN_CHG_STAT, st)])))

theorem changeAt_entries (run st : W32) (triads list : Nat) : (changeAt run st triads list).newEntries = [] := by
  have hz : ∀ (e : Nat), e < 2 → ∀ b i k, i < 1024 → k < 2 → (changeAt run st triads list).scanWord e b i k = 0 := by
    intro e he b i k hi hk
    apply scanWord_zero
    intro x hx hy
    have h1 : 0x12008000 ≤ x := by
      have : 0x12008000 ≤ listBase e b := by simp only [listBase]; omega
      omega
    have h2 : x < 0x12010000 := by
      have : listBase e b ≤ 0x1200E000 := by cases b <;> simp only [listBase, b2n] <;> simp <;> omega
      omega
    simp only [changeAt, words]
    rw [State.byte_pokeBytes_other _ _ (by simp [toBytes]; omega), State.byte_pokeBytes_other _ _ (by simp [toBytes]; omega),
      State.byte_pokeBytes_other _ _ (by simp [toBytes]; omega)]
    simp [State.byte, regsAt_mem, sget, memDefault]
  simp only [State.newEntries, List.flatMap_eq_nil_iff, List.filterMap_eq_nil_iff]
  intro e he i hi
  have he' : e < 2 := by simp at he; omega
  have hi' : i < 1024 := by simpa using hi
  simp [hz e he' _ i 0 hi' (by omega), bit]

theorem fieldRegs_reset : ∀ ch < 512, resetVal (Reg.FCH_CFG (ch / 16) (ch % 16)) = 0x40000000 ∧
    resetVal (Reg.FCH_HART_CFG (ch / 16) (ch % 16)) = 0 ∧ resetVal (Reg.FCH_CNT_CFG (ch / 16) (ch % 16)) = 0x800 := by decide +kernel

theorem fieldRegs_range : ∀ ch < 512, ∀ a ∈ [Reg.FCH_CFG (ch / 16) (ch % 16), Reg.FCH_HART_CFG (ch / 16) (ch % 16),
    Reg.FCH_CNT_CFG (ch / 16) (ch % 16)], 0x11000000 ≤ a ∧ a < 0x12000000 := by decide +kernel

/-- Where no register of the field has been written, the settings of every channel stand. -/
theorem channels_idle (s : State) (h : ∀ a, 0x11000000 ≤ a → a < 0x12000000 → s.rd a = resetVal a) :
    (List.range 512).all s.channelOk = true := by
  rw [List.all_eq_true]
  intro ch hc
  have hc : ch < 512 := by simpa using hc
  have h0 : ∀ a ∈ [Reg.FCH_CFG (ch / 16) (ch % 16), Reg.FCH_HART_CFG (ch / 16) (ch % 16), Reg.FCH_CNT_CFG (ch / 16) (ch % 16)],
      s.rd a = resetVal a := fun a ha => h a (fieldRegs_range ch hc a ha).1 (fieldRegs_range ch hc a ha).2
  obtain ⟨r1, r2, r3⟩ := fieldRegs_reset ch hc
  simp only [List.mem_cons, List.not_mem_nil, or_false, forall_eq_or_imp, forall_eq] at h0
  simp [State.channelOk, State.cfgMode, State.rdF, h0.1, h0.2.1, h0.2.2, r1, r2, r3, getF, bit]

theorem rd_regsAt (l : List (Nat × W32)) (a : Nat) (h : ∀ e ∈ l, e.1 ≠ a) : (regsAt l).rd a = resetVal a := by
  have : ∀ (l : List (Nat × W32)) (s : State), (∀ e ∈ l, e.1 ≠ a) → (l.foldl (fun s e => s.wr e.1 e.2) s).rd a = s.rd a := by
    intro l
    induction l with
    | nil => intros; rfl
    | cons e l ih =>
      intro s h
      rw [List.foldl_cons, ih _ fun x hx => h x (by simp [hx]), State.rd_wr_other _ _ (Ne.symm (h e (by simp)))]
  exact this l _ h

/-- What code 0x12 covers, where no register of the field has been written and there is no directory. -/
theorem consistent_of (s : State) (l : List (Nat × W32)) (hs : s.regs = (regsAt l).regs)
    (hl : ∀ e ∈ l, e.1 < 0x11000000 ∨ 0x12000000 ≤ e.1) (hg : (s.gridSettingsOk && s.tablesOk) = true) (hd : s.desc 0x14 = 0) :
    s.tablesConsistent = true := by
  have hc := channels_idle s fun a h1 h2 => by
    have : s.rd a = (regsAt l).rd a := by simp only [State.rd, hs]
    rw [this, rd_regsAt l a fun e he => by have := hl e he; omega]
  simp only [State.tablesConsistent, State.settingsOk, hg, hc, hd]
  rfl

/-- The registers of changeAt. -/
def changeRegs (run st : W32) : List (Nat × W32) :=
  [(Reg.SCN_GRID, run ||| 100#32), (Reg.SCN_WIN, 0x00190019), (Reg.ANV_CFG, 500), (Reg.SCN_CHG_DESC, 0x20000000), (Reg.SCN_CHG_STAT, st)]

/-- s in the Active module, with a change of T0 verified as it stands and the swap windows given. -/
def verified (s : State) (w : List (Nat × Nat)) : State :=
  { s with pair := { role := .active }, change := { triads := 1, taken := s.changeBytes, inForce := { window := w } } }

theorem verified_code (s : State) (w : List (Nat × Nat)) (l : List (Nat × W32)) (hs : s.regs = (regsAt l).regs)
    (hl : ∀ e ∈ l, e.1 < 0x11000000 ∨ 0x12000000 ≤ e.1) (hg : ((verified s w).gridSettingsOk && (verified s w).tablesOk) = true)
    (hd : (verified s w).desc 0x14 = 0) (hf : (verified s w).forcesStand = true) (ha : s.anvil.shadow = [])
    (h1 : (verified s w).changeBytes = s.changeBytes) : (verified s w).armCode = 0 := by
  have h2 : (verified s w).underShadow = verified s w := by simp [State.underShadow, verified, ha]
  have h3 := consistent_of (verified s w) l hs hl hg hd
  have h4 : (verified s w).change.taken = s.changeBytes := rfl
  have h5 : (verified s w).pair.peer = none := rfl
  simp [State.armCode, h1, h2, h3, h4, h5, hf]

/-- The change of changeAt passes verification. -/
theorem changeAt_passes : (changeAt 0 1 1 0).verifyCode (changeAt 0 1 1 0).triadChecks = 0 := by
  have a1 : (changeAt 0 1 1 0).descReadable = true := by decide +kernel
  have a2 : (changeAt 0 1 1 0).scansOk = true := by simp [State.scansOk, changeAt_entries]
  have a3 : (changeAt 0 1 1 0).phasesFit = true := by
    simp only [State.phasesFit, changeAt_entries]
    decide +kernel
  have a4 : (changeAt 0 1 1 0).tablesConsistent = true :=
    consistent_of _ (changeRegs 0 1) (by decide +kernel) (by decide +kernel) (by decide +kernel) (by decide +kernel)
  have a5 : (changeAt 0 1 1 0).writeSet = 0 := by decide +kernel
  have a6 : (changeAt 0 1 1 0).listed = [] := by decide +kernel
  have a7 : (changeAt 0 1 1 0).triadChecks.map TriadCheck.code = [0, 0, 0, 0] := by decide +kernel
  have a8 : (changeAt 0 1 1 0).offTriad = false ∧ (changeAt 0 1 1 0).busesOk = true ∧ (changeAt 0 1 1 0).stationsOk = true ∧
      (changeAt 0 1 1 0).networkOk = true := by decide +kernel
  have a9 : (((changeAt 0 1 1 0).bounds (changeAt 0 1 1 0).triadChecks).all fun b => !b.1.grid || (changeAt 0 1 1 0).endsInEpoch b.1 b.2) = true := by
    decide +kernel
  have a10 : (((changeAt 0 1 1 0).bounds (changeAt 0 1 1 0).triadChecks).all fun b => b.1.grid ||
      (changeAt 0 1 1 0).holdsWith (changeAt 0 1 1 0).triadChecks (holdOf ((changeAt 0 1 1 0).bounds (changeAt 0 1 1 0).triadChecks)) b.1) = true := by
    decide +kernel
  simp only [State.verifyCode, a1, a2, a3, a4, a5, a6, a7, a8.1, a8.2.1, a8.2.2.1, a8.2.2.2, a9, a10]
  decide +kernel

theorem witness_ChangeVerifiedAndArmed :
    let r := State.reset
    let chg (v : W32) := regsAt [(Reg.SCN_CHG_STAT, v)]
    ((∀ a ∈ [Reg.SCN_CHG_CTRL, Reg.SCN_FORCE_CMD, Reg.SCN_TICK_LO, Reg.FCH_CFG 0 4], r.blockOff a = false) ∧ (r.atTime 5).blockOff Reg.SCN_CHG_CTRL = false ∧
      r.chgState = 0 ∧ ∀ k ∈ [1, 2, 3, 4], (chg (BitVec.ofNat 32 k)).chgState = k) ∧
    (let standby (pool : W32) : State := { regsAt [(Reg.TRI_POOL 0, pool)] with pair := { role := .standby } }
     (standby 0x1F2E1D2C).slotState 1 = 1 ∧ (∀ c < 16, (standby 0x1F2E1D2C).pledged c = false) ∧ (standby 0x1F2E1D2C).slotState 0 ≠ 1 ∧ (∀ j < 4, (standby 0x3F2E3D2C).slotState j ≠ 1) ∧
       (standby 0x3F2E3D2C).slotState 0 = 2 ∧ (∀ i < 4, (standby 0x3F3E4D0C).slotState i ≠ 1 ∧ (standby 0x3F3E4D0C).slotState i ≠ 2) ∧
       (standby 0).pair.role = .standby ∧ r.pair.role ≠ .standby) ∧
    ((changeAt 0 1 1 0).chgState = 1 ∧ (changeAt 0 1 1 0).start.starting = false ∧ (changeAt 0 1 1 0).underShadow = changeAt 0 1 1 0 ∧
      (changeAt 0 1 1 0).verifyCode (changeAt 0 1 1 0).triadChecks = 0) ∧
    ((chg 1).underShadow.verifyCode (chg 1).underShadow.triadChecks = 0x12 ∧
      { chg 1 with start := { starting := true } }.start.starting = true) ∧
    (let s := verified (changeAt 0 2 1 0) []
     let z := verified ((changeAt 0 2 1 0).wr (Reg.SCN_LINE 0) 0x80000000) []
     let m := verified (changeAt 0x80000000 2 1 0x20002000) [(0, 0)]
     (s.chgState = 2 ∧ s.pair.role = .active ∧ s.pair.yield = .none ∧ s.atTime 0 = s ∧ 500000 ≤ s.epochNs ∧ s.now.toNat = 0) ∧
       (s.isBoundary 10000000 = true ∧ s.allTick 10000000 = true ∧ ∀ i < 256, i < s.nTasks → s.newLineTicks i 10000000 = true) ∧
       (∀ a < 10000000, ¬(s.now.toNat + 10000000 ≤ a)) ∧ (∀ t < 4, s.migrates t = false) ∧
       (m.migrates 0 = true ∧ m.swapWindow 0 < m.migTime 0) ∧
       ({ s with change := {} }.armCode = 0x12) ∧
       ∀ b, z.allTick b ≠ true) ∧
    (let s : State := { chg 2 with pair := { role := .standby }, change := { id := 7 } }
     s.pair.role = .standby ∧ s.chgState = 2 ∧ s.change.id = 7) ∧
    (let s : State := { chg 3 with change := { starts := [(3, 5)] } }
     look 3 s.change.starts = some 5 ∧ s.chgState = 3 ∧ ((s.wr (Reg.TIC_SRC_CFG 11) 0x80000000).atTime 5).srcEn 11 = true ∧ look 0 s.change.starts = none) := by
  refine ⟨?_, ?_, ⟨?_, ?_, rfl, changeAt_passes⟩, ?_, ⟨?_, ?_, ?_, ?_, ?_, ?_, ?_⟩, ?_, ?_⟩
  all_goals try decide +kernel
  · intro a h1 h2; omega
  · intro b
    have h : ∀ s : State, s.lineOn 0 = true → s.lineN 0 = 0 → s.allTick b ≠ true := by
      intro s h1 h2 h3
      have := List.all_eq_true.mp h3 0 (by simp)
      simp [State.lineTicks, h1, h2] at this
    exact h _ (by decide +kernel) (by decide +kernel)

/-- Changes that ARM finds nothing against: one that no grid runs under yet, one whose line 0 never ticks, and one of a running module
with a swap window of 0. -/
theorem witness_ChangeArmed :
    (verified (changeAt 0 2 1 0) []).armCode = 0 ∧ (verified ((changeAt 0 2 1 0).wr (Reg.SCN_LINE 0) 0x80000000) []).armCode = 0 ∧
      (verified (changeAt 0x80000000 2 1 0x20002000) [(0, 0)]).armCode = 0 := by
  refine ⟨verified_code _ _ (changeRegs 0 2) ?_ ?_ ?_ ?_ ?_ ?_ ?_,
    verified_code _ _ (changeRegs 0 2 ++ [(Reg.SCN_LINE 0, 0x80000000)]) ?_ ?_ ?_ ?_ ?_ ?_ ?_,
    verified_code _ _ (changeRegs 0x80000000 2) ?_ ?_ ?_ ?_ ?_ ?_ ?_⟩ <;> decide +kernel

theorem witness_ChangeSwap :
    let moved (st : W32) (s : State) : State := { s.wr Reg.SCN_CHG_STAT st with pair := { role := .active }, change := { s.change with triads := 1 } }
    let open' := moved 3 (changeAt 0x80000000 0 1 0x20002000)
    let done := moved 0x01000004 (changeAt 0x80000000 0 1 0x20002000)
    let first := moved 3 (changeAt 0 0 1 0)
    let at' (s : State) := s.atTime (BitVec.ofNat 64 s.swapTick)
    (State.reset.pair.role ≠ .active ∧ open'.pair.role = .active ∧ open'.chgState = 3 ∧ done.chgState = 4) ∧
    ((at' open').migrationOpen = true ∧ (open'.atTime (BitVec.ofNat 64 (open'.swapTick - open'.woutNs))).migrationOpen = true) ∧
    ((at' done).migrationOpen = false ∧ (done.atTime (BitVec.ofNat 64 (done.swapTick - done.woutNs))).migrationOpen = false) ∧
    ((at' first).migrationOpen = false ∧ (at' first).run = false ∧ (at' first).nTasks = 1 ∧
      getF ((at' first).taskWord 0 0) 0 8 = 16 ∧ ∀ j, j < 256 → j < 1 → j ≠ 0 → False) := by
  refine ⟨?_, ?_, ?_, ?_, ?_, ?_, ?_, ?_⟩
  all_goals decide +kernel

/-! ### Witnesses: levels, sleep, the backup domain, the Anvil link -/

theorem witness_PerformanceLevels :
    let pl (v : W32) (b : Bellows) : State := { State.reset.wr (Reg.BEL_PL 0) v with bellows := b }
    let slow (s : State) (w : W32) : Bool := decide (s.rdF (Reg.BEL_PL 0) 16 2 < getF w 0 2)
    let asks (s : State) (w : W32) : Nat × Nat := (if slow s w then (s.plan 0).freq else getF w 0 2, getF w 8 2)
    let eff (s : State) : Nat × Nat := ((s.plan 0).freq, (s.plan 0).volt)
    (let s := pl 0x00010101 {}
     eff s = (1, 1) ∧ slow s 0x102#32 = true ∧ asks s 0x102#32 = (1, 1) ∧ slow s 0x201#32 = false ∧ asks s 0x201#32 = (1, 2) ∧
       asks s 0x001#32 = (1, 0) ∧ asks s 0x100#32 = (0, 1) ∧ asks s 0x000#32 = (0, 0)) ∧
    (let s := pl 0x00030101 {}
     eff s = (1, 1) ∧ slow s 0x302#32 = false ∧ asks s 0x302#32 = (2, 3) ∧ asks s 0x102#32 = (2, 1)) ∧
    (let s := pl 0x00030103 {}
     eff s = (3, 1) ∧ asks s 0x200#32 = (0, 2)) ∧
    (let s := pl 0x00030101 { goal := [(0, (2, 0))] }
     (s.plan 0).v < s.volt 0 ∧ s.volt 0 ≤ s.freq 0 ∧ (s.plan 0).f = 2 ∧ (s.plan 0).v = 0 ∧ (s.plan 0).sf = none ∧ (s.plan 0).sv = none) ∧
    (let s := pl 0x00030000 { goal := [(0, (2, 1))] }
     s.volt 0 ≤ (s.plan 0).v ∧ s.volt 0 ≤ (s.plan 0).f ∧ (s.plan 0).f ≠ s.freq 0 ∧ s.plHeld 0 = false) ∧
    (let s := pl 0x00030002 { goal := [(0, (2, 1))] }
     s.volt 0 < (s.plan 0).v ∧ (s.plan 0).f = s.freq 0 ∧ (s.plan 0).v ≤ (s.plan 0).f) := by
  decide +kernel

theorem witness_SleepAndWakes :
    let r := State.reset
    let asleep (n : Nap) : State := { r.wr (Reg.BEL_WAKE_EN 1) 0x3FF with bellows := { asleep := [(1, n)] } }
    let entry (i : Nat) (e : SleepEntry) : State := { r.wr (Reg.BEL_WAKE_EN i) 0x3FF with bellows := { entries := [e] } }
    let b (commit : Bool) : SleepEntry := { target := 1, mode := 1, cores := [1], commit := commit }
    let m : SleepEntry := { target := 15, mode := 2, cores := [0], commit := true }
    (r.entryOf 1 = none ∧ r.entryOf 8 = none ∧ r.islandTargets 1 = [1] ∧ (r.islandTargets 1).Nodup) ∧
    (∀ c ∈ [false, true], (entry 1 (b c)).entryOf 1 = some (b c) ∧ (entry 1 (b c)).slpCause (b c) 48 3 = some (48, 3) ∧
      (entry 1 (b c)).slpCause (b c) 48 0 = none ∧ (entry 1 (b c)).wakes 1 9 1 = true ∧ (entry 1 (b c)).entryOf 2 = none) ∧
    ((entry 8 m).entryOf 8 = some m ∧ (entry 8 m).slpCause m 0 0 = none ∧ m.mode = 2 ∧ (entry 8 m).rdB (Reg.BEL_WAKE_EN 8) 3 = true) ∧
    (let em (waking : Bool) : State := { r.wr (Reg.BEL_WAKE_EN 8) 0x8 with bellows := { ember := true, waking := waking } }
     (em false).rdB (Reg.BEL_WAKE_EN 8) 3 = true ∧ (em false).bellows.ember = true ∧ (em true).bellows.waking = true ∧
       (em false).rdB (Reg.BEL_WAKE_EN 8) 4 = false ∧ r.bellows.ember = false ∧ r.bellows.waking = false) ∧
    (∀ n ∈ [Nap.idle, Nap.waits, Nap.banked], 1 ∈ (asleep n).islandTargets 1 ∧ (asleep n).wakes 1 1 1 = true ∧ (asleep n).nap 1 = n ∧
      (asleep n).entryOf 1 = none) ∧
    ((∀ x ∈ r.islandTargets 1, r.wakes 1 1 x = false) ∧ (∀ x ∈ r.islandTargets 1, r.nap x ≠ .wakesBanked) ∧
      (asleep .wakesBanked).nap 1 = .wakesBanked) := by
  decide +kernel

theorem witness_BackupDomain :
    let r := State.reset
    let b (x : Backup) : State := { r with backup := x }
    ((b { lockout := true }).backup.lockout = true ∧ (b {}).backup.lockout = false ∧ (b {}).bkdBusy = false ∧ (b { busyTill := 1 }).bkdBusy = true ∧
      (r.wr Reg.BKD_STAT 0).levelCond 146 = false) ∧
    (r.pair.role = .unassigned ∧ { r with pair := { role := .outOfService } }.pair.role = .outOfService ∧
      { r with pair := { role := .active } }.pair.role = .active) ∧
    ((r.wr Reg.BKD_STAT 0x400000).rdB Reg.BKD_STAT 22 = true ∧ r.rdB Reg.BKD_STAT 22 = false) ∧
    (r.backup.counted (0xFFFFFFFF#32).toNat < 2 ^ 63 ∧ r.backup.trim = 0) ∧
    (let s := regsAt [(Reg.BKD_CFG, 0x80000000), (Reg.NET_PTP_STAT, 0x80000000)]
     let u := s.atTime 0xFFFFFFFFFFFFFFFF
     u.rdB Reg.BKD_CFG 31 = true ∧ u.rdB Reg.NET_PTP_STAT 31 = true ∧ u.now.toNat / 1000000000 < 2 ^ 48) ∧
    ((regsAt [(Reg.NET_PTP_STAT, 0)]).rdB Reg.NET_PTP_STAT 31 = false ∧ (regsAt [(Reg.BKD_CFG, 0)]).rdB Reg.BKD_CFG 31 = false) ∧
    ((167 : W16).toNat < 168 ∧ ¬(168 : W16).toNat < 168) ∧
    ((let s : State := { r with power := { mainValid := false } }
      s.power.mainValid = false ∧ s.backup.req = .sinking ∧ (s.wr Reg.BKD_STAT 0x400000).rdB Reg.BKD_STAT 22 = true ∧
        s.backup.stopped = false ∧ (b { stopped := true }).backup.stopped = true) ∧
     r.power.mainValid = true ∧ (b { req := .watching }).backup.req = .watching ∧ (b { req := .delay }).backup.req = .delay ∧
       (b { req := .delay }).backup.req ≠ .sinking ∧ r.backup.req ≠ .watching ∧ r.backup.req ≠ .delay) := by
  decide +kernel

theorem witness_AnvilLanes :
    let link (v : Anvil) : State := { State.reset with anvil := v }
    (let s := link { link := .full, lock := 7, service := 3, spare := 2 }
     s.anvil.lock.getLsbD 0 = true ∧ s.anvil.service.getLsbD 0 = true ∧ s.anvil.spare.toNat < 3 ∧ s.anvil.spare.toNat ≠ 0 ∧
       s.anvil.lock.getLsbD s.anvil.spare.toNat = true ∧ s.ledger.log.length < 65536 ∧ s.anvil.service.getLsbD 2 = false ∧
       s.anvil.inService ≠ 0 ∧ s.lasersOn = false ∧ { s with start := { stage := .system } }.lasersOn = true) ∧
    (let s := link { link := .full, lock := 3, service := 3, sealing := true }
     s.anvil.spare.toNat = 3 ∧ s.anvil.service.getLsbD 1 = true ∧ s.anvil.lock.getLsbD 2 = false) ∧
    (let s : State := { link { link := .degraded } with pair := { role := .active } }
     s.anvil.inService = 0 ∧ s.anvil.link ≠ .lost ∧ s.pair.role = .active) ∧
    (let s : State := { link { missed := true } with pair := { role := .standby } }
     s.anvil.link = .lost ∧ s.pair.role = .standby ∧ s.anvil.missed = true ∧ (3 : BitVec 3) ≠ 0) ∧
    (let s : State := { link { link := .degraded } with pair := { role := .standby, sense := true } }
     s.anvil.inService = 0 ∧ s.anvil.link ≠ .lost ∧ s.pair.role = .standby ∧ s.pair.sense = true) ∧
    (let e : Flight := { seq := 7, lane := some 2, sentAt := 0, frame := .control 3 [1] }
     let s := link { link := .full, lock := 7, service := 3, retries := List.replicate 16 (2, 0), failed := 4, flight := [e] }
     (s.anvil.retries.filter fun e => decide (s.now.toNat < e.2 + 1000000)).length = 16 ∧ s.atTime 0 = s ∧
       (s.inFlight.find? fun e => e.seq == 7) = some e ∧ (s.inFlight.find? fun e => e.seq == 8) = none ∧
       s.anvil.carries e.frame.cls = true ∧ s.anvil.laneOf e.seq = some 1 ∧ e.frame.cls ≠ 1 ∧ s.anvil.lanes ≠ [] ∧
       s.anvil.failed.getLsbD 2 = true ∧ s.anvil.failed.getLsbD 0 = false) ∧
    ((link { link := .degraded }).anvil.carries 5 = false ∧ (link { link := .degraded }).anvil.carries 3 = true ∧
      (link { link := .degraded }).anvil.lanes = [] ∧
      (link { link := .degraded, flight := [{ seq := 0, lane := none, sentAt := 0, frame := .control 3 [1] }] }).inFlight ≠ []) ∧
    (List.replicate 17 (2, 0)).countP (fun e : Nat × Nat => e.1 == 2) = 17 := by
  decide +kernel

theorem witness_HeartbeatsAndResignations :
    let s (v : Anvil) (p : Pair) (missed : W32) : State := { regsAt [(Reg.ANV_STAT, missed)] with anvil := v, pair := p }
    (State.reset.anvil.link = .lost ∧ (s { link := .full } {} 0).atTime 0 = s { link := .full } {} 0 ∧
      (s { link := .full } {} 0).anvil.link ≠ .lost ∧ { s { link := .full } {} 0 with start := { stage := .system } }.lasersOn = true ∧
      State.reset.lasersOn = false ∧ State.reset.blockOff Reg.ANV_SEALED_LO = false ∧ 0 / 125000 ≤ (s {} {} 0).anvil.hbWin.toNat ∧ ¬125000 / 125000 ≤ (s {} {} 0).anvil.hbWin.toNat) ∧
    (let u := s { link := .full } { role := .active, peer := some .standby } 0
     u.pair.role = .active ∧ u.pair.peer = some .standby ∧ u.stalled = false ∧ (s {} { role := .joining } 0).pair.role = .joining ∧
       (s { link := .full } { role := .active, peerFmt := 0xFF } 0).sharesFormat = false) ∧
    ((s {} {} 0x00060000).rdF Reg.ANV_STAT 16 8 < 7 ∧ 7 ≤ (s {} {} 0x00070000).rdF Reg.ANV_STAT 16 8) ∧
    (let u := s { lock := 1 } { role := .standby, peer := some .active, sense := true } 0x00070000
     u.pair.role = .standby ∧ u.pair.peer = some .active ∧ u.anvil.lock ≠ 0 ∧ u.pair.sense = true) ∧
    (let u := s {} { role := .active, claim := true } 0
     u.pair.role = .active ∧ u.pair.yield ≠ .overlap ∧ u.pair.claim = true ∧ u.start.probing = false) ∧
    ((s {} { role := .active, yield := .overlap } 0).pair.yield = .overlap ∧ State.reset.pair.role ≠ .active) := by
  decide +kernel

/-! ### Witnesses: epochs, yields, handovers, the mirror, register writes -/

/-- An Active module with a Standby partner over a full link, on a 100 µs grid with epochs of 500 µs, all of it as changed by f. -/
def pairAt (f : State → State) : State :=
  f { regsAt [(Reg.SCN_GRID, 0x80000064), (Reg.SCN_WIN, 0x00050005), (Reg.ANV_CFG, 500)] with
    anvil := { link := .full, sealing := true, lock := 7, service := 3, copyDone := true }
    pair := { role := .active, running := true, peer := some .standby, peerReady := true } }

def withPair (f : Pair → Pair) (s : State) : State := { s with pair := f s.pair }
def withAnvil (f : Anvil → Anvil) (s : State) : State := { s with anvil := f s.anvil }

theorem witness_Epochs :
    let at' (s : State) : State := { s.atTime 500000 with grid := { (s.atTime 500000).grid with holding := false } }
    let due (s : State) : Bool := s.run && s.isBoundary 500000 && decide (s.anvil.endTime.toNat < 500000)
    let s := pairAt id
    (due s = true ∧ (at' s).pair.role = .active ∧ (at' s).pair.yield ≠ .hold ∧ (at' s).mayseal = true ∧ (at' s).anvil.sealing = true ∧
      (at' s).anvil.owed = [] ∧ s.isBoundary 499999 = false) ∧
    (let g := pairAt fun s => words 0x20000000 [1] (((withAnvil (fun v => { v with dirty0 := [(0, true), (1, true), (2, true)] }) s).wr (Reg.GRD_RATR 20 0) 0x07).wr
        (Reg.GRD_CTRL 20) 1)
     (at' g).guardOn 20 = true ∧ ((at' g).dirtyLines.filter fun l => ((at' g).guardCheck 20 false (0x20000000 + 64 * l) 64 1).isNone).length <
       (at' g).dirtyLines.length ∧ (at' (g.wr (Reg.GRD_CTRL 20) 0x200)).guardOn 20 = false) ∧
    ((at' (pairAt (withAnvil fun v => { v with owed := [(6, 0)] }))).anvil.owed ≠ [] ∧
      (at' (pairAt (withAnvil fun v => { v with owed := [(6, 0)] }))).copyRuns = false) ∧
    ((at' (pairAt (withPair fun p => { p with running := false }))).mayseal = false ∧
      (at' (pairAt (withAnvil fun v => { v with sealing := false }))).anvil.sealing = false) ∧
    (let b := pairAt (withPair fun p => { p with role := .standby })
     due b = true ∧ (at' b).pair.role = .standby ∧ 500000 ≤ (at' b).anvil.endTime.toNat + (at' b).epochNs ∧
       (b.atTime 500001).anvil.endTime.toNat + (b.atTime 500001).epochNs < 1000000) ∧
    (let a := pairAt fun s => (withAnvil (fun v => { v with owed := [(6, 0), (7, 0)], sealed := 7, copyEpoch := 6 }) s).wr Reg.ANV_COPY 0x40000000
     a.pair.role = .active ∧ (∃ e ∈ a.anvil.owed, e.1 = 7) ∧ (¬∃ e ∈ a.anvil.owed, e.1 = 8) ∧ (a.atTime 0).rdB Reg.ANV_COPY 30 = true ∧ a.anvil.copyEpoch.toNat < 7) ∧
    (let j := pairAt fun s => (withAnvil (fun v => { v with rxLines := [(524287, List.replicate 64 1)], copyEpoch := 6 })
        (withPair (fun p => { p with role := .joining }) s)).wr Reg.ANV_COPY 0x40000000
     j.pair.role = .joining ∧ (1 : Nat) = j.anvil.rxLines.length ∧ (∀ e ∈ j.anvil.rxLines, e.2.length = 64) ∧
       (let o := (j.wr (Reg.GRD_RATR 20 0) 0xF7).wr (Reg.GRD_CTRL 20) 1
        o.guardOn 20 = true ∧ o.guardCheck 20 false (0x20000000 + 64 * 524287) 64 2 = none ∧ (j.wr (Reg.GRD_CTRL 20) 0x200).guardOn 20 = false) ∧
       (j.anvil.rxLines.map fun e => e.1 % 524288).Nodup ∧ j.rdB Reg.ANV_COPY 30 = true ∧ j.anvil.copyEpoch.toNat < 7 ∧
       j.anvil.carries 3 = true ∧ j.anvil.laneOf j.anvil.txSeq = some 0 ∧ (0 : Nat) ≠ j.anvil.rxLines.length ∧ j.anvil.missed = false ∧ (withAnvil (fun v => { v with missed := true }) j).anvil.missed = true) ∧
    (let h := pairAt (withPair fun p => { p with yield := .hold })
     due h = true ∧ (at' h).pair.yield = .hold ∧ (at' h).pair.yieldOff = false ∧
       (at' (withPair (fun p => { p with yieldOff := true }) h)).pair.yieldOff = true) ∧
    ([(0 : Fin 512), 511].Nodup ∧
      (let b := (pairAt (withPair fun p => { p with role := .standby })).atTime 100000
       b.run = true ∧ b.isTick 100000 = true ∧ b.anvil.shadowTick.toNat < 100000 ∧ b.isTick 99999 = false)) := by
  decide +kernel

theorem witness_YieldRequests :
    let s := pairAt id
    (s.pair.role = .active ∧ s.pair.peer = some .standby ∧ s.pair.peerReady = true ∧ s.anvil.link = .full ∧ s.pair.yield = .none ∧
      s.copyRuns = false ∧ s.chgState ≠ 4 ∧ (s.wr Reg.SCN_CHG_STAT 4).chgState = 4 ∧ (s.wr Reg.SCN_CHG_STAT 3).chgState = 3 ∧
      (s.wr Reg.ANV_COPY 0x80000000).copyRuns = true ∧ s.atTime 0 = s) ∧
    (500000 ≤ s.epochNs ∧ s.now.toNat = 0 ∧ s.isBoundary 10000000 = true ∧ s.allTick 10000000 = true) ∧
    (∀ a < 10000000, ¬(s.now.toNat + 10000000 ≤ a)) ∧ (∀ b, (s.wr Reg.SCN_GRID 0).isBoundary b ≠ true) ∧
    (State.reset.pair.role ≠ .active ∧ s.pair.yield ≠ .preparing ∧ s.pair.yieldWaits = false ∧
      (pairAt (withPair fun p => { p with peerReady := false })).pair.peerReady = false) ∧
    (let h := pairAt (withPair fun p => { p with yield := .preparing, hts := 500000 })
     let h' := h.atTime h.pair.hts
     h.pair.yield = .preparing ∧ h'.mayseal = true ∧ h'.pair.peerReady = true ∧ h'.anvil.sealing = true ∧ h'.anvil.owed = [] ∧
       h'.anvil.lanes ≠ [] ∧ h'.anvil.carries 3 = true ∧ h'.anvil.laneOf h'.anvil.txSeq = some 0) ∧
    ((pairAt fun s => (withPair (fun p => { p with yield := .hold }) s).wr (Reg.GRD_CTRL 20) 0x200).guardOn 20 = false ∧
      (pairAt fun s => s.wr (Reg.GRD_CTRL 20) 1).guardOn 20 = true ∧
      (pairAt (withPair fun p => { p with yield := .hold })).pair.yield ≠ .none ∧ (pairAt id).pair.yieldWaits = false ∧
      ((pairAt (withPair fun p => { p with role := .standby })).wr Reg.SCN_CHG_STAT 3).chgState = 3) ∧
    (let h := pairAt (withPair fun p => { p with yield := .preparing, running := false })
     (h.atTime h.pair.hts).mayseal = false) ∧
    (let h := pairAt (withPair fun p => { p with yield := .preparing, peerReady := false })
     h.pair.yield = .preparing ∧ h.pair.yieldOff = false ∧ h.pair.peerReady = false) ∧
    (let l := pairAt (withPair fun p => { p with yield := .hold, yts := 5000 })
     l.pair.yield = .hold ∧ l.pair.yieldOff = false ∧ (withPair (fun p => { p with yieldOff := true }) l).pair.yieldOff = true ∧
       l.anvil.finalAcked = false ∧ l.pair.yts.toNat ≤ l.now.toNat + 5000 ∧
       (pairAt (withPair fun p => { p with yield := .hold, yts := 5001 })).pair.yts.toNat > l.now.toNat + 5000) ∧
    (let b := pairAt (withPair fun p => { p with role := .standby, yield := .preparing })
     b.pair.role = .standby ∧ b.pair.yield = .preparing) := by
  refine ⟨?_, ?_, ?_, ?_, ?_, ?_, ?_, ?_, ?_, ?_, ?_⟩
  all_goals try decide +kernel
  · intro a h
    have : (pairAt id).now.toNat = 0 := by decide +kernel
    omega
  · intro b
    have h : ∀ s : State, s.gridNs = 0 → s.isBoundary b ≠ true := by
      intro s h; simp [State.isBoundary, State.isTick, h]
    exact h _ (by decide +kernel)

theorem witness_HandoversAndMirror :
    (let s := pairAt fun s => withAnvil (fun v => { v with finalAcked := true }) (withPair (fun p => { p with yield := .hold, yts := 1000000 }) s)
     s.pair.role = .active ∧ s.pair.yield = .hold ∧ s.pair.yieldOff = false ∧ s.anvil.finalAcked = true) ∧
    (let s := pairAt fun s => withAnvil (fun v => { v with finalAcked := true })
        (withPair (fun p => { p with role := .standby, yield := .preparing, yts := 1000000 }) s)
     s.pair.role = .standby ∧ s.pair.yield = .preparing ∧ s.anvil.finalAcked = true ∧ s.claimable = true) ∧
    (let s := pairAt fun s => (withPair (fun p => { p with role := .standby, yield := .overlap }) s).wr (Reg.FCH_STATUS 31 15) 4
     s.pair.yield = .overlap ∧ s.trust.yieldReset = false ∧ s.pair.role = .standby ∧ (s.atTime 0).fmode 31 15 = 4 ∧
       ({ s with trust := { yieldReset := true } } : State).trust.yieldReset = true) ∧
    (let s := pairAt (withPair fun p => { p with role := .standby })
     s.catchArmed = true ∧ s.pair.yield ≠ .overlap ∧ s.claimable = true ∧ s.atTime 0 = s ∧ (withAnvil (fun v => { v with copyDone := false }) s).catchArmed = false ∧
       (let t := (withAnvil (fun v => { v with link := .lost }) s).wr Reg.ANV_CFG 0x800001F4
        t.catchArmed = true ∧ t.anvil.link ≠ .full) ∧ (s.wr Reg.SCN_CHG_STAT 3).chgState = 3) ∧
    (let s := pairAt (withPair fun p => { p with running := false })
     s.pair.role = .active ∧ s.pair.running = false) ∧
    ((pairAt id).pair.running = true ∧ ((pairAt id).wr Reg.ANV_COPY 0x80000000).rdB Reg.ANV_COPY 31 = true ∧
      ((pairAt id).wr (Reg.GRD_CTRL 20) 1).guardOn 20 = true ∧ ((pairAt id).wr (Reg.FCH_STATUS 31 15) 7).fmode 31 15 = 7 ∧
      (pairAt id).rdB Reg.ANV_COPY 31 = false ∧ ¬(pairAt id).pair.peer = some .joining) ∧
    (let s := pairAt (withPair fun p => { p with peer := some .joining, peerFmt := (pairAt id).formats.1 })
     s.pair.peer = some .joining ∧ s.sharesFormat = true ∧ s.copyRuns = false ∧ s.chgState ≠ 3 ∧ s.chgState ≠ 4 ∧ s.pair.yield = .none ∧
       s.isBoundary 500000 = true ∧ s.now.toNat ≤ 500000) ∧
    (let s := pairAt (withPair fun p => { p with role := .joining })
     s.pair.role = .joining ∧ (s.atTime 1).pair.role = .joining ∧ s.anvil.link = .full ∧ s.rdB Reg.ANV_COPY 30 = false ∧ s.stalls = [] ∧
       (let o := (s.wr (Reg.GRD_RATR 20 0) 0xF7).wr (Reg.GRD_CTRL 20) 1
        o.guardOn 20 = true ∧ o.guardCheck 20 false 0x20000000 64 2 = none ∧ o.guardCheck 20 false (0x20000000 + 64 * 524287) 64 2 = none ∧
          ((o.wr (Reg.GRD_RATR 20 0) 0).guardCheck 20 false 0x20000000 64 2).isSome = true) ∧
       (s.wr (Reg.GRD_CTRL 20) 0x200).guardOn 20 = false ∧
       ((s.wr (Reg.GRD_CTRL 20) 0x80000001).rdB (Reg.GRD_CTRL 20) 31 = true ∧ look (Reg.GRD_CTRL 20) s.anvil.shadow = none) ∧
       (regRow (Reg.TIC_SRC_CFG 16)).isSome = true ∧ s.toShadow Reg.SYS_SCRATCH 5 = false ∧ canonReg Reg.SYS_SCRATCH ≠ Reg.ANV_COPY ∧
       s.ownAddrs Reg.SYS_SCRATCH = [Reg.SYS_SCRATCH] ∧
       s.toShadow Reg.SYS_SCRATCH 5 = false ∧
       tookEffect Reg.SYS_SCRATCH (crossValue Reg.SYS_SCRATCH 5) s (s.regWrite none Reg.SYS_SCRATCH (crossValue Reg.SYS_SCRATCH 5)) = true ∧
       tookEffect Reg.SYS_HWTYPE (crossValue Reg.SYS_HWTYPE 5) s (s.regWrite none Reg.SYS_HWTYPE (crossValue Reg.SYS_HWTYPE 5)) = false ∧
       (∀ x < 4, ∀ k < 3, s.laneValid x k = true ∧ bit (s.shadowWord (Reg.GRD_CTRL (s.laneCore x k))) 31 = false) ∧
       0x100400FF = 0x10040000 + 0x300 * 0 + 0xFF ∧
       (s.memStore none false 0x21FFFFFF [1]).isSome = true ∧ s.memStore none false 0x22000000 [1] = none ∧
       s.toShadow (Reg.TIC_SRC_CFG 16) 0 = true ∧ s.ownAddrs (Reg.TIC_SRC_CFG 16) = [Reg.TIC_SRC_CFG 16]) := by
  refine ⟨?_, ?_, ?_, ?_, ?_, ?_, ?_, ?_⟩ <;> decide +kernel

theorem witness_RegisterWrites :
    let s := State.reset
    (inWindows 0x0FFFFFFC = false ∧ (0x10000002 : Nat) % 4 ≠ 0 ∧ { s with islandsOff := BitVec.allOnes 48 }.blockOff 0x12000000 = true) ∧
    (∀ n ∈ [Reg.SYS_SCRATCH, Reg.SYS_RESET_CAUSE, Reg.SCN_FORCE_ARG_ID, Reg.BEL_WAKE_EN 8, Reg.TIC_SRC_ENTRY 255, Reg.TIC_TGT_VBASE 31,
        Reg.DMA_CH_STAT 15, Reg.TIC_SWTRIG, Reg.TIC_SRC_CFG 255, Reg.TRI_DCP 3, Reg.FCH_AO_CMD 31 16, Reg.GRD_RATR 47 15, Reg.SCN_CHG_DESC],
      s.blockOff n = false ∧ n < 2 ^ 32 ∧ n % 4 = 0 ∧ inWindows n = true) ∧
    (s.pair.role ≠ .active ∧ (pairAt id).mirrors = true ∧ (pairAt id).chgState = 0 ∧ (pairAt id).blockOff Reg.SCN_CHG_DESC = false) := by
  decide +kernel


/-- Every island without power, and a block of each that the statement names. -/
theorem witness_BlocksWithoutPower :
    let s := { State.reset with islandsOff := BitVec.allOnes 48 }
    (∀ a ∈ [Reg.FCH_CFG 31 16 + 1023, Reg.FCH_EVT_INFO 0, Reg.FCH_RETRY 31 16, Reg.FCH_CTRL 0 16, Reg.FCH_HM_CTRL 31 3, Reg.DMA_CH_CTRL 15,
        Reg.DMA_CH_DESC 0, Reg.TRI_CTRL 3, Reg.TRI_DCP 0, Reg.TRI_ICP 3, Reg.TIC_SWTRIG, Reg.TIC_SRC_CFG 255, Reg.GRD_CTRL 0,
        Reg.GRD_RATR 26 15, Reg.GRD_RBAR 0 0, Reg.SCN_TICK_LO, Reg.SCN_FORCE_CMD, Reg.SCN_CHG_CTRL, Reg.STB_CFG 7, Reg.STB_CTRL 0,
        Reg.STB_AC_CTRL 7, Reg.NET_FRAME, Reg.ANV_SEALED_LO, Reg.TRU_CMD], s.blockOff a = true) ∧
    guardMaster 0 = true ∧ (s.atTime 1).blockOff Reg.TRU_CMD = true := by
  decide +kernel
/-! ### Witnesses: trust, the Tuyere port, the start path -/

/-- A recorded image staged COMPLETE, of kind k, by its manifest chunk. -/
def staged (k : Nat) (img : List W8) (s : State) : State :=
  { s.wr Reg.TRU_XFER (BitVec.ofNat 32 (2 ^ 31 + k * 2 ^ 28)) with trust := { s.trust with store := [(6 * 2 ^ 18, img)] } }

/-- Words of TRU.BUF from a byte offset on. -/
def inBuf (o : Nat) (l : List Nat) (s : State) : State :=
  (l.zipIdx).foldl (fun s e => s.wr (0x100B1000 + o + 4 * e.2) (BitVec.ofNat 32 e.1)) s

theorem witness_TrustCommands :
    let r := State.reset
    let sealed (w : W32) (t : Option W64) : State := { regsAt [(Reg.TRU_ARG, w)] with trust := { sealFirst := t } }
    ((regsAt [(Reg.TRU_STAT, 0x80000000)]).truBusy = true ∧ r.truBusy = false ∧ (r.atTime 5).truBusy = false) ∧
    ((sealed 0x5EA10001 none).rd Reg.TRU_ARG = 0x5EA10001 ∧ ((sealed 0x5EA10001 none).atTime 0).atRest = true ∧
      (sealed 0x5EA10002 (some 5)).truBusy = false ∧ ((sealed 0x5EA10002 (some 5)).atTime 1000004).now.toNat < 5 + 1000000 ∧
      ¬((sealed 0x5EA10002 (some 5)).atTime 1000005).now.toNat < 5 + 1000000 ∧ ((sealed 0x5EA10002 none).atTime 0).trust.sealFirst = none ∧
      ((pairAt id).atTime 0).atRest = false ∧ r.blockOff Reg.TRU_CMD = false ∧ (r.atTime 5).blockOff Reg.TRU_CMD = false) ∧
    (((0 : Fin 16).val = 0 ∨ 11 ≤ (0 : Fin 16).val) ∧ 11 ≤ (15 : Fin 16).val ∧ 11 ≤ (11 : Fin 16).val ∧ (10 : Fin 16).val ≠ 0 ∧ (10 : Fin 16).val < 11) ∧
    (r.trust.relay = none ∧ r.xfer = 0 ∧ r.rd Reg.TRU_ARG = 0) := by
  decide +kernel

/-- INSTALL goes through on a staged image whose manifest passes the checks of R414, which rest on functions left open. -/
theorem witness_TrustCommands_install (img : List W8) (h : (staged 1 img State.reset).manifestCode img = 0) :
    (staged 1 img State.reset).installCode = 0 := by
  have h1 : (staged 1 img State.reset).chunk 6 0 = img := rfl
  have h2 : (staged 1 img State.reset).xfer = 2 := by
    show (State.reset.wr Reg.TRU_XFER (BitVec.ofNat 32 (2 ^ 31 + 1 * 2 ^ 28))).xfer = 2
    decide +kernel
  have h3 : (staged 1 img State.reset).installTarget = 1 := by
    show (State.reset.wr Reg.TRU_XFER (BitVec.ofNat 32 (2 ^ 31 + 1 * 2 ^ 28))).installTarget = 1
    decide +kernel
  have h4 : ¬((State.reset.wr Reg.TRU_XFER (BitVec.ofNat 32 (2 ^ 31 + 1 * 2 ^ 28))).slotSt (1 / 2 * 2) = 2 ∨
      (State.reset.wr Reg.TRU_XFER (BitVec.ofNat 32 (2 ^ 31 + 1 * 2 ^ 28))).slotSt (1 / 2 * 2 + 1) = 2 ∨
      (State.reset.wr Reg.TRU_XFER (BitVec.ofNat 32 (2 ^ 31 + 1 * 2 ^ 28))).rdB (Reg.TRU_SLOT 1) 27 = true ∨
      (1 < 4 ∧ State.reset.pair.peerTrial = true)) := by
    decide +kernel
  simp only [State.installCode, h1, h2, h3]
  rw [if_neg (by decide)]
  exact (if_neg h4).trans h

/-- The manifest of a relayed image of three chunks is held. -/
def relaying : State :=
  { regsAt [(Reg.TRU_XFER, 0x40000003)] with trust := { relay := some (1, 1, 2), store := [(6 * 2 ^ 18, [1])] } }

theorem witness_TrustResultsAndTrials :
    let op (n : Nat) (arg : W32) (code : Nat) (f : State → State) : State := f { State.reset with trust := { op := some (n, arg, code) } }
    let z := List.replicate 16 (0 : W8)
    (∀ n ∈ [1, 2, 3, 4, 5, 6, 7, 8, 9, 10], ∀ c ∈ [0, 9, 12],
      (op n 0 c id).trust.op = some (n, 0, c) ∧ (op n 0 c id).start.stage ≠ .recovery ∧ (op n 0 c id).trust.waiting = []) ∧
    ((op 2 0 0 id).xfer = 0 ∧ (op 2 5 0 (·.wr Reg.TRU_XFER 0x40000006)).xfer ≠ 0 ∧ (op 2 5 0 id).chunkHeld 5 = false ∧
      payloadChunks z ≤ slotChunks (1 / 2 + 1) ∧ objN ((op 7 0 0 (inBuf 0x20 [4])).truBuf) 0x20 4 = 4 ∧
      objN ((op 7 0 0 (inBuf 4 [1])).truBuf) 4 4 = 1 ∧ objN ((op 7 0 0 (inBuf 4 [2])).truBuf) 4 4 = 2 ∧
      objN ((op 7 0 0 (inBuf 4 [3])).truBuf) 4 4 = 3 ∧ (op 7 0 0 id).recorder.closed = false) ∧
    (({ State.reset with trust := { op := some (1, 0, 0), quote := List.replicate 672 0 } } : State).trust.quote.length = 672 ∧
      (({ State.reset with trust := { op := some (9, 0, 0), store := [(7 * 2 ^ 18, List.replicate 4096 0)] } } : State).chunk 7 0).length = 4096) ∧
    ((regsAt [(Reg.NET_PSTAT 2, 0x80000000)]).relayIn (some 2) 5 = some (regsAt [(Reg.NET_PSTAT 2, 0x80000000)]) ∧
      State.reset.relayIn (some 2) 5 = none ∧ State.reset.relayIn none 5 = some State.reset.heard ∧ (pairAt id).run = true ∧
      State.reset.run = false ∧ (regsAt [(Reg.TRU_SLOT 2, 0), (Reg.TRU_SLOT 3, 0)]).relaySource 2 [] = none ∧
      (staged 2 z (regsAt [(Reg.TRU_SLOT 2, 0), (Reg.TRU_SLOT 3, 0)])).relaySource 2 [] = some 6 ∧
      objN ((staged 2 z State.reset).chunk 6 0) 0x10 16 = 0 ∧
      objN ((staged 2 (z ++ [7]) State.reset).chunk 6 0) 0x10 16 = 7) ∧
    (let v (p : Option (Fin 4)) (area : Nat) : Serving := ⟨p, 5, area, 1⟩
     let s (l : List Serving) : State := pairAt fun s => { staged 2 z s with trust := { serving := l } }
     (s [v none 6, v (some 0) 6]).trust.op = none ∧ (s [v none 6]).xfer = 2 ∧ (s [v none 0]).slotSt 0 = 3 ∧ (s [v none 1]).slotSt 1 ≠ 3 ∧
       (s [v (some 0) 6]).run = true ∧ (s []).anvil.link = .full ∧ (∀ f < 4, ((s []).anvil.laneOf f).isSome = true) ∧
       (s []).trust.serving = [] ∧ ((s []).wr (Reg.NET_PSTAT 3) 0x80000000).linkUp 3 = true) ∧
    (let g (path : Nat) (l : List (Nat × List W8)) : State := { relaying with trust := { relay := some (path, 1, 2), parts := some (1, 9, l) } }
     (g 1 []).trust.relay = some (1, 1, 2) ∧ relayPath (some 0) = 1 ∧ relayPath none ≠ 1 ∧ (g 3 []).trust.relay = some (3, 1, 2) ∧
       ((g 1 []).partsWith 0 1 9 []).length < 4 ∧ ((g 1 [(0, []), (1, []), (2, [])]).partsWith 3 1 9 []).length = 4 ∧
       ((g 1 [(0, []), (1, []), (2, [])]).partsWith 3 1 8 []).length = 1 ∧ State.reset.trust.relay = none) ∧
    (let s := relaying
     s.trust.relay ≠ none ∧ s.start.stage ≠ .recovery ∧ (s.chunkTake 1 true [1]).chunkNext < (s.chunkTake 1 true [1]).xferTotal ∧
       (let q := ({ s with trust := { s.trust with store := [(6 * 2 ^ 18, [1]), (6 * 2 ^ 18 + 1, [1])] } } : State).chunkTake 2 true [1]
        q.xferTotal ≤ q.chunkNext) ∧ s.chunkHeld 1 = false ∧ (1 : Nat) < s.xferTotal) ∧
    (let s : State := { regsAt [(Reg.TRU_XFER, 0x70000003), (Reg.TRU_SLOT 4, 0), (Reg.TRU_SLOT 5, 0)] with pair := { role := .standby } }
     s.lacksApp = true ∧ s.rdF Reg.TRU_XFER 28 2 = 3 ∧ State.reset.lacksApp = false ∧
       (let r : State := { s with trust := { relay := some (1, 3, 2) } }
        r.trust.relay ≠ none ∧ r.start.stage ≠ .recovery ∧ r.lacksApp = true ∧
          r.chunkCode 0 0 (List.replicate 16 0) = 11)) ∧
    (let s : State := { regsAt [(Reg.TRU_TRIAL, 0x80000001), (Reg.TRU_SLOT 1, 0x28000000)] with
        trust := { store := [(2 ^ 18, List.replicate 64 0 ++ [5, 0, 0, 0])] } }
     s.inTrial = true ∧ s.onTrial 1 = true ∧ s.confirmWord 1 = 5 ∧ s.onTrial 0 = false ∧ s.onTrial 2 = false ∧ s.onTrial 3 = false ∧
       s.slotSt (1 + 1 - 2 * (1 % 2)) = 3 ∧ State.reset.inTrial = false ∧ State.reset.rdB Reg.TRU_TRIAL 31 = false) ∧
    (let s := pairAt fun s => s.wr Reg.TRU_TRIAL 0x80000000
     s.rdB Reg.TRU_TRIAL 31 = true ∧ s.pair.role = .active ∧ s.pair.peer = some .standby ∧ s.pair.peerReady = true ∧
       (((s.wr Reg.SCN_CHG_STAT 4).toOpsec 0).yieldTry).pair.yieldWaits = true ∧
       (let w := ((withAnvil (fun v => { v with link := .lost }) s).toOpsec 0).yieldTry
        w.pair.yield ≠ .preparing ∧ w.pair.yieldWaits = false) ∧
       ((withPair (fun p => { p with yield := .preparing }) s).toOpsec 0).pair.yield = .preparing ∧
       (let h := (withPair (fun p => { p with yield := .hold }) s).toOpsec 0
        h.pair.yield = .hold ∧ h.pair.yieldOff = false) ∧ (s.toOpsec 0).pair.yield = .none ∧
       (withPair (fun p => { p with peer := none }) s).pair.peer ≠ some .standby ∧ (withPair (fun p => { p with role := .standby }) s).pair.role ≠ .active) ∧
    (let s : State := { State.reset with trust := { counters := [(2, 256)] } }
     s.fuseBits 2 < s.floorCount 2 / 256 ∧ s.fuseBits 2 < 128 ∧ State.reset.floorCount 0 / 256 ≤ State.reset.fuseBits 0) := by
  refine ⟨?_, ?_, ?_, ?_, ?_, ?_, ?_, ?_, ?_, ?_, ?_⟩ <;> decide +kernel

/-- A relayed chunk whose CRC-32 agrees is accepted; one whose CRC-32 does not is refused with code 7. -/
theorem witness_TrustResultsAndTrials_relay :
    let s := relaying
    let l := padTo 4096 []
    (if crc32 l ≠ crc32 l then 7 else s.chunkCode (1 : W32).toNat (crc32 l) l) = 0 ∧
      (if crc32 l ≠ crc32 l + 1 then 7 else 0) ≠ 0 := by
  intro s l
  have h1 : relaying.xfer = 1 := by decide +kernel
  have h2 : relaying.xferTotal = 3 := by decide +kernel
  have h3 : relaying.chunkHeld 1 = false := by decide +kernel
  constructor
  · simp only [ne_eq, not_true, if_false, State.chunkCode, s, h1, h2, show ((1 : W32).toNat) = 1 from rfl, h3]
    decide
  · rw [if_pos]; · decide
    intro h
    exact absurd h.symm (by simp)

theorem witness_TuyerePort :
    let s (ir : W8) (f : State → State) : State := f { openGuards State.reset with trust := { ir := ir, used := [0x10, 0x11] } }
    let c := s 0x10 (·.wr (Reg.TRI_POOL 0) 0x4C)
    ((0x02 : W8) = 0x02 ∧ State.reset.atRest = true ∧ (0x08 : W8) ∉ State.reset.trust.used ∧ State.reset.quoting = false ∧
      (s 1 (·.wr Reg.TRU_FUSE 0x80000000)).rdB Reg.TRU_FUSE 31 = true ∧ (pairAt id).atRest = false) ∧
    (State.reset.tuyereDead = false ∧ { State.reset with bellows := { ember := true } }.tuyereDead = true ∧ c.trust.ir = 0x10 ∧ c.indepSlot 12 ≠ none ∧ c.rdB Reg.TRU_FUSE 31 = false ∧ c.trust.sealing = false ∧ c.atRest = true ∧
      State.reset.trust.ir ≠ 0x10 ∧ State.reset.indepSlot 15 = none) ∧
    (let g (r : W32) := s 0x11 fun s => (((s.wr (Reg.GRD_RBAR 22 0) 0).wr (Reg.GRD_RATR 22 0) r).wr (Reg.GRD_CTRL 22) 1)
     let o := g 0xF7
     o.trust.ir = 0x11 ∧ (g 0x80).guardCheck 22 true 0x20000000 4 1 ≠ none ∧ (g 0x80).guardCheck 22 true 0x20000000 4 2 ≠ none ∧
       o.guardCheck 22 true 0x20000000 4 1 = none ∧ o.guardCheck 22 true 0x21FFFFFC 4 2 = none ∧ inWindows 0x21FFFFFC = false ∧
       o.memSpan none 0x21FFFFFC 4 = some 0x21FFFFFC ∧ o.storable false 0x21FFFFFC = true ∧ o.copies 0x21FFFFFC = [0x21FFFFFC] ∧
       o.guardCheck 22 true Reg.SYS_SCRATCH 4 2 = none) := by
  decide +kernel

theorem witness_StartImages :
    let r := State.reset
    let st (g : Stage) (f : State → State) : State := f { State.reset with start := { stage := g, recoverKind := 2 } }
    (r.quoting = false ∧ r.start.stage = .hearth ∧ r.power.mainValid = true ∧ r.power.loop = true ∧ r.power.posInvalid = false) ∧
    ((4 : BitVec 7).getLsbD 2 = true ∧ (0 : BitVec 7).getLsbD 2 = false ∧ (∀ x < 4, r.triMode x ≠ 5) ∧
      (1 : BitVec 16) = BitVec.ofNat 16 (2 ^ 0) ∧ r.coreLane 12 = none ∧ r.slotCore 0 = 12 ∧ (r.slotState 0 = 1 ∨ r.slotState 0 = 2) ∧
      (∀ x < 4, (r.triad x).voterMasked = 0) ∧ ((r.setTriad 3 { voterMasked := 2 }).triad 3).voterMasked.getLsbD 1 = true) ∧
    (r.relayRoom 1 = true ∧ (regsAt [(Reg.NET_PSTAT 2, 0x80000000)]).linkUp 2 = true ∧
      ((withAnvil (fun v => { v with link := .full, lock := 3, service := 3 }) r).anvil.laneOf 0).isSome = true) ∧
    ((st .tests id).start.stage = .tests ∧ (st .keeper id).start.stage = .keeper ∧ (st .stopped id).start.stage ≠ .tests) ∧
    (let e := st .keeper fun s => (s.wr (Reg.TRU_SLOT 2) 0).wr (Reg.TRU_SLOT 3) 0
     e.choose 2 [] = (none, e) ∧ ¬(e.xfer = 2 ∧ e.rdF Reg.TRU_XFER 28 2 = 2)) ∧
    (let t := r.wr (Reg.TRU_SLOT 1) 0x24000000
     t.slotSt 1 = 2 ∧ t.rdB (Reg.TRU_SLOT 1) 26 = true ∧ t.slotSt 0 ≠ 2) ∧
    ((st .recovery id).start.stage = .recovery ∧ (st .recovery id).xfer ≠ 2 ∧ (st .recovery (staged 2 [])).xfer = 2 ∧
      (st .recovery (staged 2 [])).rdF Reg.TRU_XFER 28 2 = (st .recovery (staged 2 [])).start.recoverKind) := by
  decide +kernel

/-- The factory images run where they verify and their digest is the fused one, which rests on functions left open. -/
theorem witness_StartImages_verified (h : State.reset.slotVerifies [] 0 = true) :
    State.reset.choose 1 [] = (some 0, State.reset) := by
  have h1 : State.reset.slotSt 0 = 3 := by decide +kernel
  have h4 : (State.reset.slotSt 0 == 2) = false := by decide +kernel
  have h5 : (State.reset.slotSt 1 == 2) = false := by decide +kernel
  have h6 : State.reset.slotWith [] 1 3 = some 0 := by simp [State.slotWith, List.find?, h, h1]
  simp only [State.choose, List.find?, show 2 * (1 - 1) = 0 from rfl, show 0 + 1 = 1 from rfl, h4, h5, h6]

/-- A module at the start of Hearth passes its gate where its Hearth has the digest fused into it, which rests on a function left open. -/
theorem witness_StartImages_fused (h : State.reset.hearthDigest = Config.hearthDigest) :
    State.reset.start.stage = .hearth ∧ State.reset.hearthDigest = Config.hearthDigest ∧ State.reset.power.mainValid = true ∧
      State.reset.power.loop = true ∧ State.reset.power.posInvalid = false :=
  ⟨rfl, h, rfl, rfl, rfl⟩

theorem witness_StartRoles :
    let sys (f : Start → Start) (g : State → State) : State := g { State.reset with start := f { stage := .system } }
    let s := sys id id
    (s.start.stage = .system ∧ s.run = false ∧ s.timeBest = none ∧ (sys id (withAnvil fun v => { v with link := .full })).timeBest = none ∧
      (let p := sys id fun s => withPair (fun p => { p with peer := some .active }) (withAnvil (fun v => { v with link := .full }) s)
       p.timeBest = some 1 ∧ p.start.timeKnown = false) ∧
      (let q := sys (fun v => { v with timeKnown := true, timeSource := 2 }) (·.wr Reg.NET_PTP_STAT 0x80000000)
       q.timeBest = some 2 ∧ q.start.timeKnown = true ∧ q.start.timeSource ≤ 2)) ∧
    (s.pair.role = .unassigned ∧ s.start.listening = false ∧ s.start.probing = false ∧ s.start.backoff = false ∧ s.anvil.link ≠ .full ∧
      s.pair.sense = false) ∧
    (s.claimable = true ∧ (sys id fun s => { s with power := { loop := false } }).claimable = false ∧
      (sys id (withPair fun p => { p with claim := true })).pair.claim = true ∧ s.pair.claim = false) ∧
    ((s.wr (Reg.NET_PSTAT 2) 0x80000000).managed 2 none = some (s.wr (Reg.NET_PSTAT 2) 0x80000000) ∧ s.managed 0 none = none ∧
      ({ s with net := { tunnels := [(5, 0x00, [1])] } } : State).managed 0 none = some { s with net := {} }) ∧
    ((sys (fun v => { v with listening := true, waiting := true, backoff := true, probing := true }) id).start.probing = true ∧
      s.warmFrom = none ∧ s.start.coldAuto = false ∧ s.start.startReq = false ∧ s.chgState = 0 ∧ s.anvil.shadow = [] ∧
      ¬(s.warmFrom = none ∧ (sys (fun v => { v with coldAuto := true }) id).start.coldAuto = false)) ∧
    ((sys (fun v => { v with peerMerit := 1 }) fun s =>
        withPair (fun p => { p with peer := some .unassigned }) (withAnvil (fun v => { v with link := .full }) s)).awaitsStarter = true ∧
      s.awaitsStarter = false ∧ (s.wr Reg.SYS_RESET_CAUSE 0x00000002).testsRun 0x7F = 0x4F) ∧
    (let k := pairAt fun s => s.wr (Reg.TRU_SLOT 4) 0x30000000
     k.pair.role = .active ∧ [(0 : Fin 524288), 524287] ≠ [] ∧ k.slotSt 4 = 3 ∧ s.pair.role ≠ .active ∧ s.pair.role ≠ .standby) := by
  decide +kernel
/-! ### Witnesses: the recorder, station buses, the network, the time service, the collector -/

/-- A record with a sequence number and a code. -/
def aRec (n : Nat) (code : W16) : Rec := ⟨n, 5, 0, code, 1, 0, List.replicate 28 3⟩

theorem witness_RecorderAndPools :
    let r := State.reset
    let at' (v : Recorder) (f : State → State) : State := f { State.reset with recorder := v }
    (r.recorder.queue = [] ∧ (at' { queue := [aRec 5 7, aRec 6 8], next := 7 } id).recorder.queue = aRec 5 7 :: [aRec 6 8] ∧
      (aRec 4095 7).seq < 4096 ∧ 4096 ≤ (aRec 4096 7).seq) ∧
    (let d := at' { dropCount := 2, dropFirst := 5 } id
     d.recorder.dropCount ≠ 0 ∧ d.recorder.queue.length ≤ 128 ∧ d.recorder.closed = false ∧ r.recorder.dropCount = 0) ∧
    (r.recorder.next - r.recorder.queue.length - r.recorder.written = 0 ∧
      (let g := at' { next := 3 } id
       g.recorder.next - g.recorder.queue.length - g.recorder.written = 3 ∧ g.unfilled = false) ∧
      (at' { next := 3, reserved := [(1, 4)] } id).unfilled = true ∧
      (at' { queue := [aRec 5 7], next := 6, scree := [(4, some (aRec 4 7))] } id).unfilled = false) ∧
    ((regsAt [(Reg.EVR_SW_CODE, 0xEFFF)]).rdF Reg.EVR_SW_CODE 0 16 < 0xF000 ∧ 0xF000 ≤ (regsAt [(Reg.EVR_SW_CODE, 0xF000)]).rdF Reg.EVR_SW_CODE 0 16 ∧
      256 ≤ (at' { queue := List.replicate 256 (aRec 5 7) } id).recorder.queue.length) ∧
    (r.recorder.search false 0 = none ∧
      (let h := at' { next := 6, scree := [(5, some (aRec 5 7))] } id
       (h.recorder.search true 5).map (fun x => x.seq) = some 5 ∧ (aRec 5 7).seq < 2 ^ 48 ∧ h.recorder.low ≤ 5 ∧ 5 < h.recorder.next ∧
         sget (fun _ => none) h.recorder.scree (5 % 65536) = some (aRec 5 7) ∧ h.recorder.next ≤ 6)) ∧
    ((regsAt [(Reg.EVR_CUR_CTRL 0, 0x100)]).rdB (Reg.EVR_CUR_CTRL 0) 8 = true ∧ r.rdB (Reg.EVR_CUR_CTRL 0) 8 = false) ∧
    (let t := regsAt [(Reg.EVR_PT_EN, 0x1FF)]
     t.testRuns 0 12 = true ∧ (t.setRole .standby).testRuns 6 0 = true ∧ t.testRuns 8 60 = true ∧ t.coreLane 12 = none ∧ t.slotCore 0 = 12 ∧
       (t.slotState 0 = 1 ∨ t.slotState 0 = 2) ∧ t.ledger.log.length < 65536 ∧ t.testRuns 0 0 = false ∧ t.ledger.tested = none ∧
       (∀ j < 0, t.slotCore j ≠ 12) ∧
       (let d : State := { t.wr (Reg.TRI_POOL 0) 0x2F2E2D3C with ledger := { tested := some (0, 1) } }
        d.testRuns 0 12 = true ∧ d.ledger.tested = some (0, 1) ∧ d.slotCore 0 = 12 ∧ d.slotState 0 = 3) ∧
       ((t.setRole .standby).testRuns 1 4 = true ∧ (t.setRole .standby).coreLane 4 = some (1, 1)) ∧
       ((t.wr (Reg.FCH_SPARE 3) 0x1000).testRuns 4 112 = true ∧ (t.wr (Reg.FCH_SPARE 3) 0x1000).rdB (Reg.FCH_SPARE 3) 12 = true ∧
         (t.wr (Reg.FCH_SPARE 3) 0x1000).rdB (Reg.FCH_SPARE 3) 13 = false ∧ (t.wr (Reg.FCH_SPARE 3) 0x2000).testRuns 4 112 = true ∧
         (t.wr (Reg.FCH_SPARE 3) 0x2000).rdB (Reg.FCH_SPARE 3) 13 = true ∧ (t.wr (Reg.FCH_SPARE 3) 0x2000).rdB (Reg.FCH_SPARE 3) 12 = false) ∧
       t.rd Reg.EVR_PT_EN &&& ~~~(0x1FE#32) &&& 0x1FF#32 ≠ 0 ∧ r.rd Reg.EVR_PT_EN &&& ~~~(0x1FF#32) &&& 0x1FF#32 = 0) ∧
    (r.poolLeft 8 ≠ 0 ∧ (r.wrF (Reg.EVR_POOL 8) 8 8 0).rdF (Reg.EVR_POOL 8) 8 8 = 0 ∧ (r.forecast 0 < 12 ∨ 12 ≤ r.forecast 0)) ∧
    (let l : State := { r with ledger := { r.ledger with count := 3, blockA := 3, blockB := 2 } }
     max 0 l.ledger.blockB < l.ledger.count ∧ l.ledger.count ≤ max l.ledger.blockA 0) := by
  refine ⟨?_, ?_, ?_, ?_, ?_, ?_, ?_, ?_, ?_⟩ <;> decide +kernel

/-- Port 0 in a state with counters, of an Active module, with a frame on the bus. -/
def portAt (st : W32) (p : Port) (f : State → State) : State := f ((pairAt fun s => s.wr (Reg.STB_STATE 0) st).setPort 0 p)

/-- A frame of an identifier. -/
def frame (id : Nat) (cyclic : Bool) : TxFrame := ⟨id, [1, 2], 31, 100000, cyclic, false⟩

theorem witness_StationPorts :
    (∀ st ∈ [0, 1, 2, 3, 4, 5], (portAt (BitVec.ofNat 32 st) {} id).portState 0 = st) ∧
    ((∀ a ∈ [Reg.STB_CFG 0, Reg.STB_CTRL 0, Reg.STB_AC_CTRL 0], State.reset.blockOff a = false) ∧ getF ((portAt 4 {} id).stbState 0) 0 3 = 4 ∧
      getF ((portAt 2 {} id).stbState 0) 0 3 ≠ 4 ∧ (frame 256 false).aborted = false ∧
      getF (((portAt 4 {} (withPair fun p => { p with role := .standby })).wr (Reg.STB_CFG 0) 1).stbState 0) 0 3 ≠ 4) ∧
    ((portAt 0 {} fun s => s.wr (Reg.STB_NBT 0) 0).portConfigOk 0 = false ∧ (portAt 0 {} id).portConfigOk 0 = true) ∧
    (let b := portAt 2 { onbus := some (frame 256 false) } id
     (b.port 0).onbus.isSome = true ∧ b.portUp 0 = true ∧ (portAt 2 {} id).portUp 0 = true ∧ (portAt 4 {} id).portUp 0 = false ∧
       frame 256 false ∈ ((portAt 2 { queue := [frame 256 false] } id).port 0).queue ∧ (frame 256 false).id / 64 = 4 ∧
       ((portAt 2 { excepted := true } id).port 0).excepted = true ∧ ((portAt 2 {} id).port 0).excepted = false) ∧
    (let q := portAt 2 {} fun s => s.wr (Reg.STB_AC_REQ 0) 0x05080005
     q.rdB (Reg.STB_AC_STAT 0) 31 = false ∧ q.pair.role = .active ∧ getF (q.rd (Reg.STB_AC_REQ 0)) 16 8 = 8 ∧
       getF (q.rd (Reg.STB_AC_REQ 0)) 0 16 = 5 ∧ (q.wr (Reg.STB_AC_STAT 0) 0x80000000).rdB (Reg.STB_AC_STAT 0) 31 = true ∧
       getF ((portAt 2 {} id).rd (Reg.STB_AC_REQ 0)) 16 8 = 0) ∧
    (let a := portAt 2 { acTill := some 500 } id
     (a.port 0).acTill = some 500 ∧ (500 : W64).toNat ≤ (a.atTime 500).now.toNat ∧ (a.atTime 499).now.toNat < (500 : W64).toNat ∧
       ((portAt 2 {} id).port 0).acTill = none) := by
  decide +kernel

theorem witness_CanFrames :
    let up (f : TxFrame) (g : State → State) := portAt 2 { onbus := some f } g
    (∀ n ∈ [0, 256, 130], ((up (frame n true) id).port 0).onbus = some (frame n true) ∧ (up (frame n true) id).portUp 0 = true ∧
      ((up (frame n true) id).port 0).stopping = false ∧ ((up (frame n true) id).port 0).txOff = false) ∧
    (((portAt 2 { onbus := some (frame 130 true), stopping := true } id).port 0).stopping = true ∧
      255 < (portAt 0x00F80002 {} id).rdF (Reg.STB_STATE 0) 16 9 + 8 ∧ (portAt 0x00F80002 {} id).portUp 0 = true ∧
      ((portAt 2 { txOff := true } id).port 0).txOff = true ∧ ((portAt 2 { excepted := true } id).port 0).excepted = true ∧
      (let f := (up (frame 130 true) id).wr (Reg.STB_CFG 0) 0x100
       f.fdFrame 0 (frame 130 true) = true ∧ f.fdFrame 0 (frame 0 true) = false ∧
         (f.wr (Reg.STB_TDC 0) 0x80000000).rdB (Reg.STB_TDC 0) 31 = true)) ∧
    (let s := up (frame 130 true) id
     (frame 130 true).aborted = false ∧ { frame 256 false with aborted := true }.aborted = true ∧ s.rdB (Reg.STB_CFG 0) 21 = false ∧ s.rdF (Reg.STB_CFG 0) 16 5 ≤ (frame 130 true).tries ∧ s.rdF (Reg.STB_STATE 0) 16 9 + 8 ≤ 255 ∧
       (s.wr (Reg.STB_CFG 0) 0x00200000).rdB (Reg.STB_CFG 0) 21 = true ∧
       255 < (portAt 0x00F80003 {} id).rdF (Reg.STB_STATE 0) 16 9 + 8) ∧
    ((portAt 2 {} id).portState 0 = 2 ∧ ((portAt 2 {} id).port 0).held = false ∧ (pairAt fun s => s.wr Reg.NET_SOE_CTRL 0x80040000).pair.running = true ∧
      (pairAt fun s => s.wr Reg.NET_SOE_CTRL 0x80040000).rdB Reg.NET_SOE_CTRL 31 = true ∧ (portAt 3 {} id).portState 0 = 3 ∧ (portAt 0 {} id).portState 0 = 0 ∧ ((portAt 2 {} id).port 0).onbus = none) ∧
    ((5 : Fin 2048).val / 64 = 0 ∧ (5 : Fin 2048).val % 64 ≠ 0 ∧ (64 : Fin 2048).val / 64 = 1 ∧ (133 : Fin 2048).val / 64 = 2 ∧
      (325 : Fin 2048).val / 64 = 5 ∧ 6 ≤ (2047 : Fin 2048).val / 64) ∧
    (let s := (portAt 2 { acTill := some 500 } fun s => s.wr (Reg.STB_AC_REQ 0) 0x05080005).atTime 100000
     s.tagAhead 0 2 = true ∧ (s.port 0).acTill.isSome = true ∧ s.rdF (Reg.STB_AC_REQ 0) 24 6 = 325 % 64) ∧
    (let s := portAt 2 {} fun s => s.wr (Reg.STB_SCHED 0) 0x00020001
     s.pair.role = .active ∧ s.isTick 200000 = true ∧ s.rdF (Reg.STB_SCHED 0) 16 10 = 2 ∧ 200000 % (2 * s.gridNs) = 0 ∧ s.portUp 0 = true ∧
       100000 % (2 * s.gridNs) ≠ 0) ∧
    (let s := portAt 2 {} fun s => (s.wr Reg.NET_SCHED 0x1001).wr Reg.NET_NODE 0x80000005
     s.rdF Reg.NET_SCHED 12 10 = 1 ∧ 100000 % (1 * s.gridNs) = 0 ∧ s.nodeValid = true ∧ (s.wr Reg.NET_NODE 5).nodeValid = false ∧
       s.ringPorts = 0 ∧ (s.wr (Reg.NET_PSTAT 0) 0x80000000).linkUp 0 = true ∧ (s.wr (Reg.NET_PSTAT 1) 0x80000000).ringPorts = 2 ∧
       (s.wr (Reg.NET_PSTAT 1) 0x80000000).linkUp 0 = false) ∧
    (let n := (pairAt id).setPort 8 { waits := [frame 0 true] }
     frame 0 true ∈ (n.port 8).waits ∧ (frame 0 true).cyclic = true ∧
       (frame 0 true).release.toNat + n.lag 8 ≤ (n.atTime (BitVec.ofNat 64 (90000 + n.lag 8))).now.toNat + 10000 ∧
       ¬(frame 0 true).release.toNat + n.lag 8 ≤ (n.atTime (BitVec.ofNat 64 (89999 + n.lag 8))).now.toNat + 10000) ∧
    (let s := portAt 2 { queue := [frame 130 true] } fun s => s.wr (Reg.STB_SCHED 0) 0x00020001
     frame 130 true ∈ (s.port 0).queue ∧ (frame 130 true).release.toNat + s.lag 0 ≤ (s.atTime 190000).now.toNat + 10000 ∧
       ¬(frame 130 true).release.toNat + s.lag 0 ≤ (s.atTime 189999).now.toNat + 10000) := by
  refine ⟨?_, ?_, ?_, ?_, ?_, ?_, ?_, ?_, ?_, ?_⟩ <;> decide +kernel

/-- Station 0 on port 0 at address 5 and line 0, without points, its status word at 0x20030000, watchdog 1 ms, return after one
complete set; and what the port holds of it. -/
def stationAt (w : Nat) (v : Station) (p : Port) : State :=
  words 0x20040000 [w, 0, 0x00010100, 0, 0x00020000] { (portAt 2 p fun s => ((((s.wr (Reg.STB_ST_BASE 0 0) 0x20040000).wr (Reg.SCN_LINE 0)
    0x80000001).wr (Reg.SCN_IMG_BASE 0) 0x20030000).wr (Reg.GRD_RATR 18 0) 0xF7).wr (Reg.GRD_CTRL 18) 1) with stations := [(0, v)] }

theorem witness_StationsLostAndBack :
    (let s := stationAt 0x80000005 { lost := false } {}
     let reads := (s.stEntry 0, 32) :: (s.stPoints 0).map fun q => (s.ptEntry q, 16)
     s.stOn 0 = true ∧ s.lineTicks (s.stLine 0) 1000000 = true ∧ s.pair.role = .active ∧ s.pair.running = true ∧ s.yieldHolds = false ∧
       s.refusedIn 18 1 reads = none ∧ (s.wr (Reg.GRD_CTRL 18) 0x200).guardOn 18 = false ∧
       (((s.wr (Reg.GRD_RATR 18 0) 0).wr (Reg.GRD_CTRL 18) 1).refusedIn 18 1 reads).isSome = true ∧ (s.station 0).lost = false ∧
       s.outside 0 1000000 = true ∧ s.outside 0 999999 = false ∧ s.stationSet 0 (s.tagOf 1000000) = none ∧ (s.station 0).phase.toNat < 1000000 ∧
       s.stPoints 0 = [] ∧ s.imgBase (s.listBank 0) + getF (s.stWord 0 0xC) 0 24 + 4 ≤ s.stEntry 0 ∧ s.guardOn 18 = true ∧
       s.guardCheck 18 false 0x20030000 4 2 = none ∧ s.stNet 0 = false ∧ s.stAddr 0 = 5) ∧
    (let s := stationAt 0x80000005 {} { frags := [⟨5, 10, 0, 0, [7, 8]⟩] }
     s.stOn 0 = true ∧ s.lineTicks (s.stLine 0) 1000000 = true ∧ (s.station 0).lost = true ∧ getF (s.stWord 0 8) 8 8 ≤ (s.station 0).runs + 1 ∧
       s.stationSet 0 (s.tagOf 1000000) = some [7, 8] ∧ (s.station 0).phase.toNat < 1000000) ∧
    (let s := stationAt 0xC0000005 { lost := false, phase := 1000000 } {}
     s.stNet 0 = true ∧ s.outside 0 1000000 = true ∧ 1000000 ≤ (s.station 0).phase.toNat) ∧
    State.reset.stOn 0 = false := by
  decide +kernel

theorem witness_RinfaFrames :
    let net (f : State → State) := pairAt fun s => f (s.wr Reg.NET_NODE 0x80000005)
    let up (n : Nat) (f : State → State) := net fun s => f (s.wrB (Reg.NET_PSTAT n) 31 true)
    (State.reset.nodeValid = false ∧ (net id).nodeValid = true ∧ (net id).node = 5) ∧
    (let s := up 0 id
     let h (kind : Nat) : RinfaHead := ⟨true, kind, 6, 0, 9, 0, 2⟩
     let f (kind : Nat) := s.rinfaTop ++ (h kind).bytes [1]
     s.ringPorts ≠ 0 ∧ State.reset.ringPorts = 0 ∧ s.isRinfa [] = false ∧ s.isRinfa (s.rinfaTop ++ [0]) = true ∧
       rinfaParse ((s.rinfaTop ++ [0]).drop s.rinfaTop.length) = none ∧ (s.wrB Reg.NET_RING 0 true).rdB Reg.NET_RING 0 = true ∧
       (∀ k ∈ [0, 2, 3, 6, 8, 9], s.isRinfa (f k) = true ∧ rinfaParse ((f k).drop s.rinfaTop.length) = some (h k, [1])) ∧
       (h 0).src ≠ s.node ∧ getF (h 8).frag 4 4 = 0) ∧
    (State.reset.linkUp 0 = false ∧ (up 0 id).linkUp 0 = true ∧ (up 3 id).linkUp 3 = true ∧ (up 1 id).linkUp (1 - 0) = true) ∧
    ((up 0 id).duplicate 6 9 = false ∧ ({ up 0 id with net := { accepted := [(6, 9, 0)] } } : State).duplicate 6 9 = true ∧
      ((up 0 id).wr Reg.NET_PARTNER 6).rdF Reg.NET_PARTNER 0 16 = 6 ∧ ((up 0 id).atTime 100000).tagAhead 8 2 = true) ∧
    (let o : State := { (up 0 fun s => s.wrB (Reg.NET_PSTAT 1) 31 true) with net := { owed := [(4, 1, 0)] } }
     (o.net.owed.filter fun e => decide (e.2.2.toNat + 1000000 ≤ (o.atTime 1000000).now.toNat)) ≠ [] ∧
       (o.net.owed.filter fun e => decide (e.2.2.toNat + 1000000 ≤ (o.atTime 999999).now.toNat)) = []) := by
  decide +kernel

theorem witness_TimeServiceAndCollector :
    let on (f : State → State) := f (regsAt [(Reg.NET_PTP_CTRL, 0x50400000), (Reg.NET_PCFG 2, 1), (Reg.NET_PSTAT 2, 0x80000000)])
    (State.reset.ptpOn 2 = false ∧ (on id).ptpOn 2 = true ∧ (on (·.wrF (Reg.NET_PSTAT 2) 16 4 6)).ptpOn 2 = true ∧
      (on (·.wrF (Reg.NET_PSTAT 2) 16 4 6)).ptpState 2 = 6 ∧ ((on (·.wrF (Reg.NET_PSTAT 2) 16 4 6)).wr Reg.NET_PTP_CTRL 0x40400000).ptpOn 2 = true ∧
      ((on id).wr Reg.NET_PTP_CTRL 0x40400000).rdB Reg.NET_PTP_CTRL 28 = false ∧ (on (·.wrF (Reg.NET_PSTAT 2) 16 4 8)).ptpState 2 = 8 ∧
      (0 : W8).toNat = (on id).rdF Reg.NET_PTP_DS 24 8 ∧ { on id with start := { stage := .system } }.lasersOn = true) ∧
    ((on id).rdF Reg.NET_PTP_CTRL 30 2 ≠ 0 ∧ (on id).rdB Reg.NET_PTP_STAT 29 = false ∧ (regsAt [(Reg.NET_PTP_CTRL, 0)]).rdF Reg.NET_PTP_CTRL 30 2 = 0 ∧
      (on id).rdB Reg.NET_PTP_CTRL 28 = true ∧ (regsAt [(Reg.NET_PTP_CTRL, 0)]).rdB Reg.NET_PTP_CTRL 28 = false) ∧
    (let v : PtpPort := { first := some 5, sync := some (3, 5), asked := some 6, answer := some (7, 8) }
     let s : State := { on (·.wrF (Reg.NET_PSTAT 2) 16 4 8) with net := { ptp := [(2, v)] } }
     s.ptpPort 2 = v ∧ s.ptpState 2 = 8 ∧ s.ptpOn 2 = true ∧ (on id).ptpPort 2 = {} ∧ s.rdF Reg.NET_PTP_DS 24 8 = 0 ∧
       s.rdB Reg.NET_PTP_CTRL 27 = false) ∧
    State.reset.rdF Reg.NET_PTP_DS 24 8 < 256 ∧ State.reset.blockOff Reg.NET_FRAME = false ∧
    (({ State.reset with net := { records := [(5, 0x8001, List.replicate 16 0)] } } : State).net.records ≠ [] ∧ (pairAt id).pair.running = true) ∧
    (let s := pairAt fun s => ((s.wr Reg.NET_SOE_CTRL 0x80040000).wr Reg.NET_SOE_BASE 0x20050000).wr Reg.NET_SOE_GRP 1
     let q := s.setGroup 0 { queue := [⟨5, 3, true, false, true⟩] }
     s.pair.role = .active ∧ s.rdB Reg.NET_SOE_CTRL 31 = true ∧ q.rdB Reg.NET_SOE_GRP 0 = true ∧ (q.group 0).queue = [⟨5, 3, true, false, true⟩] ∧
       (s.group 0).queue = [] ∧ 2 ^ s.rdF Reg.NET_SOE_CTRL 16 5 = 16 ∧ (0 + 1) % 16 ≠ (s.rd Reg.NET_SOE_RD).toNat % 16 ∧
       (15 + 1) % 16 = (s.rd Reg.NET_SOE_RD).toNat % 16) ∧
    (State.reset.run = false ∧ (0x5FF : Nat) < 0x600 ∧ ¬(0x600 : Nat) < 0x600 ∧ getF (0x88F7#32) 0 16 = 0x88F7) := by
  decide +kernel

/-- Whatever the unit's clock identity and serial number are, another module has others. -/
theorem witness_other_unit : Config.clockId + 1 ≠ Config.clockId ∧ Config.serial + 1 ≠ Config.serial := by
  constructor <;> simp

theorem witness_StepRunsTheFront :
    ({ State.reset with pending := [.thermalWarning, .yieldHold] } : State).pending = .thermalWarning :: [.yieldHold] ∧
      State.reset.pending = [] := by
  decide +kernel

theorem witness_MemoryStaysCanonical :
    let s : State := { State.reset with mem := [(0x20000000, 5)], pending := [.yieldHold] }
    Memory.wf s.mem = true ∧ step s = .next { s with pending := [] } :=
  ⟨by decide +kernel, rfl⟩

theorem witness_OtherCommandsLeaveMemoryAndContexts :
    writesMemory .thermalWarning = false ∧ changesContexts .thermalWarning = false ∧ ∃ t, exec .thermalWarning State.reset = .next t :=
  ⟨rfl, rfl, _, rfl⟩
/-! ### Single commands against worked values of the manual -/

/-- The state that a command answers. -/
def next (o : Host.Outcome State Fault Refusal) : State :=
  match o with
  | .next t => t
  | _ => State.reset

/-- 04 and 05, worked examples: the words of the pump's code, each put together from the encoding tables. -/
theorem test_words_of_the_worked_examples :
    wordILS 1 2 false 2 false 4 = 0x58320004 ∧ wordILS 4 2 false 2 false 7 = 0x58920007 ∧ wordF 1 false 7 1 1 2 = 0x80211381 ∧
      wordFMA 0 false 7 1 3 1 4 = 0x8423091C ∧ wordFMV 6 0 true false = 0x8CC08000 ∧ wordF 6 false 0 1 1 6 = 0x80213006 ∧
      wordF 5 false 0 1 1 5 = 0x80212805 ∧ wordILS 1 3 false 2 false 8 = 0x583A0008 ∧ wordILS 1 0 false 2 true 4 = 0x58228004 ∧
      wordCell 0x2D 3 1 7 = 0xB4610007 ∧ wordI 1 4 0 10000 = 0x04802710 ∧ wordCell 0x2C 5 3 (4 * 2 ^ 11 + 4) = 0xB0A32004 ∧
      wordR 5 false false 6 1 2 = 0x00C11005 ∧ wordL 5 false 8 0 = 0x3D005000 ∧ wordCell 0x2A 7 6 (8 * 2 ^ 11 + 1) = 0xA8E64001 := by
  decide +kernel

/-- 04: 34.0 − 36.5 = −2.5 in 4 cycles; −12.0 × −2.5 + 55.0 = 85.0 in 5 cycles; no float flag is set. -/
theorem test_pump_arithmetic :
    let fr (l : List (Nat × W64)) := core fun c => { c with f := l }
    let a := (next (exec (.fsub 0 {} false 7 1 1 2) (fr [(1, 0x42080000), (2, 0x42120000)]))).ctx 0
    let b := (next (exec (.fmadd 0 {} false 7 1 3 1 4) (fr [(1, 0xC0200000), (3, 0xC1400000), (4, 0x425C0000)]))).ctx 0
    a.rf 1 = 0xC0200000 ∧ a.cyc = 4 ∧ a.st = 0x100 ∧ b.rf 1 = 0x42AA0000 ∧ b.cyc = 5 ∧ b.st = 0x100 := by
  decide +kernel

/-- 04: FLI loads 100.0 in 2 cycles and 8 bytes; FMAX against +0.0 of a quiet NaN gives +0.0 (R109). -/
theorem test_pump_limits :
    let a := (next (exec (.fli 0 {} 5 false 0x42C80000) (core id))).ctx 0
    let b := (next (exec (.fmax 0 {} false 1 1 6) (core fun c => { c with f := [(1, 0x7FC00000)] }))).ctx 0
    a.rf 5 = 0x42C80000 ∧ a.cyc = 2 ∧ a.pc = 0x01000008 ∧ b.rf 1 = 0 := by
  decide +kernel

/-- 04: the ILS load of [IB + 0x10] from the working store costs 20 cycles at P0. -/
theorem test_pump_load :
    let c := (next (exec (.ilsFload 0 {} 1 false false 4 {}) (words 0x20000010 [0x42080000] (core fun c => { c with ib := 0x20000000 })))).ctx 0
    c.rf 1 = 0x42080000 ∧ c.cyc = 20 := by
  decide +kernel

/-- 05: the CHECK of the header of pump 17. -/
theorem test_pump_header : (2 : Nat) ^ 32 - 1 - (0x02100003 ^^^ 0x80 ^^^ 0x20034A40) = 0xDDECB53C := by decide +kernel

/-- 05: the timer of 3.000 s started at 7,412.350 s: ET 1.650 at 7,414.000, 2.990 and no Q at 7,415.340, Q and ET 3.000 at 7,415.350. -/
theorem test_pump_timer :
    let t0 := (timerOf []).step 0 7412350000000 true 3000000000
    let t1 := t0.step 0 7414000000000 true 3000000000
    let t2 := t1.step 0 7415340000000 true 3000000000
    let t3 := t2.step 0 7415350000000 true 3000000000
    (t0.et = 0 ∧ t0.q = false ∧ b2n t0.q + 2 * b2n t0.inp + 4 * b2n t0.run = 6) ∧ t1.et = 1650000000 ∧
      (t2.et = 2990000000 ∧ t2.q = false) ∧ t3.et = 3000000000 ∧ b2n t3.q + 2 * b2n t3.inp + 4 * b2n t3.run = 3 := by
  decide +kernel

/-- 03: XA is lost, and all 48 islands run on XB. -/
theorem test_reference_lost :
    let t := next (exec (.referenceLost .xa 0) State.reset)
    t.rd Reg.CLK_ACT_LO = 0xFFFFFFFF ∧ t.rd Reg.CLK_ACT_HI = 0x0000FFFF ∧ t.rd Reg.CLK_SEL_LO = 0 ∧
      t.rdF Reg.CLK_REFSTAT 0 1 = 0 ∧ t.isPending 3 = State.reset.srcEn 3 := by
  decide +kernel

/-- R78: a write reaches `SYS.SCRATCH`; R77: one of `SYS.HWTYPE` changes nothing. -/
theorem test_register_write :
    (next (exec (.registerWrite 0x100000F0 0xA5) State.reset)).rd Reg.SYS_SCRATCH = 0xA5 ∧
      (next (exec (.registerWrite 0x10000000 0xA5) State.reset)).rd Reg.SYS_HWTYPE = State.reset.rd Reg.SYS_HWTYPE := by
  decide +kernel

/-- R73: a module reset that software requests sets its cause, empties the role and starts Hearth on T0; a write without the key
does nothing. -/
theorem test_module_reset :
    let t := next (exec (.moduleResetRequest 0xA5000001) (pairAt id))
    let u := next (exec (.moduleResetRequest 0x5A000001) (pairAt id))
    t.rdB Reg.SYS_RESET_CAUSE 1 = true ∧ t.pair.role = .unassigned ∧ t.ctx 0 = { running := true } ∧ u.pair.role = .active := by
  decide +kernel

/-- R397: 1,912,460,800 s after the epoch, the instant of the example of 14, is 8 August 2030, 23:06:40; day 0 is 1 January 1970. -/
theorem test_calendar :
    calDate 0 = 0x07B20101 ∧ calDate 1912460800 = BitVec.ofNat 32 (2030 * 65536 + 8 * 256 + 8) ∧
      calTime 1912460800 = BitVec.ofNat 32 (23 * 65536 + 6 * 256 + 40) := by
  decide +kernel

/-- 14: the gap of 18,722.012 s is 613,482,889 pulses: 18,722 × 32,768 + 393. -/
theorem test_gap_pulses : 18722 * 32768 + 393 = 613482889 ∧ (613482889 : Nat) = 0x24910189 := by decide +kernel

/-- The commands that the table gives no bits for are spelled by no word. -/
theorem test_no_words : decodeTableWord 32 0 = none ∧ State.reset.withFetchWord 32 0 = State.reset := ⟨rfl, rfl⟩

/-- The block idles on an empty queue, and a queue is served from its front. -/
theorem test_step_idles : step State.reset = .next State.reset := rfl
end Sys2Proof.Tests
end

section
/-!
The integer instructions of chapter 04 (R96 to R101). The model computes on numbers below `2 ^ w`; the statements speak of words
of that width. The first part says once how the two agree, the second which word operation each numeric one is, the third what
an instruction of a ready target then leaves, and the last settles the divisions, the conditions and the immediate operations.
-/
namespace Sys2Proof.Machine

/-! ### Numbers and words of a width -/

theorem wid_pos (d : Bool) : 0 < wid d := by cases d <;> decide

theorem wid_le (d : Bool) : wid d ≤ 64 := by cases d <;> decide

/-- At the width that D selects, an operation cuts its operands and sign-extends its result; at 64 bits both do nothing. -/
theorem atWidth_eq (d : Bool) (f : (w : Nat) → BitVec w → BitVec w → BitVec w) (a b : W64) :
    atWidth d f a b = (f (wid d) (a.setWidth (wid d)) (b.setWidth (wid d))).signExtend 64 := by
  cases d
  · rfl
  · simp [atWidth, wid]

theorem flagAt_eq (d : Bool) (f : (w : Nat) → BitVec w → BitVec w → Bool) (a b : W64) :
    flagAt d f a b = f (wid d) (a.setWidth (wid d)) (b.setWidth (wid d)) := by
  cases d
  · rfl
  · simp [flagAt, wid]

theorem low_eq_toNat (w : Nat) (x : W64) : low w x = (x.setWidth w).toNat := (BitVec.toNat_setWidth ..).symm

theorem low_lt (w : Nat) (x : W64) : low w x < 2 ^ w := Nat.mod_lt _ (Nat.two_pow_pos w)

theorem testBit_low {w i : Nat} (x : W64) (h : i < w) : (low w x).testBit i = x.getLsbD i := by
  simp [low, h, BitVec.getLsbD]

/-- The signed reading of a number below `2 ^ w` is that of the word it stands for. -/
theorem sextN_toNat {w : Nat} (a : BitVec w) : sextN w a.toNat = a.toInt := by
  have ha := a.isLt
  rw [sextN, Nat.mod_eq_of_lt ha, BitVec.toInt_eq_toNat_cond]
  rcases w with _ | w
  · rw [BitVec.toNat_zero_length]
    rfl
  · have hsign : a.toNat < 2 ^ w ↔ 2 * a.toNat < 2 ^ (w + 1) := by omega
    simp [hsign]

theorem sext_of_toNat {n : Nat} (w : Nat) (v : BitVec n) : sext w n v.toNat = v.signExtend w :=
  congrArg (BitVec.ofInt w) (sextN_toNat v)

theorem sext_toNat (v n : Nat) (x : W64) : sext v n x.toNat = (x.setWidth n).signExtend v := by
  rw [← sext_of_toNat]
  simp [sext, sextN]

theorem widen_toNat {d : Bool} (v : BitVec (wid d)) : widen (wid d) v.toNat = v.signExtend 64 := by
  cases d
  · exact sext_of_toNat 64 v
  · exact (BitVec.ofNat_toNat 64 v).trans ((BitVec.setWidth_eq (n := 64) v).trans (BitVec.signExtend_eq (w := 64) v).symm)

theorem widen_low (d : Bool) (x : W64) : widen (wid d) (low (wid d) x) = (x.setWidth (wid d)).signExtend 64 := by
  rw [low_eq_toNat, widen_toNat]

theorem modW_eq_toNat (w : Nat) (x : Int) : modW w x = (BitVec.ofInt w x).toNat := by
  simp [modW, BitVec.toNat_ofInt]

/-- A count of bits is no negative number at either width. -/
theorem widen_count {d : Bool} {n : Nat} (h : n ≤ wid d) : widen (wid d) (n % 2 ^ wid d) = BitVec.ofNat 64 n := by
  cases d
  · have h : n ≤ 32 := h
    have e : sextN 32 (n % 2 ^ 32) = n := by simp [sextN]; omega
    exact (congrArg (BitVec.ofInt 64) e).trans (BitVec.ofInt_natCast ..)
  · have h : n ≤ 64 := h
    exact congrArg (BitVec.ofNat 64) (Nat.mod_eq_of_lt (by simp [wid]; omega))

/-- What an integer operation gives, as a word. -/
def IntRes.ofBits {w : Nat} (v : BitVec w) (carry overflow : Bool) : IntRes := { r := v.toNat, c := carry, v := overflow }

/-- N and Z of a result are those of the register that takes it (R96, R97). -/
theorem intFlags_ofBits {d : Bool} (v : BitVec (wid d)) (carry overflow : Bool) (st : W32) :
    intFlags (wid d) (.ofBits v carry overflow) st =
      putNzcv (v.signExtend 64).msb (v.signExtend 64 == 0) carry overflow st := by
  have hi : (v.signExtend 64).toInt = v.toInt := BitVec.toInt_signExtend_of_le (wid_le d)
  have hn : decide (2 ^ (wid d - 1) ≤ v.toNat) = (v.signExtend 64).msb := by
    rw [← BitVec.msb_eq_decide, BitVec.msb_eq_toInt, BitVec.msb_eq_toInt, hi]
  have hz : (v.toNat == 0) = (v.signExtend 64 == 0) := by
    rw [Bool.eq_iff_iff, beq_iff_eq, beq_iff_eq, ← BitVec.toInt_inj, hi,
      show (0 : W64).toInt = (0#(wid d)).toInt by simp, BitVec.toInt_inj, ← BitVec.toNat_inj, BitVec.toNat_zero]
  simp only [intFlags, IntRes.ofBits, Nat.mod_eq_of_lt v.isLt, hn, hz]

/-! ### The operations -/

theorem intSub_toNat {w : Nat} (a b : BitVec w) :
    intSub w a.toNat b.toNat = .ofBits (a - b) (!BitVec.usubOverflow a b) (BitVec.ssubOverflow a b) := by
  simp only [intSub, IntRes.ofBits, IntRes.mk.injEq, sextN_toNat, fitsS, BitVec.usubOverflow, BitVec.ssubOverflow,
    BitVec.toNat_sub]
  refine ⟨?_, ?_, ?_⟩
  · have := b.isLt
    congr 1
    omega
  · simp only [← decide_not, Nat.not_lt]
  · rw [Bool.eq_iff_iff]
    simp
    omega

/-- The operands of the corner of R100: the most negative value and −1. -/
abbrev isCorner (w : Nat) (a b : BitVec w) : Bool := a == BitVec.intMin w && b == BitVec.allOnes w

theorem divCorner_toNat {w : Nat} (hw : 0 < w) (a b : BitVec w) : divCorner w a.toNat b.toNat = isCorner w a b := by
  have hlt : 2 ^ (w - 1) < 2 ^ w := Nat.pow_lt_pow_right (by decide) (by omega)
  rw [Bool.eq_iff_iff]
  simp [divCorner, ← BitVec.toNat_inj, Nat.mod_eq_of_lt hlt]

theorem intDiv_toNat {w : Nat} (hw : 0 < w) (a b : BitVec w) :
    intDiv w a.toNat b.toNat =
      .ofBits (if isCorner w a b then a else BitVec.ofInt w (a.toInt.tdiv b.toInt)) false (isCorner w a b) := by
  rw [intDiv, divCorner_toNat hw, sextN_toNat, sextN_toNat, modW_eq_toNat]
  cases isCorner w a b <;> rfl

theorem intRem_toNat {w : Nat} (hw : 0 < w) (a b : BitVec w) :
    intRem w a.toNat b.toNat =
      .ofBits (if isCorner w a b then 0 else BitVec.ofInt w (a.toInt.tmod b.toInt)) false (isCorner w a b) := by
  rw [intRem, divCorner_toNat hw, sextN_toNat, sextN_toNat, modW_eq_toNat]
  cases isCorner w a b <;> rfl

theorem intDivu_toNat {w : Nat} (a b : BitVec w) :
    intDivu w a.toNat b.toNat = .ofBits (BitVec.ofNat w (a.toNat / b.toNat)) false false := by
  have h : a.toNat / b.toNat < 2 ^ w := Nat.lt_of_le_of_lt (Nat.div_le_self ..) a.isLt
  simp [intDivu, IntRes.ofBits, Nat.mod_eq_of_lt h]

theorem intRemu_toNat {w : Nat} (a b : BitVec w) :
    intRemu w a.toNat b.toNat = .ofBits (BitVec.ofNat w (a.toNat % b.toNat)) false false := by
  have h : a.toNat % b.toNat < 2 ^ w := Nat.lt_of_le_of_lt (Nat.mod_le ..) a.isLt
  simp [intRemu, IntRes.ofBits, Nat.mod_eq_of_lt h]

/-- A choice made on the operands at a width is made on the result. -/
theorem atWidth_ite (d : Bool) (p : (w : Nat) → BitVec w → BitVec w → Bool)
    (f g : (w : Nat) → BitVec w → BitVec w → BitVec w) (a b : W64) :
    atWidth d (fun w a b => if p w a b then f w a b else g w a b) a b =
      if flagAt d p a b then atWidth d f a b else atWidth d g a b := by
  rw [atWidth_eq, atWidth_eq, atWidth_eq, flagAt_eq]
  exact apply_ite (BitVec.signExtend 64) ..

theorem atWidth_zero (d : Bool) (a b : W64) : atWidth d (fun _ _ _ => 0) a b = 0 := by cases d <;> rfl

/-- The bit that a shift takes out last, where the shift moves at all (R99). -/
theorem shiftedOut_low {w n i : Nat} (x : W64) (h : 0 < n → i < w) :
    (decide (0 < n) && (low w x).testBit i) = (decide (0 < n) && x.getLsbD i) := by
  by_cases hn : 0 < n
  · rw [testBit_low x (h hn)]
  · simp [hn]

theorem intSll_low {w n : Nat} (hw : 0 < w) (x : W64) :
    intSll w (low w x) n = .ofBits (x.setWidth w <<< n) (decide (0 < n) && x.getLsbD (w - n)) false := by
  rw [intSll, shiftedOut_low x (by omega), low_eq_toNat, IntRes.ofBits, BitVec.toNat_shiftLeft, Nat.shiftLeft_eq]

theorem intSrl_low {w n : Nat} (hn : n < w) (x : W64) :
    intSrl w (low w x) n = .ofBits (x.setWidth w >>> n) (decide (0 < n) && x.getLsbD (n - 1)) false := by
  rw [intSrl, shiftedOut_low x (by omega), low_eq_toNat, IntRes.ofBits, BitVec.toNat_ushiftRight, Nat.shiftRight_eq_div_pow]

theorem intSra_low {w n : Nat} (hn : n < w) (x : W64) :
    intSra w (low w x) n = .ofBits ((x.setWidth w).sshiftRight n) (decide (0 < n) && x.getLsbD (n - 1)) false := by
  rw [intSra, shiftedOut_low x (by omega), low_eq_toNat, sextN_toNat, modW_eq_toNat, IntRes.ofBits, BitVec.sshiftRight_eq,
    Int.shiftRight_eq_div_pow]
  rfl

/-- The two parts of a rotation share no bit, so their sum is their union. -/
theorem intRor_low {w n : Nat} (hn : n < w) (x : W64) :
    intRor w (low w x) n = .ofBits ((x.setWidth w).rotateRight n) false false := by
  have hp : 2 ^ w = 2 ^ n * 2 ^ (w - n) := by rw [← Nat.pow_add]; congr 1; omega
  have hlt : low w x / 2 ^ n < 2 ^ (w - n) := Nat.div_lt_of_lt_mul (hp ▸ low_lt w x)
  have hhi : low w x * 2 ^ (w - n) % 2 ^ w = (low w x % 2 ^ n) <<< (w - n) := by
    rw [hp, Nat.mul_mod_mul_right, Nat.shiftLeft_eq]
  have hsum : (low w x % 2 ^ n) <<< (w - n) + low w x / 2 ^ n < 2 ^ w := by
    have := Nat.mul_le_mul_right (2 ^ (w - n)) (Nat.mod_lt (low w x) (Nat.two_pow_pos n))
    rw [Nat.succ_mul] at this
    rw [hp, Nat.shiftLeft_eq]
    omega
  rw [intRor, IntRes.ofBits, BitVec.toNat_rotateRight, Nat.mod_eq_of_lt hn, ← low_eq_toNat, Nat.shiftRight_eq_div_pow,
    Nat.shiftLeft_eq, hhi, Nat.or_comm, ← Nat.shiftLeft_add_eq_or_of_lt hlt, Nat.add_mod, hhi,
    Nat.mod_eq_of_lt (Nat.lt_of_lt_of_le hlt (Nat.pow_le_pow_right (by decide) (Nat.sub_le ..))), Nat.add_comm,
    Nat.mod_eq_of_lt hsum]

/-- LUI puts its immediate into bits 31:16. -/
theorem lui_value (imm : W16) : sext 64 32 (imm.toNat * 2 ^ 16) = ((imm.setWidth 32) <<< 16).signExtend 64 := by
  have h : imm.toNat * 2 ^ 16 = ((imm.setWidth 32) <<< 16).toNat := by
    have := imm.isLt
    simp [Nat.shiftLeft_eq]
    omega
  rw [h, sext_of_toNat]

/-- ORH puts its immediate above the low word of ra. -/
theorem append_low_word (a : W64) (imm : W32) :
    imm ++ a.setWidth 32 = (a.setWidth 32).setWidth 64 ||| (imm.setWidth 64 <<< 32) := by
  rw [BitVec.or_comm]
  exact (BitVec.setWidth_eq _).symm.trans BitVec.setWidth_append_eq_shiftLeft_setWidth_or

/-! ### The counts -/

/-- The leading zeros of a register at a width are zero bits, and the bit below them is not. -/
theorem leadZeros_low (w : Nat) (x : W64) :
    leadZeros w (low w x) ≤ w ∧ (∀ i < w, w - leadZeros w (low w x) ≤ i → x.getLsbD i = false) ∧
      (leadZeros w (low w x) < w → x.getLsbD (w - 1 - leadZeros w (low w x)) = true) := by
  by_cases h0 : low w x = 0
  · have hz (i : Nat) (hi : i < w) : x.getLsbD i = false := by rw [← testBit_low x hi, h0, Nat.zero_testBit]
    rw [leadZeros, if_pos h0]
    exact ⟨Nat.le_refl w, fun i hi _ => hz i hi, fun h => absurd h (Nat.lt_irrefl w)⟩
  · have hl : (low w x).log2 < w := (Nat.log2_lt h0).2 (low_lt w x)
    rw [leadZeros, if_neg h0]
    refine ⟨by omega, fun i hi hle => ?_, fun _ => ?_⟩
    · rw [← testBit_low x hi]
      exact Nat.testBit_lt_two_pow ((Nat.log2_lt h0).1 (by omega))
    · rw [show w - 1 - (w - 1 - (low w x).log2) = (low w x).log2 by omega, ← testBit_low x hl]
      exact Nat.testBit_log2 h0

/-- The trailing zeros of a register at a width are zero bits, and the bit above them is not. -/
theorem trailZeros_low (w : Nat) (x : W64) :
    trailZeros w (low w x) ≤ w ∧ (∀ i < trailZeros w (low w x), x.getLsbD i = false) ∧
      (trailZeros w (low w x) < w → x.getLsbD (trailZeros w (low w x)) = true) := by
  unfold trailZeros
  cases h : (List.range w).find? fun i => (low w x).testBit i with
  | none =>
    have h := List.find?_range_eq_none.1 h
    refine ⟨Nat.le_refl w, fun i hi => ?_, fun hw => absurd hw (Nat.lt_irrefl w)⟩
    rw [← testBit_low x hi]
    simpa using h i hi
  | some n =>
    obtain ⟨hn, hw, hlow⟩ := List.find?_range_eq_some.1 h
    have hw := List.mem_range.1 hw
    refine ⟨Nat.le_of_lt hw, fun i hi => ?_, fun _ => ?_⟩
    · rw [← testBit_low x (Nat.lt_trans hi hw)]
      simpa using hlow i hi
    · rwa [testBit_low x hw] at hn

theorem oneBits_low (w : Nat) (x : W64) : oneBits w (low w x) = (List.range w).countP fun i => x.getLsbD i :=
  List.countP_congr fun i hi => by rw [testBit_low x (List.mem_range.1 hi)]

theorem oneBits_le (w a : Nat) : oneBits w a ≤ w := by
  simpa [oneBits] using List.countP_le_length (p := fun i => a.testBit i) (l := List.range w)

/-! ### What an instruction leaves -/

@[simp] theorem Ctx.alu_pc (op : Nat → Nat → Nat → IntRes) (d f : Bool) (rd ra rb : GReg) (c : Ctx) :
    (c.alu op d f rd ra rb).pc = c.pc := by
  unfold Ctx.alu
  split
  · exact (Ctx.wst_pc ..).trans (Ctx.wg_pc ..)
  · exact Ctx.wg_pc ..

theorem Ctx.alu_ofBits {op : Nat → Nat → Nat → IntRes} {d : Bool} {ra rb : GReg} {c : Ctx} {v : BitVec (wid d)} {cy ov : Bool}
    (f : Bool) (rd : GReg) (h : op (wid d) (low (wid d) (c.rg ra)) (low (wid d) (c.rg rb)) = .ofBits v cy ov) :
    c.alu op d f rd ra rb = c.result f rd (v.signExtend 64) cy ov := by
  have hr : widen (wid d) (IntRes.ofBits v cy ov).r = v.signExtend 64 := widen_toNat v
  rw [Ctx.alu, h, hr, intFlags_ofBits, Ctx.result]

theorem Ctx.compare_eq (d : Bool) (a b : W64) (c : Ctx) :
    c.compare d a b = c.wst (putNzcv (atWidth d (fun _ a b => a - b) a b).msb (atWidth d (fun _ a b => a - b) a b == 0)
      (flagAt d (fun _ a b => !BitVec.usubOverflow a b) a b) (flagAt d (fun _ a b => BitVec.ssubOverflow a b) a b) c.st) := by
  rw [Ctx.compare, low_eq_toNat, low_eq_toNat, intSub_toNat, intFlags_ofBits, atWidth_eq, flagAt_eq, flagAt_eq]

section
variable {x : Target} {fm : Meet} {long : Bool} {s s1 : State} {k : Nat}

/-- An instruction that writes one general register. -/
theorem Ready.writes {cost : Nat} {w : W32} {rd : GReg} {v : Ctx → W64} {r : W64} (h : Ready x fm long s s1 k)
    (hv : v (s1.ctx x) = r) :
    s.regInsn x fm w long cost (fun c => c.wg rd (v c)) = s1.after x (cost + k) (((s1.ctx x).wg rd r).next long) :=
  hv ▸ h.registers fun _ => Ctx.wg_pc ..

/-- CMP, CMPI and the LIMM kind CMP leave the flags of a difference and write no register. -/
theorem Ready.compares {cost : Nat} {w : W32} {ra : GReg} {v : Ctx → W64} (d : Bool) (h : Ready x fm long s s1 k) :
    s.regInsn x fm w long cost (fun c => c.compare d (c.rg ra) (v c)) =
      s1.after x (cost + k) (((s1.ctx x).compare d ((s1.ctx x).rg ra) (v (s1.ctx x))).next long) :=
  h.registers fun _ => Ctx.wst_pc ..

/-- An instruction with fields that no word may hold raises ILLEGAL_INSTRUCTION (R88). -/
theorem Ready.bad {w : W32} (h : Ready x fm long s s1 k) : s.badInsn x fm w long = s1.traps x illegal k w := h.raises rfl

/-- A division by what is not zero at the width takes 34 or 18 cycles whatever its operands are (R100). -/
theorem Ready.divides {fn : Nat} {op : Nat → Nat → Nat → IntRes} {d f : Bool} {rd ra rb : GReg} {v : BitVec (wid d)}
    {cy ov : Bool} (h : Ready x fm false s s1 k) (hb : low (wid d) ((s1.ctx x).rg rb) ≠ 0)
    (hop : op (wid d) (low (wid d) ((s1.ctx x).rg ra)) (low (wid d) ((s1.ctx x).rg rb)) = .ofBits v cy ov) :
    s.divide x fm fn op d f rd ra rb =
      s1.after x ((if d then 34 else 18) + k) (((s1.ctx x).result f rd (v.signExtend 64) cy ov).next false) := by
  have hpc : (((s1.ctx x).alu op d f rd ra rb).next false).pc ≠ 0x00FFFFFC#32 := by
    rw [Ctx.next_pc, Ctx.alu_pc, fetch_pc h.fetched]
    exact h.inside
  rw [State.divide, h.completes (if_neg hb) hpc, Ctx.alu_ofBits f rd hop]

theorem Ready.divides_zero {fn : Nat} {op : Nat → Nat → Nat → IntRes} {d f : Bool} {rd ra rb : GReg}
    (h : Ready x fm false s s1 k) (hb : low (wid d) ((s1.ctx x).rg rb) = 0) :
    s.divide x fm fn op d f rd ra rb = s1.traps x divideByZero k (wordR fn d f rd ra rb) :=
  h.raises (if_pos hb)

/-- SHI takes its amount where D = 1 or amount bit 5 is zero. -/
theorem Ready.shifts {kind : Fin 4} {d f : Bool} {rd ra : GReg} {n : BitVec 6} {v : BitVec (wid d)} {cy ov : Bool}
    (h : Ready x fm false s s1 k) (hn : d = true ∨ n.toNat < 32)
    (hop : shiOp kind (wid d) (low (wid d) ((s1.ctx x).rg ra)) n.toNat = .ofBits v cy ov) :
    exec (.shi x fm kind d f rd ra n) s =
      .next (s1.after x (1 + k) (((s1.ctx x).result f rd (v.signExtend 64) cy ov).next false)) := by
  have hbit : (!d && bit n 5) = false := by
    obtain rfl | hn := hn
    · rfl
    · simp [bit, BitVec.getLsbD, Nat.testBit_lt_two_pow (i := 5) hn]
  rw [← Ctx.alu_ofBits (op := fun w a _ => shiOp kind w a n.toNat) (rb := 0) f rd hop]
  exact (if_neg (Bool.eq_false_iff.1 hbit)).trans (congrArg Host.Outcome.next (h.registers fun _ => Ctx.alu_pc ..))

/-- A LIMM kind whose operation on 64 bits, cut to a width, is the operation on what is cut. -/
theorem Ready.limm {kind : Nat} {d : Bool} {rd ra : GReg} {f : W64 → W64} {g : (w : Nat) → BitVec w → BitVec w → BitVec w}
    {i : W64} (h : Ready x fm true s s1 k)
    (hf : ∀ a, (f a).setWidth (wid d) = g (wid d) (a.setWidth (wid d)) (i.setWidth (wid d))) :
    s.limm x fm kind d rd ra f =
      s1.after x (2 + k) (((s1.ctx x).wg rd (atWidth d g ((s1.ctx x).rg ra) i)).next true) :=
  h.writes (by rw [atWidth_eq, ← hf]; exact widen_low ..)

/-- R98 on code 15: the word is fetched and is no instruction. -/
theorem Ready.reserved_condition (h : Ready x fm false s s1 k) (d : Bool) (rd ra rb : GReg) (disp : BitVec 22)
    (near : BitVec 12) :
    exec (.sel x fm 15 d rd ra rb) s = .next (s1.traps x illegal k (wordR 0x02F d false rd ra rb)) ∧
    exec (.set x fm 15 d rd ra) s = .next (s1.traps x illegal k (wordR 0x03F d false rd ra 0)) ∧
    exec (.bc x fm 15 disp) s = .next (s1.traps x illegal k (majorWord 0x18 (15 * 2 ^ 22 + disp.toNat))) ∧
    exec (.cb x fm ra rb 15 near) s =
      .next (s1.traps x illegal k (majorWord 0x1B (ra.val * 2 ^ 21 + rb.val * 2 ^ 16 + 15 * 2 ^ 12 + near.toNat))) :=
  ⟨congrArg Host.Outcome.next h.bad, congrArg Host.Outcome.next h.bad, congrArg Host.Outcome.next h.bad,
    congrArg Host.Outcome.next h.bad⟩

theorem Ready.selects {cond : Cond} (h : Ready x fm false s s1 k) (hc : cond.val ≠ 15) (d : Bool) (rd ra rb : GReg) :
    exec (.sel x fm cond d rd ra rb) s = .next (s1.after x (1 + k) (((s1.ctx x).wg rd (atWidth d
      (fun _ a b => if condHolds cond.val (s1.ctx x).st then a else b) ((s1.ctx x).rg ra) ((s1.ctx x).rg rb))).next false)) := by
  refine (if_neg hc).trans (congrArg Host.Outcome.next (h.writes ?_))
  rw [atWidth_eq]
  cases condHolds cond.val (s1.ctx x).st <;> exact widen_low ..

theorem Ready.sets {cond : Cond} (h : Ready x fm false s s1 k) (hc : cond.val ≠ 15) (d : Bool) (rd ra : GReg) :
    exec (.set x fm cond d rd ra) s = .next (s1.after x (1 + k) (((s1.ctx x).wg rd
      (if condHolds cond.val (s1.ctx x).st then 1 else 0)).next false)) := by
  refine (if_neg hc).trans (congrArg Host.Outcome.next (h.writes ?_))
  cases condHolds cond.val (s1.ctx x).st
  · exact widen_count (Nat.zero_le _)
  · exact widen_count (wid_pos d)

/-- A count of the bits of ra goes into rd. -/
theorem Ready.counts {fn : Nat} {op : Nat → Nat → Nat} {d : Bool} {rd ra : GReg} (h : Ready x fm false s s1 k)
    (hop : op (wid d) (low (wid d) ((s1.ctx x).rg ra)) ≤ wid d) :
    s.unary x fm fn op d rd ra = s1.after x (1 + k) (((s1.ctx x).wg rd
      (BitVec.ofNat 64 (op (wid d) (low (wid d) ((s1.ctx x).rg ra))))).next false) :=
  h.writes (widen_count hop)

/-- A field of ra, sign-extended or zero-extended, goes into rd. -/
theorem Ready.extends {fn n : Nat} {z : Bool} {rd ra : GReg} (h : Ready x fm false s s1 k) :
    s.extendReg x fm fn n z rd ra = s1.after x (1 + k) (((s1.ctx x).wg rd
      (if z then (((s1.ctx x).rg ra).setWidth n).setWidth 64 else (((s1.ctx x).rg ra).setWidth n).signExtend 64)).next false) :=
  h.writes (by
    cases z
    · exact sext_toNat ..
    · simp [getF, ← BitVec.toNat_inj])

end

/-! ### R100: the divisions -/

/-- Settles O2: the four divisions are one operation on numbers each, and the corner of R100 is tested at the width of D. -/
theorem divisions : Obligations.Divisions := by
  unfold Obligations.Divisions
  intro x fm d f rd ra rb s s1 k h
  have hw := wid_pos d
  refine ⟨fun hb => ⟨?_, ?_, ?_, ?_⟩, fun hb => ⟨?_, ?_, ?_, ?_⟩⟩
  · rw [← atWidth_ite d isCorner, atWidth_eq, flagAt_eq]
    exact congrArg Host.Outcome.next (h.divides hb (by rw [low_eq_toNat, low_eq_toNat, intDiv_toNat hw]))
  · rw [← atWidth_zero d ((s1.ctx x).rg ra) ((s1.ctx x).rg rb), ← atWidth_ite d isCorner, atWidth_eq, flagAt_eq]
    exact congrArg Host.Outcome.next (h.divides hb (by rw [low_eq_toNat, low_eq_toNat, intRem_toNat hw]))
  · rw [atWidth_eq]
    exact congrArg Host.Outcome.next (h.divides hb (by rw [low_eq_toNat, low_eq_toNat, intDivu_toNat]))
  · rw [atWidth_eq]
    exact congrArg Host.Outcome.next (h.divides hb (by rw [low_eq_toNat, low_eq_toNat, intRemu_toNat]))
  all_goals exact congrArg Host.Outcome.next (h.divides_zero hb)

/-! ### R98 and R99: the conditions, compares, selects, counts and extensions -/

/-- Settles O3: the conditions are read off their definition, and what the other instructions write is what `Ready.writes` says. -/
theorem conditions : Obligations.Conditions := by
  unfold Obligations.Conditions
  refine ⟨⟨fun _ => rfl, fun x fm d rd ra rb disp near s s1 k h => h.reserved_condition d rd ra rb disp near⟩, ?_⟩
  intro x fm d cond rd ra rb s s1 k h
  obtain ⟨hlz, hlz0, hlz1⟩ := leadZeros_low (wid d) ((s1.ctx x).rg ra)
  obtain ⟨htz, htz0, htz1⟩ := trailZeros_low (wid d) ((s1.ctx x).rg ra)
  refine ⟨?_, fun hc => ⟨?_, ?_⟩, ⟨_, hlz, hlz0, hlz1, ?_⟩, ⟨_, htz, htz0, htz1, ?_⟩, ?_, ?_, ?_, ?_, ?_, ?_, ?_⟩
  · rw [← Ctx.compare_eq]
    exact congrArg Host.Outcome.next (h.compares d)
  · exact h.selects hc d rd ra rb
  · exact h.sets hc d rd ra
  · exact congrArg Host.Outcome.next (h.counts hlz)
  · exact congrArg Host.Outcome.next (h.counts htz)
  · rw [← oneBits_low]
    exact congrArg Host.Outcome.next (h.counts (oneBits_le ..))
  all_goals exact congrArg Host.Outcome.next h.extends

/-! ### R97 and R101: the immediate and long-immediate instructions -/

/-- Settles O4: each instruction writes one register, or the flags of a difference, or is the shift of its kind. -/
theorem immediateOperations : Obligations.ImmediateOperations := by
  unfold Obligations.ImmediateOperations
  refine ⟨?_, ?_⟩
  · intro x fm d f rd ra imm amt s s1 k h
    have hn (hd : d = true ∨ amt.toNat < 32) : amt.toNat < wid d := by
      cases d
      · exact hd.resolve_left (by decide)
      · exact amt.isLt
    refine ⟨?_, ?_, ?_, ?_, ?_, ?_, ?_, fun hd => ⟨?_, ?_, ?_, ?_⟩⟩
    · exact congrArg Host.Outcome.next (h.writes rfl)
    · exact congrArg Host.Outcome.next (h.writes (sext_toNat ..))
    · exact congrArg Host.Outcome.next (h.writes rfl)
    · exact congrArg Host.Outcome.next (h.writes rfl)
    · exact congrArg Host.Outcome.next (h.writes rfl)
    · exact congrArg Host.Outcome.next (h.writes (lui_value imm))
    · rw [← Ctx.compare_eq]
      exact congrArg Host.Outcome.next (h.compares d)
    · rw [atWidth_eq]
      exact h.shifts hd (intSll_low (wid_pos d) _)
    · rw [atWidth_eq]
      exact h.shifts hd (intSrl_low (hn hd) _)
    · rw [atWidth_eq]
      exact h.shifts hd (intSra_low (hn hd) _)
    · rw [atWidth_eq]
      exact h.shifts hd (intRor_low (hn hd) _)
  · intro x fm d rd ra imm s s1 k h
    have hle := wid_le d
    refine ⟨?_, ?_, ?_, ?_, ?_, ?_, ?_, ?_⟩
    · exact congrArg Host.Outcome.next (h.writes rfl)
    · exact congrArg Host.Outcome.next (h.limm fun _ => BitVec.setWidth_add _ _ hle)
    · exact congrArg Host.Outcome.next (h.limm fun _ => BitVec.setWidth_and)
    · exact congrArg Host.Outcome.next (h.limm fun _ => BitVec.setWidth_or)
    · exact congrArg Host.Outcome.next (h.limm fun _ => BitVec.setWidth_xor)
    · exact congrArg Host.Outcome.next (h.writes rfl)
    · exact congrArg Host.Outcome.next (h.writes (append_low_word ..))
    · rw [← Ctx.compare_eq]
      exact congrArg Host.Outcome.next (h.compares d)

end Sys2Proof.Machine
end
